-- ==== Sys2Proof/Word.lean ====
section
/-!
DEFINITION. The two machine words of the engine: a "word" is 16 bits everywhere in the manual
(00_scope.md, "Numbers and units"), a byte is the unit of the flash and of the light bus.
-/

namespace Sys2Proof

/-- A 16-bit word: memory, management port, Trawin link and pixel output. -/
abbrev Word := BitVec 16

/-- A byte of the U20 flash, of the light bus and of a word laid out little-endian (R6). -/
abbrev Byte := BitVec 8

end Sys2Proof
end

