-- ==== Sys2Proof/Syntax.lean ====
section
/-!
DEFINITION. The commands and events of the BLX-2416 / BLX-1416 scan engine: one constructor of
`Instr` per row of spec/opcode_table.json, in the table's order, with the operands that come from
outside the engine (pin levels, measured values, frames). The table gives its rows no operand
fields, so every operand list is the model's reading of the row's rule (assumption log 2).
-/

namespace Sys2Proof

/-- A lane: one complete capture chain (00_scope.md, glossary). -/
inductive Lane where
  | a
  | b
  deriving DecidableEq, Repr

/-- A read of a march (R292): pass 0 to 4, element 1 to 5, bank, row (spares as rows 512 to 515), column, and the
value it returned. -/
structure MarchRead where
  pass  : Nat
  elem  : Nat
  bank  : Nat
  row   : Nat
  col   : Nat
  value : Nat
  deriving DecidableEq, Repr

/-- What a bring-up step of Table 3.2 measured, for the steps that measure something (R73). -/
structure StepReport where
  /-- duration of the whole full start so far, in ms (SYS.BRINGUP.MS at step 12) -/
  elapsedMs   : Nat := 0
  /-- step 5: reads of the destructive march, and of its re-tests of spares, that are to be compared; every read
  not listed returned what was expected (R294) -/
  reads       : List MarchRead := []
  retests     : List MarchRead := []
  /-- step 6 of an engine reset, and step 6 checks: the shadow's CRC-32 still matches (R90) -/
  shadowOk    : Bool := true
  /-- words of the banked memory found changed, as (physical word address, value), at the checks of R91 -/
  decay       : List (Nat × Nat) := []
  /-- longest grant of a C2 master in the step's accesses to the memory, in cycles (Table 10.8) -/
  c2          : Nat := 0
  /-- last step of a lane reset: grant of the coefficient load, where a waiting set replaces its own (R274) -/
  c1          : Nat := 0
  /-- step 6: lock and alignment of the clock commit, in µs, and its residual in ps (R143, R169) -/
  lockUs      : Nat := 0
  alignUs     : Nat := 0
  alignPs     : Int := 0
  /-- step 7: measured mains period in reference ticks (R466) -/
  period      : Nat := 500000
  /-- step 7: converter HKA's zero and reference raw codes (R469) -/
  zeroA       : Int := 0
  refA        : Int := 24576
  /-- step 7: converter HKB's zero and reference raw codes (R469) -/
  zeroB       : Int := 0
  refB        : Int := 24576
  /-- step 7: raw codes converted, as (channel, raw by its first converter, raw by its second); 0 where a channel is not
  listed (R473) -/
  raws        : List (Nat × Int × Int) := []
  /-- step 8 / lane reset step 6: front-end self-test codes, as (lane, channel, code) (R226) -/
  selfTest    : List (Lane × Nat × Nat) := []
  /-- step 9: hold-up at 207 W in ms (R187) -/
  holdupMs    : Nat := 90
  deriving DecidableEq, Repr

/-- A wiring or port fault of Table 6.4 on a lane's ports, in the table's order (R189). -/
inductive LanePort where
  | headSupply
  | videoOpen (channel : Nat)
  | clockShort (waveform : Nat)
  | idMismatch (detail : Nat)
  | magSupply
  | strandOpen
  | strandSwap
  | phaseShort (kind : Nat)
  | windingOpen
  | coilSwap
  | encSwap
  | encOpen
  deriving DecidableEq, Repr

/-- A fault of one J10 light channel, Table 6.4 (R189, R190). -/
inductive LightPort where
  | short
  | openString
  | reversed
  deriving DecidableEq, Repr

/-- A port fault of Table 6.4. -/
inductive PortFault where
  | lanePort (l : Lane) (k : LanePort)
  | lightPort (channel : Nat) (k : LightPort)
  | busSwap
  | busShort
  | auxShort
  deriving DecidableEq, Repr

/-- The switched outputs of Table 6.1, in the order of PWR.OUT. -/
inductive Output where
  | headA
  | headB
  | magA
  | magB
  | aux
  deriving DecidableEq, Repr

/-- One ordered set received on K (Table 12.4), with the number of TS2 the engine has sent since the
first TS2 it received (R336). -/
structure OrderedSet where
  ts2        : Bool
  version    : Nat := 1
  lock       : Bool := true
  dual       : Bool := false
  identity   : Nat := 0
  maxCredits : Nat := 0
  sentTs2    : Nat := 0
  deriving DecidableEq, Repr

/-- A magazine STATUS frame (Table 12.14), with the TSC at which it began (R361). -/
structure MagStatus where
  /-- 0 NOT_READY, 1 READY, 2 RECORDING, 3 FULL, 4 FAULT -/
  state     : Nat
  ack       : Bool := false
  epoch     : Nat
  scanId    : Nat
  /-- last complete line held; 0xFFFF_FFFF if none -/
  last      : Nat
  discarded : Nat := 0
  freeMib   : Nat := 0
  began     : Nat
  deriving DecidableEq, Repr

/-- An edge at an encoder's A or B: the levels that follow it, A + 2 B, and for how many ns they hold (R391). -/
structure EncEdge where
  ab : Nat
  ns : Nat := 1000
  deriving DecidableEq, Repr

/-- A grant observed on a C0 stream (Tables 1.8, 10.1): master code 1 to 4, word offset in the stream's window,
and latency in cycles. -/
structure C0Grant where
  master : Nat
  off    : Nat
  cyc    : Nat
  deriving DecidableEq, Repr

/-- A filtered pin level of a lane changes (R121): the lane, and whether its pin is high now. -/
structure PinLevel where
  lane : Lane
  high : Bool
  deriving DecidableEq, Repr

/-- A lane's run end is complete; the longest C1 grant of the load of a set that is replaced as it enters IDLE, in
cycles (R274, Table 10.8). -/
structure IdleEntry where
  lane : Lane
  c1   : Nat := 0
  deriving DecidableEq, Repr

/-- A step of a lane's commit ends, and the longest C2 grant of its staging and C1 grant of its set's load in cycles
(Table 10.8). -/
structure CalStepEnd where
  lane : Lane
  c2   : Nat := 0
  c1   : Nat := 0
  deriving DecidableEq, Repr

/-- Reads of a march, and of its re-tests of spares, that are to be compared with what R292 expects; every read not
listed returned it (R294). -/
structure MarchReport where
  reads   : List MarchRead := []
  retests : List MarchRead := []
  deriving DecidableEq, Repr

/-- The written-through count of R243 as the drain finds it, and the C0 grants observed (Table 1.8). -/
structure DrainReport where
  written : Nat
  grants  : List C0Grant := []
  deriving DecidableEq, Repr

/-- What the head delivers in the readout that begins at a line start: per channel and pixel period, the pair's
differential voltage at WF14's and at WF15's falling edge, in nV (R217, R222, R223); the encoder's edges since the
last command that carried any (R391), the C0 grants of the line cycle that has ended, and the longest C1 grant of a
coefficient load. -/
structure LineInput where
  volts  : List (List (Int × Int)) := []
  edges  : List EncEdge := []
  grants : List C0Grant := []
  c1     : Nat := 0
  deriving DecidableEq, Repr

/-- What one mains period measured (R466, R171, R176, R195), powers in 0.1 W. -/
structure MainsReport where
  /-- period in reference ticks -/
  ticks  : Nat
  /-- rms input voltage over the last 50 periods, 0.1 V -/
  vrms   : Nat
  input  : Nat
  drawA  : Nat
  drawB  : Nat
  drawM  : Nat
  /-- rms voltages from PE to L and to N, 0.1 V -/
  peL    : Nat
  peN    : Nat
  /-- 48 V bus, 10 mV units -/
  busMv10 : Nat := 4800
  /-- mean current of L0 to L7, mA -/
  chMa   : List Nat := []
  /-- outputs at their current limit, in the order of PWR.OUT (R175) -/
  atLimit : List Bool := []
  deriving DecidableEq, Repr

/-- The commands and events, one per row of spec/opcode_table.json. A host write with a row of its own carries the
epoch it quotes (Table 17.1); a light head's reply carries the bytes received, those before the CRC and the CRC's
apart, and an IDENT's payload apart from what precedes it; MGT_READ, MGT_WRITE and MEM_DATA_ACCESS carry the raw
request words, CRC-16 included, and how many data words of the response were shifted out whole (R529). -/
inductive Instr where
  | mainsApplied
  | bringupStepComplete (r : StepReport)
  | xtalFail
  | resetNFall
  | resetNConfirm
  | resetNRelease
  | wakeEdge
  | offReqEdge
  | sleepReqEdge
  | sysPowerSleep (epoch : Nat)
  | sysPowerOff (epoch : Nat)
  | sysPowerEreset (epoch : Nat)
  | sysPowerLreset (l : Lane) (epoch : Nat)
  | sleepEntryStepDone (entryUs : Nat)
  | wakeSequenceStepDone (r : StepReport)
  | wakeReady (padUs : Nat) (late : Bool)
  | powerDownPhaseEnd
  | engineReset (r : StepReport)
  | laneResetStepDone (l : Lane) (r : StepReport)
  | seqWatchdog (machine : Nat)
  | sysModeService (on : Bool) (epoch : Nat)
  | sysHaltReq (epoch : Nat)
  | haltRelease (epoch : Nat)
  | scanReqPin (l : Lane) (prog : Nat) (stable : Bool) (abortHigh : Bool)
  | headReqGo (l : Lane) (prog : Nat) (abort : Bool) (epoch : Nat)
  | abortPin (p : PinLevel)
  | headReqAbort (l : Lane) (epoch : Nat)
  | lineStart (l : Lane) (x : LineInput)
  | captureDecision (l : Lane)
  | runEndIdleEntry (e : IdleEntry)
  | clkCtrlCommit (epoch : Nat)
  | pllLock (us : Nat)
  | pllLockTimeout
  | anchorEdge (alignUs : Nat) (residualPs : Int) (driftPpm10 : Int)
  | spreadPatternChange
  | holdoverTrip (driftPpm10 : Int)
  | holdoverLineLimit (l : Lane)
  | holdoverSwitch
  | holdOverrun
  | refLoss
  | mainsPeriodEnd (m : MainsReport)
  | pfw
  | pfwStageDeadline
  | outputFoldbackTimeout (o : Output)
  | busLow
  | portFaultDetected (f : PortFault)
  | lightBusCheck (shorted : Bool)
  | identReadDone (l : Lane) (bytes : Option (List Nat)) (thermOhm : Option Nat)
  | flashOpDone (ok : Bool)
  | flashOpTimeout (ready : Bool)
  | calCommitStepDone (k : CalStepEnd)
  | pixCalcmdGo (l : Lane) (set : Nat) (epoch : Nat)
  | memDataAccess (words : List Nat) (shifted : Nat) (latency : Nat)
  | tallyDestructiveGo (march : Nat) (epoch : Nat)
  | tallyPreservingGo (march : Nat) (epoch : Nat)
  | tallyRowDone (reads : List MarchRead) (retests : List MarchRead) (decay : List (Nat × Nat)) (latency : Nat)
  | tallyRetentionPauseEnd
  | tallyRunEnd (m : MarchReport) (c2 : Nat)
  | tillLineDrainStart (l : Lane) (d : DrainReport)
  | tillBurstFetch (l : Lane) (written : Nat) (own : List C0Grant) (others : List C0Grant)
  | tillTailTimeout (l : Lane) (d : DrainReport)
  | tillCtrlFlush (l : Lane) (epoch : Nat)
  | tillEndDrainLimit (l : Lane)
  | tillPtrMismatch (l : Lane) (rptr : Bool) (wptr : Bool)
  | linkDetectPoll (l : Lane) (f0 : Bool) (f1 : Bool) (k : Bool)
  | orderedSetReceived (l : Lane) (o : OrderedSet)
  | linkTrainingTimeout (l : Lane)
  | linkRetryTimer (l : Lane)
  | credit (l : Lane) (count : Nat) (free : Nat)
  | magazineStatus (l : Lane) (m : MagStatus)
  | resyncTimeout (l : Lane)
  | kSyncLoss (l : Lane) (groups : List Nat)
  | creditTimeout (l : Lane)
  | statusTimeout (l : Lane)
  | returnFrameDiscarded (l : Lane)
  | linkAbort (l : Lane)
  | linkCtrlRetrain (l : Lane) (epoch : Nat)
  | engineStatusHeartbeat (l : Lane)
  | dataFrameSend (l : Lane)
  | scanEnd (l : Lane)
  | stepIssue (l : Lane) (edges : List EncEdge) (latency : Nat)
  | runCurrentTimeout (l : Lane)
  | encoderIndex (l : Lane) (edges : List EncEdge)
  | seamBackoffStart (l : Lane)
  | seamDwellEnd (l : Lane)
  | approachStart (l : Lane)
  | axisMoveGo (l : Lane) (steps : Int) (prof : Nat) (epoch : Nat)
  | axisMoveStop (l : Lane) (epoch : Nat)
  | lightCommitSend (party : Nat)
  | lightCommitPoint (party : Nat)
  | lightStatusReply (addr : Nat) (body : List Nat) (crc : List Nat)
  | lightIdentReply (addr : Nat) (front : List Nat) (payload : List Nat) (crc : List Nat)
  | lightReplyMissed (addr : Nat)
  | lightPoll (addr : Nat)
  | lightRebroadcast (party : Nat)
  | headSilentTimeout (addr : Nat)
  | luxMctrlGo (epoch : Nat)
  | luxMctrlRearm (epoch : Nat)
  | hkConversionEnd (convB : Bool) (positive : Nat) (zMeas : Option Nat)
  | hkSelfcheckEnd (convB : Bool) (zero : Int) (reference : Int)
  | hkSelfcheckRetry (convB : Bool)
  | hkResultRead (resB : Bool) (withTag : Bool) (shifted : Nat)
  | timerTick (n : Nat)
  | tmrCmpWrite (n : Nat) (value : Nat) (epoch : Nat)
  | tmrCtrlLoad (n : Nat) (epoch : Nat)
  | tmrCtrlEn (n : Nat) (en : Bool) (epoch : Nat)
  | tmrGstartGo (epoch : Nat)
  | lfTick
  | incMeasureEnd (edges : Nat)
  | lfTimeout
  | mgtRead (words : List Nat) (shifted : Nat)
  | mgtWrite (words : List Nat)
  | mgtFrameAbort
  | clearOnRead (unit : Nat) (offset : Nat)
  | flogSelectedRead
  | flogAck (seq : Nat) (epoch : Nat)
  | ringProgramStart
  | logDropped
  | mainsReturn
  | uncontrolledSupplyLoss
  deriving DecidableEq, Repr

end Sys2Proof
end

