-- ==== Sys2Proof/WellFormed.lean ====
section
/-!
DEFINITION. Which commands can arrive from outside: every operand inside the range that the wire, the pin
or the register it comes from gives it. The machine itself gives every command a meaning, well formed or
not; statements that need an operand's range take it from here.
-/

namespace Sys2Proof

/-- An 8-bit epoch (Table 17.1). -/
def epochOk (e : Nat) : Bool := e < 256

/-- A 16-bit word. -/
def wordOk (w : Nat) : Bool := w < 65536

/-- A light head's address, 1 to 31 (14). -/
def headAddrOk (a : Nat) : Bool := 1 ≤ a && a ≤ 31

/-- A party code (R10). -/
def partyOk (p : Nat) : Bool := p < 4

/-- A signed number of `w` bits. -/
def intOk (w : Nat) (x : Int) : Bool := -(2 ^ (w - 1) : Nat) ≤ x && x < (2 ^ (w - 1) : Nat)

/-- A read of a march: pass, element, bank, row with the spares, column, 16-bit value (R292). -/
def MarchRead.wf (r : MarchRead) : Bool :=
  r.pass < 5 && r.elem < 6 && r.bank < 32 && r.row < 516 && r.col < 256 && wordOk r.value

/-- A word of the banked memory: a 22-bit address and its value (R280). -/
def cellOk (q : Nat × Nat) : Bool := q.1 < 2 ^ 22 && wordOk q.2

/-- A step report's measured values are in their fields' ranges. -/
def StepReport.wf (r : StepReport) : Bool :=
  r.elapsedMs < 4096 && r.reads.all MarchRead.wf && r.retests.all MarchRead.wf && r.decay.all cellOk
    && intOk 16 r.zeroA && intOk 16 r.refA && intOk 16 r.zeroB && intOk 16 r.refB
    && r.raws.all (fun q => q.1 < 24 && intOk 16 q.2.1 && intOk 16 q.2.2)
    && r.selfTest.all (fun q => q.2.1 < 8 && wordOk q.2.2) && r.holdupMs < 256

/-- A port fault names a port that exists (Table 6.4). -/
def PortFault.wf : PortFault → Bool
  | .lanePort _ (.videoOpen c) => c < 8
  | .lanePort _ (.clockShort w) => w < 12
  | .lanePort _ (.idMismatch d) => d < 4
  | .lanePort _ (.phaseShort k) => k < 3
  | .lightPort c _ => c < 8
  | _ => true

/-- A grant of a C0 master, at an offset that an address can hold. -/
def C0Grant.wf (g : C0Grant) : Bool := 1 ≤ g.master && g.master ≤ 4 && g.off < 2 ^ 22

/-- The levels of A and B are two bits. -/
def EncEdge.wf (e : EncEdge) : Bool := e.ab < 4

/-- A line's samples come from at most eight channels. -/
def LineInput.wf (x : LineInput) : Bool :=
  x.volts.length ≤ 8 && x.edges.all EncEdge.wf && x.grants.all C0Grant.wf

/-- An ordered set's fields fit Table 12.4. -/
def OrderedSet.wf (o : OrderedSet) : Bool :=
  o.version < 256 && o.identity < 2 ^ 32 && o.maxCredits < 65536

/-- A magazine STATUS frame's fields fit Table 12.14. -/
def MagStatus.wf (m : MagStatus) : Bool :=
  m.state < 8 && m.epoch < 256 && wordOk m.scanId && m.last < 2 ^ 32 && wordOk m.discarded
    && m.freeMib < 2 ^ 32 && m.began < 2 ^ 48

/-- What a light head sends is bytes, no more than the longest frame of Table 14.1. -/
def bytesOk (bs : List Nat) : Bool := bs.length ≤ 260 && bs.all (· < 256)

/-- A management request holds 1 to 67 words of 16 bits (Tables 17.1, 17.13); up to three may follow a write's (log 117). -/
def frameOk (ws : List Nat) : Bool := 1 ≤ ws.length && ws.length ≤ 70 && ws.all wordOk

/-- A command's operands are in range. -/
def Instr.wf : Instr → Bool
  | .bringupStepComplete r | .wakeSequenceStepDone r | .engineReset r => r.wf
  | .laneResetStepDone _ r => r.wf
  | .sysPowerSleep e | .sysPowerOff e | .sysPowerEreset e | .sysHaltReq e | .haltRelease e
  | .clkCtrlCommit e | .luxMctrlGo e | .luxMctrlRearm e | .tmrGstartGo e => epochOk e
  | .sysPowerLreset _ e | .headReqAbort _ e | .tillCtrlFlush _ e | .linkCtrlRetrain _ e
  | .axisMoveStop _ e => epochOk e
  | .sysModeService _ e => epochOk e
  | .scanReqPin _ p _ _ => p < 16
  | .headReqGo _ p _ e => p < 16 && epochOk e
  | .lineStart _ x => x.wf
  | .portFaultDetected f => f.wf
  | .identReadDone _ bs _ => (bs.getD []).length ≤ 64 && (bs.getD []).all (· < 256)
  | .pixCalcmdGo _ n e => n < 4 && epochOk e
  | .memDataAccess ws _ _ | .mgtRead ws _ | .mgtWrite ws => frameOk ws
  | .tallyDestructiveGo m e | .tallyPreservingGo m e => m < 2 && epochOk e
  | .tallyRowDone rs ts ds _ => rs.all MarchRead.wf && ts.all MarchRead.wf && ds.all cellOk
  | .tallyRunEnd m _ => m.reads.all MarchRead.wf && m.retests.all MarchRead.wf
  | .tillLineDrainStart _ d | .tillTailTimeout _ d => d.grants.all C0Grant.wf
  | .tillBurstFetch _ _ fs gs => fs.all C0Grant.wf && gs.all C0Grant.wf
  | .orderedSetReceived _ o => o.wf
  | .credit _ c f => wordOk c && f < 2 ^ 32
  | .magazineStatus _ m => m.wf
  | .stepIssue _ es _ | .encoderIndex _ es => es.all EncEdge.wf
  | .axisMoveGo _ st p e => intOk 32 st && p < 8 && epochOk e
  | .lightCommitSend p | .lightCommitPoint p | .lightRebroadcast p => partyOk p
  | .lightStatusReply a bs cs => headAddrOk a && bytesOk (bs ++ cs)
  | .lightIdentReply a hs ps cs => headAddrOk a && bytesOk (hs ++ ps ++ cs)
  | .lightReplyMissed a | .lightPoll a | .headSilentTimeout a => headAddrOk a
  | .hkSelfcheckEnd _ z r => intOk 16 z && intOk 16 r
  | .timerTick n => n < 16
  | .tmrCmpWrite n v e => n < 16 && wordOk v && epochOk e
  | .tmrCtrlLoad n e | .tmrCtrlEn n _ e => n < 16 && epochOk e
  | .clearOnRead u o => u < 16 && o < 2048
  | .flogAck q e => q < 2 ^ 32 && epochOk e
  | _ => true

end Sys2Proof
end

