-- ==== Sys2Proof/Decode.lean ====
section
/-!
DEFINITION. The word decoder the host asks for. No row of spec/opcode_table.json gives its command any
bits ("fields": [] throughout), so no word spells a command and the decoder answers none.
-/

namespace Sys2Proof

/-- The command a table word spells: none, since the table gives no row any bits. -/
def decodeTableWord (_nbits _w : Nat) : Option Instr := none

end Sys2Proof
end

