-- ==== Sys2Proof/Config.lean ====
section
/-!
DEFINITION. What one implementation fixes and the manual does not state: free values, constants with no
body, so that no proof can see what they are.
-/

namespace Sys2Proof

/-- SYS.STATE.POWER names no value for SLEEP and the wake sequence (Table 3.13 gives 0 to 3 only); the port answers
NOT_READY there, but a record's CONTEXT may hold it (log 6). -/
opaque Config.powerCode : Nat → BitVec 2

/-- The byte a cell of U20 holds after an operation that failed or was cut short (R275: "the engine makes
no assumption about what the failed attempt left in the cells"), by operation count and address (log 7). -/
opaque Config.flashAfter : Nat → Nat → BitVec 8

/-- Whether a displayed mean or quotient that is not whole is rounded up (R176, R179 and Table 7.8 name no
rounding): of dividend and divisor (log 8). -/
opaque Config.roundedMean : Nat → Nat → Bool

/-- DETAIL0 of record 0x4003, "change in ppm" (Table 16.4): the rounding is not stated; of the old and
the new INC (log 9). -/
opaque Config.incStepPpm : Nat → Nat → BitVec 16

/-- The cause of a SCAN_END that a fault ends for which Table 12.8 has no code (0x3011, 0x6039, 0xB011,
0xB012, 0xB033, 0xB034), by fault code (log 10). -/
opaque Config.endCause : Nat → BitVec 8

/-- The frozen VCO's drift in units of 10 ppm at a trip by loss of the reference (R165), which nothing can measure
and of which the manual names no value; of the count of free values (log 95). -/
opaque Config.lostDrift : Nat → BitVec 16

/-- The latency of the coefficient load's grant where a lane is stopped and its waiting set replaced (R274, Table
10.8): no command of a stop carries it; of the count of free values (log 2). -/
opaque Config.loadGrant : Nat → BitVec 7

/-- The delay byte of a COMMIT frame: R439 chooses it from the bus's own timing, which no command carries; of
the party, the commit's number and the re-broadcast's count (log 11). -/
opaque Config.commitDelay : Nat → Nat → Nat → BitVec 8

end Sys2Proof
end

