-- ==== Sys2Proof/Machine/Bits.lean ====
section
/-!
DEFINITION. Field extraction, sign extension, byte order and saturating counters: the helpers over
`Nat`, `Int` and byte lists that every unit uses. Arithmetic follows 00_scope.md ("integer arithmetic
in pseudocode is exact, and right shifts are arithmetic on signed values").
-/

namespace Sys2Proof.Machine

/-- Bits [hi:lo] of `v`, most significant first (00_scope.md, bit ranges). -/
def bits (v hi lo : Nat) : Nat := (v / 2 ^ lo) % 2 ^ (hi + 1 - lo)

/-- Bit `i` of `v`. -/
def bit (v i : Nat) : Bool := v / 2 ^ i % 2 == 1

/-- A field's contribution to a register word: the low `width` bits of `v` at bit `lo`. -/
def place (v lo width : Nat) : Nat := v % 2 ^ width * 2 ^ lo

/-- A one-bit field's contribution to a register word. -/
def flag (b : Bool) (i : Nat) : Nat := if b then 2 ^ i else 0

/-- The 0 or 1 of a condition. -/
def b2n (b : Bool) : Nat := if b then 1 else 0

/-- The two's complement value of the low `w` bits of `v`. -/
def signed (w v : Nat) : Int :=
  let u := v % 2 ^ w
  if u < 2 ^ (w - 1) then (u : Int) else (u : Int) - (2 ^ w : Nat)

/-- The low `w` bits of the two's complement of `x`. -/
def unsigned (w : Nat) (x : Int) : Nat := (x % (2 ^ w : Nat)).toNat

/-- `x` limited to [lo, hi]. -/
def clampI (lo hi x : Int) : Int := if x < lo then lo else if hi < x then hi else x

/-- A count that saturates at `m`. -/
def satInc (m n : Nat) : Nat := if n < m then n + 1 else m

/-- A count that saturates at `m`, advanced by `k`. -/
def satAdd (m n k : Nat) : Nat := min m (n + k)

/-- Serial-number order of 32-bit sequences: `a` was written after `b` (02, the sequence rule). -/
def later (a b : Nat) : Bool :=
  let d := (a + 2 ^ 32 - b % 2 ^ 32) % 2 ^ 32
  1 ≤ d && d ≤ 0x7fffffff

/-- The little-endian number in the first `n` bytes of a list (R6); absent bytes count as zero. -/
def leNat : Nat → List Nat → Nat
  | 0, _ => 0
  | _ + 1, [] => 0
  | n + 1, b :: bs => b % 256 + 256 * leNat n bs

/-- Unsigned fields at a byte offset of a body (R6). -/
def u8 (bs : List Nat) (o : Nat) : Nat := leNat 1 (bs.drop o)
def u16 (bs : List Nat) (o : Nat) : Nat := leNat 2 (bs.drop o)
def u32 (bs : List Nat) (o : Nat) : Nat := leNat 4 (bs.drop o)

/-- Signed fields at a byte offset of a body (R6). -/
def i16 (bs : List Nat) (o : Nat) : Int := signed 16 (u16 bs o)
def i32 (bs : List Nat) (o : Nat) : Int := signed 32 (u32 bs o)

/-- `n` little-endian bytes of a number (R6). -/
def leBytes : Nat → Nat → List Nat
  | 0, _ => []
  | n + 1, v => v % 256 :: leBytes n (v / 256)

/-- `n` words of a number, least significant word first (R6). -/
def leWords : Nat → Nat → List Nat
  | 0, _ => []
  | n + 1, v => v % 65536 :: leWords n (v / 65536)

/-- The words of a byte list, each little-endian (R6). -/
def bytesToWords : List Nat → List Nat
  | [] => []
  | [b] => [b % 256]
  | b :: c :: bs => (b % 256 + 256 * (c % 256)) :: bytesToWords bs

/-- The bytes of a word list, each word little-endian (R6). -/
def wordsToBytes : List Nat → List Nat
  | [] => []
  | w :: ws => w % 256 :: w / 256 % 256 :: wordsToBytes ws

/-- The `k`-th consecutive slice of `n` elements. -/
def slice {α : Type} (xs : List α) (o n : Nat) : List α := (xs.drop o).take n

/-- A list's element replaced by a function of it; out of range nothing changes. -/
def updAt {α : Type} (xs : List α) (i : Nat) (f : α → α) : List α := xs.modify i f

/-- `xs` made `n` long: cut, or padded with `d`. -/
def fit {α : Type} (d : α) (n : Nat) (xs : List α) : List α :=
  xs.take n ++ List.replicate (n - xs.length) d

/-- Round half up of `x / 2^s` (arithmetic shift after adding half). -/
def shrHalfUp (x : Int) (s : Nat) : Int := (x + (2 ^ (s - 1) : Nat)) / (2 ^ s : Nat)

/-- Arithmetic right shift of a signed number. -/
def shr (x : Int) (s : Nat) : Int := x / (2 ^ s : Nat)

/-- The integer square root, rounded down. -/
def isqrt (n : Nat) : Nat := Nat.sqrt n

end Sys2Proof.Machine
end

