-- ==== Sys2Proof/Machine/Crc.lean ====
section
/-!
DEFINITION. The two check codes of the engine: the CRC-32 of the Ledger, the ring and the line trailer
(02_ledger_image.md, "Every CRC-32 in the Ledger"; R342), and the CRC-16 of the management port (R525),
of the Trawin frames (R340) and of the light bus (R427), which differ only in the order of bytes.
-/

namespace Sys2Proof.Machine

/-- One shift of the reflected CRC-32 register, polynomial 0xEDB88320. -/
def crc32Shift (c : Nat) : Nat :=
  if c % 2 = 1 then (c / 2) ^^^ 0xedb88320 else c / 2

/-- One byte into the CRC-32 register. -/
def crc32Byte (c b : Nat) : Nat := Nat.repeat crc32Shift 8 (c ^^^ (b % 256))

/-- CRC-32, IEEE 802.3: reflected, initial value and final XOR 0xFFFF_FFFF. -/
def crc32 (bs : List Nat) : Nat := (bs.foldl crc32Byte 0xffffffff) ^^^ 0xffffffff

/-- One shift of the CRC-16 register, polynomial 0x1021, most significant bit first. -/
def crc16Shift (c : Nat) : Nat :=
  if c / 32768 % 2 = 1 then ((c * 2) % 65536) ^^^ 0x1021 else (c * 2) % 65536

/-- One byte into the CRC-16 register. -/
def crc16Byte (c b : Nat) : Nat := Nat.repeat crc16Shift 8 (c ^^^ (b % 256 * 256))

/-- CRC-16, initial value 0xFFFF, no reflection, no final XOR (R340, R525). -/
def crc16 (bs : List Nat) : Nat := bs.foldl crc16Byte 0xffff

/-- The bytes of words taken high byte first, as the management port takes them (R525). -/
def wordsBE (ws : List Nat) : List Nat := ws.flatMap (fun w => [w / 256 % 256, w % 256])

/-- CRC-16 of a management frame's words (R525). -/
def crcMgt (ws : List Nat) : Nat := crc16 (wordsBE ws)

/-- CRC-16 of a Trawin frame's words, each low byte first (R340). -/
def crcLink (ws : List Nat) : Nat := crc16 (wordsToBytes ws)

end Sys2Proof.Machine
end

