-- ==== Sys2Proof/Machine/March.lean ====
section
/-!
DEFINITION. March C− as the Tally runs it (R292 to R294): backgrounds, elements, order of rows, what a read must
return, and the rows and spares that the reads of a march judge failing.
-/

namespace Sys2Proof.Machine

/-- The backgrounds of R292, one pass each. -/
def marchBacks : List Nat := [0x0000, 0x5555, 0x3333, 0x0F0F, 0x00FF]

/-- The order in which an element takes the rows (Table 10.3). -/
inductive RowOrder where
  | either
  | ascending
  | descending
  deriving DecidableEq, Repr

/-- An element of March C−: what it reads and what it writes, each "0" (false) or "1" (true). -/
structure MarchElem where
  order  : RowOrder
  reads  : Option Bool
  writes : Option Bool
  deriving DecidableEq, Repr

/-- M0 to M5 (Table 10.3). -/
def marchElems : List MarchElem :=
  [ { order := .either, reads := none, writes := some false },
    { order := .ascending, reads := some false, writes := some true },
    { order := .ascending, reads := some true, writes := some false },
    { order := .descending, reads := some false, writes := some true },
    { order := .descending, reads := some true, writes := some false },
    { order := .either, reads := some false, writes := none } ]

/-- "0" is the background, "1" its complement (R292). -/
def marchWord (back : Nat) (one : Bool) : Nat := if one then 0xFFFF - back else back

/-- The ith row that an element of an order takes, spares as rows 512 to 515, and the place at which it takes row i. An
element of either order takes them ascending (DESIGN CHOICE, log 101). -/
def RowOrder.row (o : RowOrder) (i : Nat) : Nat := if o = .descending then 515 - i else i

/-- Steps of a whole march: five passes of six elements over 516 rows. -/
def marchLen : Nat := 15480

/-- The pass and element of a step of the march. -/
def marchElem (n : Nat) : Nat × Nat := (n / 3096, n / 516 % 6)

/-- The order of element e. -/
def elemOrder (e : Nat) : RowOrder := (marchElems[e]?.map MarchElem.order).getD .either

/-- The row of a step of the march. -/
def marchRowAt (n : Nat) : Nat := (elemOrder (marchElem n).2).row (n % 516)

/-- The step of the march that takes a row in a pass and element. -/
def marchStepOf (pass elem row : Nat) : Nat := 3096 * pass + 516 * elem + (elemOrder elem).row row

/-- What a row holds once `n` steps of a march are done: the last of its elements' writes; none before the first. -/
def marchHeld (n row : Nat) : Option Nat :=
  ((List.range (n / 516 + 1)).filterMap (fun k =>
    if 516 * k + (elemOrder (k % 6)).row row < n then do
      let back ← marchBacks[k / 6]?
      let e ← marchElems[k % 6]?
      let one ← e.writes
      return marchWord back one
    else none)).getLast?

/-- A word after each operation of a pass's elements up to `elem`, as what the next read of it must return. -/
def marchExpect (pass elem : Nat) : Option Nat := do
  let back ← marchBacks[pass]?
  let e ← marchElems[elem]?
  let one ← e.reads
  return marchWord back one

/-- A read of the march that returned a value other than the expected one (R294). -/
def readBad (r : MarchRead) : Bool :=
  match marchExpect r.pass r.elem with
  | some v => r.bank < 32 && r.row < 516 && r.col < 256 && r.value % 65536 != v
  | none => false

/-- Reads in the order of the march's steps. -/
def insertRead (r : MarchRead) : List MarchRead → List MarchRead
  | [] => [r]
  | x :: xs =>
    if marchStepOf x.pass x.elem x.row ≤ marchStepOf r.pass r.elem r.row then x :: insertRead r xs else r :: x :: xs

/-- The rows and spares that a march's reads judge failing, as (bank, row), in the order in which the march meets them
(R294). -/
def failing (rs : List MarchRead) : List (Nat × Nat) :=
  (((rs.filter readBad).foldl (fun acc r => insertRead r acc) []).map (fun r => (r.bank, r.row))).eraseDups

/-- The failing rows among them. -/
def rowsOf (qs : List (Nat × Nat)) : List (Nat × Nat) := qs.filter (fun q => q.2 < 512)

/-- The spares among them, as (bank, spare). -/
def sparesOf (qs : List (Nat × Nat)) : List (Nat × Nat) :=
  (qs.filter (fun q => 512 ≤ q.2)).map (fun q => (q.1, q.2 - 512))

/-- The steps of a march with code 1 before its pauses: after M1 and after M4 of the pass with background 0x0000
(R293). -/
def marchPauses : List Nat := [1032, 2580]

end Sys2Proof.Machine
end

