-- ==== Sys2Proof/Machine/Mem.lean ====
section
/-!
DEFINITION. Byte memories as lists of cells in one canonical form: addresses strictly rising, and no
cell equal to `d`, what an unlisted address reads as. The engine has two: the banked memory, a word at
word address w standing in bytes 2w and 2w + 1, least significant first (R6), and the U20 flash.
-/

namespace Sys2Proof.Machine

/-- A byte memory. -/
abbrev Mem := List Host.Cell

/-- Every cell lies at or above `lo`, addresses rise strictly, and no cell holds `d`. -/
def Mem.wfFrom (d : Byte) : Nat → Mem → Bool
  | _, [] => true
  | lo, (a, b) :: m => lo ≤ a && b != d && Mem.wfFrom d (a + 1) m

/-- The canonical form. -/
def Mem.wf (d : Byte) (m : Mem) : Bool := Mem.wfFrom d 0 m

/-- The byte at an address. -/
def Mem.get (d : Byte) : Mem → Nat → Byte
  | [], _ => d
  | (a, b) :: m, k => if a = k then b else Mem.get d m k

/-- The cells of `bs` laid out from address `a`, those equal to `d` left out. -/
def Mem.cellsFrom (d : Byte) : Nat → List Byte → Mem
  | _, [] => []
  | a, b :: bs => if b = d then Mem.cellsFrom d (a + 1) bs else (a, b) :: Mem.cellsFrom d (a + 1) bs

/-- `bs` written from address `a` on; every other address keeps its byte. -/
def Mem.write (d : Byte) (m : Mem) (a : Nat) (bs : List Byte) : Mem :=
  m.filter (fun c => c.1 < a) ++ (Mem.cellsFrom d a bs ++ m.filter (fun c => a + bs.length ≤ c.1))

/-- The `n` bytes from address `a` on, the cells being in rising order. -/
def Mem.walk (d : Byte) : Nat → Nat → Mem → List Byte
  | 0, _, _ => []
  | n + 1, a, [] => d :: Mem.walk d n (a + 1) []
  | n + 1, a, (k, b) :: m =>
    if k = a then b :: Mem.walk d n (a + 1) m else d :: Mem.walk d n (a + 1) ((k, b) :: m)

/-- The `n` bytes from address `a` on. -/
def Mem.read (d : Byte) (m : Mem) (a n : Nat) : List Byte :=
  Mem.walk d n a (m.filter (fun c => a ≤ c.1 && c.1 < a + n))

/-- What an unlisted byte of the banked memory reads as (assumption log 5). -/
def memBlank : Byte := 0x00

/-- What an erased byte of U20 reads as (02, Table 2.1: "Reserved, erased"; R595's 0xFF). -/
def flashBlank : Byte := 0xFF

/-- `n` words of the banked memory from word address `w` on. -/
def Mem.words (m : Mem) (w n : Nat) : List Nat :=
  bytesToWords ((Mem.read memBlank m (2 * w) (2 * n)).map BitVec.toNat)

/-- Words written into the banked memory from word address `w` on. -/
def Mem.setWords (m : Mem) (w : Nat) (ws : List Nat) : Mem :=
  Mem.write memBlank m (2 * w) ((wordsToBytes ws).map (BitVec.ofNat 8))

/-- `n` bytes of U20 from address `a` on. -/
def Mem.flash (m : Mem) (a n : Nat) : List Nat := (Mem.read flashBlank m a n).map BitVec.toNat

/-- Bytes put into U20 as they stand: an erased range, or an image from outside. -/
def Mem.setFlash (m : Mem) (a : Nat) (bs : List Nat) : Mem :=
  Mem.write flashBlank m a (bs.map (BitVec.ofNat 8))

/-- A page program: it can only clear bits, so each byte becomes the AND of old and new. -/
def Mem.program (m : Mem) (a : Nat) (bs : List Nat) : Mem :=
  Mem.setFlash m a (List.zipWith (fun x y => x &&& y) (Mem.flash m a bs.length) bs)

/-- A 4 KiB sector erase: every byte of the sector that holds `a` reads 0xFF (R34). -/
def Mem.eraseSector (m : Mem) (a : Nat) : Mem :=
  Mem.setFlash m (a / 4096 * 4096) (List.replicate 4096 0xFF)

end Sys2Proof.Machine
end

