-- ==== Sys2Proof/Machine/Image.lean ====
section
/-!
DEFINITION. The Ledger image as data: the sections of Table 2.6, the scan program records of Table 2.9
and the calibration slots of Tables 2.10 and 2.11, after they have been read from the bytes of U20.
Fields keep the names and units of the tables; unsigned fields are `Nat`, signed fields `Int`.
-/

namespace Sys2Proof.Machine

/-- PARTY body, Table 2.7; owners are party codes 0 management, 1 lane A, 2 lane B, 3 gang (R10). -/
structure PartyBody where
  openA     : Bool := false
  openB     : Bool := false
  budgetA   : Nat := 0
  budgetB   : Nat := 0
  budgetM   : Nat := 0
  winOwner  : List Nat := List.replicate 16 0
  tmrOwner  : List Nat := List.replicate 16 0
  hkOwner   : List Nat := List.replicate 24 0
  chOwner   : List Nat := List.replicate 8 0
  headOwner : List Nat := List.replicate 32 0
  deriving DecidableEq, Repr

/-- A TRIMS record (0x0803): the bounds of one host adjustment (R536). -/
structure TrimRec where
  unit     : Nat
  offset   : Nat
  lowBit   : Nat
  width    : Nat
  minRaw   : Nat
  maxRaw   : Nat
  deriving DecidableEq, Repr

/-- WINDOWS record, Table 2.8, in words. -/
structure WindowRec where
  base    : Nat := 0
  len     : Nat := 0
  enabled : Bool := false
  deriving DecidableEq, Repr

/-- STREAMS record (0x3002): master 1 pixel write, 2 shading fetch, 3 Till drain, 4 gang stitch fetch. -/
structure StreamRec where
  master : Nat
  party  : Nat
  window : Nat
  deriving DecidableEq, Repr

/-- TIMERS record (0x4801). -/
structure TimerRec where
  reload  : Nat := 0
  compare : Nat := 0
  presc   : Nat := 0
  enabled : Bool := false
  cascade : Bool := false
  group   : Bool := false
  phase   : Nat := 0
  deriving DecidableEq, Repr

/-- HKCHAN record (0x5001): arrangement 0 off, 1 HKA, 2 HKB, 3 plausibility, 4 interleaved. -/
structure HkChanRec where
  arr       : Nat := 0
  consumer  : Nat := 0
  openTest  : Nat := 0
  impCheck  : Bool := false
  winLow    : Int := 0
  winHigh   : Int := 0
  hyst      : Nat := 0
  tol       : Nat := 0
  poly      : Nat := 255
  deriving DecidableEq, Repr

/-- LIGHTCH record (0x6801). -/
structure LightChRec where
  limit    : Nat := 0
  pwm      : Bool := false
  enabled  : Bool := false
  scanLit  : Bool := false
  pwmFreq  : Nat := 0
  outMode  : Nat := 0
  hkChan   : Nat := 255
  group    : Nat := 255
  knee     : Int := 0
  zero     : Int := 0
  shut     : Int := 0
  hyst     : Nat := 0
  deriving DecidableEq, Repr

/-- LIGHTHEAD record (0x6802). -/
structure LightHeadRec where
  addr     : Nat
  scanLit  : Bool
  group    : Nat
  identity : Nat
  knee     : Int
  zero     : Int
  shut     : Int
  hyst     : Nat
  deriving DecidableEq, Repr

/-- SCENES record (0x6804): channel settings, and head settings as (address, setting). -/
structure Scene where
  num   : Nat
  chan  : List Nat
  heads : List (Nat × Nat)
  deriving DecidableEq, Repr

/-- PHOTO record (0x6805). -/
structure PhotoRec where
  refChan  : Nat := 255
  loopOn   : Bool := false
  limScan  : Nat := 0
  limOut   : Nat := 0
  interval : Nat := 0
  deriving DecidableEq, Repr

/-- Scan program record, Table 2.9. `mode` keeps the table's code: 1 PREVIEW, 2 FOCUS, 3 DARK-CAL,
4 FLAT-CAL, 5 SCAN, 6 GANG-SCAN. -/
structure Program where
  num      : Nat
  mode     : Nat
  party    : Nat
  pinOk    : Bool
  hostOk   : Bool
  encReq   : Bool
  name     : List Nat := List.replicate 16 0
  period   : Nat
  integ    : Nat
  lines    : Nat
  waves    : Nat
  calSet   : Nat
  scene    : Nat
  binning  : Nat
  micro    : Nat
  reverse  : Bool
  profile  : Nat
  focStart : Nat
  focLen   : Nat
  overlap  : Nat
  rungs    : Nat
  seamsDn  : Nat
  quietUp  : Nat
  /-- line periods of rungs 1 to 7 -/
  rungPer  : List Nat
  taps     : Nat
  deriving DecidableEq, Repr

/-- HEAD channel record inside section 0x8001. -/
structure HeadChan where
  sh     : Bool := false
  gain   : Nat := 0
  offset : Nat := 0
  deriving DecidableEq, Repr

/-- HEAD section (0x8001). -/
structure HeadSec where
  typeChars : List Nat := List.replicate 8 0
  supplyMa  : Nat := 0
  taps      : Nat := 1
  outs      : Nat := 1
  active    : Nat := 1
  dark      : Nat := 0
  slew      : Nat := 0
  chans     : List HeadChan := List.replicate 8 {}
  thermChan : Nat := 0
  idCheck   : Bool := false
  deriving DecidableEq, Repr

/-- One waveform record of a WAVES section (0x8002). -/
structure WaveRec where
  out       : Nat
  idle      : Nat
  nPix      : Nat
  nLine     : Nat
  pixEdges  : List Nat
  lineEdges : List Nat
  deriving DecidableEq, Repr

/-- WAVES section (0x8002). -/
structure WaveSet where
  inst   : Nat
  period : Nat
  waves  : List WaveRec
  deriving DecidableEq, Repr

/-- PIXCFG section (0x9001). -/
structure PixCfg where
  tCentre : Int := 0
  tSpan   : Nat := 0
  window  : Nat := 0
  deriving DecidableEq, Repr

/-- TILL section (0xA001), in words. -/
structure TillSec where
  log2   : Nat := 16
  window : Nat := 0
  tailUs : Nat := 1
  cut    : Nat := 0
  stop   : Nat := 0
  resume : Nat := 0
  deriving DecidableEq, Repr

/-- LINK section (0xA002). -/
structure LinkSec where
  supplyMa : Nat := 0
  stripe   : Nat := 0
  creditUs : Nat := 0
  statusUs : Nat := 0
  trainMs  : Nat := 0
  deriving DecidableEq, Repr

/-- AXIS section (0xB001); `cpp` is counts per line pitch, Q16.16. -/
structure AxisSec where
  runMa    : Nat := 0
  holdMa   : Nat := 0
  micro    : Nat := 0
  encoder  : Bool := false
  motorInv : Bool := false
  encInv   : Bool := false
  runUp    : Nat := 0
  cpp      : Nat := 0
  deriving DecidableEq, Repr

/-- PROFILE section (0xB002): its table stands in the lane's window. -/
structure ProfileSec where
  inst    : Nat
  window  : Nat
  offset  : Nat
  entries : List Nat
  deriving DecidableEq, Repr

/-- A lane's own sections. -/
structure LaneImage where
  head     : HeadSec := {}
  waves    : List WaveSet := []
  pix      : PixCfg := {}
  till     : TillSec := {}
  link     : LinkSec := {}
  axis     : AxisSec := {}
  profiles : List ProfileSec := []
  deriving DecidableEq, Repr

/-- The whole content of a copy, as applied: the Ledger shadow. Absent optional sections hold the
values R57 and the section's chapter give. -/
structure Ledger where
  seq       : Nat := 0
  length    : Nat := 0
  name      : List Nat := List.replicate 32 0
  integ     : Nat := 0
  irev      : Nat := 0
  party     : PartyBody := {}
  trims     : List TrimRec := []
  attnMask  : Nat := 1
  sleepHon  : Bool := false
  wakeHon   : Bool := false
  serviceOk : Bool := false
  haltOk    : Bool := false
  wakeMask  : Nat := 0
  auxOn     : Bool := true
  peMon     : Bool := true
  portRun   : Bool := true
  fcode     : Nat := 2
  spread    : Nat := 0
  tmod      : Nat := 0
  windows   : List WindowRec := List.replicate 16 {}
  streams   : List StreamRec := []
  march     : Nat := 0
  timers    : List TimerRec := List.replicate 16 {}
  hkchan    : List HkChanRec := List.replicate 24 {}
  slotsA    : List Nat := []
  slotsB    : List Nat := []
  polys     : List (List Int) := []
  lightch   : List LightChRec := List.replicate 8 {}
  lighthead : List LightHeadRec := []
  headroom  : Nat := 100
  scenes    : List Scene := []
  photo     : List PhotoRec := List.replicate 8 {}
  programs  : List Program := []
  laneA     : LaneImage := {}
  /-- none while lane B is unconfigured (R55) or on a BLX-1416 (R2) -/
  laneB     : Option LaneImage := none
  deriving DecidableEq, Repr

/-- A calibration set as loaded: header and payload, Tables 2.10 and 2.11. Shading is held in the lane's
shading window; this holds the rest of the slot. -/
structure CalSet where
  present  : Bool := false
  /-- a valid version stands in some slot, also when the set was withdrawn (R91, R235, R256) -/
  valid    : Bool := false
  slotY    : Bool := false
  other    : Bool := false
  /-- slots X and Y hold a commit record that failed R63 -/
  badX     : Bool := false
  badY     : Bool := false
  seq      : Nat := 0
  tsc      : Nat := 0
  dark     : Bool := false
  gain     : Bool := false
  coef     : Bool := false
  photo    : Bool := false
  taps     : Nat := 0
  active   : Nat := 0
  temp     : Int := 0
  headType : List Nat := List.replicate 8 0
  coefs    : List Int := List.replicate 48 0
  refs     : List Int := List.replicate 8 0
  /-- the check value computed when the set was loaded or committed (R91) -/
  check    : Nat := 0
  deriving DecidableEq, Repr

/-- What the load from U20 established, Table 2.15. -/
structure LedgerStatus where
  copy        : Nat := 0
  fallback    : Bool := false
  desc        : Nat := 0
  verdictSafe : Bool := false
  flashOk     : Bool := false
  addr4       : Bool := false
  laneACfg    : Bool := false
  laneBCfg    : Bool := false
  seq         : Nat := 0
  lenUnits    : Nat := 0
  density     : Nat := 0
  progOk      : List Bool := List.replicate 16 false
  ringSector  : Nat := 0
  ringFree    : Nat := 0
  deriving DecidableEq, Repr

end Sys2Proof.Machine
end

