-- ==== Sys2Proof/Machine/Units.lean ====
section
/-!
DEFINITION. The state of each unit of the engine: every field of the units' field tables that is not a
mere copy of another, and the internal state the rules imply. Registers that only show other state
(TILL.STATUS.EMPTY, the LEDGER-sourced registers) are computed when read (Machine/Regs.lean).
-/

namespace Sys2Proof.Machine

/-! ### Power states, modes and the port (03, 04, 17) -/

/-- Where the engine's life stands: the power states of Table 3.1 and the phases of Table 3.8. -/
inductive Phase where
  | off
  | bringup
  | run
  | sleepEntry
  | sleep
  | wake
  | powerDown
  | mainsLoss
  | engineReset
  | resetLow
  deriving DecidableEq, Repr

/-- Power states and resets (Table 3.13), with the sequences' progress. -/
structure PowerSt where
  phase       : Phase := .off
  /-- the step, stage or phase in progress within `phase` (Tables 3.2, 3.4, 3.5, 3.7, 6.2) -/
  stage       : Nat := 0
  /-- the last step completed of the start in progress, 0 before its first; SYS.STATE.STEP then shows its
  reset value 12 -/
  stepDone    : Nat := 0
  sleepRefuse : Nat := 0
  startCause  : Nat := 0
  eresetCause : Nat := 0
  wakePin     : Bool := false
  wakeTimer   : Bool := false
  wakeTmr     : Nat := 0
  bringMs     : Nat := 0
  refused     : Nat := 0
  padUs       : Nat := 0
  /-- channels of the post-wake pass not yet converted (R92, R93) -/
  hkPass      : List Nat := []
  entryUs     : Nat := 0
  /-- OFF_REQ latched in bring-up, sleep entry or wake (R98, R100) -/
  offLatched  : Bool := false
  /-- an on request latched for the end of a power-down or of sleep entry (R97, R100) -/
  onLatched   : Bool := false
  /-- source of the orderly power-down: 1 pin, 2 command (Table 3.12) -/
  offSource   : Nat := 0
  /-- WAKE has cancelled the orderly power-down, which ends once every lane is in IDLE (R96) -/
  offCancel   : Bool := false
  /-- TSC of the OFF_REQ edge that began the power-down in progress (R100) -/
  offEdge     : Option Nat := none
  /-- TSC of the wake in progress: a WAKE edge and a timer match of one LF tick share it (R100) -/
  wakeTsc     : Nat := 0
  /-- the fault that SAFE stands for and only a full start clears (Table 18.2): a Ledger verdict's first, or 0x0031;
  0 for none -/
  safeCause   : Nat := 0
  /-- the port answered when the power-down in progress began (R75, R79) -/
  served      : Bool := false
  /-- RESET_N is low and its 10 µs count runs (R81) -/
  resetCount  : Bool := false
  /-- RESET_N low confirmed in step 1: bring-up is held before step 2 (Table 3.8) -/
  heldStep1   : Bool := false
  /-- whether mains is present at J1 -/
  mains       : Bool := false
  /-- the start in progress begins at step 1, so that the store is empty (Table 3.10) -/
  fromStep1   : Bool := false
  /-- TSCs of the engine resets with cause 2 (R556) -/
  fatals      : List Nat := []
  /-- R556: the engine refuses SYS.POWER.ERESET until a full start -/
  resetLoop   : Bool := false
  /-- step 2 held by a crystal that does not start (R168) -/
  xtalHeld    : Bool := false
  deriving DecidableEq, Repr

/-- Levels at the pins that a rule reads: ABORT_A and ABORT_B as filtered (R121, R124). -/
structure PinSt where
  abortA : Bool := false
  abortB : Bool := false
  deriving DecidableEq, Repr

/-- SYS mode, halt, epoch, event and port registers (Tables 4.8, 17.15), with the pins READY, FAULT_N
and ATTN_N. -/
structure SysSt where
  safe        : Bool := false
  service     : Bool := false
  /-- SERVICE = 0 written while the Tally runs: SERVICE ends with the run (04, coincidences) -/
  serviceEnd  : Bool := false
  haltReq     : Bool := false
  haltPend    : Bool := false
  haltActive  : Bool := false
  /-- the epochs of units 0x0 to 0xF (R531) -/
  epochs      : List Nat := List.replicate 16 0
  /-- units whose epoch advances in this cycle by R531's triggers other than Table 17.7 -/
  marks       : List Nat := []
  events      : Nat := 0
  mask        : Nat := 0
  badCrc      : Nat := 0
  aborts      : Nat := 0
  stale       : Nat := 0
  denied      : Nat := 0
  ready       : Bool := false
  faultN      : Bool := true
  attnN       : Bool := true
  /-- GANG-SCAN in force (SYS.PARTY.GANG) -/
  gang        : Bool := false
  /-- the last response on MGT_SDO from its status word on, CRC included (R523) -/
  response    : List Nat := []
  /-- what MGT_SDO carries before it: 0xFFFF for each request word (Table 17.2) -/
  lead        : List Nat := []
  /-- the last response reads a lane's window and is not shifted out yet, unless the host has raised the select: the
  owning lane, and how many data words are left (R25, R529) -/
  apert       : Option (Lane × Nat) := none
  deriving DecidableEq, Repr

/-! ### Fault log (18) -/

/-- A fault record (Table 18.3) in the log store, with whether it counts as persisted (R563). -/
structure FaultRec where
  code    : Nat
  cls     : Nat
  parties : Nat
  seq     : Nat
  tsc     : Nat
  start   : Nat
  detail  : List Nat
  context : Nat
  saved   : Bool := false
  deriving DecidableEq, Repr

/-- The log store and the fault-log registers (Table 18.8). -/
structure LogSt where
  /-- records held, oldest first; at most 512 -/
  store     : List FaultRec := []
  newest    : Nat := 0
  ack       : Nat := 0
  sel       : Nat := 0
  drops     : Nat := 0
  start     : Nat := 0
  ringOk    : Bool := false
  /-- drops not yet reported by a 0x0050, and the TSC of the last one (R562) -/
  unreported : Nat := 0
  lastDropTsc : Option Nat := none
  /-- TSCs at which NOTE records were programmed within the last second (R563) -/
  noteTimes : List Nat := []
  /-- ring place: next record position 0–126 of the current sector, and the sector's sequence -/
  ringPos   : Nat := 0
  ringSeq   : Nat := 0
  /-- whether the ring has a current sector (an erased ring has none before its first append, R68) -/
  ringOpen  : Bool := false
  /-- the sector ahead of the current one, whose erase is due and not yet allowed (R66) -/
  ahead     : Option Nat := none
  /-- failed positions of the current sector and sectors closed under R567 -/
  badPos    : Nat := 0
  closed    : Nat := 0
  /-- records placed in the cycle in progress, at the store's end, not yet in the order of R553 -/
  fresh     : Nat := 0
  deriving DecidableEq, Repr

/-! ### U20 (02, 09) -/

/-- What the JESD216 table of the device at U20 declares (R34, R35, R188, R275): with the instruction of the 4 KiB
erase, and that of the 1-1-4 read with its dummy cycles, where it has them. The table's bytes are JEDEC's (log 123). -/
structure FlashDev where
  sfdp      : Bool := true
  density   : Nat := 128
  addr4     : Bool := false
  erase4k   : Option Nat := some 0x20
  page256   : Bool := true
  quad      : Option (Nat × Nat) := some (0x6B, 8)
  softReset : Bool := true
  deriving DecidableEq, Repr

/-- What a flash operation is for. -/
inductive FlashUse where
  | ringPage (seqs : List Nat)
  | ringHeader (sector : Nat)
  | ringErase (sector : Nat)
  | ringReclaim (sector : Nat)
  | calErase (l : Lane)
  | calPage (l : Lane)
  | calRecord (l : Lane)
  deriving DecidableEq, Repr

/-- An erase or page program issued to U20 and not yet ended (R275). -/
structure FlashOp where
  program : Bool
  addr    : Nat
  data    : List Nat := []
  use     : FlashUse
  retried : Bool := false
  /-- a retry that waits for the anchor edge (R277) -/
  due     : Bool := false
  /-- the commit that issued it has been abandoned -/
  orphan  : Bool := false
  deriving DecidableEq, Repr

/-- U20: its cells, the device it is and the operation in progress. -/
structure FlashSt where
  cells   : List Host.Cell := []
  dev     : FlashDev := {}
  op      : Option FlashOp := none
  /-- what step 4 took from the table: 4 KiB erase instruction, 1-1-4 read instruction and its dummy cycles (R35) -/
  erase   : Nat := 0
  read    : Nat := 0
  dummy   : Nat := 0
  /-- the reclaim record 0x7040 has been written in this bring-up (R67) -/
  reclaim : Bool := false
  deriving DecidableEq, Repr

/-! ### CLK (05) -/

/-- CLK registers (Table 5.8) and the holdover in progress. -/
structure ClkSt where
  locked    : Bool := false
  hold      : Bool := false
  onRef     : Bool := false
  pause     : Bool := false
  /-- 0 off, 1 free, 2 locked -/
  pattern   : Nat := 0
  fcode     : Nat := 2
  spread    : Nat := 0
  refLost   : Bool := false
  nextF     : Nat := 2
  holds     : Nat := 0
  tries     : Nat := 0
  holdUs    : Nat := 0
  drift     : Int := 0
  alignPs   : Int := 0
  lockUs    : Nat := 0
  alignUs   : Nat := 0
  /-- f_core code before the commit in progress (R144) -/
  oldF      : Nat := 2
  /-- TSC of the trip (R153) and of the switch to the reference -/
  tripTsc   : Nat := 0
  /-- lock attempts made in the reference interval in progress (R161) -/
  attempts  : Nat := 0
  deriving DecidableEq, Repr

/-! ### PWR (06) -/

/-- PWR registers (Table 6.8), their 50-period histories and counts. -/
structure PwrSt where
  pfw       : Bool := false
  lnSwap    : Bool := false
  peOk      : Bool := false
  mainsLow  : Bool := false
  freqOut   : Bool := false
  overload  : Bool := false
  busOk     : Bool := false
  vrms      : Nat := 0
  periodUs  : Nat := 0
  busV      : Nat := 0
  holdup    : Nat := 0
  /-- PWR.OUT.ON and LIMIT, in the order HEAD_A, HEAD_B, MAG_A, MAG_B, AUX_3V3 -/
  on        : List Bool := List.replicate 5 false
  limit     : List Bool := List.replicate 5 false
  wiringA   : Nat := 0
  wiringB   : Nat := 0
  wiringL   : Nat := 0
  busSwap   : Bool := false
  busShort  : Bool := false
  auxShort  : Bool := false
  /-- the 48 V bus has stayed below 42.0 V and has not been measured above since (R181, R113) -/
  busLow    : Bool := false
  /-- MGT_OVERDRAW in force: AUX_3V3 and management light stay off (R178) -/
  mgtOff    : Bool := false
  deriving DecidableEq, Repr

/-- The 50-period windows of R171, R172, R176, R179, R180 and R196, newest first. -/
structure PwrHist where
  input     : List Nat := []
  drawA     : List Nat := []
  drawB     : List Nat := []
  drawM     : List Nat := []
  lowCount  : Nat := 0
  okCount   : Nat := 0
  fOutCount : Nat := 0
  fOkCount  : Nat := 0
  peBad     : Nat := 0
  peGood    : Nat := 0
  /-- record 0x1030 with detail 1 stands without one of detail 0 (R196) -/
  peLost    : Bool := false
  /-- the overload of R179 has been found and lasts -/
  capHot    : Bool := false
  /-- periods until overload is judged again after an overdraw trip (06, coincidences) -/
  skip      : Nat := 0
  /-- parties over budget already reported (R554): lane A, lane B, management -/
  overd     : List Bool := [false, false, false]
  /-- 0 no overload verdict pending; 1 waiting for every lane in IDLE; 2 + n counting periods (R180) -/
  persist   : Nat := 0
  deriving DecidableEq, Repr

/-! ### Lanes: mode, head, pixel path, calibration (04, 07, 08, 09) -/

/-- Lane modes, HEAD.MODE.MODE (Table 4.8). -/
inductive Mode where
  | none
  | idle
  | preview
  | focus
  | darkCal
  | flatCal
  | scan
  | gangScan
  | smoulder
  deriving DecidableEq, Repr

/-- The entry phases of Table 4.4a. -/
inductive Entry where
  | a
  | b
  | c
  | d (left : Nat)
  | e
  deriving DecidableEq, Repr

/-- HEAD mode registers of a lane (Table 4.8) and its lane-reset progress (R103). -/
structure ModeSt where
  mode     : Mode := .none
  origin   : Mode := .none
  /-- program in force, or the idle program (R115); none where the lane has no usable program -/
  prog     : Option Program := none
  entering : Bool := false
  entry    : Option Entry := none
  ending   : Bool := false
  trip     : Bool := false
  /-- a trip during a run: TRIP is set at the entry to IDLE (R132, R266) -/
  tripDue  : Bool := false
  halted   : Bool := false
  reason   : Nat := 0
  source   : Nat := 0
  refProg  : Nat := 0
  refCount : Nat := 0
  /-- lane reset step in progress, 1–9; 0 none -/
  reset    : Nat := 0
  deriving DecidableEq, Repr

/-- A line of the run whose exposure has begun (R219 to R221). -/
structure LineCtx where
  num     : Nat
  tsc     : Nat
  /-- commanded position at the line start (R387) -/
  pos     : Int := 0
  temp    : Int := 0
  suspect : Bool := false
  stale   : Bool := false
  rung    : Nat := 0
  /-- light commit number in force at the start of its exposure (R346) -/
  com     : Nat := 0
  /-- header flags: first line after a seam, after dropped lines, under an abandoned line's number (R347) -/
  seam    : Bool := false
  gap     : Bool := false
  resumed : Bool := false
  /-- binning: sensor line within its group (R245) -/
  sub     : Nat := 0
  /-- τ clamped, clamps of shading and linearisation, focus metric (R239, R232, R240, R247) -/
  tclamp  : Bool := false
  sclip   : Nat := 0
  lclip   : Nat := 0
  /-- a stitched line: lane B's part was clamped (R252, Table 12.10) -/
  clipB   : Bool := false
  foc     : List Nat := []
  /-- position not verified by the encoder (R393) -/
  unverified : Bool := false
  deriving DecidableEq, Repr

/-- HEAD unit registers (Table 7.9). -/
structure HeadSt where
  supply   : Bool := false
  drivers  : Bool := false
  idState  : Nat := 0
  thermOk  : Bool := false
  feOk     : Nat := 0
  typ      : List Nat := List.replicate 8 0
  serial   : Nat := 0
  /-- retained digest (R207): serial number and CRC -/
  digest   : Option (List Nat) := none
  /-- line period and waveform set in force (R218) -/
  period   : Nat := 0
  tInt     : Nat := 0
  waves    : Nat := 0
  /-- HEAD.CHn gains and offsets in force, and a trim accepted for the next boundary (R227) -/
  gains    : List Nat := List.replicate 8 0
  offsets  : List Nat := List.replicate 8 0
  nextTrim : Option (List Nat × List Nat) := none
  darks    : List Nat := List.replicate 8 0
  clip     : Nat := 0
  /-- consecutive lines with all reference samples of a channel at a rail (R225, R189) -/
  railed   : List Nat := List.replicate 8 0
  /-- what the readout in progress will show at its close: references, clip count, railed channels (R221) -/
  readout  : Option (List Nat × Nat × List Bool) := none
  /-- the program's rung-0 period and waveform set take over at the next line boundary (R218, entry to IDLE) -/
  reclock  : Bool := false
  /-- the timing generator runs: a line has started since the drivers were enabled (R203) -/
  running  : Bool := false
  deriving DecidableEq, Repr

/-- PIX unit registers (Table 8.5). -/
structure PixSt where
  active   : Bool := false
  set      : Nat := 0
  bin      : Nat := 0
  gang     : Bool := false
  stale    : Bool := false
  tclamp   : Bool := false
  /-- contents bits of the latched set (R233) and its coefficients (R241) -/
  hasDark  : Bool := true
  hasGain  : Bool := true
  hasCoef  : Bool := true
  coefs    : List Int := List.replicate 48 0
  temp     : Int := 0
  tau      : Int := 0
  defects  : Nat := 0
  sclip    : Nat := 0
  lclip    : Nat := 0
  outLen   : Nat := 0
  overlap  : Nat := 0
  lines    : Nat := 0
  foc      : List Nat := List.replicate 4 0
  /-- binning group accumulators, tap by tap (R245) -/
  accum    : List (List Nat) := []
  /-- records of R238 and R239 already written in this run -/
  staleRec : Bool := false
  clampRec : Bool := false
  deriving DecidableEq, Repr

/-- The commit of a calibration set in progress or waiting (09). -/
structure CalSt where
  /-- PIX.CAL.STATE: 0 none, 1 acquiring, 2–8 K1–K7, 9 waiting -/
  state    : Nat := 0
  kind     : Nat := 0
  set      : Nat := 0
  slotY    : Bool := false
  result   : Nat := 0
  pending  : Bool := false
  count    : Nat := 0
  seq      : Nat := 0
  /-- PIX.CALSEQ: sequence of the last commit that ended committed -/
  lastSeq  : Nat := 0
  newDef   : Nat := 0
  resOut   : Nat := 0
  resSet   : Nat := 0
  cmdSet   : Nat := 0
  /-- PIX.CSTAGE0 to CSTAGE95 -/
  stage    : List Nat := List.replicate 96 0
  /-- lines accumulated, the sum of the latched temperatures and the photometric sums (R259 to R263) -/
  lines    : Nat := 0
  tempSum  : Int := 0
  photo    : List (Int × Nat) := List.replicate 8 (0, 0)
  /-- PIX.CALPROG.COUNT: sectors erased in K3, or pages programmed in K4 -/
  prog     : Nat := 0
  /-- geometry and program facts of the candidate -/
  mask     : Nat := 0
  total    : Nat := 0
  /-- candidate header and content not held in the Till window -/
  cand     : CalSet := {}
  crc      : Nat := 0
  /-- TSC at line 0's line start (R262) -/
  t0       : Nat := 0
  /-- kind and set of the acquisition run in progress, whose commit may have to wait for a coefficient
  commit of the same lane (R267, R269) -/
  acqKind  : Nat := 0
  acqSet   : Nat := 0
  acqWait  : Bool := false
  deriving DecidableEq, Repr

/-! ### MEM (10) -/

/-- A Tally run's kind, MEM.TSTAT.STATE (Table 10.8). -/
inductive TallyRun where
  | none
  | destructive
  | preserving
  | reload
  deriving DecidableEq, Repr

/-- An entry of the soft-repair map (R294). -/
structure Repair where
  row     : Nat := 0
  suspect : Bool := false
  valid   : Bool := false
  /-- whether the spare failed its own march -/
  bad     : Bool := false
  deriving DecidableEq, Repr

/-- MEM registers (Tables 1.8, 10.8) and the Tally's progress. The arrays' words are in `State.bank`. -/
structure MemSt where
  c0Worst : Nat := 0
  c0Port  : Nat := 0
  c1Worst : Nat := 0
  c2Worst : Nat := 0
  hwin    : Nat := 0
  hoff    : Nat := 0
  fMaster : Nat := 0
  fWin    : Nat := 0
  fLane   : Bool := false
  kind    : Bool := false
  march   : Nat := 0
  tfirst  : Nat := 0
  tlast   : Nat := 511
  tstat   : TallyRun := .none
  trow    : Nat := 0
  tcount  : Nat := 0
  tskip   : Nat := 0
  repair  : List Repair := List.replicate 128 {}
  /-- unrepaired rows, as (bank, row) (R294) -/
  unrep   : List (Nat × Nat) := []
  /-- rows that have tripped a lane since the full start (R302) -/
  condemned : List (Nat × Nat) := []
  /-- destructive march: steps done, rows and spares found failing, and retention pauses that have ended (R292 to
  R294) -/
  tpos    : Nat := 0
  found   : List (Nat × Nat) := []
  pauses  : Nat := 0
  /-- preserving run: its last row (R297); the row in progress is under test; every row has been taken -/
  tend    : Nat := 511
  ttest   : Bool := false
  tover   : Bool := false
  deriving DecidableEq, Repr

/-! ### TILL and LINK (11, 12) -/

/-- A slot reserved in the ring (R307, R308): the line's words stand in the Till window. -/
structure Slot where
  /-- value of WPTR at the slot's start -/
  start   : Nat
  num     : Nat
  /-- payload words W -/
  w       : Nat
  /-- written-through count (R243) -/
  written : Nat := 0
  closed  : Bool := false
  /-- its header has been fetched (R310) -/
  begun   : Bool := false
  /-- payload words fetched into the transmit buffer -/
  fetched : Nat := 0
  /-- SEAM fields to send before the LINE_BEGIN (R351, R370) -/
  seams   : List (List Nat) := []
  deriving DecidableEq, Repr

/-- Till registers (Table 11.5), its pointers held twice (R327) and its slots. -/
structure TillSt where
  wptr     : Nat := 0
  rptr     : Nat := 0
  wptr2    : Nat := 0
  rptr2    : Nat := 0
  peak     : Nat := 0
  stopped  : Bool := false
  dropping : Bool := false
  stops    : Nat := 0
  tails    : Nat := 0
  drops    : Nat := 0
  cause    : Nat := 0
  slots    : List Slot := []
  deriving DecidableEq, Repr

/-- LINK.STATE.STATE (Table 12.3). -/
inductive LinkState where
  | down
  | detect
  | train
  | config
  | up
  deriving DecidableEq, Repr

/-- What waits to go out on the forward strands: a frame, or a DATA frame that needs a credit (R356). -/
inductive TxItem where
  | frame (type : Nat) (words : List Nat)
  | data (words : List Nat)
  deriving DecidableEq, Repr

/-- How a run ends: SCAN_END status, cause (Table 12.8), power-fail flag and fault code (R344). -/
structure RunEnd where
  aborted : Bool
  cause   : Nat
  pfw     : Bool := false
  code    : Nat := 0
  deriving DecidableEq, Repr

/-- LINK registers (Table 12.19) and the run as the link sees it. -/
structure LinkSt where
  st        : LinkState := .down
  resync    : Bool := false
  mag       : Nat := 0
  dual      : Bool := false
  scanId    : Nat := 0
  maxCred   : Nat := 0
  granted   : Nat := 0
  used      : Nat := 0
  sent      : Option Nat := none
  magLast   : Option Nat := none
  magId     : Nat := 0
  magFree   : Nat := 0
  errCode   : Nat := 0
  errDisc   : Nat := 0
  magBad    : Nat := 0
  trains    : Nat := 0
  disagree  : Nat := 0
  seams     : Nat := 0
  abandons  : Nat := 0
  deriving DecidableEq, Repr

/-- The link's sequencing state (12): training counts, transmit queue and run bookkeeping. -/
structure LinkRun where
  /-- a run is open on this link: SCAN_BEGIN queued, SCAN_END not sent -/
  opened    : Bool := false
  /-- forward sequence number of the next frame (R340 ff) -/
  seqNo     : Nat := 0
  txq       : List TxItem := []
  /-- frames put on the forward strands by the last command, oldest first: type word, fields, CRC-16 -/
  tx        : List (List Nat) := []
  /-- the line whose LINE_BEGIN was sent without LINE_END (TILL.STATUS.OPEN) -/
  openLine  : Option Nat := none
  /-- complete lines sent on this link in the run, SEAM and ABANDON frames of it (Table 12.7) -/
  complete  : Nat := 0
  seamN     : Nat := 0
  abandonN  : Nat := 0
  lastEnd   : Option RunEnd := none
  /-- a SCAN_END that waits for the end of a resync (R344, R363) -/
  endOwed   : Option RunEnd := none
  /-- captured lines that follow lines dropped under R116, each with the last line captured before it (Table 12.11) -/
  gaps      : List (Nat × Option Nat) := []
  /-- STATUS owed before the next frame (R354); the epoch of the latest STATUS sent since UP, and the TSC at which
  the first one of that epoch ended (R361) -/
  statusDue : Bool := false
  statusTsc : Nat := 0
  told      : Option Nat := none
  /-- consecutive disagreeing STATUS and discarded frames (R362, R373) -/
  badCount  : Nat := 0
  discCount : Nat := 0
  /-- latest magazine STATUS echoes the current epoch (R367), and whether any was received since UP -/
  magEpoch  : Nat := 0
  gotStatus : Bool := false
  /-- TS1 with LOCK, identical TS2 and TS2 sent counts (Table 12.3) -/
  ts1       : Nat := 0
  ts2       : Nat := 0
  lastTs2   : Option OrderedSet := none
  /-- K is aligned (LOCK of the engine's own sets, Table 12.4), and the places of its last invalid code groups
  (R372) -/
  kLock     : Bool := false
  kBad      : List Nat := []
  /-- idle or retry wait after a failed training (R337, R338); protocol record written -/
  waiting   : Bool := false
  protoRec  : Bool := false
  /-- 0xA03A written in this run (R377); loss during the run awaiting the return of UP (R375) -/
  badRec    : Bool := false
  lost      : Bool := false
  /-- an ABANDON owed at the return to UP, with its cause (12, coincidences) -/
  owed      : Option (Nat × Nat) := none
  /-- end of the run waiting for the drain (R344) -/
  ending    : Option RunEnd := none
  /-- found in a reference interval, acted on at the anchor edge: loss of sync on K (R373), and a pointer
  mismatch with its detail (11, coincidences) -/
  syncDue   : Bool := false
  ptrDue    : Nat := 0
  deriving DecidableEq, Repr

/-! ### AXIS (13) -/

/-- AXIS.STATUS.SEAM (Table 13.5). -/
inductive SeamPhase where
  | none
  | stopping
  | rest
  | backoff
  | dwell
  | align
  | approach
  deriving DecidableEq, Repr

/-- A motion between rests or into steady motion (R385, R386): steps up the ramp, steps at the top
interval, steps down; `steady` motions have no end. `dir` is +1 or −1. -/
structure Motion where
  up      : Nat
  cruise  : Nat
  down    : Nat
  steady  : Bool := false
  top     : Nat
  dir     : Int
  /-- steps issued -/
  done    : Nat := 0
  /-- profile instance whose entries give the ramp -/
  prof    : Nat := 0
  deriving DecidableEq, Repr

/-- What the motion in progress is for. -/
inductive MoveFor where
  | none
  | entry
  | run
  | stop
  | backoff
  | approach
  | move
  deriving DecidableEq, Repr

/-- AXIS registers (Table 13.5) and the carriage's sequencing state. -/
structure AxisSt where
  atHold   : Bool := false
  encOk    : Bool := false
  refLost  : Bool := false
  phase    : SeamPhase := .none
  retry    : Bool := false
  runMa    : Nat := 0
  holdMa   : Nat := 0
  pos      : Int := 0
  enc      : Int := 0
  /-- levels of the encoder's A and B as last counted, A + 2 B (R391) -/
  ab       : Nat := 0
  index    : Int := 0
  dev      : Int := 0
  seamErr  : Int := 0
  trim     : Int := 0
  rung     : Nat := 0
  seams    : Nat := 0
  quiet    : Nat := 0
  retries  : Nat := 0
  ladder   : Nat := 0
  moveLo   : Nat := 0
  moveHi   : Nat := 0
  moveProf : Nat := 0
  deriving DecidableEq, Repr

/-- The carriage of a run: its motion, line 0's position and count, the seam in progress. -/
structure AxisRun where
  motion   : Option Motion := none
  why      : MoveFor := .none
  /-- X_0 and E_0 (R390, R392) -/
  x0       : Int := 0
  e0       : Int := 0
  /-- windings energised (R383, R414), ENC_5V on with them (R577) -/
  energised : Bool := false
  /-- SEAM cause mask (Table 12.11), TSC of the boundary B_m, rung before -/
  mask     : Nat := 0
  mTsc     : Nat := 0
  /-- seams of the run so far (R351) -/
  seamNo   : Nat := 0
  rung0    : Nat := 0
  /-- r′ fixed at the dwell end (R402) -/
  newRung  : Nat := 0
  /-- a ladder seam (R411), and the ladder taken already in this seam (R399, R408) -/
  ladderSeam : Bool := false
  stepped  : Bool := false
  /-- cycles by which the latest step of an approach follows its scheduled cycle (R404) -/
  offset   : Int := 0
  /-- approaches of this seam that called for a retry (R405) -/
  tries    : Nat := 0
  /-- the checkpoint of the approach has called for a retry (R405) -/
  retryDue : Bool := false
  /-- record 0xB013 written in this run (R394) -/
  warnRec  : Bool := false
  /-- the encoder was disabled by a fault during this run (R395) -/
  encLost  : Bool := false
  /-- n of the line cycle in progress, counted from line 0 and from line m of a seam (R393): a line given up does not
  set it back -/
  cycle    : Nat := 0
  /-- E_(n+1) exceeded (R393): deviation flagged at the latest line start -/
  devBad   : Bool := false
  deriving DecidableEq, Repr

/-! ### LUX (14) -/

/-- An internal light channel (Table 14.7). -/
structure LightCh where
  set     : Nat := 0
  q       : Nat := 0
  /-- value driven: q2 of R421, 0 while off -/
  drive   : Nat := 0
  mA      : Nat := 0
  d       : Nat := 256
  latch   : Bool := false
  /-- the owning lane has changed mode, or the host re-armed, since the latch (R456) -/
  rearm   : Bool := false
  /-- held off by a port fault (R190, R191) -/
  faulted : Bool := false
  deriving DecidableEq, Repr

/-- A light head's STATUS (Table 14.2, type 0x81). -/
structure HeadStatus where
  state   : Nat
  applied : Nat
  setting : Nat
  temp    : Int
  deriving DecidableEq, Repr

/-- A light head address (Table 14.7). -/
structure LightHead where
  reach    : Bool := false
  mismatch : Bool := false
  latch    : Bool := false
  rearm    : Bool := false
  d        : Nat := 256
  /-- setting named by scene or host; the value the head holds once what is staged for it is in force; the value
  the last commit put in force; acknowledged setting -/
  code     : Nat := 0
  staged   : Nat := 0
  held     : Nat := 0
  set      : Nat := 0
  /-- temperature shown, 0.1 °C; and the one Ember goes by, with the TSC of the STATUS that brought it (R458) -/
  temp     : Int := 0
  latest   : Option (Int × Nat) := none
  missed   : Nat := 0
  /-- a latch came in a reference interval, and its OFF waits for the anchor edge (R444, R455) -/
  offDue   : Bool := false
  /-- TSC of the last latch (14, coincidences) -/
  cutAt    : Option Nat := none
  /-- a STATUS_REQ that acknowledges a commit is outstanding, and of which party (R441) -/
  acking   : Option Nat := none
  /-- an IDENT_REQ is outstanding, and the last identity check failed (R432) -/
  identing : Bool := false
  barred   : Bool := false
  deriving DecidableEq, Repr

/-- A light commit decided and not yet at its commit point (R440). -/
structure Commit where
  /-- party: 0 management, 1 lane A, 2 lane B, 3 gang -/
  party  : Nat
  /-- new settings of channels and heads; codes before the factor -/
  chans  : List (Nat × Nat) := []
  heads  : List (Nat × Nat) := []
  /-- new factor of a group and the delta applied: a photometric step (R448) -/
  group  : Option (Nat × Nat × Int) := none
  /-- the scene commit of entry phase C -/
  phaseC : Bool := false
  /-- end of the guarded span (scene 0 at a run's end) -/
  ends   : Bool := false
  /-- heads staged for it, once its STAGE frames have been sent -/
  staged : Option (List Nat) := none
  /-- number and head mask carried, once the COMMIT frame has been sent -/
  sent   : Option (Nat × List Nat) := none
  /-- with the frame: the value staged for each head of its mask (R441) -/
  vals   : List (Nat × Nat) := []
  deriving DecidableEq, Repr

/-- A photometric group (Table 14.7, R447 to R449). -/
structure Group where
  g       : Nat := 0x8000
  ref     : Int := 0
  pinned  : Bool := false
  delta   : Int := 0
  /-- line cycles (lane) or mains periods (management) since the previous step's commit point -/
  since   : Nat := 0
  /-- TSC of the previous step's commit point (R448) -/
  atTsc   : Nat := 0
  pinRec  : Bool := false
  refRec  : Bool := false
  deriving DecidableEq, Repr

/-- The last commit of a party and its re-broadcasts (R442): number, TSC of its commit point, head mask and the values
staged for it, re-broadcasts made, heads in mismatch, and those a record 0x6012 has named. -/
structure Rebcast where
  num    : Nat := 0
  point  : Nat := 0
  mask   : List Nat := []
  vals   : List (Nat × Nat) := []
  tries  : Nat := 0
  heads  : List Nat := []
  told   : List Nat := []
  /-- a re-broadcast is owed; the party's later commits wait for it -/
  due    : Bool := false
  deriving DecidableEq, Repr

/-- LUX unit state (Table 14.7). -/
structure LuxSt where
  ch       : List LightCh := List.replicate 8 {}
  head     : List LightHead := List.replicate 32 {}
  comA     : Nat := 0
  comB     : Nat := 0
  comM     : Nat := 0
  grp      : List Group := List.replicate 8 {}
  mstageCh : List Nat := List.replicate 8 0
  mstageHd : List Nat := List.replicate 32 0
  mref     : List Nat := List.replicate 8 0
  crcErr   : Nat := 0
  rebcast  : Nat := 0
  /-- commits decided, oldest first (R440) -/
  planned  : List Commit := []
  /-- heads of each DROP that a reference interval holds back (R443, R444) -/
  dropDue  : List (List Nat) := []
  /-- last commit and re-broadcasts of each party, by party code (R442) -/
  reb      : List Rebcast := List.replicate 4 {}
  /-- guarded span of lane A, lane B (14) -/
  guardA   : Bool := false
  guardB   : Bool := false
  /-- light-bus frames sent by the last command, oldest first: bytes of Table 14.1 -/
  bus      : List (List Nat) := []
  deriving DecidableEq, Repr

/-! ### HK (15) -/

/-- A housekeeping channel (Table 15.7) and the counts of its checks. -/
structure HkChan where
  last     : Int := 0
  raw      : Int := 0
  imp      : Nat := 0
  wlo      : Int := 0
  whi      : Int := 0
  good     : Bool := false
  fault    : Bool := false
  cause    : Nat := 0
  unlocked : Bool := false
  single   : Bool := false
  /-- 0 in, 1 low, 2 high -/
  band     : Nat := 0
  evt      : Bool := false
  /-- consecutive findings of open wire, impedance and plausibility, and of their absence (R483 to R486) -/
  openN    : Nat := 0
  impN     : Nat := 0
  plausN   : Nat := 0
  clearN   : Nat := 0
  /-- conversions since the last impedance check (R484) -/
  toneN    : Nat := 0
  /-- first result of a plausibility pair in progress (R472) -/
  half     : Option (Int × Nat) := none
  /-- TSC of the last good result's distribution (R238, R448) -/
  goodTsc  : Nat := 0
  deriving DecidableEq, Repr

/-- A result register RESA or RESB (R477, R478). -/
structure HkRes where
  ch       : Nat := 0
  full     : Bool := false
  overrun  : Bool := false
  fault    : Bool := false
  unlocked : Bool := false
  single   : Bool := false
  seq      : Nat := 0
  val      : Int := 0
  /-- 0x5021 written since the host's last clearing (R477) -/
  recorded : Bool := false
  deriving DecidableEq, Repr

/-- A converter, HKA or HKB (R469 to R473, R489, R490). -/
structure HkConv where
  slot      : Nat := 0
  running   : Bool := false
  unlocked  : Bool := false
  failed    : Bool := false
  /-- conversions since the last self-check, and a self-check in progress (R469, R470) -/
  since     : Nat := 0
  checking  : Bool := false
  /-- consecutive self-check passes of a failed converter (R470) -/
  passes    : Nat := 0
  /-- window and first tick of the conversion in progress (R467) -/
  tw        : Nat := 500000
  start     : Nat := 0
  /-- consecutive discards, TSC of the last 0x5010, consecutive good periods (R489, R490) -/
  discards  : Nat := 0
  discTsc   : Option Nat := none
  goodPer   : Nat := 0
  /-- the conversion in progress overlaps holdover or a reference interval and will be discarded (R475) -/
  doomed    : Bool := false
  /-- a slot that a discard has cut waits for a rising crossing, past the self-check in progress (R471) -/
  atCross   : Bool := false
  /-- channel of the post-wake pass in conversion (R92) -/
  passCh    : Option Nat := none
  res       : HkRes := {}
  deriving DecidableEq, Repr

/-- HK unit state (Table 15.7). -/
structure HkSt where
  a       : HkConv := {}
  b       : HkConv := {}
  tw      : Nat := 500000
  period  : Nat := 0
  /-- mains periods seen since the window must be measured anew (R92, R164, R473); none when measured. After a wake no
  conversion starts before that. -/
  measure : Option Nat := none
  awake   : Bool := false
  /-- TSC at which a paired HKB is to start HKA's slot (R471) -/
  lag     : Option Nat := none
  /-- t of R480: HK21's latest raw code − 16 000 -/
  board   : Int := 0
  ch      : List HkChan := List.replicate 24 {}
  discards : Nat := 0
  unlocks : Nat := 0
  deriving DecidableEq, Repr

/-! ### TMR (16) -/

/-- A timer (Table 16.5); a cascaded pair keeps its halves in its two timers (R500). -/
structure Timer where
  cnt    : Nat := 0
  rld    : Nat := 0
  cmp    : Nat := 0
  en     : Bool := false
  /-- held until READY or the lane's IDLE entry (R504, R505, R507) -/
  held   : Bool := true
  /-- core cycles in the prescale counter at TSC `born` -/
  pre    : Nat := 0
  born   : Nat := 0
  frac   : Nat := 0
  zero   : Bool := false
  hit    : Bool := false
  ovr    : Bool := false
  pmatch : Nat := 0
  period : Nat := 0
  deriving DecidableEq, Repr

/-- TMR unit state (Table 16.5). -/
structure TmrSt where
  ts      : List Timer := List.replicate 16 {}
  tsc     : Nat := 0
  /-- the TSC counts reference edges (R510); while false and `lf`, it advances from the LF increment -/
  counting : Bool := false
  /-- LF-advanced span in progress (R514), its cause and fraction -/
  lf      : Bool := false
  /-- the handover waits for the next LF tick; the crystal is stable again and the handback waits for it -/
  lfPend  : Bool := false
  lfBack  : Bool := false
  lfCause : Nat := 0
  frac    : Nat := 0
  /-- the TSC is held still in this span (R517) -/
  gapSpan : Bool := false
  /-- no LF tick has arrived for 100 µs (R516), and record 0x4001 is owed at the handback (R517) -/
  silent  : Bool := false
  lfOwed  : Bool := false
  curSpan : Nat := 0
  lfSpan  : Bool := false
  /-- LF_SPAN owed at READY after a sleep (R514) -/
  spanDue : Bool := false
  cause   : Nat := 0
  lfOk    : Bool := true
  /-- the last INC measured was outside ±200 ppm (R516) -/
  incBad  : Bool := false
  meas    : Bool := false
  gap     : Bool := false
  inc     : Nat := 0xBEBC2000
  span    : Nat := 0
  entry   : Nat := 0
  /-- TSC at the handover of the span in progress -/
  curEntry : Nat := 0
  deriving DecidableEq, Repr

end Sys2Proof.Machine
end

