-- ==== Sys2Proof/Machine/State.lean ====
section
/-!
DEFINITION. The engine's whole state as plain data, the reasons a step can stop, and the state after
reset: the engine OFF, with mains not applied (Table 3.1), before any start.
-/

namespace Sys2Proof.Machine

/-- One lane's units 0x8 to 0xB (0xC to 0xF for lane B). -/
structure LaneSt where
  mode : ModeSt := {}
  head : HeadSt := {}
  pix  : PixSt := {}
  cal  : CalSt := {}
  till : TillSt := {}
  link : LinkSt := {}
  lrun : LinkRun := {}
  axis : AxisSt := {}
  arun : AxisRun := {}
  /-- calibration sets 0 to 3 as loaded or committed (02, 09), and versions waiting under R274 -/
  sets : List CalSet := List.replicate 4 {}
  next : List (Nat × CalSet) := []
  /-- lines of the run: the one in exposure and the one in readout (R219 to R221) -/
  exposing : Option LineCtx := none
  reading  : Option LineCtx := none
  /-- the gate closed in this line cycle, whose line has been given up: it stays closed to its end (R219) -/
  shut     : Bool := false
  /-- TSC of the line start of a line whose exposure has been given up in this line cycle (R154, Table 12.11) -/
  unexposed : Option Nat := none
  /-- output lines of the run begun so far: the number of the next line -/
  nextLine : Nat := 0
  /-- binning: sensor line within its group of the next line (R245) -/
  sub      : Nat := 0
  /-- capture decided for the line cycle that begins next (R314 ff) -/
  capture  : Bool := false
  /-- the next captured line follows a seam, dropped lines, an abandoned line (R347) -/
  afterSeam : Bool := false
  afterGap  : Bool := false
  resumed   : Bool := false
  /-- a SMOULDER entry is due at the next boundary, with its SEAM cause mask (R117, R118) -/
  stopMask  : Option Nat := none
  /-- the binning group in progress: its first line, with what its sensor lines add (R246) -/
  group    : Option LineCtx := none
  /-- SEAM frames owed before the next line this link carries (R351, R370) -/
  owedSeams : List (List Nat) := []
  /-- number of the last line of the run that has a slot -/
  lastNum  : Option Nat := none
  deriving DecidableEq, Repr

/-- The engine and the queue of commands that wait. -/
structure State where
  /-- BLX-2416 (true) or BLX-1416 (00) -/
  twoLanes : Bool := true
  power    : PowerSt := {}
  pins     : PinSt := {}
  sys      : SysSt := {}
  log      : LogSt := {}
  flash    : FlashSt := {}
  ledger   : LedgerStatus := {}
  /-- the Ledger shadow (00, glossary); its defaults stand before any load -/
  shadow   : Ledger := {}
  clk      : ClkSt := {}
  pwr      : PwrSt := {}
  hist     : PwrHist := {}
  mem      : MemSt := {}
  /-- the banked memory's words, two bytes each (R6, R280) -/
  bank     : List Host.Cell := []
  tmr      : TmrSt := {}
  hk       : HkSt := {}
  lux      : LuxSt := {}
  laneA    : LaneSt := {}
  laneB    : LaneSt := {}
  /-- the model's own field: how many free values have been taken (assumption log 7) -/
  free     : Nat := 0
  /-- commands waiting, first in first out -/
  pending  : List Instr := []
  deriving DecidableEq, Repr

/-- Reasons a run can stop with a fault. No rule of the manual stops the engine, so no meaning raises one. -/
inductive Fault where
  /-- Raised by nobody: every command has an effect, or none, in every state. Safe. -/
  | unreachable
  deriving DecidableEq, Repr

/-- Reasons a command can be refused by the model. -/
inductive Refusal where
  /-- Raised by an arm of `exec` whose command has no meaning yet. Safe: the run stops. -/
  | notModelled (mnemonic : String)
  deriving DecidableEq, Repr

/-- The engine in OFF before mains is applied: nothing powered, nothing retained (Table 3.1), U20 erased,
and no command waiting. Every register holds the reset value of its field table, or the value that
assumption log 4 names. -/
def State.reset : State := {}

end Sys2Proof.Machine
end

