-- ==== Sys2Proof/Machine/Ops.lean ====
section
/-!
DEFINITION. The named operations over the whole state: lanes, ownership, windows, fault records, and the
small queries every unit uses.
-/

namespace Sys2Proof.Machine

/-! ### Lanes -/

/-- 0 for lane A, 1 for lane B: the detail of lane records (Table 3.12). -/
def laneNo : Lane → Nat
  | .a => 0
  | .b => 1

/-- The party code of a lane (R10). -/
def laneParty : Lane → Nat
  | .a => 1
  | .b => 2

def otherLane : Lane → Lane
  | .a => .b
  | .b => .a

/-- What lane B adds to a lane A fault code (R549). -/
def laneOff : Lane → Nat
  | .a => 0
  | .b => 0x4000

/-- The lane's HEAD, PIX, TILL/LINK and AXIS unit numbers (R530). -/
def headUnit : Lane → Nat
  | .a => 0x8
  | .b => 0xC
def pixUnit (l : Lane) : Nat := headUnit l + 1
def tillUnit (l : Lane) : Nat := headUnit l + 2
def axisUnit (l : Lane) : Nat := headUnit l + 3

def State.lane (s : State) : Lane → LaneSt
  | .a => s.laneA
  | .b => s.laneB

def State.setLane (s : State) : Lane → LaneSt → State
  | .a, x => { s with laneA := x }
  | .b, x => { s with laneB := x }

def State.modLane (s : State) (l : Lane) (f : LaneSt → LaneSt) : State := s.setLane l (f (s.lane l))

/-- Updates of one unit of a lane. -/
def State.modMode (s : State) (l : Lane) (f : ModeSt → ModeSt) : State :=
  s.modLane l (fun x => { x with mode := f x.mode })
def State.modHead (s : State) (l : Lane) (f : HeadSt → HeadSt) : State :=
  s.modLane l (fun x => { x with head := f x.head })
def State.modPix (s : State) (l : Lane) (f : PixSt → PixSt) : State :=
  s.modLane l (fun x => { x with pix := f x.pix })
def State.modCal (s : State) (l : Lane) (f : CalSt → CalSt) : State :=
  s.modLane l (fun x => { x with cal := f x.cal })
def State.modTill (s : State) (l : Lane) (f : TillSt → TillSt) : State :=
  s.modLane l (fun x => { x with till := f x.till })
def State.modLink (s : State) (l : Lane) (f : LinkSt → LinkSt) : State :=
  s.modLane l (fun x => { x with link := f x.link })
def State.modLrun (s : State) (l : Lane) (f : LinkRun → LinkRun) : State :=
  s.modLane l (fun x => { x with lrun := f x.lrun })
def State.modAxis (s : State) (l : Lane) (f : AxisSt → AxisSt) : State :=
  s.modLane l (fun x => { x with axis := f x.axis })
def State.modArun (s : State) (l : Lane) (f : AxisRun → AxisRun) : State :=
  s.modLane l (fun x => { x with arun := f x.arun })

/-- Updates of the engine's units. -/
def State.modPower (s : State) (f : PowerSt → PowerSt) : State := { s with power := f s.power }
def State.modSys (s : State) (f : SysSt → SysSt) : State := { s with sys := f s.sys }
def State.modLog (s : State) (f : LogSt → LogSt) : State := { s with log := f s.log }
def State.modClk (s : State) (f : ClkSt → ClkSt) : State := { s with clk := f s.clk }
def State.modPwr (s : State) (f : PwrSt → PwrSt) : State := { s with pwr := f s.pwr }
def State.modHist (s : State) (f : PwrHist → PwrHist) : State := { s with hist := f s.hist }
def State.modMem (s : State) (f : MemSt → MemSt) : State := { s with mem := f s.mem }
def State.modTmr (s : State) (f : TmrSt → TmrSt) : State := { s with tmr := f s.tmr }
def State.modHk (s : State) (f : HkSt → HkSt) : State := { s with hk := f s.hk }
def State.modLux (s : State) (f : LuxSt → LuxSt) : State := { s with lux := f s.lux }
def State.modFlash (s : State) (f : FlashSt → FlashSt) : State := { s with flash := f s.flash }

/-- Whether the lane is configured (R54, R55; LEDGER.STATUS.LANES_CFG). -/
def State.configured (s : State) : Lane → Bool
  | .a => s.ledger.laneACfg
  | .b => s.ledger.laneBCfg

/-- The configured lanes, lane A first. -/
def State.cfgLanes (s : State) : List Lane := [Lane.a, Lane.b].filter s.configured

/-- The lane's own sections in the shadow. -/
def State.img (s : State) : Lane → LaneImage
  | .a => s.shadow.laneA
  | .b => s.shadow.laneB.getD {}

/-- The filtered level of ABORT_x (R121). -/
def State.abortHigh (s : State) : Lane → Bool
  | .a => s.pins.abortA
  | .b => s.pins.abortB

def State.setAbort (s : State) (l : Lane) (high : Bool) : State :=
  match l with
  | .a => { s with pins := { s.pins with abortA := high } }
  | .b => { s with pins := { s.pins with abortB := high } }

/-- An effect on each lane of a list, in order. -/
def State.forLanes (s : State) (ls : List Lane) (f : State → Lane → State) : State := ls.foldl f s

/-! ### Modes -/

/-- HEAD.MODE.MODE's encoding (Table 4.8). -/
def modeCode : Mode → Nat
  | .none => 0
  | .idle => 1
  | .preview => 2
  | .focus => 3
  | .darkCal => 4
  | .flatCal => 5
  | .scan => 6
  | .gangScan => 7
  | .smoulder => 8

/-- The lane mode a program's Mode field selects (04, "Selecting a program"). -/
def progMode (p : Program) : Mode :=
  match p.mode with
  | 1 => .preview
  | 2 => .focus
  | 3 => .darkCal
  | 4 => .flatCal
  | 5 => .scan
  | 6 => .gangScan
  | _ => .none

/-- A capturing lane is in PREVIEW, FOCUS, SCAN or GANG-SCAN (04). -/
def capturing : Mode → Bool
  | .preview | .focus | .scan | .gangScan => true
  | _ => false

/-- Modes that send lines: those a request needs the link for (R367). -/
def sendsLines (m : Mode) : Bool := capturing m

/-- DARK-CAL and FLAT-CAL. -/
def calibrating : Mode → Bool
  | .darkCal | .flatCal => true
  | _ => false

/-- The mode a lane works in: its origin while in SMOULDER. -/
def ModeSt.work (m : ModeSt) : Mode := if m.mode = .smoulder then m.origin else m.mode

/-- SYS.MODE.ENGINE (Table 4.8, R107). -/
def State.engineMode (s : State) : Nat :=
  match s.power.phase with
  | .bringup | .engineReset => 1
  | .sleep | .sleepEntry | .wake => 2
  | _ => if s.sys.safe then 4 else if s.sys.service then 3 else 0

/-- SYS.STATE.POWER (Table 3.13): its reset value in OFF and with RESET_N low; no value is named for SLEEP and the
wake (log 6). -/
def State.powerCode (s : State) : Nat :=
  match s.power.phase with
  | .bringup | .engineReset => 0
  | .run | .off | .resetLow => 1
  | .powerDown | .mainsLoss => 2
  | .sleepEntry => 3
  | _ => (Config.powerCode s.free).toNat

/-- A reference interval runs (05); after a third failed lock attempt it has ended (R166). -/
def ClkSt.interval (c : ClkSt) : Bool := c.onRef && decide (c.attempts < 3)

/-- m = f_core / 25 MHz (Table 5.1). -/
def clkM (fcode : Nat) : Nat := if fcode = 0 then 12 else if fcode = 1 then 14 else 16

/-- Ticks since the TSC stood at t, across its wrap (R510). -/
def State.age (s : State) (t : Nat) : Nat := (s.tmr.tsc + 2 ^ 48 - t) % 2 ^ 48

/-- Core cycles since a line's line start. -/
def State.cyclesOf (s : State) (c : LineCtx) : Nat := s.age c.tsc * clkM s.clk.fcode

/-- The exposure of a lane's line has begun: its line cycle has reached cycle P − T_int (R219). -/
def State.exposed (s : State) (l : Lane) (c : LineCtx) : Bool :=
  decide ((s.lane l).head.period ≤ s.cyclesOf c + (s.lane l).head.tInt)

/-- HEAD.STATUS.GATE: the shutter gate is closed (R219); in a reference interval it is open (Table 7.6). -/
def State.gate (s : State) (l : Lane) : Bool :=
  !s.clk.interval && ((s.lane l).shut || ((s.lane l).exposing.map (s.exposed l)).getD false)

/-- A gate that has closed stays closed to the end of the line cycle (R219). -/
def State.holdGate (s : State) (l : Lane) : State := s.modLane l (fun x => { x with shut := s.gate l })

/-- The exposure in progress given up. -/
def State.giveExposure (s : State) (l : Lane) : State :=
  (s.holdGate l).modLane l (fun x => { x with exposing := none })

/-- A core clock runs: from step 4 of a start, to stage 4 of a sleep entry, from stage 3 of a wake. -/
def State.coreRuns (s : State) : Bool :=
  match s.power.phase with
  | .off | .sleep | .resetLow => false
  | .bringup => decide (4 ≤ s.power.stage)
  | .sleepEntry => decide (s.power.stage ≤ 4)
  | .wake => decide (3 ≤ s.power.stage)
  | _ => true

/-- The engine serves: RUN, READY or SAFE (R75, R79, R86); a power-down goes on as it found the port. -/
def State.serving (s : State) : Bool :=
  s.power.phase = .run || ((s.power.phase = .powerDown || s.power.phase = .mainsLoss) && s.power.served)

/-! ### Ownership -/

/-- An item's owner entry in force: lane codes fall to the gang party in GANG-SCAN (R288, 01), and an
entry for lane B is ignored on a BLX-1416 (R14). -/
def State.owner (s : State) (raw : Nat) : Nat :=
  if raw = 0 then 0
  else if raw = 2 ∧ s.twoLanes = false then 0
  else if s.sys.gang then 3 else raw

/-- The owner the Ledger names, without the gang party. -/
def State.ledgerOwner (s : State) (raw : Nat) : Nat := if raw = 2 ∧ s.twoLanes = false then 0 else raw

/-- An item a BLX-1416 leaves unused (R4, R14). -/
def State.unused (s : State) (raw : Nat) : Bool := raw = 2 && !s.twoLanes

def State.winOwner (s : State) (w : Nat) : Nat := s.owner (s.shadow.party.winOwner.getD w 0)
def State.tmrOwner (s : State) (n : Nat) : Nat := s.ledgerOwner (s.shadow.party.tmrOwner.getD n 0)
def State.hkOwner (s : State) (n : Nat) : Nat := s.ledgerOwner (s.shadow.party.hkOwner.getD n 0)
def State.chOwner (s : State) (n : Nat) : Nat := s.ledgerOwner (s.shadow.party.chOwner.getD n 0)
def State.headOwner (s : State) (a : Nat) : Nat := s.ledgerOwner (s.shadow.party.headOwner.getD a 0)

/-- The party that acts for a lane: its own, or the gang party. -/
def State.partyOf (s : State) (l : Lane) : Nat := if s.sys.gang then 3 else laneParty l

/-- Whether an item owner is named by a party code, the gang party naming both lanes. -/
def ownedBy (owner party : Nat) : Bool := if party = 3 then owner = 1 || owner = 2 else owner = party

/-- PARTIES of a record about an item of an owner (Table 18.3). -/
def State.partyBits (s : State) (owner : Nat) : Nat :=
  match owner with
  | 0 => 4
  | 1 => if s.sys.gang then 11 else 1
  | 2 => if s.sys.gang then 11 else 2
  | _ => 11

/-- PARTIES of a record that acts on a lane (Table 18.3). -/
def State.laneBits (s : State) (l : Lane) : Nat := s.partyBits (laneParty l)

/-- PARTIES of an ENGINE-SAFE record (Table 18.3). -/
def State.safeBits (s : State) : Nat :=
  4 + (if s.ledger.laneACfg then 1 else 0) + (if s.ledger.laneBCfg then 2 else 0)
    + (if s.sys.gang then 8 else 0)

/-! ### Marks and events -/

/-- A unit whose epoch advances in this cycle (R531). -/
def State.mark (s : State) (u : Nat) : State := s.modSys (fun y => { y with marks := u :: y.marks })

/-- An occurrence of Table 17.11; bits 3, 5 and 13 are never set on a BLX-1416 (R540). -/
def State.event (s : State) (b : Nat) : State :=
  if !s.twoLanes && (b = 3 || b = 5 || b = 13) then s
  else s.modSys (fun y => { y with events := y.events ||| 2 ^ b })

/-! ### Fault records -/

/-- CONTEXT of a record (Table 18.3). -/
def State.context (s : State) : Nat :=
  modeCode s.laneA.mode.mode + 16 * modeCode s.laneB.mode.mode + 256 * s.engineMode
    + flag s.sys.haltActive 11 + 4096 * s.powerCode

/-- The SEQ that follows (R559). -/
def nextSeq (n : Nat) : Nat := if n ≥ 0xFFFFFFFF then 1 else n + 1

/-- A record is unacknowledged while its SEQ is later than the acknowledged sequence (R570). -/
def LogSt.unacked (g : LogSt) (r : FaultRec) : Bool := later r.seq g.ack

/-- Which record a new one replaces in a full store (R562). -/
def LogSt.victim (g : LogSt) : Option Nat :=
  let i1 := g.store.findIdx (fun r => r.saved && !(g.unacked r && 2 ≤ r.cls))
  let i2 := g.store.findIdx (fun r => r.saved)
  if i1 < g.store.length then some i1
  else if i2 < g.store.length then some i2
  else if g.store.isEmpty then none else some 0

/-- A record put into the store, replacing one where it is full; tells whether an unpersisted record was
dropped (R562). -/
def LogSt.put (g : LogSt) (r : FaultRec) : LogSt × Bool :=
  let g := { g with newest := r.seq, fresh := g.fresh + 1 }
  if g.store.length < 512 then ({ g with store := g.store ++ [r] }, false)
  else
    match g.victim with
    | none => ({ g with store := g.store ++ [r] }, false)
    | some i =>
      let lost := !((g.store[i]?.map FaultRec.saved).getD true)
      ({ g with
          store := g.store.eraseIdx i ++ [r]
          drops := if lost then satInc 65535 g.drops else g.drops
          unreported := if lost then g.unreported + 1 else g.unreported }, lost)

/-- Where a record of one cycle stands: descending class, then ascending code (R553); 0x0030 follows its cause among the
records of its class (R554), and 0x0050 the drop that it counts (R562). -/
def recRank (r : FaultRec) : Nat :=
  if r.code = 0x0030 then 65535 else if r.code = 0x0050 then 6 * 65536 else (4 - r.cls) * 65536 + r.code

/-- A record put into its place, behind those of its own rank. -/
def insertRec (r : FaultRec) : List FaultRec → List FaultRec
  | [] => [r]
  | x :: xs => if recRank r < recRank x then r :: x :: xs else x :: insertRec r xs

/-- The records of one cycle numbered in the order of R553: they share out the sequence numbers they took. -/
def inOrder (rs : List FaultRec) : List FaultRec :=
  List.zipWith (fun (r x : FaultRec) => { r with seq := x.seq }) (rs.foldl (fun acc r => insertRec r acc) []) rs

/-- The cycle's records put in order. -/
def LogSt.settle (g : LogSt) : LogSt :=
  let k := g.store.length - g.fresh
  { g with store := g.store.take k ++ inOrder (g.store.drop k), fresh := 0 }

/-- A record as Table 18.3 fills it at this cycle. -/
def State.mkRec (s : State) (code cls parties : Nat) (detail : List Nat) : FaultRec :=
  { code := code, cls := cls, parties := parties, seq := nextSeq s.log.newest, tsc := s.tmr.tsc,
    start := s.log.start, detail := fit 0 4 (detail.map (· % 65536)), context := s.context }

/-- One record placed, with its ATTN event (R562, R540). -/
def State.place (s : State) (r : FaultRec) : State × Bool :=
  let (g, lost) := s.log.put r
  ((({ s with log := g } : State).event (if r.cls = 0 then 1 else 0)), lost)

/-- One second in reference ticks (R562). -/
def secTicks : Nat := 25000000

/-- Record 0x0050 is due: none in the preceding second (R562). -/
def State.dropDue (s : State) : Bool :=
  match s.log.lastDropTsc with
  | none => true
  | some t => secTicks ≤ s.age t

/-- Record 0x0050 with the drops since the previous one (R562). -/
def State.reportDrops (s : State) : State :=
  let n := min 65535 s.log.unreported
  let s := s.modLog (fun g => { g with unreported := 0, lastDropTsc := some s.tmr.tsc })
  (s.place (s.mkRec 0x0050 0 0 [n])).1

/-- A fault record written: placed in the store, and 0x0050 with it where a drop calls for it (R562). -/
def State.record (s : State) (code cls parties : Nat) (detail : List Nat := []) : State :=
  let (s, lost) := s.place (s.mkRec code cls parties detail)
  if lost && s.dropDue then s.reportDrops else s

/-- A NOTE-class record of the whole engine (PARTIES 0). -/
def State.note (s : State) (code : Nat) (detail : List Nat := []) : State := s.record code 0 0 detail

/-- A NOTE-class record about an item of an owner. -/
def State.noteItem (s : State) (code owner : Nat) (detail : List Nat := []) : State :=
  s.record code 0 (s.partyBits owner) detail

/-- A lane unit's record; the code is lane A's (R549). -/
def State.recordL (s : State) (l : Lane) (code cls : Nat) (detail : List Nat := []) : State :=
  s.record (code + laneOff l) cls (s.laneBits l) detail

/-- A lane unit's NOTE-class record. -/
def State.noteL (s : State) (l : Lane) (code : Nat) (detail : List Nat := []) : State :=
  s.recordL l code 0 detail

/-! ### Windows and memory -/

/-- Window n is enabled and used on this build (R14, R289). -/
def State.winOn (s : State) (w : Nat) : Bool :=
  (s.shadow.windows.getD w {}).enabled && !s.unused (s.shadow.party.winOwner.getD w 0) && decide (w < 16)

/-- Physical word address of an offset in a window (R287). -/
def State.winAddr (s : State) (w o : Nat) : Nat :=
  let r := s.shadow.windows.getD w {}
  r.base + (if r.len = 0 then 0 else o % r.len)

/-- A lane master's access to a window is suppressed (R17, R289): the window is disabled, or its owner in
force is not the master's party. -/
def State.fenced (s : State) (l : Lane) (w : Nat) : Bool :=
  !s.winOn w || s.winOwner w != s.partyOf l

/-- `n` words from offset `o` of a window of `len` words at `base`, in at most `k` pieces. -/
def wrapRead (m : Mem) (base len : Nat) : Nat → Nat → Nat → List Nat
  | 0, _, _ => []
  | k + 1, o, n =>
    if n = 0 then [] else Mem.words m (base + o) (min n (len - o)) ++ wrapRead m base len k 0 (n - (len - o))

/-- Words laid from offset `o` of a window on, in at most `k` pieces. -/
def wrapWrite (base len : Nat) : Nat → Mem → Nat → List Nat → Mem
  | 0, m, _, _ => m
  | k + 1, m, o, ws =>
    if ws.isEmpty then m
    else wrapWrite base len k (Mem.setWords m (base + o) (ws.take (len - o))) 0 (ws.drop (len - o))

/-- A destructive march runs: in SERVICE, or in bring-up step 5 (R295). -/
def State.marching (s : State) : Bool := s.mem.tstat = .destructive || (s.power.phase = .bringup && s.power.stage = 5)

/-- `n` words of a window from an offset, going on at its base as often as they reach its end (R287). Within a
destructive march a row reads as the march has left it (R292). -/
def State.winRead (s : State) (w o n : Nat) : List Nat :=
  let r := s.shadow.windows.getD w {}
  if r.len = 0 then List.replicate n 0
  else
    let ws := wrapRead s.bank r.base r.len (n / r.len + 2) (o % r.len) n
    if s.marching then ws.mapIdx (fun i v => (marchHeld s.mem.tpos ((r.base + (o + i) % r.len) / 8192)).getD v) else ws

/-- Words written into a window from an offset, going on at its base as often as they reach its end (R287). -/
def State.winWrite (s : State) (w o : Nat) (ws : List Nat) : State :=
  let r := s.shadow.windows.getD w {}
  if r.len = 0 then s
  else { s with bank := wrapWrite r.base r.len (ws.length / r.len + 2) s.bank (o % r.len) ws }

/-- Bank, column and row of a physical word address (R280). -/
def bankOf (a : Nat) : Nat := a % 32
def colOf (a : Nat) : Nat := a / 32 % 256
def rowOf (a : Nat) : Nat := a / 8192 % 512

/-- MEM.FENCE after a suppressed access (Table 10.8). -/
def State.noteFence (s : State) (l : Lane) (master w : Nat) : State :=
  s.modMem (fun m => { m with fMaster := master, fWin := w, fLane := l == .b })

/-! ### Free values -/

/-- The next free value's index (the model's own counter). -/
def State.takeFree (s : State) : State := { s with free := s.free + 1 }

/-! ### Outputs of the power stage -/

/-- The place of an output in PWR.OUT (Table 6.8). -/
def outIdx : Output → Nat
  | .headA => 0
  | .headB => 1
  | .magA => 2
  | .magB => 3
  | .aux => 4

def headOut : Lane → Output
  | .a => .headA
  | .b => .headB

def magOut : Lane → Output
  | .a => .magA
  | .b => .magB

def State.setOut (s : State) (o : Output) (on : Bool) : State :=
  s.modPwr (fun p => { p with
    on := p.on.set (outIdx o) on
    limit := if on then p.limit else p.limit.set (outIdx o) false })

def State.outOn (s : State) (o : Output) : Bool := s.pwr.on.getD (outIdx o) false

/-- The output is at its current limit (R175, PWR.OUT.LIMIT). -/
def State.atLimit (s : State) (o : Output) : Bool := s.pwr.limit.getD (outIdx o) false

/-- The head's WF pairs are driven: drivers enabled, and HEAD_x not at its fold-back limit (R204). -/
def State.driving (s : State) (l : Lane) : Bool := (s.lane l).head.drivers && !s.atLimit (headOut l)

/-- The pixel path processes lines (PIX.STATUS.ACTIVE): in SMOULDER only while a line is being read. -/
def State.pixActive (s : State) (l : Lane) : Bool :=
  let x := s.lane l
  x.pix.active && !(x.mode.mode = .smoulder && x.reading.isNone)

/-- A lane's WIRING flags (Table 6.8). -/
def State.wiring (s : State) : Lane → Nat
  | .a => s.pwr.wiringA
  | .b => s.pwr.wiringB

def State.setWiring (s : State) (l : Lane) (w : Nat) : State :=
  match l with
  | .a => s.modPwr (fun p => { p with wiringA := w })
  | .b => s.modPwr (fun p => { p with wiringB := w })

/-- One WIRING flag set or cleared. -/
def State.setWire (s : State) (l : Lane) (i : Nat) (b : Bool) : State :=
  let w := s.wiring l
  s.setWiring l (if b then w ||| 2 ^ i else if bit w i then w - 2 ^ i else w)

end Sys2Proof.Machine
end

