-- ==== Sys2Proof/Machine/Flags.lean ====
section
/-!
DEFINITION. Parts of what every command's effect ends with: unit epochs (R531, R532, Table 17.7), the event
bits that follow a change of state (Table 17.11), and the pins FAULT_N (R571) and ATTN_N (R541).
-/

namespace Sys2Proof.Machine

/-! ### Light state that other rules read -/

/-- An owner's lane is in its guarded span (14, after R423). -/
def State.guarded (s : State) (owner : Nat) : Bool :=
  (owner = 1 && s.lux.guardA) || (owner = 2 && s.lux.guardB)

def State.chRec (s : State) (n : Nat) : LightChRec := s.shadow.lightch.getD n {}

/-- The LIGHTHEAD record of an address, if it has one and this build uses it (R4, R14). -/
def State.headRec (s : State) (a : Nat) : Option LightHeadRec :=
  if s.unused (s.shadow.party.headOwner.getD a 0) then none
  else s.shadow.lighthead.find? (fun r => r.addr == a)

/-- Channel n is enabled on this build (R4, R14). -/
def State.chOn (s : State) (n : Nat) : Bool :=
  decide (n < 8) && (s.chRec n).enabled && !s.unused (s.shadow.party.chOwner.getD n 0)

/-- A scan-lit channel in its lane's guarded span (R424, R452). -/
def State.chGuarded (s : State) (n : Nat) : Bool := (s.chRec n).scanLit && s.guarded (s.chOwner n)

/-- LUX.CHn_CFG.DRIVE (R424): true for PWM. -/
def State.chPwm (s : State) (n : Nat) : Bool := (s.chRec n).pwm && !s.chGuarded n

/-- LUX.CHn_EMB.MODE (R452): true for SHUTDOWN-ONLY. -/
def State.chShutOnly (s : State) (n : Nat) : Bool := s.chGuarded n || (s.chRec n).outMode != 0

/-- A head's Ember mode (R452): true for SHUTDOWN-ONLY. -/
def State.headShutOnly (s : State) (a : Nat) : Bool :=
  match s.headRec a with
  | some r => r.scanLit && s.guarded (s.headOwner a)
  | none => false

/-- The party of a photometric group: its reference channel's owner. -/
def State.groupParty (s : State) (k : Nat) : Nat :=
  let r := s.shadow.photo.getD k {}
  if r.refChan < 24 then s.hkOwner r.refChan else 0

def State.hkChan (s : State) (n : Nat) : HkChan := s.hk.ch.getD n {}

/-- Every member of group k is a lane B item of a BLX-1416 (R465). -/
def State.groupDead (s : State) (k : Nat) : Bool :=
  let ch := (List.range 8).filter (fun n => (s.chRec n).enabled && (s.chRec n).group = k)
  let hd := (s.shadow.lighthead.filter (fun r => r.group = k)).map LightHeadRec.addr
  (!ch.isEmpty || !hd.isEmpty) && ch.all (fun n => s.unused (s.shadow.party.chOwner.getD n 0))
    && hd.all (fun a => s.unused (s.shadow.party.headOwner.getD a 0))

/-- The reference of group k in use: LUX.MREFn for a management group (R447, Table 14.7). -/
def State.groupRef (s : State) (k : Nat) : Int :=
  if s.groupParty k = 0 && (s.shadow.photo.getD k {}).loopOn then signed 16 (s.lux.mref.getD k 0)
  else (s.lux.grp.getD k {}).ref

/-- LUX.GRPn_STAT.RUN: the loop of a group runs (R447), outside a holdover (R158). -/
def State.groupRuns (s : State) (k : Nat) : Bool :=
  let r := s.shadow.photo.getD k {}
  let lane := fun (x : LaneSt) => capturing x.mode.mode && !x.mode.entering && !s.clk.hold
  r.loopOn && decide (r.refChan < 24) && !s.groupDead k && decide (0 < s.groupRef k) &&
    match s.groupParty k with
    | 1 => lane s.laneA
    | 2 => lane s.laneB
    | _ => true

/-- Bring-up or the full steps of an engine reset, before READY; and before the light of step 11. -/
def State.starting (s : State) : Bool := s.power.phase = .bringup || s.power.phase = .engineReset
def State.preLight (s : State) : Bool := s.starting && decide (s.power.stepDone < 11)

/-! ### Epochs -/

/-- POWER as an epoch sees it: 4 stands for the states Table 3.13 names no value for. -/
def State.powerKey (s : State) : Nat :=
  match s.power.phase with
  | .bringup | .engineReset => 0
  | .run => 1
  | .powerDown | .mainsLoss => 2
  | .sleepEntry => 3
  | _ => 4

/-- A CALSET field's four bits (Table 2.15). -/
def calBits (c : CalSet) : Nat := flag c.present 0 + flag c.slotY 1 + flag c.other 2 + flag (c.badX || c.badY) 3

/-- LINK.STATE.STATE's encoding (Table 12.19). -/
def linkCode : LinkState → Nat
  | .down => 0
  | .detect => 1
  | .train => 2
  | .config => 3
  | .up => 4

/-- MEM.TSTAT.STATE's encoding (Table 10.8). -/
def tallyCode : TallyRun → Nat
  | .none => 0
  | .destructive => 1
  | .preserving => 2
  | .reload => 3

/-- A repair entry as MEM.REPAIR shows it (Table 10.8). -/
def repairWord (r : Repair) : Nat := bits r.row 8 0 + flag r.suspect 14 + flag r.valid 15

/-- The fields of a lane's units that Table 17.7 lists, unit `k` = 0 HEAD, 1 PIX, 2 TILL/LINK, 3 AXIS. -/
def State.laneTracked (s : State) (l : Lane) : Nat → List Nat :=
  let x := s.lane l
  fun
  | 0 => [modeCode x.mode.mode, b2n x.mode.entering, b2n x.mode.ending, b2n x.mode.trip,
      b2n x.mode.halted, b2n x.head.supply, b2n (s.driving l), x.head.idState]
  | 1 => [b2n (s.pixActive l), x.pix.set, x.cal.state, b2n x.cal.pending, x.cal.result]
  | 2 => [linkCode x.link.st, b2n x.link.resync, modeCode x.mode.mode]
  | _ => [b2n x.axis.encOk, b2n x.axis.refLost, b2n x.axis.retry, x.axis.rung]

/-- The fields of a unit whose change advances its epoch (Table 17.7); events have marks instead. -/
def State.tracked (s : State) (u : Nat) : List Nat :=
  match u with
  | 0 => [s.powerKey, s.engineMode, b2n s.sys.service, b2n s.sys.haltReq, b2n s.sys.haltPend,
      b2n s.sys.haltActive]
  | 1 => [b2n s.pwr.pfw, b2n s.pwr.peOk, b2n s.pwr.busOk, b2n s.pwr.overload, s.pwr.wiringA,
      s.pwr.wiringB, s.pwr.wiringL, b2n s.pwr.busSwap, b2n s.pwr.busShort, b2n s.pwr.auxShort]
      ++ s.pwr.on.map b2n
  | 2 => [b2n s.clk.locked, b2n s.clk.hold, b2n s.clk.onRef, b2n s.clk.pause, s.clk.pattern,
      s.clk.fcode, s.clk.spread, b2n s.clk.refLost]
  | 3 => tallyCode s.mem.tstat :: (s.mem.repair.map repairWord ++ (List.range 16).map s.winOwner)
  | 4 => []
  | 5 => [b2n s.hk.a.failed, b2n s.hk.b.failed, b2n s.hk.a.unlocked, b2n s.hk.b.unlocked]
      ++ s.hk.ch.flatMap (fun c => [b2n c.fault, c.cause])
  | 6 => (List.range 8).flatMap (fun n => [b2n (s.chPwm n), s.owner (s.shadow.party.chOwner.getD n 0),
        b2n (s.chShutOnly n)])
      ++ s.lux.ch.map (fun c => b2n c.latch)
      ++ s.lux.head.flatMap (fun h => [b2n h.reach, b2n h.mismatch, b2n h.latch])
      ++ (List.range 8).map (fun k => b2n (s.groupRuns k))
      ++ s.lux.grp.map (fun g => b2n g.pinned)
  | 7 => s.laneA.sets.map calBits ++ s.laneB.sets.map calBits
  | _ => if u < 12 then s.laneTracked .a (u - 8) else s.laneTracked .b (u - 12)

/-- The epoch that follows: 0xFF goes to 0x01 (R531). -/
def nextEpoch (e : Nat) : Nat := if e ≥ 255 then 1 else e + 1

/-- Epochs stand at 0x00 from a full start's first step to READY, and before it begins (R531). -/
def epochsHeld (s0 s1 : State) : Bool :=
  s0.power.phase = .bringup || s1.power.phase = .bringup || s1.power.phase = .off || s1.power.phase = .resetLow

/-- Units whose epoch advances between two states: marked, or a tracked field changed (R531). -/
def State.stirred (s0 s1 : State) (u : Nat) : Bool :=
  !epochsHeld s0 s1 && (s1.sys.marks.contains u || s0.tracked u != s1.tracked u)

/-- Every epoch advanced at most once; a link epoch's advance owes a STATUS (R354). -/
def settleEpochs (s0 s1 : State) : State :=
  let e := (List.range 16).map (fun u =>
    if s0.stirred s1 u then nextEpoch (s1.sys.epochs.getD u 0) else s1.sys.epochs.getD u 0)
  let owe := fun (l : Lane) (r : LinkRun) =>
    if s0.stirred s1 (tillUnit l) then { r with statusDue := r.told != e[tillUnit l]? } else r
  ((s1.modSys (fun y => { y with epochs := e, marks := [] })).modLrun .a (owe .a)).modLrun .b (owe .b)

/-! ### Events -/

/-- Event bits that a change of state sets (Table 17.11, bits 2, 3 and 10 to 15). -/
def changedEvents (s0 s1 : State) : List Nat :=
  (if s0.laneA.mode.mode != s1.laneA.mode.mode then [2] else [])
    ++ (if s0.laneB.mode.mode != s1.laneB.mode.mode then [3] else [])
    ++ (if s0.clk.hold != s1.clk.hold || s0.clk.onRef != s1.clk.onRef then [10] else [])
    ++ (if s0.pwr.pfw != s1.pwr.pfw || s0.pwr.peOk != s1.pwr.peOk || s0.pwr.mainsLow != s1.pwr.mainsLow
          || s0.pwr.freqOut != s1.pwr.freqOut then [11] else [])
    ++ (if s0.laneA.link.st != s1.laneA.link.st then [12] else [])
    ++ (if s0.laneB.link.st != s1.laneB.link.st then [13] else [])
    ++ (if s1.sys.ready && !s0.sys.ready then [14] else [])
    ++ (if s0.sys.haltActive != s1.sys.haltActive then [15] else [])

/-- The change of state is a loss of what was powered, not an occurrence of Table 17.11. -/
def losing (s0 s1 : State) : Bool :=
  s1.power.phase = .off || s1.power.phase = .resetLow || (s1.power.phase = .bringup && s0.power.phase != .bringup)

def settleEvents (s0 s1 : State) : State :=
  if losing s0 s1 then s1 else (changedEvents s0 s1).foldl State.event s1

/-! ### Pins -/

/-- The conditions of R571, in the order of SYS.FLOG2.CAUSE. -/
def State.faultCauses (s : State) : List Bool :=
  [s.sys.safe, s.power.xtalHeld, s.laneA.mode.trip, s.laneB.mode.trip,
   s.log.store.any (fun r => decide (2 ≤ r.cls) && s.log.unacked r)]

/-- FAULT_N's level (true is high): R571, its last level in SLEEP (R86), high while nothing is powered. -/
def State.faultPin (s : State) : Bool :=
  match s.power.phase with
  | .off => true
  | .sleep => s.sys.faultN
  | _ => !(s.faultCauses.any id)

/-- ATTN_N's level (true is high): R541. -/
def State.attnPin (s : State) : Bool := !(s.sys.ready && (s.sys.events &&& s.sys.mask) != 0)

def settlePins (s : State) : State :=
  s.modSys (fun y => { y with faultN := s.faultPin, attnN := s.attnPin })

end Sys2Proof.Machine
end

