-- ==== Sys2Proof/Machine/LinkOps.lean ====
section
/-!
DEFINITION. The Till's pointers and slots (11) and the forward side of the Trawin link (12): frames,
the transmit queue, flush and abandonment.
-/

namespace Sys2Proof.Machine

/-! ### Pointers (R304 to R306) -/

def State.tillSec (s : State) (l : Lane) : TillSec := (s.img l).till

/-- 2^s, the ring's words. -/
def State.tillSize (s : State) (l : Lane) : Nat := 2 ^ (s.tillSec l).log2

/-- The fill (R304). -/
def State.tillFill (s : State) (l : Lane) : Nat :=
  let m := 2 * s.tillSize l
  let t := (s.lane l).till
  (t.wptr % m + m - t.rptr % m) % m

/-- TILL.PEAK follows the fill (Table 11.5). -/
def State.tillPeak (s : State) (l : Lane) : State :=
  let f := s.tillFill l / 64
  s.modTill l (fun t => { t with peak := max t.peak f })

/-- Both copies of WPTR set. -/
def State.setWptr (s : State) (l : Lane) (p : Nat) : State :=
  let p := p % (2 * s.tillSize l)
  s.modTill l (fun t => { t with wptr := p, wptr2 := p })

/-- Both copies of RPTR advanced by the words fetched (R309). -/
def State.advRptr (s : State) (l : Lane) (n : Nat) : State :=
  let p := ((s.lane l).till.rptr + n) % (2 * s.tillSize l)
  s.modTill l (fun t => { t with rptr := p, rptr2 := p })

/-- Both copies of both pointers to 0, nothing queued (R306, R320). -/
def State.clearTill (s : State) (l : Lane) : State :=
  s.modTill l (fun t => { t with wptr := 0, rptr := 0, wptr2 := 0, rptr2 := 0, slots := [] })

/-- TILL.STATUS.RESUME (R317). -/
def State.tillResume (s : State) (l : Lane) : Bool := s.tillFill l = 0 || decide (s.tillFill l < (s.tillSec l).resume)

/-- Words of a slot of the ring, from an offset in the slot. -/
def State.slotRead (s : State) (l : Lane) (start off n : Nat) : List Nat :=
  s.winRead (s.tillSec l).window ((start + off) % s.tillSize l) n

def State.slotWrite (s : State) (l : Lane) (start off : Nat) (ws : List Nat) : State :=
  s.winWrite (s.tillSec l).window ((start + off) % s.tillSize l) ws

/-! ### Frames (R340, Tables 12.5 to 12.13) -/

/-- 0xFFFF_FFFF stands for no line. -/
def lineOr (o : Option Nat) : Nat := o.getD 0xFFFFFFFF

/-- Credits held (R356). -/
def LinkSt.held (k : LinkSt) : Nat := (k.granted + 65536 - k.used % 65536) % 65536

/-- LINK.RUN.SEAMS and ABANDONS count to 255 (Table 12.19). -/
def satByte : Nat := 255

/-- The effect of a forward frame on the link's view of the run. -/
def frameEffect (type : Nat) (f : List Nat) (x : LaneSt) : LaneSt :=
  let num := f.getD 1 0 + 65536 * f.getD 2 0
  match type with
  | 0x01 => { x with lrun := { x.lrun with opened := true, openLine := none, complete := 0, lastEnd := none } }
  | 0x02 => { x with lrun := { x.lrun with opened := false, openLine := none } }
  | 0x03 => { x with lrun := { x.lrun with openLine := some (f.getD 2 0 + 65536 * f.getD 3 0) } }
  | 0x05 => { x with
      lrun := { x.lrun with openLine := none, complete := x.lrun.complete + 1 }
      link := { x.link with sent := x.lrun.openLine } }
  | 0x06 => { x with
      lrun := { x.lrun with seamN := x.lrun.seamN + 1 }
      link := { x.link with seams := satInc satByte x.link.seams } }
  | 0x07 => { x with
      lrun := { x.lrun with
        openLine := if x.lrun.openLine = some num then none else x.lrun.openLine, abandonN := x.lrun.abandonN + 1 }
      link := { x.link with abandons := satInc satByte x.link.abandons } }
  | _ => x

/-- One forward frame on the wire (R340). SCAN_BEGIN and SCAN_END advance the LINK epoch (R355). -/
def State.wire (s : State) (l : Lane) (type : Nat) (f : List Nat) : State :=
  let r := (s.lane l).lrun
  let body := (type + 256 * (r.seqNo % 256)) :: f
  let s := s.modLrun l (fun r => { r with tx := r.tx ++ [body ++ [crcLink body]], seqNo := (r.seqNo + 1) % 256 })
  let s := s.modLane l (frameEffect type f)
  if type = 0x01 || type = 0x02 then s.mark (tillUnit l) else s

/-- The LINK epoch as this cycle leaves it, an advance already called for included (R355). -/
def State.linkEpoch (s : State) (l : Lane) : Nat :=
  let e := s.sys.epochs.getD (tillUnit l) 0
  if s.sys.marks.contains (tillUnit l) then nextEpoch e else e

/-- Fields of an engine STATUS (Table 12.13). -/
def State.statusFields (s : State) (l : Lane) : List Nat :=
  let x := s.lane l
  let last := match x.lrun.lastEnd with
    | some e => (if e.aborted then 2 else 1) + 256 * e.cause
    | none => 0
  [modeCode x.mode.mode + flag x.lrun.opened 4 + flag x.link.resync 5 + flag x.mode.halted 6
      + flag x.mode.ending 7,
   s.linkEpoch l, x.link.scanId]
    ++ leWords 2 (lineOr x.link.sent)
    ++ [if x.lrun.opened then 0 else last, s.tillFill l / 1024 % 65536, x.link.held]

/-- A STATUS frame sent (R354). -/
def State.sendStatus (s : State) (l : Lane) : State :=
  let e := some (s.linkEpoch l)
  (s.wire l 0x08 (s.statusFields l)).modLrun l (fun r =>
    { r with statusDue := false, told := e, statusTsc := if r.told = e then r.statusTsc else s.tmr.tsc })

/-- The forward strands carry frames: UP, outside reference intervals. -/
def State.linkLive (s : State) (l : Lane) : Bool := (s.lane l).link.st = .up && !s.clk.interval

/-- Frames of the run may go out: not in a resync (R363). -/
def State.linkRuns (s : State) (l : Lane) : Bool := s.linkLive l && !(s.lane l).link.resync

/-- The STATUS of an epoch that has advanced goes out in the first gap, before any other frame (R354). -/
def State.tellEpoch (s : State) (l : Lane) : State :=
  let r := (s.lane l).lrun
  if s.linkLive l && (r.statusDue || (s.sys.marks.contains (tillUnit l) && r.told != some (s.linkEpoch l))) then
    s.sendStatus l
  else s

/-- Queued control frames go out until a DATA burst stands first. -/
def State.pumpN : Nat → State → Lane → State
  | 0, s, _ => s
  | n + 1, s, l =>
    match (s.lane l).lrun.txq with
    | .frame t f :: q => State.pumpN n (((s.modLrun l (fun r => { r with txq := q })).wire l t f).tellEpoch l) l
    | _ => s


/-- ABANDON fields (Table 12.12). -/
def State.abandonFields (s : State) (l : Lane) (num cause : Nat) (cont notOpen : Bool) : List Nat :=
  [(s.lane l).link.scanId] ++ leWords 2 num ++ [cause + flag cont 8 + flag notOpen 9]

/-- The later of two line numbers, none standing before any. -/
def laterLine : Option Nat → Option Nat → Option Nat
  | some a, some b => some (max a b)
  | a, b => a.or b

/-- The last complete line that a SCAN_END names: on either link where a GANG-SCAN ends under R135 (R591), by an
Ember shutdown too (log 111). -/
def State.lastSent (s : State) (l : Lane) (e : RunEnd) : Option Nat :=
  if s.sys.gang && e.aborted && (e.cause = 5 || e.cause = 3) then laterLine s.laneA.link.sent s.laneB.link.sent else (s.lane l).link.sent

/-- SCAN_END fields (Table 12.7). -/
def State.scanEndFields (s : State) (l : Lane) (e : RunEnd) : List Nat :=
  let x := s.lane l
  [x.link.scanId, (if e.aborted then 2 else 1) + flag e.pfw 2 + 256 * e.cause]
    ++ leWords 2 (lineOr (s.lastSent l e)) ++ leWords 2 x.lrun.complete
    ++ [x.lrun.seamN % 65536, x.lrun.abandonN % 65536, e.code] ++ leWords 3 s.tmr.tsc

/-- The SCAN_END that waited for the end of a resync, as nothing else of the run waits (R344, R363). -/
def State.sayEnd (s : State) (l : Lane) : State :=
  match (s.lane l).lrun.endOwed, (s.lane l).lrun.txq with
  | some e, [] => (s.wire l 0x02 (s.scanEndFields l e)).modLrun l (fun r => { r with endOwed := none })
  | _, _ => s

/-- Whatever may go out now: an owed STATUS first (R354), then queued control frames. -/
def State.pump (s : State) (l : Lane) : State :=
  let s := s.tellEpoch l
  if s.linkRuns l then (State.pumpN ((s.lane l).lrun.txq.length) s l).sayEnd l else s

/-- A control frame queued behind what waits. -/
def State.sendFrame (s : State) (l : Lane) (type : Nat) (f : List Nat) : State :=
  (s.modLrun l (fun r => { r with txq := r.txq ++ [.frame type f] })).pump l

/-- A control frame that goes out before what waits. -/
def State.frameFirst (s : State) (l : Lane) (type : Nat) (f : List Nat) : State :=
  (s.modLrun l (fun r => { r with txq := .frame type f :: r.txq })).pump l

/-- SCAN_END of a run stopped at once: with the link UP now or, in a resync, after its end; otherwise the STATUS at UP
reports that the run has ended (R344, R363, R376). -/
def State.stopScan (s : State) (l : Lane) (e : RunEnd) : State :=
  let s := if s.linkRuns l then s.wire l 0x02 (s.scanEndFields l e)
    else if (s.lane l).link.st = .up then s.modLrun l (fun r => { r with endOwed := some e })
    else s
  s.modLrun l (fun r => { r with lastEnd := some e, opened := false })

/-! ### Flush (R320 to R323) -/

/-- An ABANDON frame. -/
def isAbandon : TxItem → Bool
  | .frame t _ => t = 0x07
  | .data _ => false

/-- What stays of a transmit queue at a flush: frames already complete in the buffer, the first burst, and ABANDON
frames, which are no words of the Till (R321). -/
def keepAtFlush : List TxItem → List TxItem
  | [] => []
  | .data w :: q => .data w :: q.filter isAbandon
  | .frame t f :: q => if t = 0x03 || t = 0x06 then [] else .frame t f :: keepAtFlush q

/-- The line a frame names: ABANDON's (Table 12.12), LINE_BEGIN's (Table 12.9). -/
def abandonNum (f : List Nat) : Nat := f.getD 1 0 + 65536 * f.getD 2 0
def beginNum (f : List Nat) : Nat := f.getD 2 0 + 65536 * f.getD 3 0

/-- The line open on the wire once a kept queue has gone out. -/
def openAfter (o : Option Nat) (q : List TxItem) : Option Nat :=
  if q.any (fun i => match i with
    | .frame t f => t = 0x05 || (t = 0x07 && o = some (abandonNum f))
    | .data _ => false) then none else o

/-- The bursts and frames of a queue, all to go out now: bursts use their credits (R321). -/
def State.drainQueue : Nat → State → Lane → State
  | 0, s, _ => s
  | n + 1, s, l =>
    match (s.lane l).lrun.txq with
    | .frame t f :: q => State.drainQueue n ((s.modLrun l (fun r => { r with txq := q })).wire l t f) l
    | .data f :: q =>
      let s := (s.modLrun l (fun r => { r with txq := q })).modLink l (fun k =>
        { k with used := (k.used + 1) % 65536 })
      State.drainQueue n (s.wire l 0x04 f) l
    | [] => s

/-- What waits on a link that carries the run's frames goes out, bursts with their credits, and the SCAN_END that waits
behind it. -/
def State.sendOut (s : State) (l : Lane) : State :=
  if s.linkRuns l then (State.drainQueue ((s.lane l).lrun.txq.length) (s.tellEpoch l) l).sayEnd l else s

/-- The link's part of a flush: the burst in the buffer completes, then ABANDON for the open line. -/
def State.flushLink (s : State) (l : Lane) (cause : Nat) : State :=
  let x := s.lane l
  let keep := keepAtFlush x.lrun.txq
  let q := match openAfter x.lrun.openLine keep with
    | some n => keep ++ [.frame 0x07 (s.abandonFields l n cause false false)]
    | none => keep
  let s := s.modLrun l (fun r => { r with txq := q })
  if s.linkRuns l then State.drainQueue q.length (s.tellEpoch l) l else s

/-- Till and link flushed; the line in the pixel path is no longer written (R320, R253). -/
def State.flushTill (s : State) (l : Lane) (cause : Nat) : State :=
  let s := ((s.clearTill l).giveExposure l).modLane l (fun x => { x with reading := none })
  s.flushLink l cause

/-- After a loss of the link and back UP, the line it left open on the wire is the one that a flush abandons (R375). -/
def State.recallLine (s : State) (l : Lane) : State :=
  let r := (s.lane l).lrun
  if r.lost && (s.lane l).link.st = .up then
    s.modLrun l (fun y => { y with lost := false, owed := none, openLine := r.owed.map Prod.fst })
  else s

/-- A flush with its record 0xA002 (Table 11.4), where the Till or the link holds anything. -/
def State.flushNoted (s : State) (l : Lane) (detail cause : Nat) : State :=
  let s := s.flushTill l cause
  (s.noteL l 0xA002 [detail]).modTill l (fun t => { t with cause := detail })

/-- An abandoned line of a run that continues: its slot and those after it are released (R326), and the
frames of that line that wait are withdrawn. -/
def State.releaseFrom (s : State) (l : Lane) (num : Nat) : State :=
  let t := (s.lane l).till
  match t.slots.find? (fun q => q.num == num) with
  | none => s
  | some q =>
    let m := 2 * s.tillSize l
    -- RPTR has passed the slot's start exactly when the slot's header has been fetched
    let p := if q.begun then t.rptr % m else q.start % m
    let gone := t.slots.dropWhile (fun r => r.num != num)
    -- a SEAM that waited with a released slot is owed to the line that is captured in its place (R351)
    ((s.setWptr l p).modTill l (fun t => { t with slots := t.slots.takeWhile (fun r => r.num != num) })).modLane l
      (fun x => { x with owedSeams := gone.flatMap Slot.seams ++ x.owedSeams })

/-- ABANDON of a line that goes on under its number later (R156, R375). Where a loss of the link owes one for it
already, that one takes this cause (12, coincidences). -/
def State.abandonLine (s : State) (l : Lane) (num cause : Nat) (cont : Bool) : State :=
  let x := s.lane l
  let s := s.releaseFrom l num
  if (x.lrun.owed.map Prod.fst) = some num then s.modLrun l (fun r => { r with owed := some (num, cause) })
  else
    let keep := (x.lrun.txq.takeWhile (fun i => match i with
      | .frame t f => !(t = 0x03 && beginNum f = num)
      | .data _ => x.lrun.openLine != some num))
    let s := s.modLrun l (fun r => { r with txq := keep })
    if x.lrun.openLine = some num then s.sendFrame l 0x07 (s.abandonFields l num cause cont false) else s.pump l

/-! ### Loss of the connection (R373 to R376) -/

/-- Frames that a loss of the link leaves queued: those of no line (R375 releases the open line's slot and
every slot after it). -/
def keepAtLoss (o : Option Nat) (q : List TxItem) : List TxItem :=
  match o with
  | none => q
  | some _ => q.filter (fun i => match i with
    | .frame t _ => t = 0x01 || t = 0x02 || t = 0x07
    | .data _ => false)

/-- SEAM frames that wait in a queue. -/
def seamsIn (q : List TxItem) : List (List Nat) :=
  q.filterMap (fun i => match i with
    | .frame t f => if t = 0x06 then some f else none
    | .data _ => none)

/-- A line has sent LINE_BEGIN and is neither ended nor abandoned on the link (TILL.STATUS.OPEN, Table 11.5): its
ABANDON may wait for UP or for the end of a resync. -/
def LinkRun.lineOut (r : LinkRun) : Bool :=
  r.openLine.isSome || r.owed.isSome || r.txq.any (fun i => match i with
    | .frame t f => t = 0x07 && !bit (f.getD 3 0) 9
    | .data _ => false)

/-- A queue holds an ABANDON of a line already. -/
def abandonsIn (n : Nat) (q : List TxItem) : Bool :=
  q.any (fun i => match i with
    | .frame t f => t = 0x07 && abandonNum f = n
    | .data _ => false)

/-- A lane as its link leaves UP: with a run open, an ABANDON is owed for the open line, and the SEAM frames that
waited behind it are owed again (R351, R375). -/
def LaneSt.lose (x : LaneSt) : LaneSt :=
  let r := x.lrun
  let q := keepAtLoss r.openLine r.txq
  if !r.opened then { x with lrun := { r with openLine := none, txq := q, endOwed := none } }
  else
    let owed := r.owed.or (r.openLine.bind (fun n => if abandonsIn n r.txq then none else some (n, 17)))
    { x with
      lrun := { r with lost := true, owed := owed, openLine := none, txq := q, endOwed := none }
      owedSeams := if r.openLine.isSome then seamsIn r.txq ++ x.owedSeams else x.owedSeams }

/-! ### States (Table 12.3) -/

/-- The link goes to DOWN: strands in electrical idle, everything of the connection but what the magazine last said
forgotten; a run on it has lost its link (R376). -/
def State.linkDown (s : State) (l : Lane) : State :=
  let s := s.modLink l (fun k => { k with
    st := .down, resync := false, granted := 0, used := 0, maxCred := if k.st = .up then 0 else k.maxCred })
  let s := s.modLane l LaneSt.lose
  s.modLrun l (fun r => { r with
    ts1 := 0, ts2 := 0, lastTs2 := none, kLock := false, kBad := [], waiting := false, badCount := 0, discCount := 0
    statusDue := false, told := none, gotStatus := false, syncDue := false, txq := if r.opened then r.txq else [] })

/-- DOWN is left once READY is high, MAG_x is on and the lane is configured (R336). -/
def State.linkWake (s : State) (l : Lane) : State :=
  if (s.lane l).link.st = .down && s.sys.ready && s.outOn (magOut l) && s.configured l
      && !bit (s.wiring l) 4 then
    s.modLink l (fun k => { k with st := .detect })
  else s

/-- TRAIN entered: TS1 counted from none (Table 12.3). -/
def State.linkTrain (s : State) (l : Lane) : State :=
  (s.modLink l (fun k => { k with st := .train, resync := false })).modLrun l (fun r =>
    { r with ts1 := 0, ts2 := 0, lastTs2 := none, badCount := 0, discCount := 0 })

/-- The bytes of the ordered set that the forward strands repeat in TRAIN and CONFIG (Table 12.4); none while they
idle electrically or carry frames. -/
def State.forwardSet (s : State) (l : Lane) : Option (List Nat) :=
  let x := s.lane l
  let set := fun (b0 : Nat) =>
    some (fit 0 14 [b0, 1, flag (l == .b) 0 + flag (s.sys.gang && l == .b) 1 + 4 * ((s.img l).link.stripe % 4),
      b2n x.lrun.kLock])
  if x.lrun.waiting then none
  else
    match x.link.st with
    | .train => set 0x4A
    | .config => set 0x45
    | _ => none

/-- The most credits that may be held: the maximum of the magazine's TS2 (R357). -/
def LinkRun.bound (r : LinkRun) : Nat := (r.lastTs2.map OrderedSet.maxCredits).getD 0

/-- K has lost sync: 4 invalid code groups fall within 64 consecutive characters, given their places in order
(R372). -/
def syncLost : List Nat → Bool
  | a :: b :: c :: d :: t => decide (d < a + 64) || syncLost (b :: c :: d :: t)
  | _ => false

/-- A resync starts (R363); the epoch's advance brings the STATUS. -/
def State.startResync (s : State) (l : Lane) : State :=
  ((s.modLink l (fun k => { k with resync := true, disagree := satInc satByte k.disagree })).modLrun l
    (fun r => { r with badCount := 0 })).mark (tillUnit l)

end Sys2Proof.Machine
end

