-- ==== Sys2Proof/Machine/FlashOps.lean ====
section
/-!
DEFINITION. The fault log ring in U20 (02, 18): records as bytes, which operation comes next (R563 to R567,
R66, R67), and what an operation's end does (R275, R567).
-/

namespace Sys2Proof.Machine

/-! ### Places -/

def ringBase : Nat := 0x630000
def ringSectors : Nat := 256

/-- Address of a ring sector. -/
def ringAddr (k : Nat) : Nat := ringBase + 4096 * (k % ringSectors)

/-- Address of record position p (0 to 126) of a sector. -/
def recAddr (k p : Nat) : Nat := ringAddr k + 32 * (p + 1)

/-- Every byte of a range is 0xFF: no cell is listed there. -/
def erasedAt (m : Mem) (a n : Nat) : Bool := m.all (fun c => !(decide (a ≤ c.1) && decide (c.1 < a + n)))

def sectorErased (m : Mem) (k : Nat) : Bool := erasedAt m (ringAddr k) 4096

/-! ### Layouts -/

/-- The 32 bytes of a fault record (Table 18.3). -/
def FaultRec.bytes (r : FaultRec) : List Nat :=
  let b := leBytes 2 r.code ++ leBytes 1 r.cls ++ leBytes 1 r.parties ++ leBytes 4 r.seq ++ leBytes 6 r.tsc
    ++ leBytes 2 r.start ++ (fit 0 4 r.detail).flatMap (leBytes 2) ++ leBytes 2 r.context ++ [0, 0]
  b ++ leBytes 4 (crc32 b)

/-- The port words of a record (Table 18.3). -/
def FaultRec.words (r : FaultRec) : List Nat := bytesToWords r.bytes

/-- A sector header (Table 2.12). -/
def ringHeaderBytes (seq : Nat) : List Nat :=
  let b := [0x42, 0x4C, 0x58, 0x46] ++ leBytes 4 seq ++ List.replicate 20 0
  b ++ leBytes 4 (crc32 b)

/-- The sector sequence of a sector with a valid header. -/
def ringHeader (m : Mem) (k : Nat) : Option Nat :=
  let b := Mem.flash m (ringAddr k) 32
  if b.take 4 = [0x42, 0x4C, 0x58, 0x46] && u32 b 28 = crc32 (b.take 28) then some (u32 b 4) else none

/-- A record read back from a position; none where its CRC fails. -/
def ringRecord (m : Mem) (k p : Nat) : Option FaultRec :=
  let b := Mem.flash m (recAddr k p) 32
  if u32 b 28 = crc32 (b.take 28) then
    some
      { code := u16 b 0, cls := u8 b 2 % 8, parties := u8 b 3, seq := u32 b 4, tsc := leNat 6 (b.drop 8)
        start := u16 b 14, detail := [u16 b 16, u16 b 18, u16 b 20, u16 b 22], context := u16 b 24
        saved := true }
  else none

/-! ### What waits (R563, R565) -/

def byClass (above : Bool) (r : FaultRec) : Bool := !r.saved && (decide (1 ≤ r.cls) == above)

/-- The rate limit of R563 is lifted: from PFW, at sleep entry and in phase D3 (R565, R566). -/
def State.rateFree (s : State) : Bool :=
  s.power.phase = .mainsLoss || s.power.phase = .sleepEntry || (s.power.phase = .powerDown && s.power.stage = 3)

/-- NOTE records that may still be programmed within this second. -/
def State.noteRoom (s : State) : Nat :=
  if s.rateFree then 512
  else 32 - (s.log.noteTimes.countP (fun t => decide (s.age t < secTicks)))

/-- Pending records in programming order. -/
def State.pendingRecs (s : State) : List FaultRec :=
  let pfw := fun (r : FaultRec) => !r.saved && r.code == 0x1001 && s.power.phase == .mainsLoss
  let first := s.log.store.filter pfw
  let rest := s.log.store.filter (fun r => !pfw r)
  first ++ rest.filter (byClass true) ++ (rest.filter (byClass false)).take s.noteRoom

/-- Stage of the power-down that follows a start given up for OFF_REQ (R98). -/
def abandonedStart : Nat := 6

/-- The phase admits ring commands: up to the limits of sleep entry, D3 and hold-up, and none in SLEEP or before the
READY of a wake (R564 to R566); a start given up for OFF_REQ goes on to use a ring that step 4 has located (R99). -/
def State.ringPhase (s : State) : Bool :=
  match s.power.phase with
  | .off | .sleep | .resetLow | .wake => false
  | .sleepEntry => decide (s.power.stage ≤ 3)
  | .powerDown => decide (s.power.stage ≤ 3) || s.power.stage = abandonedStart
  | .mainsLoss => decide (s.power.stage ≤ 2)
  | _ => true

/-- Ring commands are allowed (R564, R565). -/
def State.ringAllowed (s : State) : Bool :=
  s.ledger.flashOk && s.log.ringOk && !s.clk.interval && s.flash.op.isNone && s.ringPhase

/-! ### Operations -/

def State.issue (s : State) (op : FlashOp) : State := s.modFlash (fun f => { f with op := some op })

/-- An operation that a calibration commit issues. -/
def FlashUse.ofCal (u : FlashUse) (l : Lane) : Bool :=
  match u with
  | .calErase k | .calPage k | .calRecord k => k = l
  | _ => false

/-- A retry that a reference interval held back is issued (R277), but from PFW none of a commit (R273). -/
def State.retryIssue (s : State) : State :=
  let drop := fun (op : FlashOp) => op.due && s.pwr.pfw && (op.use.ofCal .a || op.use.ofCal .b)
  s.modFlash (fun f => { f with op := (f.op.filter (fun op => !drop op)).map (fun op => { op with due := false }) })

/-- Record 0x7040 once per bring-up (R67). -/
def State.noteReclaim (s : State) (k : Nat) : State :=
  if s.flash.reclaim then s
  else (s.note 0x7040 [k % ringSectors]).modFlash (fun f => { f with reclaim := true })

/-- The header of sector k, erased first where it is not (R66, R67). Record 0x7040 is written also where a sector
that is not erased is first met after bring-up (DESIGN CHOICE, log 90). -/
def State.openSector (s : State) (k : Nat) : State :=
  let k := k % ringSectors
  if sectorErased s.flash.cells k then
    let b := ringHeaderBytes ((s.log.ringSeq + 1) % 2 ^ 32)
    s.issue { program := true, addr := ringAddr k, data := b, use := .ringHeader k }
  else (s.noteReclaim k).issue { program := false, addr := ringAddr k, use := .ringReclaim k }

/-- A page program of the first pending records, to the end of the page (R563). -/
def State.programPage (s : State) : State :=
  let p := s.log.ringPos
  let room := 8 - (p + 1) % 8
  let rs := (s.pendingRecs).take room
  if rs.isEmpty then s
  else
    let notes := rs.countP (fun r => r.cls == 0)
    let ts := List.replicate notes s.tmr.tsc
      ++ s.log.noteTimes.filter (fun t => decide (s.age t < secTicks))
    let s := s.modLog (fun g => { g with noteTimes := ts })
    let b := rs.flatMap FaultRec.bytes
    s.issue { program := true, addr := recAddr s.ledger.ringSector p, data := b, use := .ringPage (rs.map FaultRec.seq) }

/-- The sector ahead of the current one erased, once the ring allows it (R66). -/
def State.eraseAhead (s : State) (k : Nat) : State :=
  if s.ringAllowed then
    (s.modLog (fun g => { g with ahead := none })).issue { program := false, addr := ringAddr k, use := .ringErase k }
  else s.modLog (fun g => { g with ahead := some k })

/-- The ring's next operation, if one is due and allowed: an erase or a header that has waited first (R66), then
the records that wait. -/
def State.ringStep (s : State) : State :=
  let s := s.modLog LogSt.settle
  if !s.ringAllowed then s
  else
    match s.log.ahead with
    | some k => s.eraseAhead k
    | none =>
      if s.log.ringOpen && decide (127 ≤ s.log.ringPos) then s.openSector (s.ledger.ringSector + 1)
      else if s.pendingRecs.isEmpty then s
      else if !s.log.ringOpen then
        -- the first header of an erased ring goes to sector 0, unless it has failed there (R66, R567)
        s.openSector (if s.log.ringSeq = 0 && s.log.ringPos < 127 then 0 else s.ledger.ringSector + 1)
      else s.programPage

/-- LEDGER.RING follows the ring's place (Table 2.15). -/
def State.ringPlace (s : State) (pos : Nat) : State :=
  let pos := min 127 pos
  let s := s.modLog (fun g => { g with ringPos := pos })
  { s with ledger := { s.ledger with ringFree := 127 - pos } }

/-- A full sector calls for the next header at once, the ring being allowed (R66). -/
def State.ringFull (s : State) : State :=
  if 127 ≤ s.log.ringPos && s.ringAllowed then s.openSector (s.ledger.ringSector + 1) else s

/-- Bytes left by an operation that failed: no assumption is made about them (R275). -/
def State.scramble (s : State) (a n : Nat) : State :=
  let i := s.free
  let bs := (List.range n).map (fun k => (Config.flashAfter i (a + k)).toNat)
  ({ s with flash := { s.flash with cells := Mem.setFlash s.flash.cells a bs } }).takeFree

/-- The cells after an operation that succeeded. -/
def FlashOp.apply (op : FlashOp) (m : Mem) : Mem :=
  if op.program then Mem.program m op.addr op.data else Mem.eraseSector m op.addr

/-- A closed sector: 0x7042, and after the eighth the ring is off (R567). -/
def State.closeSector (s : State) (k : Nat) : State :=
  let s := (s.note 0x7042 [k]).modLog (fun g => { g with closed := g.closed + 1 })
  if 8 ≤ s.log.closed then (s.note 0x7043).modLog (fun g => { g with ringOk := false }) else s

/-- A ring operation that succeeded. -/
def State.ringDone (s : State) (u : FlashUse) : State :=
  match u with
  | .ringPage seqs =>
    let s := s.modLog (fun g => { g with store := g.store.map (fun r =>
      if seqs.contains r.seq then { r with saved := true } else r) })
    (s.ringPlace (s.log.ringPos + seqs.length)).ringFull
  | .ringHeader k =>
    let s := s.modLog (fun g => { g with ringOpen := true, ringSeq := (g.ringSeq + 1) % 2 ^ 32, badPos := 0 })
    let s := ({ s with ledger := { s.ledger with ringSector := k } }).ringPlace 0
    let nxt := (k + 1) % ringSectors
    if sectorErased s.flash.cells nxt then s else s.eraseAhead nxt
  | .ringReclaim k => if s.ringAllowed then s.openSector k else s
  | _ => s

/-- A ring operation whose retry failed too (R567). -/
def State.ringFailed (s : State) (u : FlashUse) : State :=
  match u with
  | .ringPage seqs =>
    let s := s.modLog (fun g => { g with badPos := g.badPos + seqs.length })
    let s := s.ringPlace (s.log.ringPos + seqs.length)
    if 4 ≤ s.log.badPos then ((s.closeSector s.ledger.ringSector).ringPlace 127).ringFull else s.ringFull
  | .ringHeader k =>
    let s := s.closeSector k
    (({ s with ledger := { s.ledger with ringSector := k } }).ringPlace 127).ringFull
  | _ => s

/-! ### Locating the ring (R65, R559, R560, R72) -/

/-- The current sector: a valid header with the latest sequence. -/
def ringCurrent (m : Mem) : Option (Nat × Nat) :=
  (List.range ringSectors).foldl (fun best k =>
    if sectorErased m k then best
    else
      match ringHeader m k, best with
      | none, b => b
      | some q, none => some (k, q)
      | some q, some (j, q0) => if later q q0 then some (k, q) else some (j, q0)) none

/-- The first position after every position not fully erased (R65). -/
def ringNextPos (m : Mem) (k : Nat) : Nat :=
  (List.range 127).foldl (fun n p => if erasedAt m (recAddr k p) 32 then n else p + 1) 0

/-- Every intact record in the ring. -/
def ringRecords (m : Mem) : List FaultRec :=
  (List.range ringSectors).flatMap (fun k =>
    if sectorErased m k || (ringHeader m k).isNone then []
    else (List.range 127).filterMap (fun p =>
      if erasedAt m (recAddr k p) 32 then none else ringRecord m k p))

/-- The record of the latest SEQ in a list. -/
def newestRec (rs : List FaultRec) : Option FaultRec :=
  rs.foldl (fun b r =>
    match b with
    | none => some r
    | some x => if later r.seq x.seq then some r else some x) none

/-- A brown-out: after the newest 0x0002 the ring holds a 0x1001 that no 0x0001 follows (R71 ff). -/
def brownOut (rs : List FaultRec) : Bool :=
  match newestRec (rs.filter (fun r => r.code == 2)) with
  | none => false
  | some b =>
    rs.any (fun r => r.code == 0x1001 && later r.seq b.seq
      && !rs.any (fun q => q.code == 1 && later q.seq r.seq))

/-- The first sector that is neither erased nor headed, or the one after the current when not erased (R67). -/
def ringToReclaim (m : Mem) (cur : Option (Nat × Nat)) : Option Nat :=
  (List.range ringSectors).find? (fun k =>
    !sectorErased m k && ((ringHeader m k).isNone ||
      (match cur with
       | some (c, _) => k = (c + 1) % ringSectors
       | none => false)))

end Sys2Proof.Machine
end

