-- ==== Sys2Proof/Machine/SetOps.lean ====
section
/-!
DEFINITION. Calibration sets where they stand (02, 09): slots in U20, a lane master's accesses to its windows (R17),
and the replacement of a committed set in SRAM (R274).
-/

namespace Sys2Proof.Machine

/-! ### Slots (Tables 2.10, 2.11) -/

def journalBase : Lane → Nat
  | .a => 0x210000
  | .b => 0x420000

def slotAddr (l : Lane) (set : Nat) (y : Bool) : Nat := journalBase l + (2 * set + b2n y) * 0x42000

/-- Bytes 0x100 to 0x4_10DF of a slot. -/
def payloadLen : Nat := 0x40FE0

def commitMagic : List Nat := [0x42, 0x4C, 0x58, 0x43]

/-- A commit record's 256 bytes (Table 2.11). -/
def commitRecord (l : Lane) (set : Nat) (y : Bool) (seq crc tsc : Nat) : List Nat :=
  let b := commitMagic ++ [laneNo l, set, b2n y, 0] ++ leBytes 4 seq ++ leBytes 4 payloadLen
    ++ leBytes 4 crc ++ leBytes 6 tsc ++ [0, 0]
  b ++ leBytes 4 (crc32 b) ++ List.replicate 224 0xFF

/-- A slot's sequence, if it is valid (R63). -/
def slotSeq (m : Mem) (l : Lane) (set : Nat) (y : Bool) : Option Nat :=
  let a := slotAddr l set y
  let r := Mem.flash m a 32
  if r.take 4 = commitMagic && u8 r 4 = laneNo l && u8 r 5 = set && u8 r 6 = b2n y
      && u32 r 12 = payloadLen && u32 r 28 = crc32 (r.take 28)
      && u32 r 16 = crc32 (Mem.flash m (a + 0x100) payloadLen) then some (u32 r 8) else none

/-- A slot holds a commit record (R64). -/
def slotWritten (m : Mem) (l : Lane) (set : Nat) (y : Bool) : Bool := !erasedAt m (slotAddr l set y) 256

/-- A set's content as a valid slot holds it. -/
def slotContent (m : Mem) (l : Lane) (set : Nat) (y : Bool) : CalSet :=
  let a := slotAddr l set y
  let r := Mem.flash m a 32
  let h := Mem.flash m (a + 0x100) 20
  let c := Mem.flash m (a + 0x41000) 224
  let k := u8 h 2
  { present := true, valid := true, slotY := y, seq := u32 r 8, tsc := leNat 6 (r.drop 20)
    dark := bit k 0, gain := bit k 1, coef := bit k 2, photo := bit k 3
    taps := u8 h 3, active := u16 h 4, headType := slice h 8 8, temp := i16 h 16
    coefs := (List.range 48).map (fun i => i32 c (4 * i))
    refs := (List.range 8).map (fun i => i32 c (192 + 4 * i)) }

/-- The shading words of a slot: D and G of tap t from word 32 768 t on. -/
def slotShading (m : Mem) (l : Lane) (set : Nat) (y : Bool) : List Nat :=
  bytesToWords (Mem.flash m (slotAddr l set y + 0x1000) 262144)

/-- Where a set's shading stands in the lane's shading window (02). -/
def setOffset (set : Nat) : Nat := 131072 * set

/-! ### Accesses of lane masters -/

/-- A lane master's read: zeros where it is fenced (R17). -/
def State.masterRead (s : State) (l : Lane) (w o n : Nat) : List Nat :=
  if s.fenced l w then List.replicate n 0 else s.winRead w o n

/-- A lane master's write: nothing where it is fenced (R17). -/
def State.masterWrite (s : State) (l : Lane) (w o : Nat) (ws : List Nat) : State :=
  if s.fenced l w then s else s.winWrite w o ws

/-- (D, G) of a tap of the lane's set in SRAM, `n` pixels. -/
def State.setShading (s : State) (l : Lane) (set tap n : Nat) : List (Nat × Nat) :=
  let ws := s.masterRead l (s.img l).pix.window (setOffset set + 32768 * tap) (2 * n)
  (List.range n).map (fun i => (ws.getD (2 * i) 0, ws.getD (2 * i + 1) 0))

/-! ### Sets in SRAM (R91, R274) -/

/-- The check value of a set's D and G as they stand in SRAM (R91): a CRC-32 (DESIGN CHOICE, log 102). -/
def State.setCheck (s : State) (l : Lane) (k : Nat) : Nat :=
  let h := (s.img l).head
  let w := (s.img l).pix.window
  crc32 (wordsToBytes ((List.range h.taps).flatMap (fun t => s.winRead w (setOffset k + 32768 * t) (2 * h.active))))

/-- A present set withdrawn: R91's record 0x0013. -/
def State.withdraw (s : State) (l : Lane) (k : Nat) : State :=
  (s.modLane l (fun x => { x with sets := updAt x.sets k (fun c => { c with present := false }) })).noteItem
    0x0013 (laneParty l) [laneNo l, k]

/-- The present sets of a lane, those that `f` names, checked against the value computed when each was loaded or
committed (R91). -/
def State.checkSets (s : State) (l : Lane) (f : Nat → Bool) : State :=
  ((List.range 4).filter f).foldl (fun s k =>
    let c := (s.lane l).sets.getD k {}
    if c.present && s.setCheck l k != c.check then s.withdraw l k else s) s

/-- Words of the banked memory that no longer hold what was written. -/
def State.decayed (s : State) (ds : List (Nat × Nat)) : State :=
  ds.foldl (fun s q => { s with bank := Mem.setWords s.bank (q.1 % 2 ^ 22) [q.2 % 65536] }) s

/-- An access of a lane master suppressed outside a run: MEM.FENCE and 0x3011 (R17, R289, R551). -/
def State.fenceNote (s : State) (l : Lane) (master w : Nat) : State :=
  if s.fenced l w then (s.noteFence l master w).record 0x3011 2 (s.laneBits l) [master, w] else s

/-- Whether a run of the lane uses a set: from its entry phase B until IDLE (R241, R274). -/
def State.usesSet (s : State) (l : Lane) (set : Nat) : Bool :=
  let y := (s.lane l).mode
  y.mode != .none && y.mode != .idle && y.entry != some .b && (y.prog.map Program.calSet).getD 4 = set

/-- A committed version put in place of its set: the area, the coefficients and the references (R274), the window
reached as calibration staging and for the coefficient load (R289); a fenced load reads zeros (R17). -/
def State.putSet (s : State) (l : Lane) (k : Nat) (c : CalSet) : State :=
  let st := (s.lane l).sets.getD k {}
  let w := (s.img l).pix.window
  let new := { c with present := true, valid := true, slotY := st.slotY, other := st.other, badX := st.badX, badY := st.badY }
  let new := if s.fenced l w then { new with coefs := List.replicate 48 0 } else new
  let s := ((s.fenceNote l 8 w).fenceNote l 5 w).masterWrite l w (setOffset k) (slotShading s.flash.cells l k st.slotY)
  let q := s.setCheck l k
  s.modLane l (fun x => { x with sets := x.sets.set k { new with check := q } })

/-- Committed versions replace their sets in SRAM as no run of the lane uses them any more (R274). -/
def State.replaceSet (s : State) (l : Lane) : State :=
  let due := (s.lane l).next.filter (fun q => !s.usesSet l q.1)
  if due.isEmpty then s
  else
    let s := due.foldl (fun s q => s.putSet l q.1 q.2) s
    let s := s.modLane l (fun x => { x with next := x.next.filter (fun q => !due.contains q) })
    s.modCal l (fun c => { c with pending := !(s.lane l).next.isEmpty })

end Sys2Proof.Machine
end

