-- ==== Sys2Proof/Machine/CarriageOps.lean ====
section
/-!
DEFINITION. The carriage (13): ramps and moves (R385, R386), stops, the seam's approach and its encoder
checkpoint (R404), the line-start deviation (R393) and the ends of motions.
-/

namespace Sys2Proof.Machine

/-! ### Programs and profiles -/

/-- P_r: the line period of rung r. -/
def Program.rungP (p : Program) (r : Nat) : Nat := if r = 0 then p.period else p.rungPer.getD (r - 1) 0

/-- The binning factor of a code 0 to 3 (Table 2.9). -/
def binFactor (code : Nat) : Nat := 2 ^ (code % 4)

/-- The index within the run of the sensor line that is captured next: under binning a line number counts groups
(R245, R246), the carriage's pitch counts sensor lines. In SMOULDER it is line m of the seam (R396). -/
def LaneSt.lineIndex (x : LaneSt) (p : Program) : Nat := x.nextLine * binFactor p.binning + x.sub

/-- I_r, the step interval of rung r (13). -/
def Program.interval (p : Program) (r : Nat) : Nat := if p.micro = 0 then 0 else p.rungP r / p.micro

/-- d: +1 for a forward program, −1 for a reverse one. -/
def Program.dir (p : Program) : Int := if p.reverse then -1 else 1

/-- A profile instance of a lane. -/
def State.profile (s : State) (l : Lane) (inst : Nat) : Option ProfileSec :=
  (s.img l).profiles.find? (fun q => q.inst == inst)

def State.entries (s : State) (l : Lane) (inst : Nat) : List Nat :=
  ((s.profile l inst).map ProfileSec.entries).getD []

/-- The step intervals that the carriage profile fetch returns (master 6): two words each, zeros where it is fenced
(R17, Table 2.6). -/
def State.fetched (s : State) (l : Lane) (inst : Nat) : List Nat :=
  match s.profile l inst with
  | none => []
  | some q =>
    let ws := s.masterRead l q.window q.offset (2 * q.entries.length)
    (List.range q.entries.length).map (fun i => ws.getD (2 * i) 0 + 65536 * ws.getD (2 * i + 1) 0)

/-- The ramp of interval I: how many leading entries exceed it (R385). -/
def rampLen (es : List Nat) (i : Nat) : Nat := (es.takeWhile (fun e => i < e)).length

/-- The carriage that moves for a lane: axis A for the gang party (R415). -/
def State.carriage (s : State) (l : Lane) : Lane := if s.sys.gang then .a else l

/-- Whether a program moves its carriage on a lane (R388). -/
def State.moves (s : State) (l : Lane) (p : Program) : Bool :=
  match p.mode with
  | 5 | 6 => true
  | 1 => decide (0 < p.lines)
  | 4 => !(s.entries l p.profile).isEmpty
  | _ => false

/-- The last line captured before line `num` of the run (Table 12.11): at rest, lines dropped under R116 may stand
between. -/
def LaneSt.lastBefore (x : LaneSt) (num : Nat) : Option Nat :=
  match x.lastNum with
  | none => none
  | some m =>
    if m < num then some m
    else match x.lrun.gaps.find? (fun g => g.1 = num) with
      | some g => g.2
      | none => if num = 0 then none else some (num - 1)

/-- A lane that has captured line `num`. -/
def LaneSt.took (x : LaneSt) (num : Nat) : LaneSt :=
  { x with
    lastNum := some num
    lrun := { x.lrun with
      gaps := if (x.lastNum.map (· + 1)).getD 0 = num then x.lrun.gaps else x.lrun.gaps ++ [(num, x.lastNum)] } }

/-- Lines from `num` on given up: those before it are the lines captured. -/
def LaneSt.giveUp (x : LaneSt) (num : Nat) : LaneSt :=
  { x with lastNum := x.lastBefore num, lrun := { x.lrun with gaps := x.lrun.gaps.filter (fun g => g.1 < num) } }

/-- The next line is line `num` again, from its sensor line `sub`: the lines given up are no quiet lines of the
ladder (R163, R409). -/
def State.rewind (s : State) (l : Lane) (num sub : Nat) : State :=
  s.modLane l (fun x => { x with
    nextLine := num, sub := sub, axis := { x.axis with quiet := x.axis.quiet - (x.nextLine - num) } })

/-! ### Motions -/

/-- Steps of a motion that ends. -/
def Motion.total (m : Motion) : Nat := m.up + m.cruise + m.down

/-- How far up the ramp a motion stands (R385); a motion that only decelerates stands at what is left of its ramp. -/
def Motion.index (m : Motion) : Nat :=
  if m.done ≤ m.up && 0 < m.up then m.done
  else if m.steady then m.up
  else min m.down (m.total - m.done)

/-- A move of D steps between two rests at top interval I (R386). -/
def moveOf (es : List Nat) (prof i : Nat) (d : Nat) (dir : Int) : Motion :=
  let k := rampLen es i
  if d < 2 * k then { up := d / 2, cruise := 0, down := d - d / 2, top := i, dir := dir, prof := prof }
  else { up := k, cruise := d - 2 * k, down := k, top := i, dir := dir, prof := prof }

/-- The motion an axis decelerates in from ramp index `i` (R385). -/
def Motion.brake (m : Motion) (first : Nat) : Motion :=
  { m with up := 0, cruise := first, down := m.index, steady := false, done := 0 }

def State.setMotion (s : State) (l : Lane) (m : Option Motion) (why : MoveFor) : State :=
  s.modArun l (fun a => { a with motion := m, why := why })

/-- A motion of no steps is none. -/
def someMotion (m : Motion) : Option Motion := if m.steady || 0 < m.total then some m else none

/-- The axis decelerates at once from its present ramp index (R399, R413). -/
def State.brakeNow (s : State) (l : Lane) : State :=
  match (s.lane l).arun.motion with
  | none => s
  | some m => s.setMotion l (someMotion (m.brake 0)) .stop

/-- floor(v / w + 1/2). -/
def roundHalfUp (v : Int) (w : Nat) : Int := (2 * v + w) / (2 * w : Nat)

/-- The offset of the j-th of the last p_m steps (R404). -/
def trimOffset (eps : Int) (j pm : Nat) : Int := roundHalfUp (eps * (j : Int)) pm

/-- Steps up to X_n not yet issued at the start of line cycle n, by the schedule of R387 and R404: one, or as many as a
positive trim delays to it or past it, none where a negative one has issued them before. -/
def State.dueSteps (s : State) (l : Lane) (p : Program) : Nat :=
  let x := s.lane l
  let eps := x.axis.trim
  let into : Bool := x.arun.why = .approach
  let i := max 1 (p.interval (if into then x.arun.newRung else x.axis.rung))
  let off := fun k => if into then trimOffset eps (p.micro - k) p.micro else eps
  (List.range (eps.toNat / i + 1)).countP (fun k => decide (((k * i : Nat) : Int) ≤ off k))

/-- A motion that decelerates after `first` more steps; an axis that decelerates already goes on so. The trim ends
(R396). -/
def State.stopAfter (s : State) (l : Lane) (first : Nat) : State :=
  let s := match (s.lane l).arun.motion with
    | none => s
    | some m => if (s.lane l).arun.why = MoveFor.stop then s else s.setMotion l (someMotion (m.brake first)) .stop
  (s.modAxis l (fun a => { a with trim := 0, retry := false })).modArun l (fun a => { a with offset := 0 })

/-- A stop at line boundary B_m, which this is: the steps up to X_m, then the ramp down (R396). -/
def State.stopAtBoundary (s : State) (l : Lane) : State :=
  s.stopAfter l (((s.lane l).mode.prog.map (s.dueSteps l)).getD 1)

/-- A stop of steady motion within a line cycle: the steps up to the next line's position, then the ramp down. -/
def State.stopAtNext (s : State) (l : Lane) : State :=
  let x := s.lane l
  s.stopAfter l <| match x.mode.prog with
    | none => 1
    | some p =>
      let at_ := p.dir * (x.axis.pos - x.arun.x0)
      let ahead := ((x.lineIndex p * p.micro : Nat) : Int) - at_
      if 0 < ahead then ahead.toNat else p.micro - (at_ % (p.micro : Int)).toNat

/-- A stop in SMOULDER, shown as such until the axis rests (Table 13.5). -/
def State.stopSeam (s : State) (l : Lane) : State :=
  let s := s.stopAtBoundary l
  let p : SeamPhase := if (s.lane l).arun.motion.isSome then .stopping else .rest
  s.modAxis l (fun a => { a with phase := p })

/-- Steps cease at once at holding current; a motion's position reference is lost (Table 6.2, R160). -/
def State.freezeAxis (s : State) (l : Lane) (lost : Bool) : State :=
  let moving := (s.lane l).arun.motion.isSome
  (s.setMotion l none .none).modAxis l (fun a => { a with
    atHold := true, phase := .none, retry := false, refLost := a.refLost || (lost && moving) })

/-- A move outside a run ended early by a reset, trip, SAFE, PFW or sleep entry (R413). -/
def State.endMove (s : State) (l : Lane) : State :=
  if (s.lane l).arun.why = .move && (s.lane l).arun.motion.isSome then
    ((s.noteL l 0xB014).freezeAxis l true)
  else s

/-- The windings are energised at holding current (R383, R414). -/
def State.energise (s : State) (l : Lane) : State :=
  (s.modArun l (fun a => { a with energised := true })).modAxis l (fun a => { a with atHold := true })

/-- The windings are unpowered. -/
def State.unpowerAxis (s : State) (l : Lane) : State :=
  ((s.setMotion l none .none).modArun l (fun a => { a with energised := false })).modAxis l (fun a =>
    { a with atHold := false, phase := .none, retry := false })

/-! ### The encoder (R391 to R394) -/

/-- The place of levels A + 2 B in a quadrature cycle, A leading B. -/
def grayIdx (ab : Nat) : Nat := [0, 1, 3, 2].getD (ab % 4) 0

/-- What one edge counts: +1 with A leading B, −1 with B leading, and nothing where both levels seem to change
(DESIGN CHOICE, log 106). -/
def quadStep (old new : Nat) : Int :=
  match (grayIdx new + 4 - grayIdx old) % 4 with
  | 1 => 1
  | 3 => -1
  | _ => 0

/-- The edges of A and B counted on a fitted encoder, flag [2] inverting the count; a pulse shorter than 25 ns is
rejected (R391). ENC_5V is off with the windings, and the encoder with it (R577). -/
def State.countEdges (s : State) (l : Lane) (es : List EncEdge) : State :=
  let im := (s.img l).axis
  if !im.encoder || !(s.lane l).arun.energised then s
  else
    (es.filter (fun e => decide (25 ≤ e.ns))).foldl (fun s e =>
      s.modAxis l (fun a =>
        let d := quadStep a.ab e.ab
        { a with ab := e.ab % 4, enc := signed 32 (unsigned 32 (a.enc + (if im.encInv then -d else d))) })) s

/-- X_n (R387). -/
def State.lineX (s : State) (l : Lane) (p : Program) (n : Nat) : Int :=
  (s.lane l).arun.x0 + p.dir * ((n * p.micro : Nat) : Int)

/-- E_n (R392), also for n = −1 (R404): the shift rounds towards minus infinity. -/
def State.expectedCount (s : State) (l : Lane) (p : Program) (n : Int) : Int :=
  (s.lane l).arun.e0 + p.dir * ((n * ((s.img l).axis.cpp : Int) + 32768) / 65536)

/-- The encoder verifies positions: fitted and enabled (R393). -/
def State.encOn (s : State) (l : Lane) : Bool := (s.lane l).axis.encOk

/-- δ_n of R393. -/
def State.deviation (s : State) (l : Lane) (p : Program) (n : Int) (count : Int) : Int :=
  p.dir * (count - s.expectedCount l p n)

/-- |δ| exceeds c_p / k. -/
def beyond (cq : Nat) (d : Int) (k : Nat) : Bool := decide (cq < d.natAbs * k * 65536)

/-- The trim of R404: eps from error e, line period p and raw c_q. -/
def trimOf (e : Int) (p cq : Nat) : Int := roundHalfUp (e * (p * 65536 : Nat)) cq

/-- By how many cycles the step of an approach that brings it to `done` steps follows its schedule (R404): the j-th of
the last p_m steps by offset[j], those that a trim delays past B′ among them. -/
def State.stepOffset (s : State) (l : Lane) (p : Program) (done : Nat) : Int :=
  let x := s.lane l
  let j := done + p.micro - (s.img l).axis.runUp
  if (x.arun.why = .approach && x.axis.phase = .approach) || x.arun.why = .run then
    (if j ≤ p.micro then trimOffset x.axis.trim j p.micro else x.axis.trim)
  else 0

/-- The checkpoint of an approach, at the step to X_m − d × p_m (R404, R405): the error, and the trim or a
retry. -/
def State.checkpoint (s : State) (l : Lane) (p : Program) (count : Int) : State :=
  let m : Int := (s.lane l).lineIndex p
  let cq := (s.img l).axis.cpp
  let e := s.deviation l p (m - 1) count
  let s := s.modAxis l (fun a => { a with seamErr := clampI (-32768) 32767 e })
  if cq < e.natAbs * 4 * 65536 then s.modArun l (fun a => { a with retryDue := true })
  else s.modAxis l (fun a => { a with trim := trimOf e (p.rungP (s.lane l).arun.newRung) cq })

/-! ### Approaches (R390, R402, R403) -/

/-- The approach of D_r steps to steady motion at a rung. -/
def State.approach (s : State) (l : Lane) (p : Program) (r : Nat) (why : MoveFor) : State :=
  let i := p.interval r
  let k := rampLen (s.fetched l p.profile) i
  s.setMotion l (some { up := k, cruise := 0, down := 0, steady := true, top := i, dir := p.dir, prof := p.profile }) why

/-- The back-off to S_m = X_m − d × D_r (R401); already there, the dwell follows at once. -/
def State.backoff (s : State) (l : Lane) (p : Program) : State :=
  let target := s.lineX l p ((s.lane l).lineIndex p) - p.dir * ((s.img l).axis.runUp : Int)
  let d := target - (s.lane l).axis.pos
  let m := moveOf (s.fetched l p.profile) p.profile (p.interval 0) d.natAbs (if d < 0 then -1 else 1)
  let s := s.setMotion l (someMotion m) .backoff
  s.modAxis l (fun a => { a with phase := if d = 0 then .dwell else .backoff, trim := 0 })

end Sys2Proof.Machine
end

