-- ==== Sys2Proof/Machine/LightOps.lean ====
section
/-!
DEFINITION. Light (14): the value arithmetic of R421, light-bus frames, commits from decision to commit
point (R434 to R444), Ember's comparison of one item (R452 to R456) and the photometric step (R448).
-/

namespace Sys2Proof.Machine

/-! ### Values (R420, R421) -/

/-- q of an internal channel (R421). -/
def lightQ (code g limit : Nat) : Nat := min ((code * g * 16 + 16384) / 32768) (limit * 16)

/-- A value scaled by the derate factor (R421). -/
def derated (v d : Nat) : Nat := (v * d + 128) / 256

/-- h of a light head (R421). -/
def lightH (setting g : Nat) : Nat := min ((setting * g + 16384) / 32768) 65535

/-- The factor of a group field; 0x8000 for an item in no group (R420). -/
def State.groupG (s : State) (k : Nat) : Nat := if k < 8 then (s.lux.grp.getD k {}).g else 0x8000

/-- The derate factor in force: 256 in SHUTDOWN-ONLY (R452, R454). -/
def State.chD (s : State) (n : Nat) : Nat := if s.chShutOnly n then 256 else (s.lux.ch.getD n {}).d
def State.headD (s : State) (a : Nat) : Nat := if s.headShutOnly a then 256 else (s.lux.head.getD a {}).d

/-- An owner whose lane stands tripped (R132). -/
def State.ownerTripped (s : State) (owner : Nat) : Bool :=
  (owner = 1 && s.laneA.mode.trip) || (owner = 2 && s.laneB.mode.trip)

/-- A channel that may be driven: enabled, not latched, no port fault, no overdraw of management, no trip of its lane
(R455, R190, R178, R132). -/
def State.chLive (s : State) (n : Nat) : Bool :=
  s.chOn n && !(s.lux.ch.getD n {}).latch && !(s.lux.ch.getD n {}).faulted
    && !(s.pwr.mgtOff && s.chOwner n = 0) && !s.ownerTripped (s.chOwner n)

/-- A channel set to a code: q of R420 and the value driven, q2 of R421. -/
def State.driveCh (s : State) (n code : Nat) : State :=
  let r := s.chRec n
  let q := lightQ code (s.groupG r.group) r.limit
  let q := if s.chOn n then q else 0
  let v := if s.chLive n then derated q (s.chD n) else 0
  s.modLux (fun x => { x with ch := updAt x.ch n (fun c => { c with set := code, q := q, drive := v }) })

/-- A channel driven at zero at once (R455, lights-off): its setting stands. -/
def State.cutCh (s : State) (n : Nat) : State :=
  s.modLux (fun x => { x with ch := updAt x.ch n (fun c => { c with drive := 0 }) })

def State.modCh (s : State) (n : Nat) (f : LightCh → LightCh) : State :=
  s.modLux (fun x => { x with ch := updAt x.ch n f })

def State.modLightHead (s : State) (a : Nat) (f : LightHead → LightHead) : State :=
  s.modLux (fun x => { x with head := updAt x.head a f })

def State.modGrp (s : State) (k : Nat) (f : Group → Group) : State :=
  s.modLux (fun x => { x with grp := updAt x.grp k f })

def State.modReb (s : State) (p : Nat) (f : Rebcast → Rebcast) : State :=
  s.modLux (fun x => { x with reb := updAt x.reb p f })

/-- The value sent to head a for a setting under a factor (R421); 0 while it is latched (R456), or held at
zero after an overdraw of management (R178). -/
def State.headValue (s : State) (a setting g : Nat) : Nat :=
  if (s.lux.head.getD a {}).latch || (s.pwr.mgtOff && s.headOwner a = 0) then 0 else derated (lightH setting g) (s.headD a)

/-! ### The bus (R427) -/

/-- A frame of Table 14.1. -/
def lightFrame (addr type : Nat) (payload : List Nat) : List Nat :=
  let b := [addr, type, payload.length] ++ payload
  b ++ leBytes 2 (crc16 b)

/-- A frame sent, unless a reference interval (R444) or a bus short (R193) keeps the bus silent. -/
def State.busSend (s : State) (f : List Nat) : State :=
  if s.clk.interval || s.pwr.busShort then s else s.modLux (fun x => { x with bus := x.bus ++ [f] })

def headMask (hs : List Nat) : Nat := (hs.map (fun a => 2 ^ a)).sum

def statusReq (a : Nat) : List Nat := lightFrame a 0x01 []
def identReq (a : Nat) : List Nat := lightFrame a 0x02 []
def stageFrame (a v : Nat) : List Nat := lightFrame a 0x03 (leBytes 2 v)
def offFrame (a : Nat) : List Nat := lightFrame a 0x06 []
def zeroFrame : List Nat := lightFrame 0 0x07 []
def dropFrame (hs : List Nat) : List Nat := lightFrame 0 0x05 (leBytes 4 (headMask hs))
/-- The party mask of a commit (R12). -/
def partyMask (p : Nat) : Nat := if p = 0 then 4 else if p = 1 then 1 else if p = 2 then 2 else 3
/-- COMMIT number `num` of party `p`, on its `k`th re-broadcast (R439, R442): mask, delay, number, heads. -/
def commitFrame (p num k : Nat) (hs : List Nat) : List Nat :=
  lightFrame 0 0x04 ([partyMask p, (Config.commitDelay p num k).toNat] ++ leBytes 2 num ++ leBytes 4 (headMask hs))

/-- OFF to a head that has latched; in a reference interval it waits for the anchor edge (R444, R455). -/
def State.sendOff (s : State) (a : Nat) : State :=
  (s.busSend (offFrame a)).modLightHead a (fun h => { h with offDue := s.clk.interval })

/-- DROP with the heads staged for a discarded commit; in a reference interval it waits for the anchor edge (R443,
R444). -/
def State.sendDrop (s : State) (hs : List Nat) : State :=
  if s.clk.interval then s.modLux (fun x => { x with dropDue := x.dropDue ++ [hs] }) else s.busSend (dropFrame hs)

/-- The DROP and OFF frames that a reference interval held back (R443, R444). -/
def State.framesOwed (s : State) : State :=
  let hs := s.lux.dropDue
  let s := hs.foldl (fun s h => s.busSend (dropFrame h)) (s.modLux (fun x => { x with dropDue := [] }))
  (List.range 32).foldl (fun s a => if (s.lux.head.getD a {}).offDue then s.sendOff a else s) s

/-! ### Items of a party -/

/-- Enabled channels a party owns. -/
def State.chansOf (s : State) (p : Nat) : List Nat :=
  (List.range 8).filter (fun n => s.chOn n && ownedBy (s.chOwner n) p)

/-- Configured head addresses a party owns. -/
def State.headsOf (s : State) (p : Nat) : List Nat :=
  ((List.range 32).drop 1).filter (fun a => (s.headRec a).isSome && ownedBy (s.headOwner a) p)

/-- Reachable heads a party owns: the head mask of its COMMIT frames (R436). -/
def State.reachOf (s : State) (p : Nat) : List Nat :=
  (s.headsOf p).filter (fun a => (s.lux.head.getD a {}).reach)

def State.headGroup (s : State) (a : Nat) : Nat := ((s.headRec a).map LightHeadRec.group).getD 255

/-! ### Commits -/

/-- A party's counter (R434): the gang party takes lane A's. -/
def State.comOf (s : State) (p : Nat) : Nat :=
  if p = 0 then s.lux.comM else if p = 2 then s.lux.comB else s.lux.comA

/-- The number after n: 0xFFFF wraps to 1 (R434). -/
def nextCommit (n : Nat) : Nat := if n ≥ 0xFFFF then 1 else n + 1

/-- Whether a commit of party q advances the counter that party p's commits take their numbers from (R434). -/
def counts (p q : Nat) : Bool := p = q || (q = 3 && (p = 1 || p = 2)) || (p = 3 && q = 1)

/-- The last number a party's commits have taken: a frame already sent has its own before its point (R434). -/
def State.lastNum (s : State) (p : Nat) : Nat :=
  (s.lux.planned.filterMap (fun c => if counts p c.party then c.sent.map Prod.fst else none)).getLastD (s.comOf p)

/-- The counter of a party set; a gang commit sets both lanes' counters (R434). -/
def State.setCom (s : State) (p n : Nat) : State :=
  s.modLux (fun x =>
    if p = 0 then { x with comM := n }
    else if p = 1 then { x with comA := n }
    else if p = 2 then { x with comB := n }
    else { x with comA := n, comB := n })

/-- A commit point before a line's exposure begins puts its number in force for that line (R346). -/
def State.noteCom (s : State) (p n : Nat) : State :=
  [Lane.a, Lane.b].foldl (fun s l =>
    if p = laneParty l || p = 3 then
      s.modLane l (fun x => { x with
        exposing := x.exposing.map (fun c => if s.exposed l c then c else { c with com := n }) })
    else s) s

/-- Guarded spans begin with the commit point of phase C and end with scene 0's (14, after R423). -/
def State.setGuard (s : State) (p : Nat) (b : Bool) : State :=
  s.modLux (fun x => { x with
    guardA := if p = 1 || p = 3 then b else x.guardA
    guardB := if p = 2 || p = 3 then b else x.guardB })

/-- Lanes of a party. -/
def partyLanes (p : Nat) : List Lane := if p = 1 then [.a] else if p = 2 then [.b] else if p = 3 then [.a, .b] else []

/-- Phase C starts a guarded span for FLAT-CAL, SCAN and GANG-SCAN programs. -/
def State.guards (s : State) (p : Nat) : Bool :=
  (partyLanes p).any (fun l => ((s.lane l).mode.prog.map (fun q => decide (4 ≤ q.mode))).getD false)

/-- The machine as a commit's values see it once the commit is in force: codes and factor set, guarded span begun
or ended (R421, R452). -/
def Commit.preview (c : Commit) (s : State) : State :=
  let s := if c.phaseC && s.guards c.party then s.setGuard c.party true else s
  let s := if c.ends then s.setGuard c.party false else s
  let s := match c.group with
    | none => s
    | some (k, g, _) => s.modGrp k (fun y => { y with g := g })
  c.heads.foldl (fun s q => s.modLightHead q.1 (fun h => { h with code := q.2 })) s

/-- The value head a is to hold (R421). -/
def State.headVal (s : State) (a : Nat) : Nat := s.headValue a (s.lux.head.getD a {}).code (s.groupG (s.headGroup a))

/-- The machine once every commit of a party whose frame has been sent is in force. -/
def State.afterSent (s : State) (p : Nat) : State :=
  (s.lux.planned.filter (fun c => c.party = p && c.sent.isSome)).foldl (fun t c => c.preview t) s

/-- One STAGE frame for each reachable head whose value changes (R440). -/
def State.stage (s : State) (c : Commit) : State × Commit :=
  let t := c.preview (s.afterSent c.party)
  let hs := (s.reachOf c.party).filter (fun a => t.headVal a != (s.lux.head.getD a {}).staged)
  let put := fun (s : State) (a : Nat) =>
    let v := t.headVal a
    (s.busSend (stageFrame a v)).modLightHead a (fun h => { h with staged := v })
  (hs.foldl put s, { c with staged := some hs })

/-- A commit with its COMMIT frame sent: number, head mask, and the values staged (R436, R441). -/
def Commit.send (c : Commit) (s : State) (n : Nat) (hs : List Nat) : Commit :=
  { c with sent := some (n, hs), vals := hs.map (fun a => (a, (s.lux.head.getD a {}).staged)) }

/-- The value staged for head a, in a list of such values. -/
def valOf (vs : List (Nat × Nat)) (a : Nat) : Nat := ((vs.find? (fun q => q.1 == a)).map Prod.snd).getD 0

/-- A commit of a party that has been decided and whose COMMIT frame has not begun. -/
def waits (p : Nat) (c : Commit) : Bool := c.party = p && c.sent.isNone

/-- From a seam's dwell end until line m's exposure begins, no commit of the lane is staged (R407). -/
def State.stagingHeld (s : State) (p : Nat) : Bool :=
  let held := fun (l : Lane) =>
    let x := s.lane l
    x.axis.phase = .align || x.axis.phase = .approach
      || (match x.exposing with
          | some c => c.seam && !s.exposed l c
          | none => false)
  if p = 1 || p = 3 then held .a else if p = 2 then held .b else false

/-- Stage the party's first waiting commit, if it is not staged and no re-broadcast precedes it. -/
def State.stageFirst (s : State) (p : Nat) : State :=
  let i := s.lux.planned.findIdx (waits p)
  match s.lux.planned[i]? with
  | none => s
  | some c =>
    if c.staged.isSome || s.clk.interval || s.stagingHeld p || (s.lux.reb.getD p {}).due then s
    else
      let (s, c) := s.stage c
      s.modLux (fun x => { x with planned := x.planned.set i c })

/-- What head a holds once its staged setting is dropped: the value of the last commit sent to it, or in force. -/
def State.unstaged (s : State) (a : Nat) : Nat :=
  (s.lux.planned.filterMap (fun c => (c.vals.find? (fun q => q.1 == a)).map Prod.snd)).getLastD (s.lux.head.getD a {}).held

/-- The staging of heads taken back (R443). -/
def State.dropHeads (s : State) (hs : List Nat) : State :=
  hs.foldl (fun s a => s.modLightHead a (fun h => { h with staged := s.unstaged a })) s

/-- DROP with the heads staged for a commit, if any (R443). -/
def State.dropFor (s : State) (c : Commit) : State :=
  match c.staged with
  | some (a :: hs) => (s.sendDrop (a :: hs)).dropHeads (a :: hs)
  | _ => s

/-- Pending commits that satisfy `f` discarded, with DROP for the heads staged for them (R443). -/
def State.discard (s : State) (f : Commit → Bool) : State :=
  let out := s.lux.planned.filter (fun c => c.sent.isNone && f c)
  let s := out.foldl State.dropFor s
  s.modLux (fun x => { x with planned := x.planned.filter (fun c => !(c.sent.isNone && f c)) })

/-- Whether a commit belongs to a lane, alone or in the gang party. -/
def ofLane (l : Lane) (c : Commit) : Bool := c.party = laneParty l || c.party = 3

/-- A commit decided (R440). A scene commit of a lane governs over a loop step of it that waits (14,
coincidences). -/
def State.plan (s : State) (c : Commit) : State :=
  let s := if c.phaseC || c.ends then s.discard (fun o => o.party = c.party && o.group.isSome) else s
  (s.modLux (fun x => { x with planned := x.planned ++ [c] })).stageFirst c.party

/-- The scene record of a number. -/
def State.sceneRec (s : State) (n : Nat) : Option Scene := s.shadow.scenes.find? (fun r => r.num == n)

/-- A scene's setting of channel n, and of head a: 0 where not listed (R417, R418). -/
def State.sceneCh (s : State) (scene n : Nat) : Nat := ((s.sceneRec scene).map (·.chan.getD n 0)).getD 0
def State.sceneHead (s : State) (scene a : Nat) : Nat :=
  ((s.sceneRec scene).bind (fun r => (r.heads.find? (fun q => q.1 == a)).map Prod.snd)).getD 0

/-- The commit of a scene for a party: values of the items it owns only (R417). -/
def State.sceneCommit (s : State) (p scene : Nat) : Commit :=
  { party := p
    chans := (s.chansOf p).map (fun n => (n, s.sceneCh scene n))
    heads := (s.headsOf p).map (fun a => (a, s.sceneHead scene a)) }

/-- The commit that takes every item of a party to zero (R436, DARK-CAL). -/
def State.zeroCommit (s : State) (p : Nat) : Commit :=
  { party := p
    chans := (s.chansOf p).map (fun n => (n, 0))
    heads := (s.headsOf p).map (fun a => (a, 0)) }

/-- The commit of all staged management values (R419). -/
def State.mgtCommit (s : State) : Commit :=
  { party := 0
    chans := (s.chansOf 0).map (fun n => (n, s.lux.mstageCh.getD n 0))
    heads := (s.headsOf 0).map (fun a => (a, s.lux.mstageHd.getD a 0)) }

/-- The COMMIT frame of the party's first waiting commit (R439). -/
def State.sendCommit (s : State) (p : Nat) : State :=
  let i := s.lux.planned.findIdx (waits p)
  match s.lux.planned[i]? with
  | none => s
  | some c =>
    let held := c.staged.isNone && s.stagingHeld p
    if held || s.clk.interval || (s.lux.reb.getD p {}).due then s
    else
      let (s, c) := if c.staged.isSome then (s, c) else s.stage c
      let n := nextCommit (s.lastNum p)
      let hs := s.reachOf p
      let s := s.busSend (commitFrame p n 0 hs)
      s.modLux (fun x => { x with planned := x.planned.set i (c.send s n hs) })

/-- Detail of an Ember record: channel n as n, head a as 0x10 + a (R455). -/
def emberHeadDetail (a : Nat) : Nat := 0x10 + a

/-- A guarded span ends: the items of the party whose factor, 256 in SHUTDOWN-ONLY, is below 256 again are
recorded, the latched ones among them (R452, R454). -/
def State.endSpan (s : State) (p : Nat) : State :=
  let t := s.setGuard p false
  let chs := (s.chansOf p).filter (fun n =>
    s.chD n == 256 && decide (t.chD n < 256))
  let hs := (s.headsOf p).filter (fun a =>
    s.headD a == 256 && decide (t.headD a < 256))
  let t := chs.foldl (fun x n => x.noteItem 0x6003 (s.chOwner n)) t
  hs.foldl (fun x a => x.noteItem 0x6003 (s.headOwner a)) t

/-- Channels of a party driven anew, with new codes where the commit names them. -/
def State.redrive (s : State) (p : Nat) (chans : List (Nat × Nat)) : State :=
  (s.chansOf p).foldl (fun s n =>
    s.driveCh n (((chans.find? (fun q => q.1 == n)).map Prod.snd).getD (s.lux.ch.getD n {}).set)) s

/-- A commit takes effect: counter, guarded span, factor, codes, channels; then the acknowledgement polls (R437,
R441). A factor d that changed since scene 0 was staged is committed next (R454). -/
def State.applyCommit (s : State) (c : Commit) (n : Nat) (hs : List Nat) : State :=
  let s := (s.setCom c.party n).noteCom c.party n
  let s := if c.phaseC && s.guards c.party then s.setGuard c.party true else s
  let s := if c.ends then s.endSpan c.party else s
  let s := match c.group with
    | none => s
    | some (k, g, d) =>
      s.modGrp k (fun y => { y with g := g, delta := clampI (-128) 127 d, since := 0, atTsc := s.tmr.tsc })
  let s := c.heads.foldl (fun s q => s.modLightHead q.1 (fun h => { h with code := q.2 })) s
  let s := s.redrive c.party c.chans
  let s := s.modReb c.party (fun _ => { num := n, point := s.tmr.tsc, mask := hs, vals := c.vals })
  let s := hs.foldl (fun s a =>
    (s.busSend (statusReq a)).modLightHead a (fun h => { h with acking := some c.party, held := valOf c.vals a })) s
  if c.ends && hs.any (fun a => s.headVal a != valOf c.vals a) then
    s.plan { party := c.party }
  else s

/-- The commit of a party whose frame has been sent reaches its commit point (R437); the commit applied. -/
def State.commitPoint (s : State) (p : Nat) : State × Option Commit :=
  let i := s.lux.planned.findIdx (fun c => c.party = p && c.sent.isSome)
  match s.lux.planned[i]? with
  | none => (s, none)
  | some c =>
    match c.sent with
    | none => (s, none)
    | some (n, hs) =>
      let s := s.modLux (fun x => { x with planned := x.planned.eraseIdx i })
      ((s.applyCommit c n hs).stageFirst p, some c)

/-- The commits of a party's counter whose frames have been sent reach their points, oldest first. -/
def State.settleSent (s : State) (p : Nat) : State :=
  let mine := fun (c : Commit) => c.sent.isSome && counts p c.party
  let out := s.lux.planned.filter mine
  let s := s.modLux (fun x => { x with planned := x.planned.filter (fun c => !mine c) })
  out.foldl (fun s c => (c.sent.map (fun q => s.applyCommit c q.1 q.2)).getD s) s

/-- A commit staged, sent and applied within one step of a sequence (step 11, wake, sleep entry, D4, lane
reset), after those whose frames went before it. -/
def State.commitNow (s : State) (c : Commit) : State :=
  let (s, c) := (s.settleSent c.party).stage c
  let n := nextCommit (s.lastNum c.party)
  let hs := s.reachOf c.party
  let s := s.busSend (commitFrame c.party n 0 hs)
  s.applyCommit (c.send s n hs) n hs

/-- The parties a commit of the whole engine names: each lane of the build, and management (R435). -/
def State.lightParties (s : State) : List Nat := if s.twoLanes then [1, 2, 0] else [1, 0]

/-- Scene 0 of a party, with which a guarded span that a lane reset cut ends; zero for a tripped lane, whose light
stays unpowered (R132). -/
def State.standbyCommit (s : State) (p : Nat) : Commit :=
  let c := if (p = 1 && s.laneA.mode.trip) || (p = 2 && s.laneB.mode.trip) then s.zeroCommit p else s.sceneCommit p 0
  { c with ends := true }

/-- Scene 0 committed for each party (step 11, wake). -/
def State.sceneZeroAll (s : State) : State :=
  s.lightParties.foldl (fun s p => s.commitNow (s.standbyCommit p)) s

/-- One zero commit per party, all due at one point: each COMMIT carries its own delay (R436, R439). -/
def State.zeroAll (s : State) : State :=
  let s := s.discard (fun _ => true)
  s.lightParties.foldl (fun s p => s.commitNow (s.zeroCommit p)) s

/-- Every channel at zero at once, whoever owns it (lights-off point, SAFE). -/
def State.lightsOff (s : State) : State :=
  s.modLux (fun x => { x with
    ch := x.ch.map (fun c => { c with set := 0, q := 0, drive := 0 }), planned := [], dropDue := [], guardA := false, guardB := false
    head := x.head.map (fun h => { h with code := 0, staged := 0, held := 0 })
    reb := x.reb.map (fun _ => {}) })

/-- IDENT_REQ to the configured heads being checked (R432). -/
def State.identHeads (s : State) (hs : List Nat) : State :=
  hs.foldl (fun s a => (s.busSend (identReq a)).modLightHead a (fun h =>
    { h with identing := true, barred := false, reach := false, missed := 0, acking := none })) s

/-! ### Ember (R452 to R456) -/

/-- The derate factor of R454 in DERATE. -/
def derateOf (t zero knee : Int) : Nat :=
  (clampI 0 256 (256 * (zero - t) / (zero - knee))).toNat

/-- An item's factor has gone from d to d' (R454): in DERATE the fall from 256 is recorded, and the scaled value
committed unless the item is latched; before step 11 there is no commit. -/
def State.derateTo (s : State) (own d d' : Nat) (shutOnly latched : Bool) : State :=
  if d' = d || shutOnly then s
  else
    let s := if d = 256 then s.noteItem 0x6003 own else s
    if latched || s.preLight then s else s.plan { party := if s.sys.gang && own != 0 then 3 else own }

/-- An Ember latch after a temperature, from latch, temperature at shutdown, temperature below the release
threshold, and re-armed (R455, R456). -/
def latchAfter (latch hot cool rearm : Bool) : Bool := if latch then !(cool && rearm) else hot

/-- Channel n compared with its thresholds at a new result `t` in 0.01 °C. The Bool tells that a scan-lit
channel latched off within its lane's guarded span (R457). -/
def State.emberCh (s : State) (n : Nat) (t : Int) : State × Bool :=
  let r := s.chRec n
  let own := s.chOwner n
  let c := s.lux.ch.getD n {}
  if !s.chOn n || r.hkChan ≥ 24 then (s, false)
  else
    let latch := latchAfter c.latch (10 * r.shut ≤ t) (t < 10 * (r.shut - r.hyst)) c.rearm
    let d := if r.outMode != 0 then 256 else derateOf t (10 * r.zero) (10 * r.knee)
    let cut := latch && !c.latch
    let s := s.modCh n (fun c => { c with
      d := d, latch := latch, rearm := c.rearm && c.latch && latch, drive := if cut then 0 else c.drive })
    let s := if c.latch && !latch then s.noteItem 0x6002 own else s
    let s := s.derateTo own c.d d (s.chShutOnly n) latch
    let run := cut && s.chGuarded n
    (if cut then s.record 0x6001 (if run then 2 else 0) (s.partyBits own) [n] else s, run)

/-- Head a's value in a commit's list taken to 0. -/
def zeroVal (a : Nat) (vs : List (Nat × Nat)) : List (Nat × Nat) := vs.map (fun q => if q.1 = a then (a, 0) else q)

/-- A head latches off: its OFF discards what it has staged, and 0 alone is staged for it from then on (R431, R455,
R456), by a re-broadcast of a commit in force or under way too (DEDUCED, log 125). -/
def State.latchHead (s : State) (a : Nat) : State :=
  ((s.sendOff a).modLightHead a (fun h => { h with staged := 0, held := 0, cutAt := some s.tmr.tsc })).modLux (fun x =>
    { x with planned := x.planned.map (fun c => { c with vals := zeroVal a c.vals })
             reb := x.reb.map (fun r => { r with vals := zeroVal a r.vals }) })

/-- The latch of head a came in the cycle of the commit point of party p's last commit, which counts as acknowledged
for it (14, coincidences). -/
def State.excused (s : State) (a p : Nat) : Bool := (s.lux.head.getD a {}).cutAt == some (s.lux.reb.getD p {}).point

/-- Head a compared with its thresholds at a temperature in 0.1 °C. -/
def State.emberHead (s : State) (a : Nat) (t : Int) : State × Bool :=
  match s.headRec a with
  | none => (s, false)
  | some r =>
    let own := s.headOwner a
    let h := s.lux.head.getD a {}
    let latch := latchAfter h.latch (r.shut ≤ t) (t < r.shut - r.hyst) h.rearm
    let d := derateOf t r.zero r.knee
    let cut := latch && !h.latch
    let s := s.modLightHead a (fun h => { h with d := d, latch := latch, rearm := h.rearm && h.latch && latch })
    let s := if cut then s.latchHead a else s
    let s := if h.latch && !latch then s.noteItem 0x6002 own else s
    let s := s.derateTo own h.d d (s.headShutOnly a) latch
    let run := cut && r.scanLit && s.guarded own
    (if cut then s.record 0x6001 (if run then 2 else 0) (s.partyBits own) [emberHeadDetail a] else s, run)

/-- The owning lane has changed mode: latches of its items may release (R456). -/
def State.rearmLane (s : State) (l : Lane) : State :=
  let p := laneParty l
  s.modLux (fun x => { x with
    ch := x.ch.mapIdx (fun n c => if c.latch && s.chOwner n = p then { c with rearm := true } else c)
    head := x.head.mapIdx (fun a h => if h.latch && s.headOwner a = p then { h with rearm := true } else h) })

/-! ### The photometric loop (R447 to R449) -/

/-- The step of R448 from factor, reference, measurement and step limit: the new factor and delta. -/
def photoStep (g : Nat) (ref meas : Int) (lim : Nat) : Nat × Int × Bool :=
  let d := (2 * (g : Int) * (ref - meas) + ref) / (2 * ref)
  let m : Int := max 1 ((g * lim / 10000 : Nat) : Int)
  let d := clampI (-m) m d
  let g' := clampI 0x6000 0xA000 ((g : Int) + d)
  (g'.toNat, g' - g, decide (g' ≠ (g : Int) + d))

end Sys2Proof.Machine
end

