-- ==== Sys2Proof/Machine/PixelMath.lean ====
section
/-!
DEFINITION. The arithmetic of a line, to the bit: the pixel window and dark references of the head
(07), shading, defect replacement, linearisation, binning, focus metric and stitching of the pixel path
(08), and the offsets, gains and defect marks of a calibration run (09).
-/

namespace Sys2Proof.Machine

/-! ### The head -/

/-- The record of output `o` in a waveform set, if it names the output. -/
def WaveSet.wave (w : WaveSet) (o : Nat) : Option WaveRec := w.waves.find? (fun r => r.out == o)

/-- t_TG: the latest of the last line edges of TG0 to TG(taps − 1) (R215). -/
def WaveSet.tTG (w : WaveSet) (taps : Nat) : Nat :=
  (List.range taps).foldl
    (fun m t => max m (((w.wave t).bind (fun r => r.lineEdges.getLast?)).getD 0)) 0

/-- win_start: t_TG rounded up to a whole multiple of the pixel period (R215). -/
def WaveSet.winStart (w : WaveSet) (taps : Nat) : Nat :=
  (w.tTG taps + w.period - 1) / w.period * w.period

/-- N, the pixel periods of the window (R215). -/
def HeadSec.winN (h : HeadSec) : Nat := (h.active + h.dark + h.outs - 1) / h.outs

/-- win_end (R215). -/
def WaveSet.winEnd (w : WaveSet) (h : HeadSec) : Nat := w.winStart h.taps + h.winN * w.period

/-- Edges at or before a cycle. -/
def edgesAt (es : List Nat) (c : Nat) : Nat := (es.filter (· ≤ c)).length

/-- The level of output `o` at cycle `c` of a line cycle of `p` cycles (R213, R214): `gate` tells that
the shutter gate closes in this line cycle, `tInt` cycles before its end. -/
def waveLevel (w : WaveSet) (h : HeadSec) (o c p tInt : Nat) (gate : Bool) : Nat :=
  match w.wave o with
  | none => 0
  | some r =>
    let line := edgesAt r.lineEdges c
    let pix :=
      if w.winStart h.taps ≤ c ∧ c < w.winEnd h then
        edgesAt r.pixEdges ((c - w.winStart h.taps) % w.period)
      else 0
    if 4 ≤ o ∧ o < 4 + h.taps ∧ gate = true ∧ p - tInt ≤ c then r.idle
    else (r.idle + line + pix) % 2

/-- Code `n` or a higher one is reached (R223): (V_in + V_off) × 10^(gain / 40) × 65 536 is at least n − 1/2, the
voltage being in nV and `lim` the 40th power of both sides' right factor, 10^9 × 2 being its unit. -/
def codeReached (lim n : Nat) : Bool := decide (((2 * n - 1) * 10 ^ 9) ^ 40 ≤ lim)

/-- The highest code reached, bit by bit from the top. -/
def codeSearch (lim : Nat) : Nat → Nat → Nat
  | 0, n => n
  | b + 1, n => codeSearch lim b (if codeReached lim (n + 2 ^ b) then n + 2 ^ b else n)

/-- The code of a channel (R223), from the samples at WF14 and WF15 in nV, exactly: clamp and rounding half up. -/
def adcCode (sh : Bool) (gain offset : Nat) (v : Int × Int) : Nat :=
  let nv := (if sh then v.2 else v.1 - v.2) + ((offset : Int) - 512) * 500000
  codeSearch ((131072 * nv.toNat) ^ 40 * 10 ^ gain) 16 0

/-- Two channels of one tap put back into pixel order. -/
def interleave : List Nat → List Nat → List Nat
  | [], _ => []
  | x :: xs, [] => x :: xs
  | x :: xs, y :: ys => x :: y :: interleave xs ys

/-- Tap `t`'s samples in pixel order, dark and dummy pixels first (R222). -/
def tapSamples (h : HeadSec) (codes : List (List Nat)) (t : Nat) : List Nat :=
  let n := h.active + h.dark
  if h.outs = 2 then
    fit 0 n (interleave (fit 0 ((n + 1) / 2) (codes.getD (2 * t) []))
      (fit 0 (n / 2) (codes.getD (2 * t + 1) [])))
  else fit 0 n (codes.getD t [])

/-- The active pixels of a tap (R231). -/
def tapActive (h : HeadSec) (codes : List (List Nat)) (t : Nat) : List Nat :=
  (tapSamples h codes t).drop h.dark

/-- How many leading dark and dummy samples channel `c` carries (R222, R225). -/
def darkCount (h : HeadSec) (c : Nat) : Nat :=
  if h.outs = 2 then (if c % 2 = 0 then (h.dark + 1) / 2 else h.dark / 2) else h.dark

/-- The reference samples of channel `c`: its leading dark samples without the first four; none where
it carries fewer than eight (R225). -/
def refSamples (h : HeadSec) (codes : List (List Nat)) (c : Nat) : List Nat :=
  if c < h.taps * h.outs ∧ 8 ≤ darkCount h c then
    ((fit 0 (darkCount h c) (codes.getD c [])).drop 4)
  else []

/-- A mean rounded half up; 0 of nothing. -/
def meanHalfUp (xs : List Nat) : Nat :=
  if xs.isEmpty then 0 else (2 * xs.sum + xs.length) / (2 * xs.length)

/-- HEAD.DARKn of a line (R225). -/
def darkRef (h : HeadSec) (codes : List (List Nat)) (c : Nat) : Nat := meanHalfUp (refSamples h codes c)

/-- Every reference sample of a channel stands at one rail, and it has some (R225, R189). -/
def darkRailed (h : HeadSec) (codes : List (List Nat)) (c : Nat) : Bool :=
  let r := refSamples h codes c
  !r.isEmpty && (r.all (· == 0) || r.all (· == 65535))

/-- HEAD.CLIP.COUNT of a line: active samples at code 65 535 over all channels (Table 7.9). -/
def clipCount (h : HeadSec) (codes : List (List Nat)) : Nat :=
  min 65535 (((List.range h.taps).map (fun t => (tapActive h codes t).countP (· == 65535))).sum)

/-! ### The pixel path -/

/-- Shading of one pixel (R232), and whether the result was clamped. -/
def shade (x d g : Nat) : Nat × Bool :=
  let y := shr (((x : Int) - d) * g + 8192) 14
  if y < 0 then (0, true) else if 65535 < y then (65535, true) else (y.toNat, false)

/-- Shaded values of a tap: `none` marks a defective pixel; with the count of clamps. -/
def shadeTap : List Nat → List (Nat × Nat) → List (Option Nat) × Nat
  | [], _ => ([], 0)
  | x :: xs, dgs =>
    let (d, g) := dgs.headD (0, 0x4000)
    let (ys, n) := shadeTap xs dgs.tail
    if g = 0xFFFF then (none :: ys, n)
    else
      let (y, c) := shade x d g
      (some y :: ys, if c then n + 1 else n)

/-- For each pixel, the nearest unmarked value before it. -/
def lastGood : Option Nat → List (Option Nat) → List (Option Nat)
  | _, [] => []
  | p, y :: ys => p :: lastGood (y.or p) ys

/-- The value given to a pixel of a run from the values beside the run (R234). -/
def replaceOne (y left right : Option Nat) : Nat :=
  match y, left, right with
  | some v, _, _ => v
  | none, some a, some b => (a + b + 1) / 2
  | none, some a, none => a
  | none, none, some b => b
  | none, none, none => 0

/-- Defect replacement of a tap (R234). -/
def replaceTap (ys : List (Option Nat)) : List Nat :=
  let ls := lastGood none ys
  let rs := (lastGood none ys.reverse).reverse
  ((ys.zip (ls.zip rs)).map (fun q => replaceOne q.1 q.2.1 q.2.2))

/-- The longest run of marked pixels (R235). -/
def longestRun (marks : List Bool) : Nat :=
  (marks.foldl (fun (acc : Nat × Nat) m => if m then (acc.1 + 1, max acc.2 (acc.1 + 1)) else (0, acc.2))
    (0, 0)).2

/-- Saturation to 40 signed bits (R240). -/
def sat40 (v : Int) : Int := clampI (-(2 ^ 39 : Nat)) ((2 ^ 39 : Nat) - 1) v

/-- The Q8.24 product, rounded half up and saturated (R240). -/
def mulQ (p q : Int) : Int := sat40 (shr (p * q + (2 ^ 23 : Nat)) 24)

/-- τ before its clamp (R239). -/
def tauRaw (t tc : Int) (h : Nat) : Int := (2 * (t - tc) * (2 ^ 24 : Nat) + h) / (2 * h : Nat)

/-- τ in Q8.24, held to ±1 (R239). -/
def tauOf (t tc : Int) (h : Nat) : Int := clampI (-(2 ^ 24 : Nat)) (2 ^ 24 : Nat) (tauRaw t tc h)

/-- Whether τ was clamped (R239). -/
def tauClamped (t tc : Int) (h : Nat) : Bool :=
  tauRaw t tc h < -(2 ^ 24 : Nat) || (2 ^ 24 : Nat) < tauRaw t tc h

/-- The four signal coefficients of a tap at τ, from its twelve (R240). -/
def linCoefs (cs : List Int) (tau : Int) : List Int :=
  (List.range 4).map (fun i =>
    sat40 (cs.getD (3 * i) 0 +
      mulQ tau (sat40 (cs.getD (3 * i + 1) 0 + mulQ tau (cs.getD (3 * i + 2) 0)))))

/-- Linearisation of one shaded value (R239, R240), and whether the result was clamped. -/
def linearise (a : List Int) (y : Nat) : Nat × Bool :=
  let sigma : Int := (y : Int) * 256
  let z := a.getD 3 0
  let z := sat40 (a.getD 2 0 + mulQ sigma z)
  let z := sat40 (a.getD 1 0 + mulQ sigma z)
  let z := sat40 (a.getD 0 0 + mulQ sigma z)
  let o := shr (z + 128) 8
  if o < 0 then (0, true) else if 65535 < o then (65535, true) else (o.toNat, false)

/-- The identity coefficients (R233). -/
def identityCoefs : List Int := [0, 0, 0, 0x01000000, 0, 0, 0, 0, 0, 0, 0, 0]

/-- Sums of `b` adjacent pixels; pixels beyond the last whole group take no part (R245). -/
def binSums (b : Nat) : Nat → List Nat → List Nat
  | 0, _ => []
  | n + 1, xs => if xs.length < b then [] else (xs.take b).sum :: binSums b n (xs.drop b)

/-- A group's output from the accumulated sums (R245). -/
def binOut (b s : Nat) : Nat := (s + b * b / 2) / (b * b)

/-- The focus metric of a tap over the window (R247). -/
def focusMetric (v : List Nat) (start len : Nat) : Nat :=
  let w := slice v start len
  ((w.zip w.tail).map (fun q => let d : Int := (q.2 : Int) - q.1; (d * d).toNat)).sum

/-- The stitched line of one tap (R250). -/
def stitchTap (va vb : List Nat) (o : Nat) : List Nat :=
  let na := va.length
  let mix := ((va.drop (na - o)).zip (vb.take o)).mapIdx (fun i q =>
    let w := 2 * i + 1
    (q.1 * (2 * o - w) + q.2 * w + o) / (2 * o))
  va.take (na - o) ++ mix ++ vb.drop o

/-! ### Calibration -/

/-- A mean of L codes, rounded half up (R260, R261). -/
def calMean (l s : Nat) : Nat := (s + l / 2) / l

/-- The outcome of R261 on one tap: gains, or reject reason 2. -/
def flatGains (l : Nat) (ss : List Nat) (ds : List Nat) : Option (List Nat) :=
  let a := ss.length
  let dm := (ds.sum + a / 2) / a
  let r : Array Int := ((ss.zip ds).map (fun q => (calMean l q.1 : Int) - q.2)).toArray
  let ok : Array Bool :=
    ((ss.zip ds).map (fun q => decide ((0 : Int) < (calMean l q.1 : Int) - q.2) && q.2 ≤ dm + 2048)).toArray
  let good := (List.range a).filter (fun p => ok.getD p false)
  let n := good.length
  if n = 0 then none
  else
    let m : Int := ((good.map (fun p => r.getD p 0)).sum + (n / 2 : Nat)) / (n : Int)
    some ((List.range a).map (fun p =>
      let near := (List.range 17).filter (fun i => i != 8 && 8 ≤ p + i && p + i - 8 < a
        && ok.getD (p + i - 8) false)
      let k := near.length
      let s := (near.map (fun i => r.getD (p + i - 8) 0)).sum
      let rp := r.getD p 0
      let bad := !(ok.getD p false) || decide (3 * rp < m) || decide (2 * m < rp)
        || (decide (0 < k) && decide (s < 8 * ((k : Int) * rp - s).natAbs))
      if bad then 0xFFFF else ((m * 16384 + rp / 2) / rp).toNat))

/-- The run mean of the head temperature (R263). -/
def tempMean (l : Nat) (sum : Int) : Int := (sum + (l / 2 : Nat)) / (l : Int)

end Sys2Proof.Machine
end

