-- ==== Sys2Proof/Machine/TimerOps.lean ====
section
/-!
DEFINITION. Counting (16): a timer's tick, loads and group starts, cascaded pairs as one timer, the
watch timers and the TSC under the LF increment.
-/

namespace Sys2Proof.Machine

/-- One tick of a timer with 16- or 32-bit count, reload and compare (R492, R494). -/
def tickTimer (t : Timer) : Timer :=
  let reload := t.cnt = 0
  let c := if t.cnt = 0 then t.rld else t.cnt - 1
  let hit := c = t.cmp
  let zero := c = 0
  { t with
    cnt := c
    period := if reload then (t.period + 1) % 256 else t.period
    pmatch := if hit then satInc 3 (if reload then 0 else t.pmatch) else (if reload then 0 else t.pmatch)
    ovr := t.ovr || (decide hit && t.hit) || (decide zero && t.zero)
    zero := t.zero || decide zero
    hit := t.hit || decide hit }

/-- `n` ticks taken in order (R495). -/
def tickMany : Nat → Timer → Timer
  | 0, t => t
  | n + 1, t => tickMany n (tickTimer t)

/-- The count loaded with a value by LOAD or a group start, prescale counter restarted (R494, R498, R502). -/
def loadTimer (t : Timer) (v : Nat) : Timer :=
  let hit := v = t.cmp ∧ t.cnt ≠ v
  let zero := v = 0
  { t with
    cnt := v, pre := 0
    pmatch := if hit then satInc 3 t.pmatch else t.pmatch
    ovr := t.ovr || (decide hit && t.hit) || (decide zero && t.zero)
    zero := t.zero || decide zero
    hit := t.hit || decide hit }

/-- Core cycles fed to a timer's prescale counter of exponent `p` (R492, R508). -/
def feedTimer (t : Timer) (p cyc : Nat) : Timer :=
  let s := t.pre + cyc
  { tickMany (s / 2 ^ p) t with pre := s % 2 ^ p }

/-- Timer n's TIMERS record; one that R14 ignores is not used. -/
def State.timerRec (s : State) (n : Nat) : TimerRec :=
  if s.unused (s.shadow.party.tmrOwner.getD n 0) then {} else s.shadow.timers.getD n {}

/-- Timer n is cascaded: its pair's even record has flag [1] (R500). -/
def State.cascaded (s : State) (n : Nat) : Bool := (s.timerRec (n / 2 * 2)).cascade

/-- Timer n is the odd half of a cascaded pair. -/
def State.oddHalf (s : State) (n : Nat) : Bool := s.cascaded n && n % 2 = 1

/-- Timer n as one timer: a cascaded pair's even timer carries 32-bit count, reload and compare. -/
def State.timer (s : State) (n : Nat) : Timer :=
  let e := s.tmr.ts.getD n {}
  if s.cascaded n && n % 2 = 0 then
    let o := s.tmr.ts.getD (n + 1) {}
    { e with cnt := e.cnt + 65536 * o.cnt, rld := e.rld + 65536 * o.rld, cmp := e.cmp + 65536 * o.cmp }
  else e

/-- Timer n put back, a cascaded pair as its two halves. -/
def State.setTimer (s : State) (n : Nat) (t : Timer) : State :=
  if s.cascaded n && n % 2 = 0 then
    let lo := { t with cnt := t.cnt % 65536, rld := t.rld % 65536, cmp := t.cmp % 65536 }
    let hi := fun o : Timer => { o with cnt := t.cnt / 65536, rld := t.rld / 65536, cmp := t.cmp / 65536 }
    s.modTmr (fun m => { m with ts := (m.ts.set n lo).modify (n + 1) hi })
  else s.modTmr (fun m => { m with ts := m.ts.set n t })

/-- A timer changed, with ATTN bit 8 where a management-owned timer's ZERO or MATCH arises (R540), be its flag
set already or not. -/
def State.updTimer (s : State) (n : Nat) (f : Timer → Timer) : State :=
  let t := s.timer n
  let fresh := f { t with zero := false, hit := false }
  let ev := fresh.zero || fresh.hit
  let s := s.setTimer n (f t)
  if ev && s.tmrOwner n = 0 then s.event 8 else s

/-- Timer n counts: enabled, not held, not the odd half of a pair (R492, R500, R504). -/
def State.timerRuns (s : State) (n : Nat) : Bool :=
  decide (n < 16) && !s.oddHalf n && (s.timer n).en && !(s.timer n).held

/-- Timer n loaded from the shadow and held, its EVT fields cleared (R504, R505). -/
def State.reloadTimer (s : State) (n : Nat) : State :=
  let r := s.timerRec n
  let dead := s.unused (s.shadow.party.tmrOwner.getD n 0)
  let t : Timer :=
    { cnt := r.reload, rld := r.reload, cmp := r.compare, en := r.enabled && !dead, held := true }
  s.modTmr (fun m => { m with ts := m.ts.set n t })

/-- Core timer n reloaded and held at sleep entry: its ZERO, MATCH and OVR flags stay (R507). -/
def State.sleepTimer (s : State) (n : Nat) : State :=
  let t := s.tmr.ts.getD n {}
  let s := s.reloadTimer n
  let keep := fun u : Timer => { u with zero := t.zero, hit := t.hit, ovr := t.ovr }
  s.modTmr (fun m => { m with ts := m.ts.modify n keep })

/-- A group start for the listed timers whose owner satisfies `p`: every enabled member is loaded with its
phase offset (R502). -/
def State.groupStart (s : State) (ns : List Nat) (p : Nat → Bool) : State :=
  (ns.filter (fun n => (s.timerRec n).group && !s.oddHalf n && (s.timer n).en && p (s.tmrOwner n))).foldl
    (fun s n =>
      let off := (s.timerRec n).phase + (if s.cascaded n then 65536 * (s.timerRec (n + 1)).phase else 0)
      s.updTimer n (fun t => { loadTimer t off with born := s.tmr.tsc })) s

/-- The listed timers are no longer held. -/
def State.releaseTimers (s : State) (ns : List Nat) : State :=
  s.modTmr (fun m => { m with ts := ns.foldl (fun ts n => ts.modify n (fun t => { t with held := false, born := m.tsc })) m.ts })

/-- Watch timers advanced by one LF tick (R508). -/
def State.lfWatch (s : State) : State :=
  [0, 1, 2, 3].foldl (fun s w =>
    if s.timerRuns w then
      s.updTimer w (fun t =>
        let q := t.frac + s.tmr.inc * clkM s.clk.fcode
        { feedTimer t (s.timerRec w).presc (q / 2 ^ 22) with frac := q % 2 ^ 22 })
    else s) s

/-- The watch timers' prescale counters brought up to the present reference tick (R508): no command reports them
between two ticks of a timer, so they are counted from the TSC (log 64). -/
def State.carryPre (s : State) : State :=
  let up := fun (w : Nat) (t : Timer) =>
    let cyc := s.age t.born * clkM s.clk.fcode
    { t with pre := min (2 ^ (s.timerRec w).presc - 1) (t.pre + cyc), born := s.tmr.tsc }
  s.modTmr (fun m => { m with ts := m.ts.mapIdx (fun w t => if w < 4 && s.timerRuns w then up w t else t) })

/-- The TSC handed over to the LF increment, with a fraction of 0 (R508, R514). -/
def State.lfHandover (s : State) (cause : Nat) : State :=
  let s := if cause = 1 then s.carryPre else s
  let s := s.modTmr (fun m => { m with
    lf := true, lfPend := false, counting := false, frac := 0, curSpan := 0, curEntry := m.tsc,
    lfCause := cause, gapSpan := m.gapSpan || !m.lfOk })
  s.modTmr (fun m => { m with ts := m.ts.mapIdx (fun i t => if i < 4 then { t with frac := 0 } else t) })

/-- One LF tick of an LF-advanced span, held still under R517 (R514). -/
def TmrSt.lfAdvance (m : TmrSt) : TmrSt :=
  if m.gapSpan then m
  else
    let q := m.frac + m.inc
    { m with tsc := (m.tsc + q / 2 ^ 22) % 2 ^ 48, frac := q % 2 ^ 22, curSpan := m.curSpan + 1 }

/-- The TSC handed back to reference counting (R514), with the records of a gap (R517). -/
def State.lfHandback (s : State) : State :=
  let gap := s.tmr.gapSpan
  let sleep := s.tmr.lfCause = 1
  let failed := s.tmr.lfOwed && s.tmr.lfOk
  let s := s.modTmr (fun m => { m with
    ts := m.ts.mapIdx (fun w t => if w < 4 then { t with born := m.tsc } else t)
    lfOwed := false, lf := false, lfBack := false, lfPend := false, counting := true
    entry := m.curEntry, span := m.curSpan,
    cause := m.lfCause, gapSpan := false, gap := m.gap || gap,
    lfSpan := if sleep then m.lfSpan else true, spanDue := m.spanDue || sleep,
    lfOk := m.lfOk && !failed })
  let s := if failed then (s.note 0x4001 [1]).mark 4 else s
  if gap then s.note 0x4002 else s

/-- The LF oscillator judged failed: LF_OK clears, the epoch advancing where it does (R499), with record 0x4001
(R516). -/
def State.lfBad (s : State) (detail : Nat) : State :=
  (if s.tmr.lfOk then (s.modTmr (fun m => { m with lfOk := false })).mark 4 else s).note 0x4001 [detail]

/-- A handover to the LF increment is owed at the next LF tick; the reference has stopped (R80, R165). -/
def State.lfWait (s : State) (cause : Nat) : State :=
  -- one span goes on where RESET_N is low within it; its cause becomes 2 (16, coincidences)
  if s.tmr.lf || s.tmr.lfPend then s.modTmr (fun m => { m with lfBack := false, lfCause := cause })
  else s.modTmr (fun m => { m with
    counting := false, lfPend := true, lfCause := cause, curSpan := 0, curEntry := m.tsc, frac := 0,
    gapSpan := m.gapSpan || !m.lfOk })

/-- The crystal is stable again: the handback waits for the next LF tick (R514), or comes at once where no LF
tick arrives (R517, log 64). -/
def State.crystalStable (s : State) : State :=
  let m := s.tmr
  if (m.lf || m.lfPend) && m.silent then s.lfHandback
  else if m.lf || (m.lfPend && m.gapSpan) then s.modTmr (fun m => { m with lfBack := true })
  else s.modTmr (fun m => { m with counting := true, lfPend := false })

/-- A sleep entry is given up, where one is under way: a span already begun is handed back; otherwise none is held
still, and a failure of the oscillator within the entry is judged now (R516, R517; DEDUCED, log 64). -/
def State.endEntry (s : State) : State :=
  if s.power.phase != .sleepEntry then s
  else if s.tmr.lf || s.tmr.lfPend then s.crystalStable
  else
    let owed := s.tmr.lfOwed
    let s := s.modTmr (fun m => { m with gapSpan := false, lfOwed := false })
    if owed then s.lfBad 1 else s

/-- One reference edge (R510). -/
def State.refTick (s : State) : State :=
  if s.tmr.counting then s.modTmr (fun m => { m with tsc := (m.tsc + 1) % 2 ^ 48 }) else s

/-- INC from the reference edges in 60 s of LF ticks (R513). -/
def incOf (edges : Nat) : Nat := (edges * 2 ^ 22 + 983040) / 1966080

/-- INC nominal (R513). -/
def incNominal : Nat := 0xBEBC2000

/-- `x` differs from `y` by more than `k` parts per million of `y`. -/
def offPpm (x y k : Nat) : Bool := decide (k * y < 1000000 * ((x : Int) - y).natAbs)

end Sys2Proof.Machine
end

