-- ==== Sys2Proof/Machine/RunOps.lean ====
section
/-!
DEFINITION. A lane's run as a whole (04) and fault containment (18, Table 18.1): mode changes, seams,
endings, flush endings, gang aborts, trips, the stop of both lanes and SAFE.
-/

namespace Sys2Proof.Machine

/-! ### Geometry of a line -/

/-- Taps named by a mask. -/
def maskTaps (mask : Nat) : List Nat := (List.range 4).filter (fun t => bit mask t)

/-- N_out (R242). -/
def State.nOut (s : State) (l : Lane) (p : Program) : Nat :=
  if p.mode = 6 then s.shadow.laneA.head.active + (s.img .b).head.active - p.overlap
  else (s.img l).head.active / binFactor p.binning

/-- W, payload words (R242). -/
def State.payloadW (s : State) (l : Lane) (p : Program) : Nat :=
  (maskTaps p.taps).length * (s.nOut l p + if p.mode = 2 then 4 else 0)

/-! ### Modes -/

/-- The lane's mode set, the latches of its light re-armed by a change (R456). -/
def State.toMode (s : State) (l : Lane) (m : Mode) : State :=
  if (s.lane l).mode.mode = m then s
  else (s.modMode l (fun y => { y with mode := m })).rearmLane l

/-- The lanes a run on l concerns: both in GANG-SCAN (R134). -/
def State.partners (s : State) (l : Lane) : List Lane := if s.sys.gang then [.a, .b] else [l]

/-- A run or entry that can still end or seam: a mode beyond IDLE, not yet ENDING. -/
def State.inRun (s : State) (l : Lane) : Bool :=
  let y := (s.lane l).mode
  y.mode != .none && y.mode != .idle && !y.ending

/-- A run whose lines the magazine receives. -/
def State.capturesRun (s : State) (l : Lane) : Bool := s.inRun l && capturing (s.lane l).mode.work

/-- A lane that is ENDING with SCAN_END not yet sent: its run is still in progress (R551). -/
def State.closing (s : State) (l : Lane) : Bool := (s.lane l).mode.ending && (s.lane l).lrun.opened

/-- A calibration run before the close of its last line (R265). -/
def State.acquiring (s : State) (l : Lane) : Bool :=
  s.inRun l && calibrating (s.lane l).mode.mode

/-! ### Endings (R129, R130) -/

/-- An item of a lane that trips at this run's end. -/
def State.tripping (s : State) (owner : Nat) : Bool :=
  (owner = 1 && s.laneA.mode.tripDue) || (owner = 2 && s.laneB.mode.tripDue)

/-- The commit a lane's light ends on: scene 0, and zero for the items of a lane that trips (R129, R132). -/
def State.endCommit (s : State) (l : Lane) : Commit :=
  let c := s.sceneCommit (s.partyOf l) 0
  let dark := fun (own : Nat → Nat) (q : Nat × Nat) => if s.tripping (own q.1) then (q.1, 0) else q
  { c with chans := c.chans.map (dark s.chOwner), heads := c.heads.map (dark s.headOwner), ends := true }

/-- A lane's pending commits discarded at its abort (R443). -/
def State.discardLane (s : State) (l : Lane) : State := s.discard (fun c => c.party = s.partyOf l)

/-- The lane stops capturing at this point: ENDING, no entry, no seam; at an abort its commits are discarded
(R443); and the ending commit planned. -/
def State.beginEnding (s : State) (l : Lane) : State :=
  let s := s.modMode l (fun y => { y with ending := true, entering := false, entry := none })
  let s := s.modLane l (fun x => { x with capture := false, stopMask := none, till := { x.till with dropping := false } })
  let s := s.modAxis l (fun a => { a with phase := .none, retry := false })
  if s.sys.gang && l = .b then s
  else
    let s := if ((s.lane l).lrun.ending.map RunEnd.aborted).getD false then s.discardLane l else s
    s.plan (s.endCommit l)

/-- The carriage of a lane that ends outside steady motion stops at once (13, coincidences). -/
def State.endCarriage (s : State) (l : Lane) : State :=
  if s.sys.gang && l = .b then s
  else
    match (s.lane l).arun.why with
    | .run | .stop | .none => s
    | _ => s.brakeNow l

/-- The line cycle's line is given up unless its exposure has begun, as `begun` tells: its number goes to the
next line, and it is no quiet line (R163, R409). -/
def State.unexposeIf (s : State) (l : Lane) (begun : LineCtx → Bool) : State :=
  match (s.lane l).exposing with
  | none => s
  | some c =>
    if begun c then s
    else
      (s.modLane l (fun x => { x with
        exposing := none, unexposed := some c.tsc, afterSeam := c.seam, afterGap := c.gap
        resumed := c.resumed })).rewind l c.num c.sub

/-- An abort before P − T_int leaves the line unexposed (07, coincidences). -/
def State.unexpose (s : State) (l : Lane) : State := s.unexposeIf l (s.exposed l)

/-- A holdover trip at or before P − T_int leaves the line unexposed (R154; 07, coincidences). -/
def State.unexposeAt (s : State) (l : Lane) : State :=
  s.unexposeIf l (fun c => decide ((s.lane l).head.period < s.cyclesOf c + (s.lane l).head.tInt))

/-- WF15's first falling edge in the last pixel period of the window (R213, R217). -/
def WaveSet.lastFall (w : WaveSet) (h : HeadSec) : Nat :=
  let start := w.winEnd h - w.period
  let lvl := fun c => waveLevel w h 15 c 0 0 false
  let fell := fun c => lvl c = 0 && (if c = 0 then (w.wave 15).any (fun r => r.idle = 1) else lvl (c - 1) = 1)
  let edges := ((w.wave 15).map (fun r => start :: r.pixEdges.map (start + ·) ++ r.lineEdges)).getD []
  let falls := edges.filter (fun c => decide (start ≤ c) && decide (c < w.winEnd h) && fell c)
  falls.foldl min (falls.headD start)

/-- The cycle of a readout by which the last pixel of the line has left the pixel path: WF15's falling edge,
the next tick of the video divider at least 4 cyc after it, 24 cyc to the path (R217), and the 128 cyc of R244
(DESIGN CHOICE, log 97: R244 gives them as a maximum). -/
def WaveSet.lastOut (w : WaveSet) (h : HeadSec) : Nat := (w.lastFall h + 4 + 7) / 8 * 8 + 24 + 128

/-- The last pixel of the line in readout has left the pixel path (R155, R184). -/
def State.pixelsOut (s : State) (l : Lane) (c : LineCtx) : Bool :=
  let h := (s.lane l).head
  match (s.img l).waves.find? (fun w => w.inst == h.waves) with
  | some w => decide (h.period + w.lastOut (s.img l).head ≤ s.cyclesOf c)
  | none => false

/-- The run on a lane is over at this point: no further line, ENDING, and its carriage stops, from the next
boundary where it moves steadily. -/
def State.stopRun (s : State) (l : Lane) (e : RunEnd) : State :=
  let s := s.modLrun l (fun r => { r with ending := some e })
  let s := (s.modPix l (fun p => { p with active := false })).beginEnding l
  if s.sys.gang && l = .b then s
  else if (s.lane l).arun.why = .run then s.stopAtNext l else s.brakeNow l

/-- An end already decided gives way to an abort by a fault, where it was to be complete (R551). -/
def RunEnd.yields (old new : RunEnd) : Bool := !old.aborted && new.aborted && new.code != 0

/-- A run's end decided (R129): at the next boundary while a line is being captured, else at once. -/
def State.endRun (s : State) (l : Lane) (e : RunEnd) : State :=
  (s.partners l).foldl (fun s k =>
    let old := (s.lane k).lrun.ending
    if (s.capturesRun k && old.isSome) || s.closing k then
      if (old.map (fun o => o.yields e)).getD false then
        let s := s.modLrun k (fun r => { r with ending := some e })
        -- the commits that wait are discarded at the abort, not the one that ends a run (R443)
        if e.aborted && !(s.lane k).mode.ending then s.discardLane k else s
      else s
    else if !s.capturesRun k then s
    else
      let now := (s.lane k).mode.entering || (s.lane k).mode.mode = .smoulder
      let s := s.modLrun k (fun r => { r with ending := some e })
      if now then (s.beginEnding k).endCarriage k
      else
        let s := s.unexpose k
        if e.aborted then s.discardLane k else s) s

/-- A calibration run ends without a result (R120, R265). Which cause 0x9034 carries for an end that R265 does not
list is DESIGN CHOICE (log 127). -/
def State.voidCal (s : State) (l : Lane) (cause : Nat) : State :=
  if s.acquiring l then
    let s := (s.noteL l 0x9034 [cause]).modCal l (fun c =>
      { c with state := if c.state = 1 then 0 else c.state, result := 4, acqKind := 0 })
    let s := ((s.modPix l (fun p => { p with active := false })).discardLane l).beginEnding l
    ((s.giveExposure l).modLane l (fun x => { x with reading := none })).brakeNow l
  else s

/-- The run ended as a flush ends it (R323): Till emptied, ABANDON, no drain. -/
def State.flushEnd (s : State) (l : Lane) (e : RunEnd) : State :=
  (s.partners l).foldl (fun s k =>
    if s.capturesRun k then
      (s.flushTill k e.cause).stopRun k e
    else if s.closing k then
      (s.flushTill k e.cause).modLrun k (fun r => { r with ending := some e })
    else s) s

/-- The stitched line in flight on lane A's path is abandoned on both links with its cause (R135, R591); an ABANDON
that a loss of the link owes for it is this one (12, coincidences). -/
def State.dropFlight (s : State) (cause : Nat) : State :=
  match s.laneA.reading.map LineCtx.num with
  | none => s
  | some n =>
    let carrier : Lane := if n % 2 = 0 then .a else .b
    let open_ := (s.lane carrier).lrun.openLine = some n
    let s := (s.releaseFrom carrier n).modLrun carrier (fun r => { r with owed := r.owed.filter (fun q => q.1 != n) })
    let s := if open_ then s else s.modLrun carrier (fun r => { r with txq := r.txq.takeWhile (fun i =>
      match i with
      | .frame t f => !(t = 0x03 && beginNum f = n)
      | .data _ => true) })
    [Lane.a, Lane.b].foldl (fun s k => s.sendFrame k 0x07 (s.abandonFields k n cause false (k != carrier))) s

/-- The end of a run that a fault ended already stays (R591). -/
def LinkRun.endBy (r : LinkRun) (e : RunEnd) : RunEnd :=
  match r.ending with
  | some o => if o.aborted && o.code != 0 then o else e
  | none => e

/-- R135 has ended the run already: what is left of it drains. -/
def State.gangOver (s : State) : Bool :=
  !s.capturesRun .a && [Lane.a, Lane.b].any (fun k => ((s.lane k).lrun.ending.map (fun o => o.aborted && o.code != 0)).getD false)

/-- GANG-SCAN ends under R135 and R591, also where it is ENDING already. A run that a fault has ended keeps that end
and its record 0x8012; a line that an Ember shutdown left in flight goes with the later fault. -/
def State.gangAbort (s : State) (l : Lane) (code : Nat) : State :=
  if !s.capturesRun .a && !s.closing .a && !s.closing .b then s
  else
    let s := (if s.gangOver then s else s.recordL .a 0x8012 2 [laneNo l]).dropFlight 5
    let e : RunEnd := { aborted := true, cause := 5, code := code }
    [Lane.a, Lane.b].foldl (fun s k =>
      let s := (s.giveExposure k).modLane k (fun x => { x with reading := none })
      let e := (s.lane k).lrun.endBy e
      if s.capturesRun k then s.stopRun k e
      else
        let s := s.modPix k (fun p => { p with active := false })
        if (s.lane k).lrun.opened then s.modLrun k (fun r => { r with ending := some e }) else s) s

/-! ### Containment (Table 18.1) -/

/-- LANE-ABORT containment of a fault whose entry names no condition (R551): the run ends as an abort; in GANG-SCAN
under R135. -/
def State.abortFault (s : State) (l : Lane) (cause code : Nat) : State :=
  if s.sys.gang then s.gangAbort l code
  else if s.acquiring l then s.voidCal l 1
  else s.endRun l { aborted := true, cause := cause, code := code }

/-- The head parked: clock drivers and supply off, and what was being read is not published (R205, R228). -/
def State.headOff (s : State) (l : Lane) : State :=
  ((s.setOut (headOut l) false).modLane l (fun x => { x with shut := false })).modHead l (fun h => { h with
    supply := false, drivers := false, running := false, readout := none })

/-- A lane's channels dark at once, its heads by a zero commit. -/
def State.darkLane (s : State) (l : Lane) : State :=
  (s.chansOf (laneParty l)).foldl (fun s n => s.driveCh n 0) s

/-- Some light head of a lane is lit, or a commit that waits lights it. -/
def State.litHeads (s : State) (l : Lane) : Bool :=
  (s.headsOf (laneParty l)).any (fun a =>
    (s.lux.head.getD a {}).code != 0 || s.lux.planned.any (fun c => c.heads.any (fun q => q.1 = a && q.2 != 0)))

/-- The lane stands tripped in IDLE: TRIP set, head and light unpowered, its light heads by a zero commit
(R132). -/
def State.tripNow (s : State) (l : Lane) : State :=
  let s := (s.headOff l).darkLane l
  let s := s.modMode l (fun y => { y with trip := true, tripDue := false })
  if (s.lane l).mode.mode = .idle && s.litHeads l then s.plan (s.zeroCommit (laneParty l)) else s

/-- The line in readout is not sent: its slot released, and ABANDON where it is open on the wire (R184, R189). -/
def State.dropReading (s : State) (l : Lane) (cause : Nat) : State :=
  match (s.lane l).reading with
  | none => s
  | some c =>
    let s := (s.modLane l (fun x => { x with reading := none })).modPix l (fun p => { p with active := false })
    s.abandonLine l c.num cause false

/-- The head parks at once (R205): what it was exposing or reading is lost, and a line of it on the wire ends with
ABANDON; drivers and supply off. A stitched line is the gang's to end (R135). -/
def State.parkHead (s : State) (l : Lane) : State :=
  let s := if s.sys.gang then s else s.dropReading l 5
  (s.modLane l (fun x => { x with exposing := none, reading := none })).headOff l

/-- LANE-TRIP containment (R132, R135, R205): the head parks at once; the lane is tripped at once in IDLE or
without a mode, else at the entry to IDLE, its run over at this point. -/
def State.trip (s : State) (l : Lane) (code : Nat) : State :=
  let m := (s.lane l).mode.mode
  let s := s.endMove l
  if m = .idle || m = .none then (s.parkHead l).tripNow l
  else
    let s := s.modMode l (fun y => { y with tripDue := true })
    let e : RunEnd := { aborted := true, cause := 5, code := code }
    let cut := (s.lane l).reading.isSome
    let over_ := ((s.lane l).lrun.ending.map RunEnd.aborted).getD false
    if s.sys.gang then (s.gangAbort l code).parkHead l
    else if s.acquiring l then (s.voidCal l 3).parkHead l
    else if s.capturesRun l then
      (s.parkHead l).stopRun l (if over_ then (s.lane l).lrun.ending.getD e else e)
    else
      let s := s.parkHead l
      if s.closing l && cut && !over_ then s.modLrun l (fun r => { r with ending := some e }) else s

/-- A fault of class LANE-TRIP recorded and contained. -/
def State.laneTrip (s : State) (l : Lane) (base : Nat) (detail : List Nat := []) : State :=
  (s.recordL l base 3 detail).trip l (base + laneOff l)

/-- A seam's back-off, dwell, alignment or approach abandoned, with a retry that its checkpoint called for (R399). -/
def State.abandonSeam (s : State) (l : Lane) : State :=
  let s := s.modArun l (fun a => { a with retryDue := false, offset := 0 })
  match (s.lane l).axis.phase with
  | .backoff | .approach =>
    let s := s.brakeNow l
    let p : SeamPhase := if (s.lane l).arun.motion.isSome then .stopping else .rest
    s.modAxis l (fun a => { a with phase := p, trim := 0, retry := false })
  | .dwell | .align => s.modAxis l (fun a => { a with phase := .rest })
  | _ => s

/-- The lane enters SMOULDER at a line boundary, line `nextLine` being the first not exposed (R118, R396): its line
start is this boundary, or the one before where its cycle had begun (R154, Table 12.11). -/
def State.smoulder (s : State) (l : Lane) (mask : Nat) (ladder : Bool) : State :=
  let y := (s.lane l).mode
  let s := s.modMode l (fun y => { y with origin := y.mode, entering := false, entry := none })
  let s := s.toMode l .smoulder
  let first := (s.lane (s.carriage l)).unexposed.getD s.tmr.tsc
  -- a group being dropped is passed over (R246)
  let s := if (s.lane l).till.dropping && (s.lane l).sub != 0 then
      s.modLane l (fun x => { x with nextLine := x.nextLine + 1, sub := 0 })
    else s
  let s := s.modLane l (fun x => { x with
    stopMask := none, capture := false, till := { x.till with dropping := false }
    arun := { x.arun with
      mask := mask, mTsc := first, rung0 := x.axis.rung, ladderSeam := ladder, stepped := false, tries := 0
      retryDue := false } })
  let moving : Bool := (y.prog.map (s.moves l)).getD false
  if !moving || (s.sys.gang && l = .b) then s
  else s.stopSeam l

/-- Line m of a seam has begun its cycle at B′ and not yet its exposure (R399). -/
def State.seamOpen (s : State) (l : Lane) : Bool :=
  let x := s.lane (s.carriage l)
  x.arun.why = .run && s.capturesRun l && match x.exposing with
    | some c => c.seam && !s.exposed (s.carriage l) c
    | none => false

/-- The seam goes on: line m stays unexposed, its SEAM not yet due, and the carriage decelerates at once (R399). The
ladder's step at B′ stands. -/
def State.reSmoulder (s : State) (l : Lane) (bits_ : Nat) : State :=
  let k := s.carriage l
  let s := (s.partners l).foldl (fun s j =>
    let s := (s.unexposeIf j (fun _ => false)).modLane j (fun x => { x with
      owedSeams := x.owedSeams.dropLast, afterSeam := false, capture := false, stopMask := none
      arun := { x.arun with mask := x.arun.mask ||| bits_ } })
    (s.modMode j (fun y => { y with origin := y.mode })).toMode j .smoulder) s
  let s := (s.modArun k (fun a => { a with seamNo := a.seamNo - 1, stepped := true, offset := 0 })).brakeNow k
  let p : SeamPhase := if (s.lane k).arun.motion.isSome then .stopping else .rest
  s.modAxis k (fun a => { a with phase := p, trim := 0 })

/-- A condition of R398 ceases to hold: the approach of a seam in progress is abandoned (R399). -/
def State.failSeam (s : State) (l : Lane) : State :=
  if (s.lane l).mode.mode = .smoulder then s.abandonSeam (s.carriage l)
  else if s.seamOpen l then s.reSmoulder l 0 else s

/-- LANE-SEAM: a SMOULDER entry is due at the lane's next boundary, or its cause joins the one in progress,
whose approach is abandoned; debug halt alone lets an approach run to B′ (R118, R134, R399). -/
def State.seamDue (s : State) (l : Lane) (bits_ : Nat) : State :=
  if s.seamOpen l then s.reSmoulder l bits_
  else
    (s.partners l).foldl (fun s k =>
      if !s.capturesRun k then s
      else if (s.lane k).mode.mode = .smoulder then
        let s := s.modArun k (fun a => { a with mask := a.mask ||| bits_ })
        if bits_ = 16 && (s.lane k).axis.phase = .approach then s else s.abandonSeam k
      else
        s.modLane k (fun x => { x with stopMask := some ((x.stopMask.getD 0) ||| bits_) })) s

/-- An access of a lane master to a window that is not its party's: suppressed and reported (R17, R289). -/
def State.fenceHit (s : State) (l : Lane) (master w : Nat) : State :=
  let s := s.noteFence l master w
  (s.record 0x3011 2 (s.laneBits l) [master, w]).abortFault l (Config.endCause 0x3011).toNat 0x3011

/-- A C0 grant latency observed at a bank port (Table 1.8). -/
def State.noteC0 (s : State) (lat bank : Nat) (write : Bool) : State :=
  s.modMem (fun m =>
    if m.c0Worst < min lat 7 then { m with c0Worst := min lat 7, c0Port := bank % 32 + flag write 5 } else m)

/-- The stitch window: the window of the gang stitch fetch stream (08). -/
def State.stitchWin (s : State) : Nat := ((s.shadow.streams.find? (fun r => r.master == 4)).map StreamRec.window).getD 0

/-- The window a C0 master of a lane reaches (Table 10.1): in GANG-SCAN lane B's pixel write stream writes the
stitch window. -/
def State.c0Win (s : State) (l : Lane) (master : Nat) : Nat :=
  match master with
  | 2 => (s.img l).pix.window
  | 4 => s.stitchWin
  | 1 => if s.sys.gang && l = .b then s.stitchWin else (s.tillSec l).window
  | _ => (s.tillSec l).window

/-- The grants observed on a lane's C0 streams, at the banks of their addresses (R280); a suppressed access has
none. -/
def State.noteGrants (s : State) (l : Lane) (gs : List C0Grant) : State :=
  gs.foldl (fun s g =>
    let w := s.c0Win l g.master
    if s.fenced l w then s else s.noteC0 g.cyc (bankOf (s.winAddr w g.off)) (g.master = 1)) s

/-- A grant of a C1 master (Tables 1.8, 10.8). -/
def State.noteC1 (s : State) (latency : Nat) : State :=
  s.modMem (fun m => { m with c1Worst := max m.c1Worst (min 127 latency) })

/-- Committed versions that replace their sets as a lane is stopped: the grant of the coefficient load is a free
value (log 2). -/
def State.replaceUntimed (s : State) (l : Lane) : State :=
  let t := s.replaceSet l
  if (t.lane l).next = (s.lane l).next then t else (t.noteC1 (Config.loadGrant t.free).toNat).takeFree

/-- A grant of a C2 master (Table 10.8). -/
def State.noteC2 (s : State) (latency : Nat) : State :=
  s.modMem (fun m => { m with c2Worst := max m.c2Worst (min 8191 latency) })

/-! ### The head's outputs (R213) -/

/-- The level of output `o` of a lane's head at cycle `c` of the line cycle in progress: none while the pair is not
driven (R204); at idle before the first line start with the drivers enabled (R203) and in a reference interval (R141);
the gate closes in an exposure cycle (R219). -/
def State.wfLevel (s : State) (l : Lane) (o c : Nat) : Option Nat :=
  let h := (s.lane l).head
  let set := (s.img l).waves.find? (fun w => w.inst == h.waves)
  if !s.driving l then none
  else if s.clk.interval || !h.running then some ((set.bind (fun w => (w.wave o).map WaveRec.idle)).getD 0)
  else some ((set.map (fun w => waveLevel w (s.img l).head o c h.period h.tInt
    ((s.lane l).exposing.isSome || (s.lane l).shut))).getD 0)

/-! ### Both lanes stopped (R102, R111) -/

/-- A lane stopped at once: line on the wire abandoned, SCAN_END aborted with its cause, 0xA002 with its detail and
the fault that is its cause, no mode, axis held. A reset flushes a lane without a run too (`reset`, R322); SAFE does
not. A calibration run's record 0x9034 has cause 4 in SAFE too (DESIGN CHOICE, log 127). -/
def State.stopLane (s : State) (l : Lane) (cause detail : Nat) (reset : Bool) (code : Nat := 0) : State :=
  let s := if calibrating (s.lane l).mode.mode then s.voidCal l 4 else s
  let s := s.endMove l
  let s := if (s.lane l).lrun.opened then
      ((s.recallLine l).flushNoted l detail cause).stopScan l { aborted := true, cause := cause, code := code }
    else if reset && (s.lane l).mode.mode != .none then s.flushNoted l detail cause
    else s.clearTill l
  let s := s.freezeAxis l true
  let s := s.modLane l (fun x => { x with
    exposing := none, reading := none, capture := false, stopMask := none, sub := 0, group := none
    till := { x.till with dropping := false } })
  let s := s.modLrun l (fun r => { r with ending := none, lost := false, owed := none })
  let s := s.modPix l (fun p => { p with active := false, gang := false, overlap := 0 })
  let s := s.modMode l (fun y => { y with
    origin := .none, entering := false, entry := none, ending := false, halted := false, tripDue := false, reset := 0 })
  (s.toMode l .none).replaceUntimed l

/-- Both lanes stopped, GANG-SCAN over. -/
def State.stopBoth (s : State) (cause : Nat) (reset : Bool) (code : Nat) : State :=
  let s := (s.stopLane .a cause 6 reset code).stopLane .b cause 6 reset code
  s.modSys (fun y => { y with gang := false })

/-- Debug halt cleared without record (R547). -/
def State.clearHalt (s : State) : State :=
  let s := s.modSys (fun y => { y with haltReq := false, haltPend := false, haltActive := false })
  (s.modMode .a (fun y => { y with halted := false })).modMode .b (fun y => { y with halted := false })

/-- Every switched output of a head or magazine off, and the links down. -/
def State.outputsOff (s : State) : State :=
  [Lane.a, Lane.b].foldl (fun s l => ((s.headOff l).setOut (magOut l) false).linkDown l) s

/-- The same, and the windings unpowered. -/
def State.portsOff (s : State) : State := ((s.outputsOff).unpowerAxis .a).unpowerAxis .b

/-- SAFE entered (R111): lanes stopped, every head, magazine, stepper and light output unpowered, spread off,
READY low; 0x0030 names the cause after the cause's own record (R554). -/
def State.enterSafe (s : State) (cause : Nat) : State :=
  let b := s.safeBits
  let s := (s.endEntry.stopBoth 9 false cause).clearHalt
  let s := s.portsOff.lightsOff
  let s := s.modClk (fun c => { c with pattern := 0 })
  let s := s.modSys (fun y => { y with safe := true, service := false, serviceEnd := false, ready := false })
  -- a power-down in progress goes on, one that WAKE has cancelled ends here (R96)
  let down : Bool := (s.power.phase = .powerDown && !s.power.offCancel) || s.power.phase = .mainsLoss
  let s := if down then s else s.modPower (fun p => { p with phase := .run, stage := 0, offCancel := false })
  -- every lane is quiet now: the switch instant of a holdover without a reference (R165)
  let s := if s.clk.hold && s.clk.refLost && cause != 0x2003 then s.record 0x2003 4 b else s
  s.record 0x0030 4 b [cause]

/-- An ENGINE-SAFE fault: its record, then SAFE. -/
def State.engineSafe (s : State) (code : Nat) (detail : List Nat := []) : State :=
  if s.sys.safe then s.record code 4 s.safeBits detail
  else (s.record code 4 s.safeBits detail).enterSafe code

end Sys2Proof.Machine
end

