-- ==== Sys2Proof/Machine/LossOps.lean ====
section
/-!
DEFINITION. What takes a link or a Till out of a run (11, 12): the loss of UP (R373), a pointer mismatch
(R327), and both found in a reference interval.
-/

namespace Sys2Proof.Machine

/-! ### Loss of the link (R373 to R376) -/

/-- The link leaves UP for TRAIN with a cause of R373. The record is of class LANE-SEAM in a run, one that is ENDING
too, as Table 12.18 and the catalogue have it, where R373's text says NOTE (DEDUCED, log 105). -/
def State.linkLost (s : State) (l : Lane) (cause : Nat) : State :=
  if (s.lane l).link.st != .up then s
  else
    let s := s.recordL l 0xA034 (if s.capturesRun l || s.closing l then 1 else 0) [cause]
    let s := ((s.linkTrain l).modLane l LaneSt.lose).modLink l (fun k => { k with maxCred := 0 })
    let s := s.modLrun l (fun y => { y with gotStatus := false, statusDue := false, told := none, syncDue := false, kBad := [] })
    -- an approach in progress no longer meets R398 (R399)
    if s.capturesRun l then s.failSeam l else s

/-! ### Pointer mismatch (R327) -/

/-- Detail of 0xA001: 1 RPTR, 2 WPTR, 3 both. -/
def ptrDetail (rptr wptr : Bool) : Nat := b2n rptr + 2 * b2n wptr

/-- A mismatch acted on: pointers to 0, the line on the wire abandoned, the run over. -/
def State.ptrMismatch (s : State) (l : Lane) (detail : Nat) : State :=
  let open_ := (s.lane l).lrun.opened
  let code := 0xA001 + laneOff l
  let s := s.recordL l 0xA001 2 [detail]
  let s := s.modTill l (fun t => { t with cause := 7 })
  if s.acquiring l then (s.clearTill l).voidCal l 1
  else if s.sys.gang && (s.capturesRun l || s.closing l) then (s.gangAbort l code).flushTill l 13
  else if open_ then s.flushEnd l { aborted := true, cause := 13, code := code }
  else s.clearTill l

/-- What was found in a reference interval is acted on at the anchor edge. -/
def State.lossesDue (s : State) (l : Lane) : State :=
  let r := (s.lane l).lrun
  let s := s.modLrun l (fun y => { y with syncDue := false, ptrDue := 0 })
  let s := if r.ptrDue = 0 then s else s.ptrMismatch l r.ptrDue
  if r.syncDue then s.linkLost l 1 else s

end Sys2Proof.Machine
end

