-- ==== Sys2Proof/Machine/HkMath.lean ====
section
/-!
DEFINITION. The arithmetic of a housekeeping conversion (15): window, raw code, polynomial, schedule.
-/

namespace Sys2Proof.Machine

/-- The window from a mains period: rounded down to an even number of ticks and clamped (R466). -/
def hkWindow (period : Nat) : Nat := min 531914 (max 396826 (period / 2 * 2))

/-- Raw code of a conversion with `n` positive decisions of `tw / 2` (R467). -/
def hkRaw (n tw : Nat) : Int :=
  let d : Nat := tw / 2
  clampI (-32768) 32767 ((2 * ((2 * (n : Int) - d) * 32768) + d) / (2 * d : Nat))

/-- τ of a housekeeping polynomial, from the board temperature in 0.01 °C (R480). -/
def hkTau (t : Int) : Int := tauOf t 2500 5000

/-- A polynomial's result (R480). -/
def hkPoly (cs : List Int) (tau raw : Int) : Int :=
  let a := linCoefs cs tau
  let sigma := raw * 512
  let z := a.getD 3 0
  let z := sat40 (a.getD 2 0 + mulQ sigma z)
  let z := sat40 (a.getD 1 0 + mulQ sigma z)
  let z := sat40 (a.getD 0 0 + mulQ sigma z)
  clampI (-32768) 32767 (shr (z + 256) 9)

/-- Kinds of inputs (Table 15.1). -/
inductive HkKind where
  | rtd
  | pd
  | vm
  | ts
  | vi
  deriving DecidableEq, Repr

def hkKind (ch : Nat) : HkKind :=
  if ch ≤ 11 then .rtd else if ch ≤ 17 then .pd else if ch ≤ 20 then .vm else if ch ≤ 22 then .ts else .vi

/-- Pull current of an open-wire test in µA, positive upward (R484). -/
def pullUa : Nat → Int
  | 1 => 2
  | 2 => -2
  | 3 => 20
  | 4 => -20
  | _ => 0

/-- A conversion that counts as open (R483): RTD channels whatever their test, VI channels under one. -/
def hkOpen (k : HkKind) (test : Nat) (raw : Int) : Bool :=
  let can := k = .rtd || (k = .vi && test != 0)
  can && (32000 ≤ raw || (pullUa test < 0 && raw ≤ -32000))

/-- A failed impedance check of |Z| in Ω (R484). -/
def hkImpBad (k : HkKind) (test : Nat) (raw : Int) (z : Nat) : Bool :=
  match k with
  | .rtd =>
    -- r_e = raw × 250 / (16 × (250 + p)); both sides of the test times 20 × 16 × (250 + p)
    let q : Int := 16 * (250 + pullUa test)
    let re : Int := raw * 250
    decide (re + 200 * q < 20 * (((z : Int) * q - re).natAbs : Int))
  | .pd => decide (4000000 < z) || decide (z < 10000)
  | _ => false

/-- The largest number of slots from one conversion of a channel to the next, cyclically (R474). -/
def hkGap (slots : List Nat) (ch : Nat) : Nat :=
  let n := slots.length
  let at_ := (List.range n).filter (fun i => slots.getD i 255 == ch)
  at_.foldl (fun m i =>
    let d := (List.range n).find? (fun k => slots.getD ((i + k + 1) % n) 255 == ch)
    max m ((d.getD 0) + 1)) 0

end Sys2Proof.Machine
end

