-- ==== Sys2Proof/Machine/LedgerLoad.lean ====
section
/-!
DEFINITION. Reading the Ledger from U20 (02): boot descriptors (R43 to R45), structural checks (R46), copy
selection (R49, R50), and the sections of Table 2.6 read into data.
-/

namespace Sys2Proof.Machine

/-! ### Descriptors -/

/-- Fallback allowed, pinned slot, sequence of a valid descriptor (R43). -/
def descriptor (m : Mem) (k : Nat) : Option (Bool × Option Nat × Nat) :=
  let b := Mem.flash m (0x1000 * k) 32
  let f := u16 b 6
  if b.take 4 = [0x42, 0x4C, 0x58, 0x44] && u16 b 4 = 1 && u32 b 28 = crc32 (b.take 28)
      && (!bit f 1 || u8 b 8 ≤ 1) then
    some (bit f 0, if bit f 1 then some (u8 b 8) else none, u32 b 12)
  else none

/-- The descriptor used: LEDGER.STATUS.DESC, fallback and pin (R44, R45). -/
def chooseDesc (m : Mem) : Nat × Bool × Option Nat :=
  match descriptor m 0, descriptor m 1 with
  | some (f, p, q), some (f', p', q') => if later q' q then (1, f', p') else (0, f, p)
  | some (f, p, _), none => (0, f, p)
  | none, some (f, p, _) => (1, f, p)
  | none, none => (2, true, none)

/-! ### Copies -/

/-- One directory entry with its body. -/
structure Sect where
  tag  : Nat
  inst : Nat
  off  : Nat
  len  : Nat
  crc  : Nat
  body : List Nat
  deriving DecidableEq, Repr

def copyBase (k : Nat) : Nat := 0x10000 + 0x100000 * k

/-- Every listed tag (Table 2.6), lane B's among them. -/
def laneTags : List Nat := [0x8001, 0x8002, 0x9001, 0xA001, 0xA002, 0xB001, 0xB002]
def wideTags : List Nat :=
  [0x0001, 0x0002, 0x0803, 0x0804, 0x1801, 0x2001, 0x3001, 0x3002, 0x3803, 0x4801, 0x5001, 0x5002, 0x5803,
   0x6801, 0x6802, 0x6803, 0x6804, 0x6805, 0x7001]
def listed (t : Nat) : Bool := wideTags.contains t || laneTags.contains t || laneTags.contains (t - 0x4000)

/-- Mandatory engine-wide sections. -/
def mandatory : List Nat := [0x0001, 0x0002, 0x2001, 0x3001, 0x3002, 0x5001, 0x5002, 0x7001]

/-- The slot holds no copy (R50). -/
def copyBlank (m : Mem) (k : Nat) : Bool := (Mem.flash m (copyBase k) 64).all (· == 0xFF)

def headerOk (b : List Nat) : Bool :=
  b.take 4 = [0x42, 0x4C, 0x58, 0x4C] && u16 b 4 = 1 && u32 b 60 = crc32 (b.take 60)

/-- The directory's entries, bodies read where they lie inside the copy. -/
def copySects (m : Mem) (k : Nat) : List Sect :=
  let b := Mem.flash m (copyBase k) 64
  (List.range (u16 b 16)).map (fun i =>
    let e := Mem.flash m (copyBase k + u32 b 20 + 16 * i) 16
    { tag := u16 e 0, inst := u8 e 2, off := u32 e 4, len := u32 e 8, crc := u32 e 12
      body := if u32 e 4 + u32 e 8 ≤ u32 b 12 then Mem.flash m (copyBase k + u32 e 4) (u32 e 8) else [] })

def disjoint (x y : Sect) : Bool := x.len = 0 || y.len = 0 || x.off + x.len ≤ y.off || y.off + y.len ≤ x.off

/-- No two elements of a list fail `f`. -/
def pairwise {α : Type} (f : α → α → Bool) : List α → Bool
  | [] => true
  | x :: xs => xs.all (f x) && pairwise f xs

/-- The first reason of Table 2.5 to reject a copy, 0 for none (R46, R50). -/
def copyReason (m : Mem) (k : Nat) : Nat :=
  let b := Mem.flash m (copyBase k) 64
  let len := u32 b 12
  let n := u16 b 16
  let dir := u32 b 20
  if !headerOk b then 1
  else if len < 0x40 || 0x100000 < len then 2
  else if u32 b 24 != crc32 (Mem.flash m (copyBase k + 0x40) (len - 0x40)) then 3
  else if n = 0 || 256 < n || dir % 4 != 0 || dir < 0x40 || len < dir + 16 * n then 4
  else
    let ss := copySects m k
    if ss.any (fun e => e.off % 4 != 0 || len < e.off + e.len) || !pairwise disjoint ss then 4
    else if ss.any (fun e => e.crc != crc32 e.body) then 5
    else if !pairwise (fun x y => x.tag != y.tag || x.inst != y.inst) ss then 6
    else if ss.any (fun e => !bit e.tag 11 && !listed e.tag) then 7
    else 0

/-- What selection came to: slot, whether it is the fallback, rejected copies with reasons (R49, R50). -/
structure CopyPick where
  slot     : Option Nat
  fallback : Bool := false
  rejected : List (Nat × Nat) := []
  deriving DecidableEq, Repr

/-- Copy selection (R49). A slot that is not blank and whose header fails is reported whichever copy is chosen;
under a pin the other slot is no candidate and nothing is reported of it (DESIGN CHOICE, log 89). -/
def pickCopy (m : Mem) (fallback : Bool) (pin : Option Nat) : CopyPick :=
  match pin with
  | some k =>
    if copyBlank m k then { slot := none }
    else
      let r := copyReason m k
      if r = 0 then { slot := some k } else { slot := none, rejected := [(k, r)] }
  | none =>
    let ok := fun k => !copyBlank m k && headerOk (Mem.flash m (copyBase k) 64)
    let hdrBad := ([0, 1].filter (fun k => !copyBlank m k && !ok k)).map (fun k => (k, 1))
    let seq := fun k => u32 (Mem.flash m (copyBase k) 64) 8
    let first := if ok 0 && ok 1 then (if later (seq 1) (seq 0) then some 1 else some 0)
      else if ok 0 then some 0 else if ok 1 then some 1 else none
    match first with
    | none => { slot := none, rejected := hdrBad }
    | some k =>
      let r := copyReason m k
      if r = 0 then { slot := some k, rejected := hdrBad }
      else
        let j := 1 - k
        if fallback && ok j then
          let r' := copyReason m j
          if r' = 0 then { slot := some j, fallback := true, rejected := (k, r) :: hdrBad }
          else { slot := none, rejected := [(k, r), (j, r')] }
        else { slot := none, rejected := (k, r) :: hdrBad }

/-! ### Sections (Tables 2.6 to 2.9) -/

/-- A section's body, empty where it is absent. -/
def sect (ss : List Sect) (tag : Nat) (inst : Nat := 0) : Option Sect :=
  ss.find? (fun e => e.tag == tag && e.inst == inst)

def bodyOf (ss : List Sect) (tag : Nat) : List Nat := ((sect ss tag).map Sect.body).getD []

def has (ss : List Sect) (tag : Nat) : Bool := ss.any (fun e => e.tag == tag)

/-- Owner codes of n items, two bits each (Table 2.7). -/
def owners (b : List Nat) (o bytes n : Nat) : List Nat :=
  let v := leNat bytes (b.drop o)
  (List.range n).map (fun i => bits v (2 * i + 1) (2 * i))

def readParty (b : List Nat) : PartyBody :=
  { openA := bit (u8 b 0) 0, openB := bit (u8 b 0) 1, budgetA := u16 b 2, budgetB := u16 b 4, budgetM := u16 b 6
    winOwner := owners b 8 4 16, tmrOwner := owners b 12 4 16, hkOwner := owners b 16 6 24
    chOwner := owners b 22 2 8, headOwner := owners b 24 8 32 }

/-- Records of `w` bytes from offset `o`. -/
def recs {α : Type} (b : List Nat) (o w n : Nat) (f : List Nat → α) : List α :=
  (List.range n).map (fun i => f (b.drop (o + w * i)))

def readTrim (b : List Nat) : TrimRec :=
  { unit := u8 b 0, offset := u16 b 2, lowBit := u8 b 4, width := u8 b 5, minRaw := u16 b 8, maxRaw := u16 b 10 }

def readWindow (b : List Nat) : WindowRec :=
  { base := u32 b 0, len := u32 b 4, enabled := bit (u8 b 8) 0 }

def readStream (b : List Nat) : StreamRec := { master := u8 b 0, party := u8 b 1, window := u8 b 2 }

def readTimer (b : List Nat) : TimerRec :=
  { reload := u16 b 0, compare := u16 b 2, presc := u8 b 4, enabled := bit (u8 b 5) 0
    cascade := bit (u8 b 5) 1, group := bit (u8 b 5) 2, phase := u16 b 6 }

def readHkChan (b : List Nat) : HkChanRec :=
  { arr := u8 b 0, consumer := u8 b 1, openTest := u8 b 2, impCheck := bit (u8 b 3) 0, winLow := i16 b 4
    winHigh := i16 b 6, hyst := u16 b 8, tol := u16 b 10, poly := u8 b 12 }

def readPoly (b : List Nat) : List Int := (List.range 12).map (fun i => i32 b (4 * i))

def readLightCh (b : List Nat) : LightChRec :=
  { limit := u16 b 0, pwm := u8 b 2 != 0, enabled := bit (u8 b 3) 0, scanLit := bit (u8 b 3) 1
    pwmFreq := u16 b 4, outMode := u8 b 6, hkChan := u8 b 7, group := u8 b 8
    knee := i16 b 10, zero := i16 b 12, shut := i16 b 14, hyst := u16 b 16 }

def readLightHead (b : List Nat) : LightHeadRec :=
  { addr := u8 b 0, scanLit := bit (u8 b 1) 0, group := u8 b 2, identity := u32 b 4
    knee := i16 b 8, zero := i16 b 10, shut := i16 b 12, hyst := u16 b 14 }

/-- SCENES records in order, with the byte offset of each. -/
def readScenes : Nat → Nat → List Nat → List (Nat × Scene)
  | 0, _, _ => []
  | n + 1, o, b =>
    let h := u8 b 1
    (o, { num := u8 b 0, chan := (List.range 8).map (fun i => u16 b (2 + 2 * i))
          heads := (List.range h).map (fun i => (u8 b (18 + 4 * i), u16 b (20 + 4 * i))) })
      :: readScenes n (o + 18 + 4 * h) (b.drop (18 + 4 * h))

def readPhoto (b : List Nat) : PhotoRec :=
  { refChan := u8 b 0, loopOn := bit (u8 b 1) 0, limScan := u16 b 2, limOut := u16 b 4, interval := u16 b 6 }

def readProgram (b : List Nat) : Program :=
  { num := u8 b 0, mode := u8 b 1, party := u8 b 2, pinOk := bit (u8 b 3) 0, hostOk := bit (u8 b 3) 1
    encReq := bit (u8 b 3) 2, name := fit 0 16 (slice b 4 16), period := u32 b 0x14, integ := u32 b 0x18
    lines := u32 b 0x1C, waves := u8 b 0x20, calSet := u8 b 0x21, scene := u8 b 0x22, binning := u8 b 0x23
    micro := u16 b 0x24, reverse := u8 b 0x26 != 0, profile := u8 b 0x27, focStart := u16 b 0x28
    focLen := u16 b 0x2A, overlap := u16 b 0x2C, rungs := u8 b 0x2E, seamsDn := u8 b 0x2F, quietUp := u16 b 0x30
    rungPer := (List.range 7).map (fun i => u32 b (0x34 + 4 * i)), taps := u8 b 0x50 }

def readHeadSec (b : List Nat) : HeadSec :=
  { typeChars := fit 0 8 (b.take 8), supplyMa := u16 b 8, taps := u8 b 10, outs := u8 b 11, active := u16 b 12
    dark := u8 b 14, slew := u8 b 15
    chans := recs b 16 4 8 (fun r => { sh := u8 r 0 != 0, gain := u8 r 1, offset := u16 r 2 })
    thermChan := u8 b 48, idCheck := bit (u8 b 49) 0 }

def readWaves (inst : Nat) (b : List Nat) : WaveSet :=
  { inst := inst, period := u16 b 0
    waves := recs b 8 52 (u8 b 2) (fun r =>
      { out := u8 r 0, idle := u8 r 1, nPix := u8 r 2, nLine := u8 r 3
        pixEdges := (List.range (min 8 (u8 r 2))).map (fun i => u16 r (4 + 2 * i))
        lineEdges := (List.range (min 8 (u8 r 3))).map (fun i => u32 r (20 + 4 * i)) }) }

def readTill (b : List Nat) : TillSec :=
  { log2 := u8 b 0, window := u8 b 1, tailUs := u16 b 2, cut := u32 b 4, stop := u32 b 8, resume := u32 b 12 }

def readLink (b : List Nat) : LinkSec :=
  { supplyMa := u16 b 0, stripe := u8 b 2, creditUs := u16 b 4, statusUs := u16 b 6, trainMs := u16 b 8 }

def readAxis (b : List Nat) : AxisSec :=
  { runMa := u16 b 0, holdMa := u16 b 2, micro := u8 b 4, encoder := bit (u8 b 5) 0, motorInv := bit (u8 b 5) 1
    encInv := bit (u8 b 5) 2, runUp := u16 b 6, cpp := u32 b 8 }

def readProfile (inst : Nat) (b : List Nat) : ProfileSec :=
  { inst := inst, window := u8 b 0, offset := u32 b 4
    entries := (List.range (u16 b 2)).map (fun i => u32 b (12 + 4 * i)) }

/-- A lane's sections; `off` is 0 for lane A, 0x4000 for lane B. -/
def readLane (ss : List Sect) (off : Nat) : LaneImage :=
  { head := readHeadSec (bodyOf ss (0x8001 + off))
    waves := (ss.filter (fun e => e.tag == 0x8002 + off)).map (fun e => readWaves e.inst e.body)
    pix := { tCentre := i16 (bodyOf ss (0x9001 + off)) 0, tSpan := u16 (bodyOf ss (0x9001 + off)) 2
             window := u8 (bodyOf ss (0x9001 + off)) 4 }
    till := readTill (bodyOf ss (0xA001 + off))
    link := readLink (bodyOf ss (0xA002 + off))
    axis := readAxis (bodyOf ss (0xB001 + off))
    profiles := (ss.filter (fun e => e.tag == 0xB002 + off)).map (fun e => readProfile e.inst e.body) }

/-- Lane B sections that Table 2.6 lists. -/
def laneBSects (ss : List Sect) : List Sect := ss.filter (fun e => laneTags.contains (e.tag - 0x4000) && 0x4000 ≤ e.tag)

/-- Sections in force on a build (R2, R47). -/
def sectsUsed (two : Bool) (ss : List Sect) : List Sect :=
  ss.filter (fun e => listed e.tag && (two || !(laneBSects [e]).length != 0))

/-- The content of a copy (R57 and the chapters for absent sections). Bits [7:4] of the watch timers' wake mask are
ignored (DESIGN CHOICE, log 120). -/
def readLedger (two : Bool) (seq len : Nat) (all : List Sect) : Ledger :=
  let ss := sectsUsed two all
  let ident := bodyOf ss 0x0001
  let sys := bodyOf ss 0x0804
  let pwr := bodyOf ss 0x1801
  let clk := bodyOf ss 0x2001
  let sched := bodyOf ss 0x5002
  let trims := bodyOf ss 0x0803
  let poly := bodyOf ss 0x5803
  let lh := bodyOf ss 0x6802
  { seq := seq, length := len
    name := fit 0 32 (ident.take 32), integ := u32 ident 32, irev := u32 ident 36
    party := readParty (bodyOf ss 0x0002)
    trims := recs trims 4 12 (u16 trims 0) readTrim
    attnMask := if has ss 0x0804 then u16 sys 0 else 1
    sleepHon := bit (u16 sys 2) 0, wakeHon := bit (u16 sys 2) 1, serviceOk := bit (u16 sys 2) 2
    haltOk := bit (u16 sys 2) 3, wakeMask := u8 sys 4 % 16
    auxOn := !has ss 0x1801 || bit (u8 pwr 0) 0, peMon := !has ss 0x1801 || bit (u8 pwr 0) 1
    portRun := !has ss 0x1801 || bit (u8 pwr 0) 2
    fcode := u8 clk 0, spread := u8 clk 1, tmod := u32 clk 4
    windows := recs (bodyOf ss 0x3001) 0 12 16 readWindow
    streams := recs (bodyOf ss 0x3002) 4 4 (u8 (bodyOf ss 0x3002) 0) readStream
    march := u8 (bodyOf ss 0x3803) 0
    timers := recs (bodyOf ss 0x4801) 0 12 16 readTimer
    hkchan := if has ss 0x5001 then recs (bodyOf ss 0x5001) 0 16 24 readHkChan else List.replicate 24 {}
    slotsA := slice sched 4 (min 48 (u8 sched 0)), slotsB := slice sched 52 (min 48 (u8 sched 1))
    polys := recs poly 4 48 (u16 poly 0) readPoly
    lightch := if has ss 0x6801 then recs (bodyOf ss 0x6801) 0 24 8 readLightCh else List.replicate 8 {}
    lighthead := recs lh 4 16 (u8 lh 0) readLightHead
    headroom := if has ss 0x6803 then u16 (bodyOf ss 0x6803) 0 else 100
    scenes := (readScenes (u8 (bodyOf ss 0x6804) 0) 4 ((bodyOf ss 0x6804).drop 4)).map Prod.snd
    photo := if has ss 0x6805 then recs (bodyOf ss 0x6805) 0 8 8 readPhoto else List.replicate 8 {}
    programs := recs (bodyOf ss 0x7001) 4 96 (u8 (bodyOf ss 0x7001) 0) readProgram
    laneA := readLane ss 0
    laneB := if (laneBSects ss).isEmpty then none else some (readLane ss 0x4000) }

end Sys2Proof.Machine
end

