-- ==== Sys2Proof/Machine/LedgerCheck.lean ====
section
/-!
DEFINITION. The load checks of R51 over a selected copy (02, with the checks that every other chapter makes
at load): fields out of range, missing sections, windows, streams, budgets, ignored items and programs.
-/

namespace Sys2Proof.Machine

/-- What the checks judge: the build, the sections in force, and their content. -/
structure CheckCtx where
  two    : Bool
  sects  : List Sect
  led    : Ledger
  deriving DecidableEq, Repr

def CheckCtx.present (c : CheckCtx) (tag : Nat) : Bool := has c.sects tag

/-- An owner code as this build takes it (R14). -/
def CheckCtx.own (c : CheckCtx) (raw : Nat) : Nat := if raw = 2 ∧ c.two = false then 0 else raw
def CheckCtx.dropped (c : CheckCtx) (raw : Nat) : Bool := raw = 2 && !c.two
def CheckCtx.winOwn (c : CheckCtx) (w : Nat) : Nat := c.own (c.led.party.winOwner.getD w 0)
def CheckCtx.winUsed (c : CheckCtx) (w : Nat) : Bool :=
  decide (w < 16) && (c.led.windows.getD w {}).enabled && !c.dropped (c.led.party.winOwner.getD w 0)
def CheckCtx.hkOwn (c : CheckCtx) (n : Nat) : Nat := c.own (c.led.party.hkOwner.getD n 0)
def CheckCtx.chDrop (c : CheckCtx) (n : Nat) : Bool := c.dropped (c.led.party.chOwner.getD n 0)
def CheckCtx.headDrop (c : CheckCtx) (a : Nat) : Bool := c.dropped (c.led.party.headOwner.getD a 0)
def CheckCtx.chOwn (c : CheckCtx) (n : Nat) : Nat := c.own (c.led.party.chOwner.getD n 0)
def CheckCtx.headOwn (c : CheckCtx) (a : Nat) : Nat := c.own (c.led.party.headOwner.getD a 0)

/-- A window that a section of a lane may name (R59). With WINDOWS or PARTY missing every window reads as
disabled or management's, and each section that names one is found wrong (DESIGN CHOICE, log 88). -/
def CheckCtx.winFor (c : CheckCtx) (l : Lane) (w : Nat) : Bool := c.winUsed w && c.winOwn w == laneParty l

/-- A tag taken as lane A's, and the lane of a lane section. -/
def baseTag (t : Nat) : Nat := if 0x4000 ≤ t && laneTags.contains (t - 0x4000) then t - 0x4000 else t
def tagLane (t : Nat) : Lane := if baseTag t = t then .a else .b

/-- `[o]` where a field at offset o is wrong. -/
def bad (o : Nat) (b : Bool) : List Nat := if b then [o] else []

/-- The body length Table 2.6 requires (R59). -/
def bodyNeed (t : Nat) (b : List Nat) : Nat :=
  match baseTag t with
  | 0x0001 => 48
  | 0x0002 => 32
  | 0x0803 => 4 + 12 * u16 b 0
  | 0x0804 | 0x1801 | 0x9001 | 0xA002 | 0xB001 => 16
  | 0x2001 => 12
  | 0x3001 | 0x4801 | 0x6801 => 192
  | 0x3002 => 4 + 4 * u8 b 0
  | 0x3803 | 0x6803 => 8
  | 0x5001 => 384
  | 0x5002 => 100
  | 0x5803 => 4 + 48 * u16 b 0
  | 0x6802 => 4 + 16 * u8 b 0
  | 0x6804 => 4 + ((readScenes (u8 b 0) 4 (b.drop 4)).map (fun q => 18 + 4 * q.2.heads.length)).sum
  | 0x6805 | 0x8001 => 64
  | 0x7001 => 4 + 96 * u8 b 0
  | 0x8002 => 8 + 52 * u8 b 2
  | 0xA001 => 20
  | 0xB002 => 12 + 4 * u16 b 2
  | _ => 0

/-! ### Fields of one section (R59, R593, R58, R145, R214, R224, R314, R379, R384, R418) -/

def outOf (lo hi v : Nat) : Bool := v < lo || hi < v

/-- 0 to `hi`, or 0xFF for none. -/
def optOut (hi v : Nat) : Bool := hi < v && v != 255

/-- Elements of a list that repeat an earlier one's key, by index. -/
def repeats (ks : List Nat) : List Nat :=
  (List.range ks.length).filter (fun i => (ks.take i).contains (ks.getD i 0))

def thresholds (o : Nat) (knee zero shut : Int) (hyst ko zo ho : Nat) : List Nat :=
  bad (o + ko) (decide (zero ≤ knee)) ++ bad (o + zo) (decide (shut < zero)) ++ bad (o + ho) (hyst < 10)

def lightChErrs (o : Nat) (b : List Nat) : List Nat :=
  let r := readLightCh b
  if !r.enabled then []
  else
    bad o (4095 < r.limit) ++ bad (o + 2) (1 < u8 b 2) ++ bad (o + 4) (r.pwm && outOf 10 400 r.pwmFreq)
      ++ bad (o + 6) (1 < r.outMode) ++ bad (o + 7) (optOut 23 r.hkChan || (r.scanLit && r.hkChan = 255))
      ++ bad (o + 8) (optOut 7 r.group) ++ thresholds o r.knee r.zero r.shut r.hyst 10 12 16

def lightHeadErrs (o : Nat) (b : List Nat) : List Nat :=
  let r := readLightHead b
  bad o (outOf 1 31 r.addr) ++ bad (o + 2) (optOut 7 r.group)
    ++ thresholds o r.knee r.zero r.shut r.hyst 8 10 14

/-- Errors of n records of w bytes from offset o. -/
def recErrs (b : List Nat) (o w n : Nat) (f : Nat → List Nat → List Nat) : List Nat :=
  (List.range n).flatMap (fun i => f (o + w * i) (b.drop (o + w * i)))

def sceneErrs (c : CheckCtx) (b : List Nat) : List Nat :=
  let rs := readScenes (u8 b 0) 4 (b.drop 4)
  let addrs := c.led.lighthead.map LightHeadRec.addr
  let nums := rs.map (fun q => q.2.num)
  rs.flatMap (fun q =>
      bad q.1 (15 < q.2.num)
        ++ (List.range 8).flatMap (fun i =>
            bad (q.1 + 2 + 2 * i) ((c.led.lightch.getD i {}).enabled && 4095 < q.2.chan.getD i 0))
        ++ (q.2.heads.mapIdx (fun j h => bad (q.1 + 18 + 4 * j) (!addrs.contains h.1))).flatten)
    ++ (repeats nums).map (fun i => (rs.getD i (0, { num := 0, chan := [], heads := [] })).1)

def waveErrs (b : List Nat) : List Nat :=
  bad 2 (outOf 1 16 (u8 b 2)) ++ recErrs b 8 52 (u8 b 2) (fun o r =>
    bad o (15 < u8 r 0) ++ bad (o + 1) (1 < u8 r 1) ++ bad (o + 2) (8 < u8 r 2) ++ bad (o + 3) (8 < u8 r 3))

def headErrs (b : List Nat) : List Nat :=
  let h := readHeadSec b
  bad 8 (1500 < h.supplyMa) ++ bad 10 (outOf 1 4 h.taps) ++ bad 11 (outOf 1 2 h.outs)
    ++ bad 12 (outOf 1 16384 h.active) ++ bad 14 (128 < h.dark) ++ bad 15 (3 < h.slew)
    ++ recErrs b 16 4 8 (fun o r => bad o (1 < u8 r 0) ++ bad (o + 1) (36 < u8 r 1) ++ bad (o + 2) (1023 < u16 r 2))

/-- The window a section names is long enough, belongs to the lane and is enabled: errors at offsets of the
window field and of the fit. -/
def CheckCtx.winErrs (c : CheckCtx) (l : Lane) (w wo need fo : Nat) : List Nat :=
  bad wo (!c.winFor l w) ++ bad fo (c.winFor l w && decide ((c.led.windows.getD w {}).len < need))

/-- Fields of one section out of range (R59, R593). A window whose base plus length exceeds the array names its
base, offset 12n, as the field; a Till window that is not 2^size words long names its window number, offset 1, and a
profile table beyond its window its word offset, offset 4 (DESIGN CHOICE, log 85: R59 and R594 name none of them). -/
def sectErrs (c : CheckCtx) (e : Sect) : List Nat :=
  let b := e.body
  let l := tagLane e.tag
  match baseTag e.tag with
  | 0x0002 =>
    let p := readParty b
    bad 8 (p.winOwner.contains 3) ++ bad 12 (p.tmrOwner.contains 3) ++ bad 16 (p.hkOwner.contains 3)
      ++ bad 22 (p.chOwner.contains 3) ++ bad 24 (p.headOwner.contains 3 || p.headOwner.getD 0 0 != 0)
  | 0x2001 => bad 0 (2 < u8 b 0) ++ bad 1 (4 < u8 b 1) ++ bad 4 (outOf 1 16777215 (u32 b 4))
  | 0x3001 =>
    (List.range 16).flatMap (fun n =>
      let r := c.led.windows.getD n {}
      if !c.winUsed n then []
      else bad (12 * n) (r.base % 32 != 0 || 0x400000 < r.base + r.len) ++ bad (12 * n + 4) (r.len % 32 != 0 || r.len < 32))
  | 0x3002 =>
    bad 0 (16 < u8 b 0) ++ recErrs b 4 4 (u8 b 0) (fun o r =>
      let q := readStream r
      if c.dropped q.party then []
      else bad o (outOf 1 4 q.master) ++ bad (o + 1) (outOf 1 2 q.party)
        ++ bad (o + 2) (!c.winUsed q.window || c.winOwn q.window != q.party))
  | 0x3803 => bad 0 (1 < u8 b 0)
  | 0x4801 => recErrs b 0 12 16 (fun o r => bad (o + 4) (15 < u8 r 4))
  | 0x5001 => recErrs b 0 16 24 (fun o r =>
      if u8 r 0 = 0 then [] else bad o (4 < u8 r 0) ++ bad (o + 1) (4 < u8 r 1) ++ bad (o + 2) (4 < u8 r 2))
  | 0x5002 => bad 0 (outOf 1 48 (u8 b 0)) ++ bad 1 (48 < u8 b 1)
  | 0x6801 => recErrs b 0 24 8 lightChErrs
  | 0x6802 =>
    bad 0 (31 < u8 b 0) ++ recErrs b 4 16 (u8 b 0) lightHeadErrs
      ++ (repeats ((recs b 4 16 (u8 b 0) readLightHead).map LightHeadRec.addr)).map (fun i => 4 + 16 * i)
  | 0x6804 => bad 0 (outOf 1 16 (u8 b 0)) ++ sceneErrs c b
  | 0x6805 => recErrs b 0 8 8 (fun o r =>
      bad o (optOut 23 (u8 r 0)) ++ bad (o + 2) (bit (u8 r 1) 0 && outOf 1 5 (u16 r 2)))
  | 0x7001 => bad 0 (outOf 1 16 (u8 b 0))
  | 0x8001 => headErrs b
  | 0x8002 => waveErrs b
  | 0x9001 => bad 2 (u16 b 2 = 0) ++ c.winErrs l (u8 b 4) 4 524288 4
  | 0xA001 =>
    let t := readTill b
    let n := 2 ^ t.log2
    bad 0 (outOf 16 21 t.log2) ++ bad 1 (!c.winFor l t.window || (c.led.windows.getD t.window {}).len != n)
      ++ bad 2 (t.tailUs = 0) ++ bad 4 (n < t.cut) ++ bad 8 (t.stop = 0 || n ≤ t.stop)
      ++ bad 12 (t.resume = 0 || n < t.resume + t.stop)
  | 0xA002 =>
    let k := readLink b
    bad 0 (2000 < k.supplyMa) ++ bad 2 (2 < k.stripe) ++ bad 4 (k.creditUs < 200) ++ bad 6 (k.statusUs < 2000)
      ++ bad 8 (outOf 1 1000 k.trainMs)
  | 0xB001 =>
    let a := readAxis b
    bad 0 (3000 < a.runMa) ++ bad 2 (a.runMa < a.holdMa) ++ bad 4 (8 < a.micro)
      ++ bad 8 (a.encoder && a.cpp < 0x40000)
  | 0xB002 =>
    let w := u8 b 0
    bad 0 (!c.winFor l w) ++ bad 4 (c.winFor l w && (c.led.windows.getD w {}).len < u32 b 4 + 2 * u16 b 2)
  | _ => []

/-- A body too short, or a nonzero or excess INST (R59). An INST, which stands in the directory, names byte offset 0 of
the body (DESIGN CHOICE, log 85). -/
def frameErrs (e : Sect) : List Nat :=
  let top := if baseTag e.tag = 0x8002 then 15 else if baseTag e.tag = 0xB002 then 7 else 0
  bad 0 (top < e.inst)

/-! ### Checks between sections (R445, R463 to R465, R501, R537) -/

/-- An error of a section named by tag, at an offset of its body. -/
abbrev FieldErr := Nat × Nat

def errAt (tag : Nat) (os : List Nat) : List FieldErr := os.map (fun o => (tag, o))

/-- Light channels that name HK channel h as heatsink, and those R465 leaves in. -/
def CheckCtx.sinks (c : CheckCtx) (h : Nat) : List Nat :=
  (List.range 8).filter (fun n =>
    let r := c.led.lightch.getD n {}
    r.enabled && r.hkChan = h && !c.chDrop n)

/-- Members of a photometric group that R465 leaves in: owners. -/
def CheckCtx.members (c : CheckCtx) (k : Nat) : List Nat :=
  ((List.range 8).filter (fun n =>
      (c.led.lightch.getD n {}).enabled && (c.led.lightch.getD n {}).group = k && !c.chDrop n)).map c.chOwn
    ++ ((c.led.lighthead.filter (fun r => r.group = k && !c.headDrop r.addr)).map (fun r => c.headOwn r.addr))

/-- Every member of the group is a lane B item on a BLX-1416, and it has one (R465). -/
def CheckCtx.groupB (c : CheckCtx) (k : Nat) : Bool :=
  (c.members k).isEmpty &&
    ((List.range 8).any (fun n =>
        (c.led.lightch.getD n {}).enabled && (c.led.lightch.getD n {}).group = k && c.chDrop n)
      || c.led.lighthead.any (fun r => r.group = k && c.headDrop r.addr))

/-- Groups that name HK channel h as reference, those R465 leaves in. -/
def CheckCtx.groupsOf (c : CheckCtx) (h : Nat) : List Nat :=
  (List.range 8).filter (fun k => (c.led.photo.getD k {}).refChan = h && !c.groupB k)

/-- The consumer as R465 takes it. -/
def CheckCtx.consumer (c : CheckCtx) (h : Nat) : Nat :=
  let r := c.led.hkchan.getD h {}
  let sinkB := (List.range 8).any (fun n =>
    (c.led.lightch.getD n {}).enabled && (c.led.lightch.getD n {}).hkChan = h && c.chDrop n)
  let refB := (List.range 8).any (fun k => (c.led.photo.getD k {}).refChan = h && c.groupB k)
  if c.two then r.consumer
  else if r.consumer = 4 || (r.consumer = 1 && (c.sinks h).isEmpty && sinkB)
      || (r.consumer = 2 && (c.groupsOf h).isEmpty && refB) then 0
  else r.consumer

/-- The thermometer channel of a lane whose HEAD section is in force. -/
def CheckCtx.therm (c : CheckCtx) : Lane → Option Nat
  | .a => if c.present 0x8001 then some c.led.laneA.head.thermChan else none
  | .b => if c.present 0xC001 then c.led.laneB.map (fun x => x.head.thermChan) else none

def CheckCtx.chanErrs (c : CheckCtx) (h : Nat) : List Nat :=
  let r := c.led.hkchan.getD h {}
  let o := 16 * h
  let a := c.led.slotsA
  let b := c.led.slotsB
  let kind := hkKind h
  let paired := r.arr = 3 || r.arr = 4
  let own := c.hkOwn h
  let k := c.consumer h
  if r.arr = 0 then []
  else
    bad o ((1 ≤ r.arr && r.arr ≤ 4 && !a.contains h && !b.contains h)
        || (r.arr = 1 && b.contains h) || (r.arr = 2 && a.contains h)
        || (paired && (a.length != b.length
          || (List.range 48).any (fun i => (a.getD i 255 == h) != (b.getD i 255 == h)))))
      ++ bad (o + 1) ((k = 1 && (c.sinks h).isEmpty) || (k = 2 && (c.groupsOf h).isEmpty)
        || (k = 3 && c.therm .a != some h) || (k = 4 && c.therm .b != some h)
        || (k = 0 && own != 0) || (k = 1 && (c.sinks h).any (fun n => c.chOwn n != own))
        || (k = 3 && own != 1) || (k = 4 && own != 2))
      ++ bad (o + 2) (r.openTest != 0 && (kind = .pd || kind = .vm || kind = .ts))
      ++ bad (o + 3) (r.impCheck && (kind = .vm || kind = .ts || kind = .vi))
      ++ bad (o + 4) (decide (r.winHigh < r.winLow))
      ++ bad (o + 8) (decide (r.winHigh - r.winLow < 2 * (r.hyst : Int)))
      ++ bad (o + 10) (r.arr = 3 && r.tol = 0)
      ++ bad (o + 12) (r.poly != 255 && c.led.polys.length ≤ r.poly)

/-- A reference to a channel whose consumer differs or whose arrangement is 0 (R463). -/
def CheckCtx.refBad (c : CheckCtx) (h consumer : Nat) : Bool :=
  (c.led.hkchan.getD h {}).arr = 0 || c.consumer h != consumer

def CheckCtx.hkErrs (c : CheckCtx) : List FieldErr :=
  let arr := fun h => (c.led.hkchan.getD h {}).arr
  let list := fun (o : Nat) (ls : List Nat) =>
    (ls.mapIdx (fun i h => bad (o + i) (23 < h || arr h = 0))).flatten
  errAt 0x5002 (list 4 c.led.slotsA ++ list 52 c.led.slotsB)
    ++ errAt 0x5001 ((List.range 24).flatMap c.chanErrs)
    ++ (errAt 0x6801 ((List.range 8).flatMap (fun n =>
        let r := c.led.lightch.getD n {}
        bad (24 * n + 7) (r.enabled && r.hkChan ≤ 23 && !c.chDrop n && c.refBad r.hkChan 1)))
      ++ errAt 0x6805 ((List.range 8).flatMap (fun k =>
        let r := c.led.photo.getD k {}
        bad (8 * k) (r.refChan ≤ 23 && !c.groupB k
          && (c.refBad r.refChan 2 || (c.members k).any (fun w => w != c.hkOwn r.refChan)))))
      ++ (match c.therm .a with
          | some h => errAt 0x8001 (bad 48 (3 < h || c.refBad h 3))
          | none => [])
      ++ (match c.therm .b with
          | some h => errAt 0xC001 (bad 48 (3 < h || c.refBad h 4 || c.therm .a = some h))
          | none => []))

/-- A timer's reload and phase, a cascaded pair's as 32-bit values. The timers that a BLX-1416 does not use are left out
of R501's checks, not of R593's ranges (DESIGN CHOICE, log 112). -/
def CheckCtx.timerErrs (c : CheckCtx) : List FieldErr :=
  let drop := fun n => c.dropped (c.led.party.tmrOwner.getD n 0)
  let t := fun n => if drop n then ({} : TimerRec) else c.led.timers.getD n {}
  let own := fun n => c.own (c.led.party.tmrOwner.getD n 0)
  errAt 0x4801 ((List.range 16).flatMap (fun n =>
      let pair := n % 2 = 0 && (t n).cascade
      let half := n % 2 = 1 && (t (n - 1)).cascade
      let rld := (t n).reload + (if pair then 65536 * (t (n + 1)).reload else 0)
      let off := (t n).phase + (if pair then 65536 * (t (n + 1)).phase else 0)
      bad (12 * n + 5) ((n % 2 = 1 && (c.led.timers.getD n {}).cascade) || (pair && own n != own (n + 1)))
        ++ bad (12 * n + 6) ((t n).group && !half && rld < off)))
    ++ errAt 0x0804 (bad 4 ([1, 3].any (fun n => bit c.led.wakeMask n && (t (n - 1)).cascade)))

/-- The Ledger value of a trimmable field, and whether it is signed (Table 17.10, Table 17.6). -/
def CheckCtx.trimField (c : CheckCtx) (r : TrimRec) : Option (Nat × Bool) :=
  let img := if r.unit < 0xC then some c.led.laneA else c.led.laneB
  if r.unit = 0x8 || r.unit = 0xC then
    let ch := ((img.map (fun x => x.head.chans)).getD []).getD (r.offset - 0x18) {}
    if r.offset < 0x18 || 0x20 ≤ r.offset then none
    else if r.lowBit = 0 && r.width = 6 then some (ch.gain, false)
    else if r.lowBit = 6 && r.width = 10 then some (ch.offset, false)
    else none
  else if r.unit = 0xB || r.unit = 0xF then
    let a := (img.map LaneImage.axis).getD {}
    if r.lowBit != 0 || r.width != 12 then none
    else if r.offset = 2 then some (a.runMa, false)
    else if r.offset = 3 then some (a.holdMa, false)
    else none
  else if r.unit = 5 then
    let n := (r.offset - 0x40) / 8
    let k := c.led.hkchan.getD n {}
    if r.offset < 0x40 || 24 ≤ n || c.hkOwn n != 0 || r.lowBit != 0 || r.width != 16 then none
    else if r.offset % 8 = 3 then some (unsigned 16 k.winLow, true)
    else if r.offset % 8 = 4 then some (unsigned 16 k.winHigh, true)
    else none
  else none

/-- A bound or value of a trim compared as its field is signed (R539). -/
def trimNum (sgn : Bool) (v : Nat) : Int := if sgn then signed 16 v else v

/-- A value lies within a record's bounds. -/
def trimWithin (r : TrimRec) (sgn : Bool) (v : Nat) : Bool :=
  trimNum sgn r.minRaw ≤ trimNum sgn v && trimNum sgn v ≤ trimNum sgn r.maxRaw

/-- A TRIMS record of a lane B unit that R538 ignores. -/
def CheckCtx.trimDrop (c : CheckCtx) (r : TrimRec) : Bool := 0xC ≤ r.unit && r.unit ≤ 0xF && c.led.laneB.isNone

/-- The first field of a TRIMS record that names no trimmable field: its unit, its register, its low bit or its
width, as an offset in the record (R538, R539). -/
def CheckCtx.trimWrong (c : CheckCtx) (r : TrimRec) : Nat :=
  let reg := ((r.unit = 8 || r.unit = 0xC) && decide (0x18 ≤ r.offset) && decide (r.offset < 0x20))
    || ((r.unit = 0xB || r.unit = 0xF) && (r.offset = 2 || r.offset = 3))
    || (r.unit = 5 && decide (0x40 ≤ r.offset) && decide ((r.offset - 0x40) / 8 < 24)
        && c.hkOwn ((r.offset - 0x40) / 8) = 0 && (r.offset % 8 = 3 || r.offset % 8 = 4))
  let low := r.lowBit = 0 || ((r.unit = 8 || r.unit = 0xC) && r.lowBit = 6)
  if !([5, 8, 0xB, 0xC, 0xF].contains r.unit) then 0 else if !reg then 2 else if !low then 4 else 5

/-- TRIMS findings (R538, R539): a record that names no trimmable field, and a bound that excludes the Ledger
value, each at its own field. -/
def CheckCtx.trimErrs (c : CheckCtx) : List FieldErr :=
  errAt 0x0803 ((c.led.trims.mapIdx (fun i r =>
    let o := 4 + 12 * i
    if c.trimDrop r then []
    else
      match c.trimField r with
      | none => [o + c.trimWrong r]
      | some (v, sgn) =>
        bad (o + 8) (decide (trimNum sgn v < trimNum sgn r.minRaw))
          ++ bad (o + 10) (decide (trimNum sgn r.maxRaw < trimNum sgn v)))).flatten)

/-! ### Findings -/

/-- A record that a finding calls for. -/
abbrev Finding := Nat × List Nat

def leastOf : List Nat → Option Nat
  | [] => none
  | x :: xs => some (xs.foldl min x)

/-- 0x7013 for each section with a field out of range, in directory order (R594). -/
def CheckCtx.fieldFindings (c : CheckCtx) : List Finding :=
  let cross := c.hkErrs ++ c.timerErrs ++ c.trimErrs
  c.sects.filterMap (fun e =>
    let short := e.body.length < bodyNeed e.tag e.body
    let mine := if e.inst = 0 then (cross.filter (fun q => q.1 == e.tag)).map Prod.snd else []
    let all := if short then [e.body.length] else frameErrs e ++ sectErrs c e ++ mine
    (leastOf all).map (fun o => (0x7013, [e.tag, e.inst, o % 65536, o / 65536])))

/-- 0x7014 for each missing section (R54, R56). A missing section has no directory position: the engine-wide tags
come first, then lane A's, then lane B's, each in Table 2.6's order (DESIGN CHOICE, log 86). -/
def CheckCtx.missing (c : CheckCtx) : List Finding :=
  let wide := mandatory.filter (fun t => !c.present t)
  let a := laneTags.filter (fun t => !c.present t)
  let b := if (laneBSects c.sects).isEmpty then [] else (laneTags.map (· + 0x4000)).filter (fun t => !c.present t)
  (wide ++ a ++ b).map (fun t => (0x7014, [t, 0]))

/-- 0x7021 for each overlapping pair of windows of different parties (R32). -/
def CheckCtx.overlaps (c : CheckCtx) : List (Nat × Nat) :=
  (List.range 16).flatMap (fun i => ((List.range 16).filter (fun j =>
    let x := c.led.windows.getD i {}
    let y := c.led.windows.getD j {}
    decide (i < j) && c.winUsed i && c.winUsed j && c.winOwn i != c.winOwn j
      && decide (x.base < y.base + y.len) && decide (y.base < x.base + x.len))).map (fun j => (i, j)))

/-- Streams counted in all, on read ports and on write ports (R30, R284). -/
def CheckCtx.streamCount (c : CheckCtx) : Nat × Nat × Nat :=
  let ss := c.led.streams.filter (fun r => !c.dropped r.party)
  let wr := ss.countP (fun r => r.master == 1)
  let rd := ss.countP (fun r => r.master == 2 || r.master == 3 || r.master == 4)
  let shadeB := ss.any (fun r => r.master == 2 && r.party == 2)
  let rd := rd - (if shadeB && ss.any (fun r => r.master == 4) then 1 else 0)
  (rd + wr, rd, wr)

/-- The ENGINE-SAFE findings of a load, in the order of R594. -/
def CheckCtx.safeFindings (c : CheckCtx) : List Finding :=
  let (n, rd, wr) := c.streamCount
  let p := c.led.party
  let sum := p.budgetA + p.budgetB + p.budgetM + 450
  c.fieldFindings ++ c.missing
    ++ c.overlaps.map (fun q => (0x7021, [q.1, q.2]))
    ++ (if 8 < n || 4 < rd || 4 < wr then [(0x7022, [n, rd, wr])] else [])
    ++ (if 5000 < sum then [(0x7023, [sum % 65536, sum / 65536])] else [])

/-! ### Programs (R20, R60, R61, R216, R248, R249, R257, R284, R315, R368, R388, R438) -/

/-- Whether a list rises strictly. -/
def rising : List Nat → Bool
  | [] => true
  | x :: xs => (match xs with
    | [] => true
    | y :: _ => decide (x < y)) && rising xs

/-- Whether no element of a list exceeds the one before it. -/
def falling : List Nat → Bool
  | [] => true
  | x :: xs => (match xs with
    | [] => true
    | y :: _ => decide (y ≤ x)) && falling xs

/-- e_f of R437 under a waveform set. -/
def eF (w : WaveSet) (mask : Nat) : Nat :=
  (maskTaps mask).foldl (fun m t => max m (((w.wave t).bind (fun r => r.lineEdges.head?)).getD 0)) 0

/-- A waveform set's flaws for a program (R60, R216). -/
def waveFlaw (p : Program) (h : HeadSec) (w : WaveSet) : Bool :=
  let cds := (List.range (h.taps * h.outs)).any (fun c => !(h.chans.getD c {}).sh)
  w.waves.any (fun r => r.lineEdges.any (fun e => decide (p.period ≤ e)))
    || w.period < 8 || w.period % 8 != 0
    || w.waves.any (fun r => !rising r.pixEdges || !rising r.lineEdges || r.pixEdges.any (fun e => decide (w.period ≤ e)))
    || !(repeats (w.waves.map WaveRec.out)).isEmpty
    || (List.range h.taps).any (fun t => (((w.wave t).map (fun r => r.lineEdges.length)).getD 0) < 2)
    || (((w.wave 15).map (fun r => r.pixEdges.length)).getD 0) < 2
    || (cds && (((w.wave 14).map (fun r => r.pixEdges.length)).getD 0) < 2)
    || p.period < w.winEnd h || decide ((p.period : Int) - w.tTG h.taps < p.integ)

/-- The rung periods of a program's ladder, rung 0 first. -/
def rungList (p : Program) : List Nat := (List.range p.rungs).map p.rungP

/-- Fields of Table 2.9 outside their ranges. The name's bytes are never judged (DESIGN CHOICE, log 87), and any bit
of the taps mask beyond the head's taps, bits [7:4] too, is out of range (DESIGN CHOICE, log 120). -/
def progFields (c : CheckCtx) (p : Program) (raw : List Nat) (x : LaneImage) : Bool :=
  15 < p.num || outOf 1 6 p.mode || outOf 1 2 p.party || (p.mode = 6 && p.party != 1)
    || outOf 2048 16777215 p.period || outOf 1 (p.period - 1) p.integ
    || (p.lines = 0 && p.mode != 1 && p.mode != 2)
    || 15 < p.waves || !x.waves.any (fun w => w.inst == p.waves) || 3 < p.calSet
    || 15 < p.scene || !c.led.scenes.any (fun r => r.num == p.scene)
    || 3 < p.binning || (p.binning != 0 && p.mode != 1) || p.micro = 0 || 1 < u8 raw 0x26
    || 7 < p.profile || !x.profiles.any (fun q => q.inst == p.profile)
    || x.head.active ≤ p.focStart || (p.mode = 2 && x.head.active < p.focStart + p.focLen)
    || (p.mode != 2 && p.focLen != 0)
    || (if p.mode = 6 then outOf 16 1024 p.overlap else p.overlap != 0)
    || outOf 1 8 p.rungs || outOf 1 255 p.seamsDn || p.quietUp = 0
    || (List.range 7).any (fun i =>
        let v := p.rungPer.getD i 0
        if i + 1 < p.rungs then outOf 2048 16777215 v || v ≤ p.rungP i else v != 0)
    || p.taps = 0 || 2 ^ x.head.taps ≤ p.taps

/-- f_core of a code, in Hz. -/
def coreHz (f : Nat) : Nat := if f = 0 then 300000000 else if f = 1 then 350000000 else 400000000

/-- Whether the program's carriage moves on its lane's image (R388). -/
def progMoves (p : Program) (es : List Nat) : Bool :=
  p.mode = 5 || p.mode = 6 || (p.mode = 1 && p.lines != 0) || (p.mode = 4 && !es.isEmpty)

def moveFlaw (c : CheckCtx) (p : Program) (x : LaneImage) : Bool :=
  let es := ((x.profiles.find? (fun q => q.inst == p.profile)).map ProfileSec.entries).getD []
  let i0 := p.interval 0
  if !progMoves p es then false
  else
    es.isEmpty || (rungList p).any (fun v => v % p.micro != 0 || v / p.micro < 400)
      || !falling es || es.any (fun e => decide (e < 400)) || i0 + i0 / 16 < es.getLastD 0
      || x.axis.runUp < rampLen es i0 + 2 * p.micro
      || (x.axis.encoder && 10000000 * 65536 * p.period < x.axis.cpp * coreHz c.led.fcode)

/-- R438 on one lane's waveform set. -/
def stagingFlaw (c : CheckCtx) (p : Program) (w : WaveSet) : Bool :=
  let parties := if p.mode = 6 then [1, 2] else [p.party]
  let lit := (c.led.scenes.find? (fun r => r.num == p.scene)).any (fun r =>
    r.heads.any (fun q => q.2 != 0 && parties.contains (c.headOwn q.1)))
  let least : Int := if c.led.fcode = 0 then 600 else if c.led.fcode = 1 then 700 else 800
  lit && (rungList p).any (fun v => decide ((v : Int) - p.integ - eF w p.taps < least))

/-- Words of the largest payload of a program (R242). -/
def progPayload (p : Program) (a b : LaneImage) (x : LaneImage) : Nat :=
  let n := if p.mode = 6 then a.head.active + b.head.active - p.overlap else x.head.active / binFactor p.binning
  (maskTaps p.taps).length * (n + if p.mode = 2 then 4 else 0)

/-- Flaws on one lane a program runs on. -/
def laneFlaw (c : CheckCtx) (p : Program) (x : LaneImage) : Bool :=
  let b := c.led.laneB.getD {}
  x.till.stop < 2 * (progPayload p c.led.laneA b x + 20)
    || (match x.waves.find? (fun w => w.inst == p.waves) with
        | none => true
        | some w => waveFlaw p x.head w || stagingFlaw c p w)
    || 2 ^ x.head.taps ≤ p.taps

def gangFlaw (c : CheckCtx) (p : Program) : Bool :=
  let a := c.led.laneA
  match c.led.laneB with
  | none => true
  | some b =>
    !c.two || a.head.taps != b.head.taps || min a.head.active b.head.active < p.overlap
      || a.link.stripe = 0 || a.link.stripe != b.link.stripe
      || !c.led.streams.any (fun r => r.master == 2 && r.party == 2)
      || !c.led.streams.any (fun r => r.master == 4 && r.party == 2 && c.winUsed r.window && c.winOwn r.window == 2)
      || laneFlaw c p b

/-- A program that a 0x7016 marks unusable, the number's uniqueness apart. -/
def progFlaw (c : CheckCtx) (p : Program) (raw : List Nat) : Bool :=
  let x := if p.party = 2 then c.led.laneB.getD {} else c.led.laneA
  progFields c p raw x || laneFlaw c p x || moveFlaw c p x
    || (p.mode = 2 && p.focLen < 2)
    || ((p.mode = 3 || p.mode = 4) && (65536 < p.lines || x.till.log2 < 19))
    || (p.mode = 6 && gangFlaw c p)

/-- The first rung that R20 or R61 fails, rung 0 checked whatever the rung count. With CLOCK missing T_mod is 0
and every rung fails (DESIGN CHOICE, log 88). -/
def gridFlaw (c : CheckCtx) (p : Program) : Option Nat :=
  (List.range (max 1 p.rungs)).find? (fun r =>
    let v := p.rungP r
    v % c.led.tmod != 0 || (c.led.spread != 0 && 64 < v / c.led.tmod))

/-- Records of a program number (R60, R594), and whether it is usable. One that fails both the grid (R20, R61) and R60
gives both records (log 77). -/
def progFindings (c : CheckCtx) (raws : List (Program × List Nat)) (n : Nat) : List Finding × Bool :=
  let ps := raws.filter (fun q => q.1.num == n)
  match ps with
  | [] => ([], false)
  | [(p, raw)] =>
    let g := gridFlaw c p
    let f := progFlaw c p raw
    ((match g with
      | some r => [(0x7024, [n, r])]
      | none => []) ++ (if f then [(0x7016, [n])] else []), g.isNone && !f)
  | _ :: _ :: _ =>
    -- each record off the grid is a program of R20's; the number's repetition is one finding (R60)
    (ps.filterMap (fun q => (gridFlaw c q.1).map (fun r => (0x7024, [n, r]))) ++ [(0x7016, [n])], false)

/-- Numbers of the program records in order, once each. -/
def progNums (raws : List (Program × List Nat)) : List Nat :=
  (raws.map (fun q => q.1.num)).foldl (fun ns n => if ns.contains n then ns else ns ++ [n]) []

/-! ### Ignored items (R2, R14, R47, R538) -/

/-- Records 0x7010 and 0x7011, in directory order. An unlisted tag of units 0xC to 0xF on a BLX-1416 gives 0x7010 alone
(DESIGN CHOICE, log 119). -/
def skipped (two : Bool) (all : List Sect) : List Finding :=
  all.filterMap (fun e =>
    if !listed e.tag then some (0x7010, [e.tag, e.inst])
    else if !two && (laneBSects [e]).length != 0 then some (0x7011, [e.tag, e.inst])
    else none)

/-- Records 0x7012. -/
def CheckCtx.ignored (c : CheckCtx) : List Finding :=
  let p := c.led.party
  let items := fun (os : List Nat) => (List.range os.length).filter (fun i => c.dropped (os.getD i 0))
  (items p.winOwner ++ items p.tmrOwner ++ items p.hkOwner ++ items p.chOwner ++ items p.headOwner).map
      (fun i => (0x7012, [0x0002, i]))
    ++ ((List.range c.led.streams.length).filter (fun i =>
        c.dropped ((c.led.streams.map StreamRec.party).getD i 0))).map (fun i => (0x7012, [0x3002, i]))
    ++ ((List.range c.led.trims.length).filter (fun i =>
        (c.led.trims[i]?.map c.trimDrop).getD false)).map (fun i => (0x7012, [0x0803, i]))

/-- What the checks of R51 came to. -/
structure Verdict where
  notes  : List Finding := []
  safes  : List Finding := []
  progOk : List Bool := List.replicate 16 false
  deriving DecidableEq, Repr

/-- Every load check of a selected copy (R51). -/
def judge (two : Bool) (all : List Sect) (led : Ledger) : Verdict :=
  let c : CheckCtx := { two := two, sects := sectsUsed two all, led := led }
  let body := bodyOf c.sects 0x7001
  let raws := (List.range led.programs.length).filterMap (fun i =>
    led.programs[i]?.map (fun p => (p, slice body (4 + 96 * i) 96)))
  let ps := (progNums raws).map (progFindings c raws)
  let usable := fun n => (progFindings c raws n).2
  { notes := skipped two all ++ (if two && led.laneB.isNone then [(0x7015, [])] else [])
      ++ c.ignored ++ (ps.map Prod.fst).flatten
    safes := c.safeFindings
    progOk := (List.range 16).map usable }

end Sys2Proof.Machine
end

