-- ==== Sys2Proof/Machine/CalOps.lean ====
section
/-!
DEFINITION. Calibration sets and commits (02, 09): slot layout, composition of a candidate (R255, R260 to
R263, R595), the steps K1 to K7 (Table 9.2), and the set that a commit makes active (R274).
-/

namespace Sys2Proof.Machine

/-! ### Candidates -/

def State.calTaps (s : State) (l : Lane) : List Nat := maskTaps (s.lane l).cal.mask

/-- The accumulator sums of a tap (R258, R259). -/
def State.calSums (s : State) (l : Lane) (tap n : Nat) : List Nat :=
  let ws := s.masterRead l (s.tillSec l).window (32768 * tap) (2 * n)
  (List.range n).map (fun i => ws.getD (2 * i) 0 + 65536 * ws.getD (2 * i + 1) 0)

/-- Carried (D, G) of a tap with R233's substitutes, for a commit of kind 1, 2 or 3 (R255). -/
def State.carried (s : State) (l : Lane) (tap n : Nat) : List (Nat × Nat) :=
  let c := (s.lane l).cal
  let old := (s.lane l).sets.getD c.set {}
  let act := slotContent s.flash.cells l c.set old.slotY
  let raw := if c.kind = 3 then
      let ws := slice (slotShading s.flash.cells l c.set old.slotY) (32768 * tap) (2 * n)
      (List.range n).map (fun i => (ws.getD (2 * i) 0, ws.getD (2 * i + 1) 0))
    else s.setShading l c.set tap n
  raw.map (fun q => (if old.present && act.dark then q.1 else 0, if old.present && act.gain then q.2 else 0x4000))

/-- Gains of a tap in a flat candidate (R261). -/
def State.flatTap (s : State) (l : Lane) (tap n : Nat) : Option (List Nat) :=
  flatGains (s.lane l).cal.total (s.calSums l tap n) ((s.carried l tap n).map Prod.fst)

/-- (D, G) of a tap of the candidate. -/
def State.candTap (s : State) (l : Lane) (tap n : Nat) : List (Nat × Nat) :=
  let c := (s.lane l).cal
  let base := s.carried l tap n
  if !(s.calTaps l).contains tap then base
  else if c.kind = 1 then
    (s.calSums l tap n).zipWith (fun x q => (calMean c.total x, q.2)) base
  else if c.kind = 2 then
    base.zipWith (fun q g => (q.1, g)) ((s.flatTap l tap n).getD (base.map Prod.snd))
  else base

/-- The candidate's shading words over four taps of 16 384 pixels, 0 beyond the geometry (R595). -/
def State.candShading (s : State) (l : Lane) : List Nat :=
  let h := (s.img l).head
  (List.range 4).flatMap (fun t =>
    if t < h.taps then
      fit 0 32768 ((s.candTap l t h.active).flatMap (fun q => [q.1, q.2]))
    else List.replicate 32768 0)

/-- Groups whose reference channel the lane owns (R262). -/
def State.laneGroups (s : State) (l : Lane) : List Nat :=
  (List.range 8).filter (fun k =>
    let r := s.shadow.photo.getD k {}
    decide (r.refChan < 24) && s.hkOwner r.refChan = laneParty l)

/-- A photometric mean, rounded half up (R262). -/
def photoMean (q : Int × Nat) : Int := roundHalfUp q.1 (max 1 q.2)

/-- Head type of a new slot header (Table 9.1): the one read, where the identity passed and was read at all. -/
def State.calType (s : State) (l : Lane) : List Nat :=
  let h := (s.lane l).head
  if (h.idState = 1 || h.idState = 2) && h.digest.isSome then h.typ else (s.img l).head.typeChars

/-- Coefficients with R233's identity for absent content and R595's zeros beyond the taps. -/
def coefFill (have_ : Bool) (taps : Nat) (cs : List Int) : List Int :=
  (List.range 48).map (fun i =>
    if taps ≤ i / 12 then 0 else if have_ then cs.getD i 0 else identityCoefs.getD (i % 12) 0)

/-- The staged coefficients of a coefficient commit. -/
def stagedCoefs (ws : List Nat) : List Int :=
  (List.range 48).map (fun i => signed 32 (ws.getD (2 * i) 0 + 65536 * ws.getD (2 * i + 1) 0))

/-- The candidate's header and content beside the shading table (Table 9.1). Bit [3] of a lane without a photometric
group, and an absent set's carried head temperature, are DESIGN CHOICE (log 128). -/
def State.candidate (s : State) (l : Lane) : CalSet :=
  let c := (s.lane l).cal
  let h := (s.img l).head
  let old := (s.lane l).sets.getD c.set {}
  let act := slotContent s.flash.cells l c.set old.slotY
  -- the contents bits of the slot that is active as the commit begins (R255); none of a withdrawn set
  let has := fun (f : CalSet → Bool) => old.present && f act
  let mine := s.laneGroups l
  let carriedRefs := (List.range 8).map (fun k => if has (·.photo) then act.refs.getD k 0 else 0)
  let refs := if c.kind = 2 then
      carriedRefs.mapIdx (fun k v => if mine.contains k then photoMean (c.photo.getD k (0, 0)) else v)
    else carriedRefs
  { present := true, valid := true, slotY := c.slotY, seq := c.seq
    dark := c.kind = 1 || has (·.dark), gain := c.kind = 2 || has (·.gain)
    coef := c.kind = 3 || has (·.coef), photo := (c.kind = 2 && !mine.isEmpty) || has (·.photo)
    taps := h.taps, active := h.active, headType := s.calType l
    temp := if c.kind = 3 then act.temp else tempMean c.total c.tempSum
    coefs := if c.kind = 3 then coefFill true h.taps (stagedCoefs c.stage)
      else coefFill (has (·.coef)) h.taps act.coefs
    refs := refs }

/-- The slot header's 256 bytes (Table 2.10). -/
def slotHeader (l : Lane) (set : Nat) (c : CalSet) : List Nat :=
  fit 0 256 ([laneNo l, set, flag c.dark 0 + flag c.gain 1 + flag c.coef 2 + flag c.photo 3, c.taps]
    ++ leBytes 2 c.active ++ [0, 0] ++ fit 0 8 c.headType ++ leBytes 2 (unsigned 16 c.temp))

/-- The candidate payload, slot bytes 0x100 to 0x4_10DF. -/
def candPayload (l : Lane) (set : Nat) (c : CalSet) (shading : List Nat) : List Nat :=
  slotHeader l set c ++ List.replicate 3584 0 ++ wordsToBytes shading
    ++ c.coefs.flatMap (fun x => leBytes 4 (unsigned 32 x))
    ++ c.refs.flatMap (fun x => leBytes 4 (unsigned 32 x))

/-- Where the candidate payload stands in the Till window (R258). -/
def candOffset : Nat := 131072

/-- The candidate payload's bytes: staged in the Till window, or for a coefficient commit composed. -/
def State.candBytes (s : State) (l : Lane) : List Nat :=
  let c := (s.lane l).cal
  if c.kind = 3 then candPayload l c.set c.cand (s.candShading l)
  else wordsToBytes (s.masterRead l (s.tillSec l).window candOffset (payloadLen / 2))

/-- Why a flat candidate is rejected: reason, and tap or group (R264). -/
def State.calReject (s : State) (l : Lane) : Option (Nat × Nat) :=
  let c := (s.lane l).cal
  let n := (s.img l).head.active
  if c.kind != 2 then none
  else
    let taps := s.calTaps l
    let long := taps.find? (fun t => decide (16 < longestRun (((s.flatTap l t n).getD []).map (· == 0xFFFF))))
    let dead := taps.find? (fun t => (s.flatTap l t n).isNone)
    let dim := (s.laneGroups l).find? (fun k => (c.photo.getD k (0, 0)).2 = 0)
    match long, dead, dim with
    | some t, _, _ => some (1, t)
    | none, some t, _ => some (2, t)
    | none, none, some k => some (3, k)
    | none, none, none => none

/-! ### The commit sequence (R269 to R276) -/

/-- A commit is in one of the steps K1 to K7. -/
def committing (c : CalSt) : Bool := 2 ≤ c.state && c.state ≤ 8

/-- Slot and sequence of a new version (R270). -/
def State.spare (s : State) (l : Lane) (set : Nat) : Bool × Nat :=
  let o := (s.lane l).sets.getD set {}
  if o.valid then (!o.slotY, (o.seq + 1) % 2 ^ 32) else (false, 1)

/-- Records of a code have been programmed into the ring, or the ring takes none (R271, R567). -/
def State.recSaved (s : State) (code : Nat) : Bool :=
  !s.log.ringOk || s.log.store.all (fun r => r.code != code || r.saved)

/-- Record 0x9030 as K2 begins. -/
def State.beginK2 (s : State) (l : Lane) : State :=
  let c := (s.lane l).cal
  let s := s.modCal l (fun c => { c with state := 3, count := 0 })
  s.noteL l 0x9030 ([c.set, b2n c.slotY] ++ leWords 2 c.seq)

/-- The first step of a commit: K1, or K2 for a coefficient commit. -/
def State.beginCommit (s : State) (l : Lane) : State :=
  let (y, q) := s.spare l (s.lane l).cal.set
  let s := s.modCal l (fun c => { c with slotY := y, seq := q, count := 0, prog := 0 })
  if (s.lane l).cal.kind = 3 then
    let cd := s.candidate l
    (s.modCal l (fun c => { c with cand := cd })).beginK2 l
  else s.modCal l (fun c => { c with state := 2 })

/-- A commit ready: it begins, or waits for the other lane's (R269). -/
def State.readyCommit (s : State) (l : Lane) : State :=
  if committing (s.lane (otherLane l)).cal then s.modCal l (fun c => { c with state := 9 })
  else s.beginCommit l

/-- A waiting commit begins once none runs; lane A's first. -/
def State.nextCommitter (s : State) : State :=
  if committing s.laneA.cal || committing s.laneB.cal || s.pwr.pfw then s
  else if s.laneA.cal.state = 9 then s.beginCommit .a
  else if s.laneB.cal.state = 9 then s.beginCommit .b
  else s

/-- A commit's end with its outcome: 1 committed, 2 rejected, 3 failed. Event bit 9 (Table 17.11). An operation of it
that the device still runs is no other commit's; PIX.CALSEQ takes the sequence of one that ended committed. -/
def State.endCal (s : State) (l : Lane) (result : Nat) : State :=
  let s := s.modFlash (fun f => { f with op := f.op.map (fun op => if op.use.ofCal l then { op with orphan := true } else op) })
  let fin := fun c : CalSt =>
    let c := if result = 1 then { c with lastSeq := c.seq } else c
    if c.acqWait then
      { c with state := 9, kind := c.acqKind, set := c.acqSet, acqKind := 0, acqWait := false, result := result }
    else if c.acqKind != 0 then { c with state := 1, kind := c.acqKind, set := c.acqSet, result := result }
    else { c with state := 0, result := result }
  ((s.modCal l fin).event 9).nextCommitter

/-- A commit failed with its detail (R276). -/
def State.failCal (s : State) (l : Lane) (detail : Nat) : State :=
  let q := (s.lane l).cal.seq
  ((s.noteL l 0x9033 ([detail, (s.lane l).cal.set] ++ leWords 2 q))).endCal l 3

/-- The next erase or page program of a commit in K3 or K4, or the record page of K6. -/
def State.calOp (s : State) (l : Lane) : State :=
  let c := (s.lane l).cal
  let a := slotAddr l c.set c.slotY
  if s.flash.op.isSome || s.clk.interval || s.pwr.pfw then s
  else if c.state = 4 && c.count < 66 then
    s.issue { program := false, addr := a + 4096 * c.count, use := .calErase l }
  else if c.state = 5 && c.count < 1040 then
    let d := fit 0xFF 256 (slice (s.candBytes l) (256 * c.count) 256)
    s.issue { program := true, addr := a + 0x100 + 256 * c.count, data := d, use := .calPage l }
  else if c.state = 7 && c.count = 0 then
    s.issue { program := true, addr := a, data := commitRecord l c.set c.slotY c.seq c.crc s.tmr.tsc, use := .calRecord l }
  else s

/-- The lowest tap of a set with a run longer than 16 marked pixels (R235), the one that the set's one record 0x9020
names (DESIGN CHOICE, log 126). -/
def longTap (c : CalSet) (shading : List Nat) : Option Nat :=
  (List.range c.taps).find? (fun t =>
    let gs := (List.range c.active).map (fun p => shading.getD (32768 * t + 2 * p + 1) 0)
    decide (16 < longestRun (gs.map (· == 0xFFFF))))

/-- K6 read back good: the new version is the active one (R274), unless a run of marks withdraws the set (R235). -/
def State.activate (s : State) (l : Lane) : State :=
  let c := (s.lane l).cal
  let m := s.flash.cells
  let new := slotContent m l c.set c.slotY
  let long := if new.gain then longTap new (slotShading m l c.set c.slotY) else none
  let s := s.modLane l (fun x => { x with
    sets := x.sets.modify c.set (fun o => { o with
      present := long.isNone, valid := true, slotY := c.slotY, other := o.valid, seq := c.seq
      badX := o.badX && c.slotY, badY := o.badY && !c.slotY })
    next := x.next.filter (fun q => q.1 != c.set) ++ (if long.isNone then [(c.set, new)] else []) })
  let s := s.modCal l (fun y => { y with pending := !(s.lane l).next.isEmpty })
  match long with
  | some t => s.noteL l 0x9020 [c.set, t]
  | none => s.replaceSet l

/-- K1: the candidate composed into the Till window and checked (R264). -/
def State.doK1 (s : State) (l : Lane) : State :=
  let s := if s.fenced l (s.tillSec l).window then s.fenceHit l 8 (s.tillSec l).window else s
  let s := (s.fenceNote l 8 (s.img l).pix.window)
  let c := (s.lane l).cal
  let n := (s.img l).head.active
  -- PIX.CALDEF.NEW names the last flat candidate, a rejected one too
  let marks := if c.kind = 2 then
      ((s.calTaps l).map (fun t => (((s.flatTap l t n).getD []).countP (· == 0xFFFF)))).sum
    else c.newDef
  let s := s.modCal l (fun c => { c with newDef := min 65535 marks })
  match s.calReject l with
  | some (r, x) => (s.noteL l 0x9032 [r, x]).endCal l 2
  | none =>
    let cd := s.candidate l
    let sh := s.candShading l
    let s := s.masterWrite l (s.tillSec l).window candOffset (bytesToWords (candPayload l c.set cd sh))
    (s.modCal l (fun c => { c with cand := cd })).beginK2 l

/-- The step in progress has ended: what it found, and the next step (Table 9.2). -/
def State.calStep (s : State) (l : Lane) : State :=
  let c := (s.lane l).cal
  let a := slotAddr l c.set c.slotY
  match c.state with
  | 2 => s.doK1 l
  | 3 =>
    if s.recSaved (0x9030 + laneOff l) then (s.modCal l (fun c => { c with state := 4, count := 0, prog := 0 })).calOp l
    else s
  | 4 => if c.count = 66 then (s.modCal l (fun c => { c with state := 5, count := 0, prog := 0 })).calOp l else s
  | 5 =>
    if c.count != 1040 then s
    else
      let old := (s.lane l).sets.getD c.set {}
      let oa := slotAddr l c.set old.slotY
      let bad := c.kind = 3 && old.present
        && u32 (Mem.flash s.flash.cells (oa + 16) 4) 0 != crc32 (Mem.flash s.flash.cells (oa + 0x100) payloadLen)
      if bad then s.failCal l 5
      else
        let q := crc32 (s.candBytes l)
        s.modCal l (fun c => { c with state := 6, crc := q })
  | 6 =>
    if crc32 (Mem.flash s.flash.cells (a + 0x100) payloadLen) != c.crc then s.failCal l 2
    else if s.pwr.pfw then s.failCal l 3
    else (s.modCal l (fun c => { c with state := 7, count := 0 })).calOp l
  | 7 =>
    let whole := (Mem.flash s.flash.cells (a + 32) 224).all (· == 0xFF)
    if c.count = 0 then s
    else if (slotSeq s.flash.cells l c.set c.slotY) != some c.seq || !whole then s.failCal l 2
    else
      let s := (s.activate l).modCal l (fun c => { c with state := 8 })
      s.noteL l 0x9031 ([c.set, b2n c.slotY] ++ leWords 2 c.seq)
  | 8 => if s.recSaved (0x9031 + laneOff l) then s.endCal l 1 else s
  | _ => s

/-- A commit of the lane in K1 to K6, or one that waits, ends failed with its detail. -/
def State.failOne (s : State) (l : Lane) (detail : Nat) : State :=
  let k := (s.lane l).cal.state
  if (2 ≤ k && k ≤ 7) || k = 9 then s.failCal l detail else s

/-- Commits of a lane abandoned by an engine reset (detail 4), a waiting one too. In K7 the new version is active
already: the commit ends committed (R276; DEDUCED, log 99). -/
def State.abandonCal (s : State) (l : Lane) : State :=
  let s := if (s.lane l).cal.state = 8 then s.endCal l 1 else s
  (s.failOne l 4).failOne l 4

/-- A lane reset abandons a coefficient commit alone: no other commit is stopped after line L − 1 (R265). -/
def State.abandonCoef (s : State) (l : Lane) : State :=
  if (s.lane l).cal.kind != 3 then s
  else if (s.lane l).cal.state = 8 then s.endCal l 1
  else s.failOne l 4

/-- An operation of the lane's commit runs in the device. -/
def State.calOpBusy (s : State) (l : Lane) : Bool :=
  (s.flash.op.map (fun op => op.use.ofCal l && !op.due && !op.orphan)).getD false

/-- The calibration guard at PFW: commits in K1 to K6 end failed with detail 3, once an operation already issued has
ended, and waiting ones at once (R273). -/
def State.guardCal (s : State) : State :=
  let go := fun (s : State) (l : Lane) => if s.calOpBusy l then s else s.failOne l 3
  if s.pwr.pfw then go (go (go (go s .a) .a) .b) .b else s

/-- After an operation: pending records first, then the commit goes on (02, coincidences). -/
def State.flashNext (s : State) : State :=
  let s := s.ringStep
  if s.flash.op.isSome then s else (s.calOp .a).calOp .b

/-- The address the commit's next operation goes to, by the step in progress. -/
def State.calTarget (s : State) (l : Lane) : Option Nat :=
  let c := (s.lane l).cal
  let a := slotAddr l c.set c.slotY
  match c.state with
  | 4 => some (a + 4096 * c.count)
  | 5 => some (a + 0x100 + 256 * c.count)
  | 7 => some a
  | _ => none

/-- An operation of a commit that succeeded counts for the step that issued it. -/
def State.calDone (s : State) (op : FlashOp) : State :=
  match op.use with
  | .calErase l | .calPage l | .calRecord l =>
    if s.calTarget l = some op.addr && !op.orphan then
      s.modCal l (fun c => { c with
        count := c.count + 1, prog := if c.state = 4 || c.state = 5 then c.prog + 1 else c.prog })
    else s
  | _ => s

/-- An operation of a commit whose retry failed (detail 1). -/
def State.calFailed (s : State) (op : FlashOp) : State :=
  match op.use with
  | .calErase l | .calPage l | .calRecord l => if s.calTarget l = some op.addr && !op.orphan then s.failCal l 1 else s
  | _ => s

/-- The acquisition's commit becomes ready, or waits for a coefficient commit of its own lane (R269). -/
def State.readyAcq (s : State) (l : Lane) : State :=
  if committing (s.lane l).cal then s.modCal l (fun c => { c with acqWait := true })
  else (s.modCal l (fun c => { c with kind := c.acqKind, set := c.acqSet, acqKind := 0 })).readyCommit l

/-- A run's acquisition closes (R265, R266): ENDING, scene 0, and the commit becomes ready. -/
def State.closeAcq (s : State) (l : Lane) : State :=
  ((s.modPix l (fun p => { p with active := false })).beginEnding l).readyAcq l

/-- The commit that a calibration run leads to still runs or waits (R266). -/
def State.runCommits (s : State) (l : Lane) : Bool :=
  let c := (s.lane l).cal
  c.acqWait || (2 ≤ c.state && c.kind != 3)

end Sys2Proof.Machine
end

