-- ==== Sys2Proof/Machine/TallyOps.lean ====
section
/-!
DEFINITION. The Tally (10, R292 to R302): the soft-repair map, destructive and preserving runs, the judging
of unrepaired rows, and the calibration sets loaded from the journal (R63, R64, R235, R256, R278).
-/

namespace Sys2Proof.Machine

/-! ### Rows and windows -/

/-- Row r of the memory, words r × 8 192 on, overlaps window w (R301). -/
def State.rowIn (s : State) (w r : Nat) : Bool :=
  let x := s.shadow.windows.getD w {}
  s.winOn w && decide (x.base < (r + 1) * 8192) && decide (r * 8192 < x.base + x.len)

def State.rowWindows (s : State) (r : Nat) : List Nat := (List.range 16).filter (fun w => s.rowIn w r)

/-- The Ledger owner of a window, the gang party apart. -/
def State.winLedger (s : State) (w : Nat) : Nat := s.ledgerOwner (s.shadow.party.winOwner.getD w 0)

/-- The lanes whose windows a row overlaps. -/
def State.rowLanes (s : State) (r : Nat) : List Lane :=
  [Lane.a, Lane.b].filter (fun l => (s.rowWindows r).any (fun w => s.winLedger w = laneParty l))

/-- An unrepaired row judged against the windows (R301). -/
def State.judgeRow (s : State) (q : Nat × Nat) : State :=
  match s.rowLanes q.2, s.rowWindows q.2 with
  | [], [] => s.note 0x3003 [q.1, q.2]
  | [], _ :: _ => s.record 0x3004 0 (s.partyBits 0) [q.1, q.2]
  | l :: ls, _ =>
    (l :: ls).foldl (fun s l => (s.record 0x3002 3 (s.laneBits l) [q.1, q.2]).trip l 0x3002)
      (s.modMem (fun m => { m with condemned := if m.condemned.contains q then m.condemned else m.condemned ++ [q] }))

def State.judgeRows (s : State) : State := s.mem.unrep.foldl State.judgeRow s

/-- A lane reset judges the unrepaired rows of that lane again, and those that have tripped it: only a full start
clears them (R302). -/
def State.rejudgeLane (s : State) (l : Lane) : State :=
  ((s.mem.condemned ++ s.mem.unrep).eraseDups.filter (fun q => (s.rowLanes q.2).contains l)).foldl (fun s q =>
    (s.record 0x3002 3 (s.laneBits l) [q.1, q.2]).trip l 0x3002) s

/-! ### Repair (R294) -/

/-- The lowest-numbered passing spare of a bank that is not in use. -/
def State.freeSpare (s : State) (bank : Nat) : Option Nat :=
  (List.range 4).find? (fun k =>
    let e := s.mem.repair.getD (4 * bank + k) {}
    !e.valid && !e.bad)

/-- A spare that failed. -/
def State.badSpare (s : State) (q : Nat × Nat) : State :=
  s.modMem (fun m => { m with repair := updAt m.repair (4 * q.1 + q.2) (fun e => { e with valid := false, bad := true }) })

/-- A failing row steered to the lowest-numbered spare of its bank that passed, whose re-test over all five
backgrounds passes too; unrepaired where none remains (R294). A row that stood on a spare leaves it. -/
def State.steer (s : State) (suspect : Bool) (retests : List MarchRead) (q : Nat × Nat) : State :=
  let old := (List.range 4).filter (fun k =>
    let e := s.mem.repair.getD (4 * q.1 + k) {}
    e.valid && e.row = q.2)
  let s := old.foldl (fun s k => s.badSpare (q.1, k)) s
  let fails := fun (k : Nat) => (sparesOf (failing retests)).contains (q.1, k)
  let tried := ((List.range 4).filter (fun k =>
    let e := s.mem.repair.getD (4 * q.1 + k) {}
    !e.valid && !e.bad)).takeWhile fails
  let s := tried.foldl (fun s k => s.badSpare (q.1, k)) s
  match s.freeSpare q.1 with
  | some k =>
    let e : Repair := { row := q.2, suspect := suspect, valid := true }
    (s.modMem (fun m => { m with repair := m.repair.set (4 * q.1 + k) e })).note 0x3001
      [q.1, q.2, k, b2n suspect]
  | none => s.modMem (fun m => { m with unrep := if m.unrep.contains q then m.unrep else m.unrep ++ [q] })

/-- A destructive march's end: the map rebuilt from empty, the arrays cleared (R295). -/
def State.marchEnd (s : State) (reads retests : List MarchRead) : State :=
  let all := (s.mem.found ++ failing reads).eraseDups
  let rows := rowsOf all
  let s := s.modMem (fun m => { m with
    repair := List.replicate 128 {}, unrep := [], tcount := min 255 rows.length, pauses := 0, tpos := 0, found := [] })
  let s := (sparesOf all).foldl State.badSpare s
  let s := rows.foldl (State.steer · false retests) s
  { s with bank := [] }

/-- The retention pause that is still to end (R293): with march code 1. -/
def State.nextPause (s : State) : Option Nat :=
  if s.marching && (if s.mem.tstat = .destructive then s.mem.march else s.shadow.march) = 1 then marchPauses[s.mem.pauses]?
  else none

/-- A row of a destructive march done: the next step, and what its reads found. Within a pause there is none. -/
def State.marchRow (s : State) (reads : List MarchRead) : State :=
  let n := s.mem.tpos
  if marchLen ≤ n || s.nextPause = some n then s
  else
    let here := reads.filter (fun r => marchStepOf r.pass r.elem r.row = n && r.row < 516)
    s.modMem (fun m => { m with tpos := n + 1, found := (m.found ++ failing here).eraseDups })

/-- A retention pause ends; the march has reached it. -/
def State.pauseEnd (s : State) : State :=
  match s.nextPause with
  | none => s
  | some n => s.modMem (fun m => { m with pauses := m.pauses + 1, tpos := max n m.tpos })

/-! ### Tables and calibration sets -/

/-- Words of a profile table: each entry as two words (Table 2.6). -/
def ProfileSec.words (q : ProfileSec) : List Nat := q.entries.flatMap (leWords 2)

/-- The tables of a lane written from the shadow into their windows (R296, R300). -/
def State.writeTables (s : State) (l : Lane) (f : ProfileSec → Bool) : State :=
  ((s.img l).profiles.filter f).foldl (fun s q => s.winWrite q.window q.offset q.words) s

/-- One set of a lane loaded from the journal (R63, R64, R256, R235). -/
def State.loadSet (s : State) (l : Lane) (k : Nat) : State :=
  let m := s.flash.cells
  let x := slotSeq m l k false
  let y := slotSeq m l k true
  let badX := slotWritten m l k false && x.isNone
  let badY := slotWritten m l k true && y.isNone
  let note := fun (s : State) (b : Bool) (i : Nat) =>
    if b then s.noteItem 0x7030 (laneParty l) [laneNo l, k, i] else s
  let s := note (note s badX 0) badY 1
  let pick := match x, y with
    | some p, some q => some (later q p)
    | some _, none => some false
    | none, some _ => some true
    | none, none => none
  let put := fun (s : State) (c : CalSet) =>
    let q := if c.present then s.setCheck l k else 0
    s.modLane l (fun z => { z with sets := z.sets.set k { c with badX := badX, badY := badY, check := q } })
  match pick with
  | none => put s {}
  | some sl =>
    let c := { slotContent m l k sl with other := x.isSome && y.isSome }
    let h := Mem.flash m (slotAddr l k sl + 0x100) 2
    let sh := slotShading m l k sl
    let hd := (s.img l).head
    let s := s.winWrite (s.img l).pix.window (setOffset k) sh
    if u8 h 0 != laneNo l || u8 h 1 != k || c.taps != hd.taps || c.active != hd.active then
      (put s { c with present := false }).noteL l 0x9036 [k]
    else if c.gain then
      match longTap c sh with
      | some t => (put s { c with present := false }).noteL l 0x9020 [k, t]
      | none => put s c
    else put s c

/-- Tables and calibration sets of every configured lane put into memory (step 6, R296). -/
def State.loadLane (s : State) (l : Lane) : State :=
  (List.range 4).foldl (fun s k => s.loadSet l k) (s.writeTables l (fun _ => true))

def State.loadMemory (s : State) : State := s.cfgLanes.foldl State.loadLane s

/-- Records that the ring and the store hold from before this full start (R278, R72). -/
def State.oldRecords (s : State) : List FaultRec :=
  (ringRecords s.flash.cells ++ s.log.store).filter (fun r => r.start != s.log.start)

/-- An interrupted commit of a lane resolved (R278). -/
def State.resolveCal (s : State) (l : Lane) : State :=
  let rs := s.oldRecords
  let base := (newestRec (rs.filter (fun r => r.code == 2))).map FaultRec.seq
  let after := fun (r : FaultRec) => (base.map (fun b => later r.seq b)).getD true
  let off := laneOff l
  let same := fun (r q : FaultRec) => r.detail.getD 2 0 = q.detail.getD 2 0 && r.detail.getD 3 0 = q.detail.getD 3 0
  let begun := ((rs.filter (fun r => r.code == 0x9030 + off && after r)).filter (fun r =>
    !rs.any (fun q => (q.code == 0x9031 + off || q.code == 0x9033 + off) && same r q && later q.seq r.seq))).eraseDups
  begun.foldl (fun s r =>
    let k := r.detail.getD 0 0 % 4
    let c := (s.lane l).sets.getD k {}
    let new := c.valid && c.seq = r.detail.getD 2 0 + 65536 * r.detail.getD 3 0
    let out := if new then 2 else 1
    ((s.noteL l 0x9035 [k, out]).modCal l (fun c => { c with resOut := out, resSet := k })).event 9) s

/-! ### Preserving runs (R297 to R300) -/

/-- The Tally skips a row that overlaps a window in force of a lane not in IDLE (R298). -/
def State.rowBusy (s : State) (r : Nat) : Bool :=
  (s.rowLanes r).any (fun l => (s.lane l).mode.mode != .idle)

/-- The next row to test from r on, of `n` left; skipped rows are counted. -/
def State.nextRow : Nat → State → Nat → State
  | 0, s, _ => s.modMem (fun m => { m with ttest := false, tover := true })
  | n + 1, s, r =>
    if s.rowBusy r then State.nextRow n (s.modMem (fun m => { m with tskip := m.tskip + 1 })) (r + 1)
    else s.modMem (fun m => { m with trow := r, ttest := true })

/-- The row after `r` starts, unless debug halt holds the Tally (10, coincidences). -/
def State.rowFrom (s : State) (r : Nat) : State :=
  if s.sys.haltReq then s.modMem (fun m => { m with ttest := false, trow := r })
  else State.nextRow (s.mem.tend + 1 - r) s r

/-- A preserving run accepted. -/
def State.tallyPreserve (s : State) : State :=
  let s := s.modMem (fun m => { m with
    tstat := .preserving, tcount := 0, tskip := 0, trow := m.tfirst, tend := m.tlast, ttest := false, tover := false })
  s.rowFrom s.mem.tfirst

/-- A destructive run in SERVICE accepted. -/
def State.tallyDestroy (s : State) : State :=
  s.modMem (fun m => { m with
    tstat := .destructive, tcount := 0, tskip := 0, trow := 0, pauses := 0, tpos := 0, found := []
    ttest := false, tover := false })

/-- Row r stands on a spare of a bank. -/
def State.onSpare (s : State) (bank r : Nat) : Bool :=
  (List.range 4).any (fun k =>
    let e := s.mem.repair.getD (4 * bank + k) {}
    e.valid && e.row = r)

/-- A calibration set's area in its lane's shading window overlaps row r (R300). -/
def State.setInRow (s : State) (l : Lane) (k r : Nat) : Bool :=
  let w := (s.img l).pix.window
  let x := s.shadow.windows.getD w {}
  let o := setOffset k
  if o + 131072 ≤ x.len then
    decide (x.base + o < (r + 1) * 8192) && decide (r * 8192 < x.base + o + 131072)
  else s.rowIn w r

/-- What follows the repairs of a row (R300): tables that overlap it rewritten, sets that overlap it checked. -/
def State.afterRepair (s : State) (r : Nat) : State :=
  [Lane.a, Lane.b].foldl (fun s l =>
    (s.writeTables l (fun q => s.rowIn q.window r)).checkSets l (fun k => s.setInRow l k r)) s

/-- One row of a preserving run done: the reads of its march, those of the spares' re-tests, and the words of it
that the buffer no longer held as they were (R300). -/
def State.tallyRow (s : State) (reads retests : List MarchRead) (decay : List (Nat × Nat)) : State :=
  let r := s.mem.trow
  let banks := ((rowsOf (failing reads)).filter (fun q => q.2 = r)).map Prod.fst
  let s := s.modMem (fun m => { m with tcount := min 255 (m.tcount + banks.length) })
  let s := banks.foldl (fun s b => s.steer true retests (b, r)) s
  let s := s.decayed (decay.filter (fun q => rowOf q.1 = r && banks.contains (bankOf q.1)))
  let s := if banks.any (fun b => s.onSpare b r) then s.afterRepair r else s
  s.rowFrom (r + 1)

/-- SERVICE written 0 during the run ends with it (04, coincidences). -/
def State.endService (s : State) : State :=
  if s.sys.serviceEnd then s.modSys (fun y => { y with service := false, serviceEnd := false }) else s

/-- A preserving run ends: skipped rows reported, unrepaired rows judged (R298, R301). -/
def State.tallyPreserveEnd (s : State) : State :=
  let n := s.mem.tskip
  let s := s.modMem (fun m => { m with tstat := .none, ttest := false, tover := false })
  let s := if n = 0 then s else s.note 0x3005 [n]
  s.judgeRows.endService

/-- MEM.TROW.ROW: the row in progress; the last one once a march has taken all (log 103). -/
def State.rowNow (s : State) : Nat := if s.marching then marchRowAt (min s.mem.tpos (marchLen - 1)) else s.mem.trow

/-- A run ended by a reset or PFW: record 0x3006 (10, coincidences). A destructive march that is cut leaves zeros
(DESIGN CHOICE, log 65). -/
def State.tallyCut (s : State) : State :=
  match s.mem.tstat with
  | .none => s
  | k =>
    let s := (s.note 0x3006 [tallyCode k, s.rowNow]).modMem (fun m =>
      { m with tstat := .none, ttest := false, tover := false, pauses := 0, tpos := 0, found := [] })
    if k = .destructive then { s with bank := [] } else s

end Sys2Proof.Machine
end

