-- ==== Sys2Proof/Machine/HkOps.lean ====
section
/-!
DEFINITION. Housekeeping conversion (15): a conversion's end, its checks and its distribution, the schedule,
the post-wake pass (R92), self-checks, and the consumers Ember (14) and the photometric loop (R447 to R449).
-/

namespace Sys2Proof.Machine

/-! ### Converters and channels -/

def State.conv (s : State) (b : Bool) : HkConv := if b then s.hk.b else s.hk.a

def State.modConv (s : State) (b : Bool) (f : HkConv → HkConv) : State :=
  s.modHk (fun h => if b then { h with b := f h.b } else { h with a := f h.a })


def State.modHkChan (s : State) (n : Nat) (f : HkChan → HkChan) : State :=
  s.modHk (fun h => { h with ch := updAt h.ch n f })

def State.hkRec (s : State) (n : Nat) : HkChanRec := s.shadow.hkchan.getD n {}

/-- What the load checks see of the shadow, for R465's substitution. -/
def State.ctx (s : State) : CheckCtx := { two := s.twoLanes, sects := [], led := s.shadow }

/-- A channel's consumer as this build takes it (R465). -/
def State.consumer (s : State) (n : Nat) : Nat := s.ctx.consumer n

/-- HK.STATUS.PAIRED. -/
def State.hkPaired (s : State) : Bool := s.shadow.hkchan.any (fun r => r.arr = 3 || r.arr = 4)

def State.slotList (s : State) (b : Bool) : List Nat := if b then s.shadow.slotsB else s.shadow.slotsA

/-- The scheduled interval of a channel in reference ticks (R474). -/
def State.hkInterval (s : State) (n : Nat) : Nat :=
  let r := s.hkRec n
  let g := hkGap (s.slotList (r.arr = 2 || r.arr = 3)) n
  if r.arr = 4 then g * s.hk.tw / 2 else g * s.hk.tw

/-- No good result within twice the scheduled interval, or in fault (R238, R449). -/
def State.hkStale (s : State) (n : Nat) : Bool :=
  (s.hkChan n).fault || decide (2 * s.hkInterval n < s.age (s.hkChan n).goodTsc)

/-- The head-temperature channel of a lane. -/
def State.thermChan (s : State) (l : Lane) : Nat := (s.img l).head.thermChan

/-- A linearised result (R480). -/
def State.linear (s : State) (n : Nat) (raw : Int) : Int :=
  let r := s.hkRec n
  if r.poly = 255 then raw
  else
    let off := (s.hkRec 21).arr = 0 || (s.hkChan 21).fault || n = 21
    hkPoly (s.shadow.polys.getD r.poly []) (if off then 0 else hkTau s.hk.board) raw

/-- HK21's raw code is the board temperature of later evaluations (R480). -/
def State.noteBoard (s : State) (n : Nat) (raw : Int) : State :=
  if n = 21 then s.modHk (fun h => { h with board := raw - 16000 }) else s

/-! ### Consumers -/

/-- Record 0x8011 on each lane a run's abort concerns: the reason on its own lane, the gang partner's on
the other (Table 4.7). -/
def State.abortNotes (s : State) (l : Lane) (detail : Nat) : State :=
  let s := s.noteL l 0x8011 [detail]
  if s.sys.gang then s.noteL (otherLane l) 0x8011 [4] else s

/-- The exposure of the line in readout has not ended: its boundary's e_f has not passed (R220, R437). -/
def State.stillExposed (s : State) (l : Lane) (c : LineCtx) : Bool :=
  let h := (s.lane l).head
  match (s.img l).waves.find? (fun w => w.inst == h.waves), (s.lane l).mode.prog with
  | some w, some p => decide (s.cyclesOf c < h.period + eF w p.taps)
  | _, _ => false

/-- What an Ember shutdown leaves of the lines in progress: no exposure after the cut instant, no line whose
exposure it overlaps; one whose LINE_BEGIN stands in the Till is closed with ABANDON, also where the link has not
opened it yet (R457). -/
def State.cutLines (s : State) (l : Lane) : State :=
  let s := (s.holdGate l).unexposeIf l (fun _ => false)
  match (s.lane l).reading with
  | some c =>
    if !s.stillExposed l c then s
    else
      let x := s.lane l
      let inTill := x.till.slots.any (fun q => q.num == c.num) && x.lrun.openLine != some c.num
      let s := s.dropReading l 3
      if inTill then s.sendFrame l 0x07 (s.abandonFields l c.num 3 false true) else s
  | none => s

/-- The same of a GANG-SCAN: no exposure on either head, and the stitched line abandoned on both links where an exposure
of it overlaps the cut (R135). -/
def State.cutGang (s : State) : State :=
  let cut := [Lane.a, Lane.b].any (fun k => ((s.lane k).reading.map (s.stillExposed k)).getD false)
  let s := [Lane.a, Lane.b].foldl (fun s k => (s.holdGate k).unexposeIf k (fun _ => false)) s
  if !cut then s
  else
    [Lane.a, Lane.b].foldl (fun s k =>
      (s.modLane k (fun x => { x with reading := none })).modPix k (fun p => { p with active := false })) (s.dropFlight 3)

/-- The run of an owner's lane ends by an Ember shutdown (R457), in a GANG-SCAN for both lanes with record 0x8012
(R135). An end already decided as an abort keeps its cause. DEDUCED, log 111. -/
def State.emberEnd (s : State) (owner : Nat) : State :=
  let l : Lane := if owner = 2 then .b else .a
  let over_ := ((s.lane l).lrun.ending.map RunEnd.aborted).getD false
  if owner = 0 then s
  else if s.acquiring l then (s.abortNotes l 3).voidCal l 3
  else if !s.capturesRun l && !s.closing l then s
  else
    let s := if over_ then s else s.abortNotes l 3
    if s.sys.gang then
      if over_ then s.cutGang
      else ((s.recordL .a 0x8012 2 [laneNo l]).cutGang).endRun l { aborted := true, cause := 3, code := 0x6001 }
    else (s.cutLines l).endRun l { aborted := true, cause := 3, code := 0x6001 }

/-- Channel n of Ember at a temperature, with the end of the run that a shutdown calls for. -/
def State.emberChan (s : State) (n : Nat) (t : Int) : State :=
  let (s, cut) := s.emberCh n t
  if cut then s.emberEnd (s.chOwner n) else s

/-- Light channels that HK channel h serves as heatsink. -/
def State.servedBy (s : State) (h : Nat) : List Nat := s.ctx.sinks h

/-- A channel in fault counts as at shutdown temperature for every item it serves (R487). -/
def State.emberFault (s : State) (h : Nat) : State :=
  (s.servedBy h).foldl (fun s n => s.emberChan n (10 * (s.chRec n).shut)) s

/-- The measurement a group's loop skips: in fault or stale (R449). -/
def State.photoNoref (s : State) (k : Nat) : State :=
  if s.groupRuns k && !(s.lux.grp.getD k {}).refRec then
    (s.noteItem 0x6021 (s.groupParty k)).modGrp k (fun g => { g with refRec := true })
  else s

/-- The step limit that applies to a group (R448). -/
def State.photoLimit (s : State) (k : Nat) : Nat :=
  let r := s.shadow.photo.getD k {}
  let scan := fun (m : Mode) => m = .scan || m = .gangScan
  let inScan := match s.groupParty k with
    | 1 => scan s.laneA.mode.mode
    | 2 => scan s.laneB.mode.mode
    | _ => false
  if inScan then r.limScan else r.limOut

/-- A group's loop at an intact result of its reference channel (R448, R449). -/
def State.photoStepAt (s : State) (k : Nat) (meas : Int) (start : Nat) : State :=
  let r := s.shadow.photo.getD k {}
  let g := s.lux.grp.getD k {}
  let p := s.groupParty k
  let waiting := s.lux.planned.any (fun c => match c.group with
    | some (j, _, _) => j = k
    | none => false)
  if !s.groupRuns k || s.preLight || waiting || g.since < r.interval || start < g.atTsc then s
  else
    let (g', d, pin) := photoStep g.g (s.groupRef k) meas (s.photoLimit k)
    let s := s.modGrp k (fun y => { y with pinned := pin, pinRec := y.pinRec || pin })
    let s := if pin && !g.pinRec then s.noteItem 0x6020 p else s
    if g' = g.g then s
    else s.plan { party := if s.sys.gang && p != 0 then 3 else p, group := some (k, g', d) }

/-- A reference channel's result counts for a FLAT-CAL run's mean (R262). -/
def State.photoMeanAt (s : State) (k : Nat) (v : Int) (start : Nat) : State :=
  let l : Lane := if s.groupParty k = 2 then .b else .a
  let x := s.lane l
  if s.groupParty k != 0 && x.mode.mode = .flatCal && !x.mode.entering && !x.mode.ending && x.cal.acqKind = 2 && !x.cal.acqWait
      && decide (x.cal.t0 ≤ start) then
    s.modCal l (fun c => { c with photo := updAt c.photo k (fun q => (q.1 + v, q.2 + 1)) })
  else s

/-- Groups whose reference is HK channel h. -/
def State.groupsRef (s : State) (h : Nat) : List Nat :=
  (List.range 8).filter (fun k => (s.shadow.photo.getD k {}).refChan = h)

/-! ### Faults of a channel (R483 to R487) -/

/-- A channel put in fault, with its record; Ember acts at once (R487). A standing fault of a lower cause
number stands, cause 4 over all. -/
def State.hkFault (s : State) (n cause code : Nat) (detail : List Nat) : State :=
  let c := s.hkChan n
  if c.fault && (c.cause = cause || (cause != 4 && (c.cause < cause || c.cause = 4))) then s
  else
    let was := c.fault
    let s := (s.modHkChan n (fun c => { c with fault := true, cause := cause, clearN := 0 }))
    let s := if code = 0 then s else s.noteItem code (s.hkOwner n) detail
    if !was && s.consumer n = 1 then s.emberFault n else s

/-- A channel's fault cleared: record 0x5033 (R486). -/
def State.hkClear (s : State) (n : Nat) : State :=
  (s.modHkChan n (fun c => { c with fault := false, cause := 0, clearN := 0 })).noteItem 0x5033 (s.hkOwner n)

/-- One finding of a kind of check: counted towards its fault, or towards the clearing of that fault. -/
def State.hkFinding (s : State) (n cause code : Nat) (isBad : Bool) (count : Nat) (detail : List Nat) : State :=
  let c := s.hkChan n
  if isBad then
    let s := s.modHkChan n (fun c => { c with clearN := if c.cause = cause then 0 else c.clearN })
    if 2 ≤ count then s.hkFault n cause code detail else s
  else if c.fault && c.cause = cause then
    if 1 ≤ c.clearN then s.hkClear n else s.modHkChan n (fun c => { c with clearN := c.clearN + 1 })
  else s

/-- The open-wire judgement of one conversion (R483). -/
def State.checkOpen (s : State) (n : Nat) (raw : Int) : State :=
  let isBad := hkOpen (hkKind n) (s.hkRec n).openTest raw
  let k := if isBad then (s.hkChan n).openN + 1 else 0
  (s.modHkChan n (fun c => { c with openN := k })).hkFinding n 1 0x5030 isBad k []

/-- |Z| as HK.CHn_IMP shows it. -/
def impUnits (n z : Nat) : Nat := min 65535 (if hkKind n = .pd then z / 1000 else z)

/-- The impedance judgement of every eighth conversion (R484). -/
def State.checkImp (s : State) (n : Nat) (raw : Int) (z : Option Nat) : State :=
  let r := s.hkRec n
  if !r.impCheck then s
  else
    let k := (s.hkChan n).toneN + 1
    if k < 8 then s.modHkChan n (fun c => { c with toneN := k })
    else
      let s := s.modHkChan n (fun c => { c with toneN := 0 })
      match z with
      | none => s
      | some z =>
        let isBad := hkImpBad (hkKind n) r.openTest raw z
        let j := if isBad then (s.hkChan n).impN + 1 else 0
        let s := s.modHkChan n (fun c => { c with imp := impUnits n z, impN := j })
        s.hkFinding n 2 0x5031 isBad j [n, impUnits n z]

/-- The comparison of a plausibility pair (R485). -/
def State.checkPair (s : State) (n : Nat) (a b : Int) : State :=
  let d := (a - b).natAbs
  let isBad := decide ((s.hkRec n).tol < d)
  let j := if isBad then (s.hkChan n).plausN + 1 else 0
  (s.modHkChan n (fun c => { c with plausN := j })).hkFinding n 3 0x5032 isBad j [n, d]

/-! ### Distribution (R468, R476 to R482) -/

/-- A host result loaded into a converter's register (R476, R477); none before READY (R473). -/
def State.loadRes (s : State) (b : Bool) (n : Nat) (v : Int) (single : Bool) : State :=
  let c := s.conv b
  let over_ := c.res.full
  if s.starting then s
  else
    let s := s.modConv b (fun c =>
      let r : HkRes :=
        { ch := n, full := true, overrun := c.res.overrun || over_, fault := (s.hkChan n).fault
          unlocked := c.unlocked, single := single, seq := (c.res.seq + 1) % 64, val := v
          recorded := c.res.recorded || over_ }
      { c with res := r })
    let s := if over_ && !c.res.recorded then s.noteItem 0x5021 (s.hkOwner n) [b2n b] else s
    s.event 6

/-- The comparators of R482. -/
def State.compare (s : State) (n : Nat) (v : Int) : State :=
  let c := s.hkChan n
  let h : Int := (s.hkRec n).hyst
  let leave := fun (s : State) (d : Nat) =>
    ((s.modHkChan n (fun c => { c with band := d, evt := true })).noteItem 0x5020 (s.hkOwner n) [n, d]).event 7
  if c.band = 0 then
    if v < c.wlo then leave s 1 else if c.whi < v then leave s 2 else s
  else if c.wlo + h ≤ v ∧ v ≤ c.whi - h then s.modHkChan n (fun c => { c with band := 0 })
  else s

/-- A result handed to its consumer (R476). -/
def State.consume (s : State) (b : Bool) (n : Nat) (v : Int) (start : Nat) (single : Bool) : State :=
  match s.consumer n with
  | 0 => s.loadRes b n v single
  | 1 => (s.servedBy n).foldl (fun s k => s.emberChan k v) s
  | 2 => (s.groupsRef n).foldl (fun s k => (s.photoMeanAt k v start).photoStepAt k v start) s
  | _ => s

/-- A result whose integration began at TSC `start` distributed (R479, R482, R486). -/
def State.distribute (s : State) (b : Bool) (n : Nat) (v raw : Int) (start : Nat) (single : Bool) : State :=
  let u := (s.conv b).unlocked
  if (s.hkChan n).fault then
    if s.consumer n = 0 then
      (s.modHkChan n (fun c => { c with last := v, raw := raw, unlocked := u, single := single })).loadRes b n v single
    else if s.consumer n = 2 then (s.groupsRef n).foldl State.photoNoref s
    else s
  else
    let s := s.modHkChan n (fun c => { c with
      last := v, raw := raw, unlocked := u, single := single, good := true, goodTsc := s.tmr.tsc })
    (s.compare n v).consume b n v start single

/-- A good conversion of a channel by a converter: checks, then the result or its half (R472, R485). -/
def State.convert (s : State) (b : Bool) (n : Nat) (raw : Int) (z : Option Nat) : State :=
  let s := (s.checkOpen n raw).checkImp n raw z
  let v := s.linear n raw
  let s := s.noteBoard n raw
  let other := (s.conv (!b)).failed
  let t := (s.conv b).start
  match (s.hkRec n).arr with
  | 3 =>
    -- the post-wake pass converts a channel once, on one converter
    if other || (s.conv b).passCh.isSome then s.distribute b n v raw t true
    else if !b then s.modHkChan n (fun c => { c with half := some (v, t) })
    else
      match (s.hkChan n).half with
      | none => s
      | some (a, t0) =>
        -- the pair's integration begins with HKA's half (R448)
        let s := (s.modHkChan n (fun c => { c with half := none })).checkPair n a v
        s.distribute b n ((a + v) / 2) raw t0 false
  | 4 => s.distribute b n v raw t other
  | _ => s.distribute b n v raw t false

/-! ### The schedule and the post-wake pass -/

/-- Channels of the post-wake pass, ascending (03, "Housekeeping after a wake"). -/
def State.passList (s : State) : List Nat :=
  (List.range 24).filter (fun n => (s.hkRec n).arr != 0 && 1 ≤ s.consumer n && s.consumer n ≤ 4)

/-- A converter's share of the pass: alternately from HKA, or all of it where the other has failed. -/
def State.passFor (s : State) (b : Bool) : List Nat :=
  let ps := s.passList
  if (s.conv b).failed then []
  else if (s.conv (!b)).failed then ps
  else (List.range ps.length).filterMap (fun i => if (i % 2 = 1) == b then ps[i]? else none)

/-- SYS.WAKE.HK_PEND of a lane (R93). -/
def State.hkPend (s : State) (l : Lane) : Bool := s.power.hkPass.any (fun n => s.hkOwner n = laneParty l)

/-- A conversion that overlaps a holdover or a reference interval will be discarded (R141, R164). -/
def State.hkBlocked (s : State) : Bool := s.clk.hold || s.clk.interval

/-- Both paired converters are in the schedule, where HKB's slots follow HKA's (R471). -/
def State.twin (s : State) : Bool := s.hkPaired && !s.hk.a.failed && !s.hk.b.failed

/-- A failed converter has passed twice and waits for a slot 0 (R470). -/
def HkConv.ready (c : HkConv) : Bool := c.failed && decide (2 ≤ c.passes)

/-- A converter converts nothing. -/
def State.stopConv (s : State) (b : Bool) : State := s.modConv b (fun c => { c with running := false, passCh := none })

/-- A converter starts converting what its slot or the pass gives; from PFW none starts (R475). Half of HKA's window
after HKA's start of a slot, a paired HKB starts it too (R471); one that rejoins does so at slot 0. -/
def State.startConv (s : State) (b : Bool) (pass : Option Nat) : State :=
  if s.pwr.pfw then s.stopConv b
  else
    let s := s.modConv b (fun c => { c with
      running := true, passCh := pass, atCross := false, tw := s.hk.tw, start := s.tmr.tsc, doomed := s.hkBlocked })
    let follow := !b && pass.isNone && s.hkPaired && (!s.hk.b.failed || (s.hk.b.ready && s.hk.a.slot = 0))
    if follow then s.modHk (fun h => { h with lag := some ((s.tmr.tsc + h.tw / 2) % 2 ^ 48) }) else s

/-- A converter's self-check begins; one that overlaps a holdover or a reference interval will be discarded (R475). -/
def State.startCheck (s : State) (b : Bool) : State :=
  (s.stopConv b).modConv b (fun c => { c with checking := true, doomed := s.hkBlocked })

/-- A converter starts in the schedule: one that had failed rejoins at slot 0, with record 0x5002, and the cause 4
faults of its channels clear (R470, R486). -/
def State.joinConv (s : State) (b : Bool) : State :=
  let s :=
    if (s.conv b).failed then
      (s.modConv b (fun c => { c with failed := false, passes := 0, since := 0, slot := 0 })).note 0x5002
    else s
  let back := (List.range 24).filter (fun n =>
    let a := (s.hkRec n).arr
    (s.hkChan n).fault && (s.hkChan n).cause = 4 && (a = (if b then 2 else 1) || a = 3 || a = 4))
  (back.foldl State.hkClear s).startConv b none

/-- Half of HKA's window has passed since HKA started its slot, and HKB's own slot before has ended. -/
def State.lagDue (s : State) : Bool :=
  !s.hk.b.running && !s.hk.b.checking && (s.hk.lag.map (fun t => decide (s.age t < 2 ^ 47))).getD false

/-- HKB starts HKA's slot, where that is due. -/
def State.lagStart (s : State) : State :=
  if s.lagDue then
    ((s.modHk (fun h => { h with lag := none })).modConv true (fun c => { c with slot := s.hk.a.slot })).joinConv true
  else s

/-- A converter whose slot stands goes on with it: a paired HKB when HKA's start of it calls for it. One that runs
alone stops at slot 0 for an HKA that is to rejoin at the next crossing (R470). -/
def State.runSlot (s : State) (b : Bool) : State :=
  if b && s.twin then (s.stopConv b).lagStart
  else if b && s.hkPaired && s.hk.a.ready && s.hk.b.slot = 0 then s.stopConv b
  else s.startConv b none

/-- The next conversion of a converter in the pass, or the wait for a rising crossing after it. -/
def State.nextPass (s : State) (b : Bool) : State :=
  match (s.passFor b).find? (fun n => s.power.hkPass.contains n) with
  | some n => s.startConv b (some n)
  | none => (s.stopConv b).modConv b (fun c => { c with slot := 0 })

/-- The next slot of a converter; the self-check comes first after every 1 024th conversion (R469), and after the same
slot on paired converters. -/
def State.nextSlot (s : State) (b : Bool) : State :=
  let n := (s.slotList b).length
  let s := s.modConv b (fun c => { c with slot := if n = 0 then 0 else (c.slot + 1) % n })
  let full := 1024 ≤ (s.conv b).since || (!b && s.twin && 1024 ≤ s.hk.b.since + 1)
  if n = 0 || s.pwr.pfw then s.stopConv b
  else if full then
    let s := if !b && s.twin then s.modConv true (fun c => { c with since := max 1023 c.since }) else s
    s.startCheck b
  else s.runSlot b

/-- A conversion or self-check discarded: HK.COUNT.DISCARDS (R475, R489). -/
def State.countDiscard (s : State) : State := s.modHk (fun h => { h with discards := satInc 255 h.discards })

/-- What a converter's slot in progress held of a plausibility pair is dropped (15, coincidences). -/
def State.dropHalf (s : State) (b : Bool) : State :=
  s.modHkChan ((s.slotList b).getD (s.conv b).slot 255) (fun x => { x with half := none })

/-- Paired converters both stop, to restart HKA's slot: HKA at a rising crossing, past a self-check it is in, and HKB
half a window later (R471). -/
def State.twinHalt (s : State) : State :=
  ((((s.dropHalf false).dropHalf true).stopConv false |>.stopConv true).modConv false (fun c =>
    { c with atCross := true })).modHk (fun h => { h with lag := none })

/-- The conversion in progress on a converter ends (R467, R468). -/
def State.convEnd (s : State) (b : Bool) (positive : Nat) (z : Option Nat) : State :=
  let c := s.conv b
  if !c.running || c.failed then s
  else
    let s := s.modConv b (fun c => { c with since := c.since + 1 })
    match c.passCh with
    | some n =>
      if c.doomed then s.countDiscard.startConv b (some n)
      else
        let s := (s.convert b n (hkRaw positive c.tw) z).modConv b (fun c => { c with discards := 0 })
        (s.modPower (fun p => { p with hkPass := p.hkPass.filter (· != n) })).nextPass b
    | none =>
      if c.doomed then
        let s := (s.countDiscard).dropHalf b
        if s.twin then s.twinHalt else s.nextSlot b
      else
        let n := (s.slotList b).getD c.slot 255
        ((s.convert b n (hkRaw positive c.tw) z).modConv b (fun c => { c with discards := 0 })).nextSlot b

/-- One minute in reference ticks (R489). -/
def minTicks : Nat := 1500000000

/-- Unlocked conversion begins on a converter (R490). -/
def State.unlock (s : State) (b : Bool) : State :=
  if (s.conv b).unlocked then s
  else
    let s := s.modConv b (fun c => { c with unlocked := true, goodPer := 0 })
    (s.modHk (fun h => { h with unlocks := satInc 255 h.unlocks })).note 0x5011

/-- A running conversion discarded at a crossing (R489), with record 0x5010 at a converter's first in any 60 s. -/
def State.discardConv (s : State) (b : Bool) : State :=
  let due : Bool := match (s.conv b).discTsc with
    | none => true
    | some t => decide (minTicks ≤ s.age t)
  let s := (s.dropHalf b).countDiscard
  let s := s.modConv b (fun c => { c with discards := c.discards + 1, discTsc := if due then some s.tmr.tsc else c.discTsc })
  let s := if due then s.note 0x5010 else s
  if decide (4 ≤ (s.conv b).discards) then s.unlock b else s

/-- Outside the range of R490: 15.873 ms to 21.277 ms. -/
def periodOut (p : Nat) : Bool := p < 396825 || 531925 < p

/-- `x` differs from `y` by more than y / 1 024. -/
def off1024 (x y : Nat) : Bool := decide (y < 1024 * ((x : Int) - y).natAbs)

/-- A converter at a crossing that closes a period `p`, the one before being `prev` (R489, R490). -/
def State.periodConv (s : State) (b : Bool) (p prev : Nat) : State :=
  let c := s.conv b
  let steady := !periodOut p && !off1024 p prev
  let s := s.modConv b (fun c => { c with goodPer := if steady then c.goodPer + 1 else 0 })
  if periodOut p then s.unlock b
  else if (s.conv b).unlocked then
    if 8 ≤ (s.conv b).goodPer then
      (s.modConv b (fun c => { c with unlocked := false, discards := 0 })).note 0x5012
    else s
  else if c.running && !c.doomed && !s.pwr.pfw && off1024 p c.tw then s.discardConv b
  else s

/-- A crossing has closed a period of `ticks`: the window, and what it does to the conversions in progress (R466, R489,
R490). The slots of discarded ones restart at this crossing, those of paired converters together (R471). -/
def State.closePeriod (s : State) (ticks : Nat) : State :=
  let prev := s.hk.period
  let s := s.modHk (fun h => { h with measure := none, awake := false, period := ticks, tw := hkWindow ticks })
  let t := (s.periodConv false ticks prev).periodConv true ticks prev
  let cut := fun b => decide ((s.conv b).discards < (t.conv b).discards)
  if t.twin && t.power.hkPass.isEmpty then
    if cut false || cut true then t.twinHalt else t
  else
    let t := if cut false then t.startConv false t.hk.a.passCh else t
    if cut true then t.startConv true t.hk.b.passCh else t

/-- A rising crossing is one at which HKA may rejoin beside an HKB that runs alone: HKB's slot 0 can start half a window
after it (R470). -/
def State.offsetFits (s : State) : Bool :=
  let c := s.hk.b
  !s.hkPaired || c.failed || (!c.running && !c.checking)
    || (c.running && c.slot + 1 = (s.slotList true).length && decide (c.tw ≤ s.age c.start + s.hk.tw / 2))

/-- A rising crossing starts a converter that waits for one: at slot 0, or at the slot a discard has cut (R470, R471,
R473). A paired HKB waits for HKA's start instead. -/
def State.crossStart (s : State) (b : Bool) : State :=
  let c := s.conv b
  if c.running || c.checking || (s.slotList b).isEmpty || !s.power.hkPass.isEmpty || s.hk.awake || s.pwr.pfw then s
  else if c.failed && !(c.ready && (b || s.offsetFits)) then s
  else if b && s.hkPaired && !s.hk.a.failed then s
  else s.joinConv b

/-- The crossing's part in the schedule: a measurement, the start of the pass, or a converter's start. -/
def State.hkCrossing (s : State) (ticks : Nat) : State :=
  let s := match s.hk.measure with
    | some 0 => s.modHk (fun h => { h with measure := some 1 })
    | some _ =>
      let s := s.closePeriod ticks
      if s.hk.a.running || s.hk.b.running || s.power.hkPass.isEmpty then s else (s.nextPass false).nextPass true
    | none => s.closePeriod ticks
  (s.crossStart false).crossStart true

/-! ### Self-checks (R469, R470) -/

def checkPass (zero reference : Int) : Bool := zero.natAbs ≤ 8 && (reference - 24576).natAbs ≤ 25

/-- Channels served only by a converter, or by none once both have failed. -/
def State.servedOnly (s : State) (b : Bool) : List Nat :=
  (List.range 24).filter (fun n =>
    let a := (s.hkRec n).arr
    a = (if b then 2 else 1) || ((a = 3 || a = 4) && s.hk.a.failed && s.hk.b.failed))

/-- A converter fails a self-check (R470). -/
def State.convFail (s : State) (b : Bool) (zero : Int) : State :=
  let s := (s.stopConv b).modConv b (fun c => { c with failed := true, checking := false, passes := 0 })
  let s := if b then s.modHk (fun h => { h with lag := none }) else s
  let s := s.note 0x5001 [b2n b, if zero.natAbs ≤ 8 then 2 else 1]
  (s.servedOnly b).foldl (fun s n => s.hkFault n 4 0 []) s

/-- A self-check ends. A discarded one is judged neither way and made again, a failed converter's at its next due time
(R475). A converter that has failed stays so without a second record (R554). -/
def State.selfCheck (s : State) (b : Bool) (zero reference : Int) : State :=
  let c := s.conv b
  if !c.checking then s
  else
    let s := s.modConv b (fun c => { c with checking := false })
    if c.doomed then
      let s := s.countDiscard
      if c.failed || s.pwr.pfw then s else s.startCheck b
    else if !checkPass zero reference then
      if c.failed then s.modConv b (fun c => { c with passes := 0 }) else s.convFail b zero
    else if c.failed then s.modConv b (fun c => { c with passes := c.passes + 1 })
    else
      let s := s.modConv b (fun c => { c with since := 0 })
      if c.atCross then s else s.runSlot b

/-! ### Step 7 (R473) -/

/-- A channel that step 7 converts: a single one on a working converter of its own, a pair on either (R473). -/
def State.step7Takes (s : State) (n : Nat) : Bool :=
  match (s.hkRec n).arr with
  | 0 => false
  | 1 => !s.hk.a.failed
  | 2 => !s.hk.b.failed
  | _ => !s.hk.a.failed || !s.hk.b.failed

/-- Channel n converted in step 7, with raw codes x and y: LAST follows, and a plausibility pair is compared. -/
def State.step7Chan (s : State) (n : Nat) (x y : Int) : State :=
  if !s.step7Takes n then s
  else
    let r := s.hkRec n
    let a := s.linear n x
    let b := s.linear n y
    let both := (r.arr = 3 || r.arr = 4) && !s.hk.a.failed && !s.hk.b.failed
    let v := if r.arr = 3 && both then (a + b) / 2 else if r.arr = 4 && both then b else a
    let s := s.noteBoard n (if both then y else x)
    let s := s.modHkChan n (fun c => { c with last := v })
    if r.arr = 3 && both then s.checkPair n a b else s

/-- Conversions of a converter in step 7, each channel once: pairs on both converters, single channels alternately
from HKA; each on its own where one has failed (R473). -/
def State.step7Count (s : State) (b : Bool) : Nat :=
  let on := fun (f : Nat → Bool) => (List.range 24).countP (fun n => f (s.hkRec n).arr)
  let pairs := on (fun a => a = 3 || a = 4)
  let singles := on (fun a => a = 1 || a = 2)
  if (s.conv b).failed then 0
  else if (s.conv (!b)).failed then pairs + on (fun a => a = if b then 2 else 1)
  else pairs + (if b then singles / 2 else (singles + 1) / 2)

/-- The raw codes of channel n in a report of step 7; 0 where it names none. -/
def step7Raw (r : StepReport) (n : Nat) : Int × Int := ((r.raws.find? (fun q => q.1 == n)).map Prod.snd).getD (0, 0)

/-- Step 7 of a full start or an engine reset: the window, on which conversion is unlocked where the period is out of
range (R490), the self-checks, and every channel once in ascending order (R473). -/
def State.hkStep7 (s : State) (r : StepReport) : State :=
  let s := s.modHk (fun h => { h with period := r.period, tw := hkWindow r.period, measure := none })
  let s := if periodOut r.period then (s.unlock false).unlock true else s
  let s := if checkPass r.zeroA r.refA then s else s.convFail false r.zeroA
  let s := if checkPass r.zeroB r.refB then s else s.convFail true r.zeroB
  let s := (s.modConv false (fun c => { c with since := s.step7Count false })).modConv true (fun c =>
    { c with since := s.step7Count true })
  (List.range 24).foldl (fun s n => s.step7Chan n (step7Raw r n).1 (step7Raw r n).2) s

end Sys2Proof.Machine
end

