-- ==== Sys2Proof/Machine/PowerOps.lean ====
section
/-!
DEFINITION. Starts and the loss of supply (03): what a start keeps (Table 3.10), the steps of Table 3.2 with
the Ledger load of step 4 (02), the sections applied in step 6, READY, and OFF.
-/

namespace Sys2Proof.Machine

/-! ### What is lost -/

/-- What no start, reset or loss of supply takes away: the build, U20 and mains. -/
def State.blank (s : State) : State :=
  { twoLanes := s.twoLanes, flash := { cells := s.flash.cells, dev := s.flash.dev }
    power := { mains := s.power.mains }, pins := s.pins, free := s.free, pending := s.pending }

/-- An operation at U20 cut short: nothing is assumed about the cells it had reached (R275). -/
def State.cutFlash (s : State) : State :=
  match s.flash.op with
  | none => s
  | some op =>
    (s.scramble op.addr (if op.program then op.data.length else 4096)).modFlash (fun f => { f with op := none })

/-- A full start from step 1 (cold start or brown-out; R71 tells which in step 4). -/
def State.startOne (s : State) : State :=
  let b := s.blank
  b.modPower (fun p => { p with phase := .bringup, stage := 1, fromStep1 := true, startCause := 1 })

/-- OFF, or the full start that a latched on request calls for (R97). -/
def State.toOff (s : State) : State :=
  let s := s.cutFlash
  if s.power.onLatched && s.power.mains then s.startOne else s.blank

/-- A blank state that keeps what column P of Table 3.10 keeps: the log store, with what R562 and R563 count by the
TSC, and the TSC. -/
def State.blankP (s : State) : State :=
  let g := s.log
  let m := s.tmr
  let b := s.blank
  { b with
    log := { store := g.store, newest := g.newest, ack := g.ack, sel := g.sel, fresh := g.fresh
             unreported := g.unreported, lastDropTsc := g.lastDropTsc, noteTimes := g.noteTimes }
    tmr := { tsc := m.tsc, counting := m.counting, lf := m.lf, lfPend := m.lfPend, lfBack := m.lfBack
             lfCause := m.lfCause, frac := m.frac, gapSpan := m.gapSpan, silent := m.silent, lfOwed := m.lfOwed, curSpan := m.curSpan
             curEntry := m.curEntry, meas := m.meas, inc := m.inc, span := m.span, entry := m.entry } }

/-- RESET_N low confirmed: U20 released, crystal and PLL stopped (R38, R80). -/
def State.toResetLow (s : State) : State :=
  let s := (s.lfWait 2).cutFlash
  s.blankP.modPower (fun p => { p with phase := .resetLow, startCause := 3 })

/-- A full start from step 2 with start cause 4 (R90). -/
def State.shadowLost (s : State) : State :=
  let s := (s.note 0x0012).cutFlash
  s.blankP.modPower (fun p => { p with
    phase := .bringup, stage := 2, startCause := 4, resetCount := s.power.resetCount, offLatched := s.power.offLatched })

/-! ### Step 4: the Ledger -/

/-- U20 meets R34. -/
def FlashDev.conforms (d : FlashDev) : Bool :=
  (d.density = 128 || d.density = 256 || d.density = 512) && d.erase4k.isSome && d.page256 && d.quad.isSome

/-- The START after a record's (R560). -/
def nextStart (n : Nat) : Nat := if n ≥ 65535 then 1 else n + 1

/-- Records of this start placed before step 4 take the numbers that follow (R559, R560). -/
def renumber (start : Nat) : Nat → List FaultRec → List FaultRec
  | _, [] => []
  | q, r :: rs => { r with seq := nextSeq q, start := start } :: renumber start (nextSeq q) rs

/-- SEQ, START and the ring's place found in step 4 (R65, R559, R560, Table 18.8). With an erased ring, or none
that can be read, LEDGER.RING shows sector 0 and 127 free positions (DESIGN CHOICE, log 91). -/
def State.locateRing (s : State) (ok : Bool) : State :=
  let m := s.flash.cells
  let rs := if ok then ringRecords m else []
  let old := s.log.store.filter (fun r => r.start != 0)
  let mine := s.log.store.filter (fun r => r.start == 0)
  let ring := newestRec rs
  let base := newestRec (rs ++ old)
  let q := (base.map FaultRec.seq).getD 0
  let st := (base.map (fun r => nextStart r.start)).getD 1
  let kept := fun (r : FaultRec) => (ring.map (fun x => !later r.seq x.seq)).getD false
  let old := old.map (fun r => if kept r then { r with saved := true } else r)
  let mine := renumber st q mine
  let newest := ((mine.getLast?).map FaultRec.seq).getD q
  let cur := if ok then ringCurrent m else none
  let pos := (cur.map (fun c => ringNextPos m c.1)).getD 0
  let s := s.modLog (fun g => { g with
    store := old ++ mine, newest := newest, start := st, ringOk := ok
    ack := if s.power.fromStep1 then (ring.map FaultRec.seq).getD 0 else g.ack
    ringPos := pos, ringSeq := (cur.map Prod.snd).getD 0, ringOpen := cur.isSome, badPos := 0, closed := 0 })
  { s with ledger := { s.ledger with ringSector := (cur.map Prod.fst).getD 0, ringFree := 127 - pos } }

/-- SAFE from a Ledger verdict: every ENGINE-SAFE record, then 0x0030 with the first (R52, R79, R594). -/
def State.verdict (s : State) (fs : List Finding) : State :=
  let s := { s with ledger := { s.ledger with verdictSafe := true, laneACfg := false, laneBCfg := false } }
  let s := fs.foldl (fun s f => s.record f.1 4 s.safeBits f.2) s
  let c := (fs.head?.map Prod.fst).getD 0
  (s.enterSafe c).modPower (fun p => { p with safeCause := c })

/-- Start cause 1 or 2 of a start from step 1, by the ring alone (R71; log 113); 1 where no ring can be read. -/
def State.judgeStart (s : State) (ok : Bool) : State :=
  if s.power.fromStep1 then
    let c := if ok && brownOut (ringRecords s.flash.cells) then 2 else 1
    s.modPower (fun p => { p with startCause := c })
  else s

/-- f_core / T_mod lies in 20 kHz to 65 kHz (R146). -/
def bandOk (fcode tmod : Nat) : Bool :=
  decide (20000 * tmod ≤ coreHz fcode) && decide (coreHz fcode ≤ 65000 * tmod)

/-- A spread code calls for the band, and f_core is outside it (R146). -/
def Ledger.bandBad (g : Ledger) (fcode : Nat) : Bool := g.spread != 0 && !bandOk fcode g.tmod

/-- PARTIES of a load check's NOTE record (Table 18.3): the owners of the program it names, lane B, or management for a
record that R14 ignores (R11; DEDUCED, log 129). -/
def Ledger.findingBits (g : Ledger) (f : Finding) : Nat :=
  let owner := fun p : Nat => if p = 0 then 4 else if p = 3 then 11 else p
  match f.1 with
  | 0x7015 => 2
  | 0x7012 => 4
  | 0x7016 | 0x7024 =>
    ((g.programs.filter (fun p => p.num == f.2.headD 0)).map (fun p => owner p.party)).foldl (· ||| ·) 0
  | _ => 0

/-- A selected copy judged and taken over, or a verdict (R46 to R61, R594). -/
def State.takeCopy (s : State) (k : Nat) (fallback : Bool) : State :=
  let m := s.flash.cells
  let all := copySects m k
  let h := Mem.flash m (copyBase k) 64
  let led := readLedger s.twoLanes (u32 h 8) (u32 h 12) all
  let v := judge s.twoLanes all led
  let s := { s with ledger := { s.ledger with
    copy := k, fallback := fallback, seq := led.seq, lenUnits := (led.length + 255) / 256, progOk := v.progOk } }
  let s := v.notes.foldl (fun s f => s.record f.1 0 (led.findingBits f) f.2) s
  let s := if led.bandBad led.fcode then s.note 0x2005 else s
  if v.safes.isEmpty then
    { s with
      shadow := led
      ledger := { s.ledger with laneACfg := true, laneBCfg := s.twoLanes && led.laneB.isSome } }
  else s.verdict v.safes

/-- The instructions that the JESD216 table names, taken where it is there (R35). -/
def State.discover (s : State) : State :=
  if s.flash.dev.sfdp then
    let r := s.flash.dev.quad.getD (0, 0)
    s.modFlash (fun f => { f with erase := f.dev.erase4k.getD 0, read := r.1, dummy := r.2 })
  else s.modFlash (fun f => { f with erase := 0, read := 0, dummy := 0 })

/-- Step 4 of a full start (Table 3.2). LEDGER.STATUS.ADDR4 shows 0, as DENSITY does, where U20 does not meet R34
(DESIGN CHOICE, log 121). -/
def State.step4 (s : State) : State :=
  let d := s.flash.dev
  let ok := d.sfdp && d.conforms
  let s := { s with ledger := { s.ledger with
    flashOk := ok, addr4 := ok && d.addr4, density := if ok then d.density else 0 } }
  let s := s.discover
  let s := (s.locateRing ok).judgeStart ok
  let s := s.note 0x0002 [s.power.startCause]
  if !d.sfdp then s.verdict [(0x7001, [])]
  else if !ok then s.verdict [(0x7002, [])]
  else
    let s := match ringToReclaim s.flash.cells (ringCurrent s.flash.cells) with
      | some k => s.noteReclaim k
      | none => s
    let (dn, fb, pin) := chooseDesc s.flash.cells
    let s := { s with ledger := { s.ledger with desc := dn } }
    let s := if dn = 2 then s.note 0x7003 else s
    let pk := pickCopy s.flash.cells fb pin
    let s := pk.rejected.foldl (fun s q => s.note 0x7004 [q.1, q.2]) s
    match pk.slot with
    | none => s.verdict [(0x7005, [])]
    | some k => s.takeCopy k pk.fallback

/-! ### Step 6: sections applied -/

/-- A lane's trims and flags at their Ledger values (R227, R384, R416). -/
def LaneSt.apply (x : LaneSt) (im : LaneImage) : LaneSt :=
  { x with
    head := { x.head with
      gains := im.head.chans.map HeadChan.gain, offsets := im.head.chans.map HeadChan.offset, nextTrim := none }
    axis := { x.axis with runMa := im.axis.runMa, holdMa := im.axis.holdMa, encOk := im.axis.encoder } }

/-- Housekeeping windows at their Ledger values (R482). -/
def HkSt.apply (h : HkSt) (rs : List HkChanRec) : HkSt :=
  { h with ch := h.ch.mapIdx (fun n c =>
      let r := rs.getD n {}
      { c with wlo := r.winLow, whi := r.winHigh }) }

/-- Management light staged at scene 0 (Table 14.7). -/
def State.stageScene0 (s : State) : State :=
  let cs := (List.range 8).map (fun n => s.sceneCh 0 n)
  let hs := (List.range 32).map (fun a => s.sceneHead 0 a)
  s.modLux (fun x => { x with mstageCh := cs, mstageHd := hs })

/-- The spread code in force at the f_core in force: off where the band check of R146 fails. -/
def State.setBand (s : State) : State :=
  let k := if s.shadow.bandBad s.clk.fcode then 0 else s.shadow.spread
  s.modClk (fun c => { c with spread := k })

/-- The band check of a clock commit, with 0x2005 (R146). -/
def State.judgeBand (s : State) : State :=
  if s.shadow.bandBad s.clk.fcode then s.setBand.note 0x2005 else s.setBand

/-- The f_core of the Ledger committed in bring-up where it is not code 2 (R143, R144); its band was judged at
load, at the same code (R146, R554). -/
def State.commitFcode (s : State) (r : StepReport) : State :=
  let f := s.shadow.fcode
  let s := s.modClk (fun c => { c with nextF := f })
  if s.clk.fcode = f then s
  else
    let old := s.clk.fcode
    (s.modClk (fun c => { c with
      fcode := f, lockUs := min 255 r.lockUs, alignUs := min 255 r.alignUs, alignPs := r.alignPs })).note 0x2007 [old, f]

/-- Every timer loaded and held (R504). -/
def State.loadTimers (s : State) : State :=
  ((List.range 16).foldl State.reloadTimer s).mark 4

/-- AUX_3V3 as the POWER section sets it (R71). -/
def State.applyPower (s : State) : State :=
  let s := s.setOut .aux s.shadow.auxOn
  s.modPwr (fun p => { p with peOk := p.peOk || !s.shadow.peMon })

/-- Sections applied from the shadow, in a full start and in an engine reset. -/
def State.applySections (s : State) : State :=
  let s := (s.modLane .a (fun x => x.apply s.shadow.laneA)).modLane .b (fun x => x.apply (s.img .b))
  let s := s.modHk (fun h => h.apply s.shadow.hkchan)
  let s := s.modSys (fun y => { y with mask := s.shadow.attnMask })
  let s := s.modMem (fun m => { m with march := s.shadow.march })
  (s.stageScene0.loadTimers).applyPower

/-- Step 6 of a full start. -/
def State.step6 (s : State) (r : StepReport) : State :=
  let s := (s.applySections.commitFcode r).setBand.loadMemory
  (s.cfgLanes.foldl State.resolveCal s).judgeRows

/-- A fault condition of SAFE that persists (R113), a Ledger verdict and 0x0031 until a full start (Table 18.2): its
code, 0 for none. -/
def State.safeFault (s : State) : Nat :=
  if s.power.safeCause != 0 then s.power.safeCause
  else if s.clk.refLost then 0x2003 else if s.clk.onRef && !s.clk.interval then 0x2002
  else if s.pwr.busLow then 0x1012 else 0

/-- Step 6 of an engine reset, with the checks of R90 and R91; a persisting fault condition returns to SAFE
(R113). -/
def State.step6E (s : State) (r : StepReport) : State :=
  if !r.shadowOk then s.shadowLost
  else
    let s := s.decayed r.decay
    let s := s.cfgLanes.foldl (fun s l => s.checkSets l (fun _ => true)) s
    let s := s.applySections
    let s := if s.mem.tstat = .reload then s.loadMemory.modMem (fun m => { m with tstat := .none }) else s
    let s := s.judgeRows
    if s.safeFault = 0 then s else s.enterSafe s.safeFault

/-! ### Steps 8 to 12 -/

/-- Front-end self-test of a lane (R226). -/
def State.selfTest (s : State) (l : Lane) (codes : List (Lane × Nat × Nat)) : State :=
  let isBad := fun (n : Nat) => codes.any (fun q => q.1 == l && q.2.1 == n && decide (655 < ((q.2.2 : Int) - 32768).natAbs))
  let bad := (List.range 8).filter isBad
  let ok := ((List.range 8).filter (fun n => !isBad n)).map (fun n => 2 ^ n)
  let s := s.modHead l (fun h => { h with feOk := ok.sum })
  bad.foldl (fun s n => s.laneTrip l 0x8037 [n]) s

/-- Head supply and magazine supply of a lane on, where no check failed (R78, R191): they ramp (R174). -/
def State.supplyLane (s : State) (l : Lane) : State :=
  let w := s.wiring l
  let s := if bit w 4 then s else s.setOut (magOut l) true
  if (s.lane l).mode.trip || bit w 0 then s else s.setOut (headOut l) true

/-- A lane's axis to holding current, where no check of its windings failed (R191). -/
def State.holdAxis (s : State) (l : Lane) : State :=
  let w := s.wiring l
  if bit w 7 || bit w 8 || bit w 9 then s else s.energise l

/-- Supplies and axis of a lane, as step 10 brings them on. -/
def State.powerLane (s : State) (l : Lane) : State := (s.supplyLane l).holdAxis l

/-- The idle program of a lane: its lowest-numbered usable one (R115). -/
def State.idleProg (s : State) (l : Lane) : Option Program :=
  (List.range 16).findSome? (fun n =>
    if s.ledger.progOk.getD n false then
      s.shadow.programs.find? (fun p => p.num == n && p.party == laneParty l)
    else none)

/-- Clock drivers enabled on a powered head, whose supply is good by then, at the idle levels of the waveform set of
its program (R115, R203). -/
def State.driversOn (s : State) (l : Lane) : State :=
  let set := (((s.lane l).mode.prog.or (s.idleProg l)).map Program.waves).getD 0
  s.modHead l (fun h => { h with
    supply := s.outOn (headOut l), drivers := s.outOn (headOut l), running := false, waves := set })

/-- The head clocked at the rung-0 period and waveform set of the lane's program (R115). -/
def State.clockHead (s : State) (l : Lane) : State :=
  match (s.lane l).mode.prog with
  | some p => s.modHead l (fun h => { h with period := p.period, tInt := p.integ, waves := p.waves })
  | none => s.modHead l (fun h => { h with period := 0, tInt := 0, waves := 0 })

/-- A lane placed in IDLE, with the idle program where none is in force. -/
def State.placeIdle (s : State) (l : Lane) : State :=
  let s := s.modMode l (fun y => { y with prog := y.prog.or (s.idleProg l) })
  (s.toMode l .idle).clockHead l

/-- Timers of a list started, with the group starts of R503. -/
def State.startTimers (s : State) (ns : List Nat) (own : Nat → Bool) : State :=
  ((s.releaseTimers ns).groupStart ns own).mark 4

/-- The READY instant but for READY: every configured lane in IDLE, the listed timers started. -/
def State.placeLanes (s : State) (ns : List Nat) : State :=
  let s := s.cfgLanes.foldl State.placeIdle s
  let s := s.startTimers ns (fun _ => true)
  s.modTmr (fun m => { m with lfSpan := m.lfSpan || m.spanDue, spanDue := false })

/-- READY (R79, R87). -/
def State.goReady (s : State) (ns : List Nat) : State :=
  let s := s.modPower (fun p => { p with phase := .run, stage := 0, stepDone := 12 })
  let s := s.placeLanes ns
  let s := s.modSys (fun y => { y with ready := true })
  (s.linkWake .a).linkWake .b

/-- Supplies of step 10 switched on as it begins. -/
def State.beginStep10 (s : State) : State := s.cfgLanes.foldl State.powerLane s

/-- Heads checked as step 11 begins (R432). -/
def State.beginStep11 (s : State) : State :=
  let s := s.cfgLanes.foldl State.driversOn s
  s.identHeads (s.lightParties.flatMap s.headsOf)

/-- Step 9: hold-up measured, bus good (R187). -/
def State.step9 (s : State) (ms : Nat) : State :=
  let s := s.modPwr (fun p => { p with holdup := min 255 ms, busOk := true, busLow := false })
  if ms < 70 then s.note 0x1004 [ms] else s

/-- What a step's end brings, its number being `n`, and what the next step begins with. -/
def State.endStep (s : State) (n : Nat) (r : StepReport) (full : Bool) : State :=
  match n with
  | 2 => s.crystalStable.modPower (fun p => { p with xtalHeld := false })
  | 3 => s.modClk (fun c => { c with locked := true, fcode := 2, attempts := 0 })
  | 4 => s.step4
  | 5 => (s.marchEnd r.reads r.retests).modMem (fun m => { m with tcount := 0 })
  | 6 => if full then s.step6 r else s.step6E r
  | 7 => s.hkStep7 r
  | 8 =>
    let s := s.cfgLanes.foldl (fun s l => s.selfTest l r.selfTest) s
    if full then s else s.beginStep10
  | 9 => (s.step9 r.holdupMs).beginStep10
  | 10 => s.beginStep11
  | 11 => s.sceneZeroAll
  | _ => s

/-- The step that follows: an engine reset goes from step 8 to step 10 (Table 3.9). -/
def nextStep (n : Nat) (full : Bool) : Nat := if !full && n = 8 then 10 else n + 1

/-- Bring-up given up for a latched OFF_REQ (R98); the ring takes record 0x0010 where step 4 has located it (R99). -/
def State.abandonStart (s : State) (n : Nat) : State :=
  let s := s.note 0x0010 [n]
  let s := s.portsOff.lightsOff
  let s := s.setOut .aux false
  s.modPower (fun p => { p with
    phase := .powerDown, stage := abandonedStart, offLatched := false, heldStep1 := false, served := s.sys.safe })

/-- An OFF_REQ latched in a start that ends in SAFE is acted on there: the step in progress has ended (R98). -/
def State.latchedOff (s : State) (n : Nat) : State := if s.power.offLatched then s.abandonStart n else s

/-- The step in progress of a full start or an engine reset ends (R73, Table 3.8). -/
def State.bringupStep (s : State) (r : StepReport) : State :=
  let n := s.power.stage
  let full : Bool := s.power.phase = .bringup
  if s.power.offLatched && (n = 4 || n = 12) then s.abandonStart n
  -- the march of step 5 ends once both its retention pauses have (R293)
  else if n = 5 && s.nextPause.isSome then s
  else if n = 1 && s.power.heldStep1 then (s.modPower (fun p => { p with stepDone := 1 })).latchedOff 1
  else
    let ph := s.power.phase
    let s := s.endStep n r full
    let s := if n = 5 || n = 6 then s.noteC2 r.c2 else s
    if s.power.phase != ph || s.power.stage != n then s.latchedOff n
    else
      let s := s.modPower (fun p => { p with stepDone := n })
      if s.power.offLatched then s.abandonStart n
      else if n = 12 then
        (if full then s.modPower (fun p => { p with bringMs := min 4095 r.elapsedMs }) else s).goReady (List.range 16)
      else
        -- step 5 begins a march of its own (R295)
        let s := if n = 4 then s.modMem (fun m => { m with tpos := 0, found := [], pauses := 0 }) else s
        s.modPower (fun p => { p with stage := nextStep n full })

end Sys2Proof.Machine
end

