-- ==== Sys2Proof/Machine/ResetOps.lean ====
section
/-!
DEFINITION. Engine reset, lane reset, sleep, wake and both kinds of power-down (03, 06): what each keeps
(Tables 3.9, 3.10 and the field tables' Survives columns) and the stages it passes through.
-/

namespace Sys2Proof.Machine

def allUnits : List Nat := List.range 16

/-- Every unit's epoch advances by 1 (Table 3.10). -/
def State.markAll (s : State) : State := allUnits.foldl State.mark s

/-! ### What a reset keeps of each unit -/

/-- A light channel across an engine reset: its latch (Table 14.7, column E). -/
def LightCh.afterE (c : LightCh) : LightCh := { latch := c.latch, rearm := c.rearm }
def LightHead.afterE (h : LightHead) : LightHead := { latch := h.latch, rearm := h.rearm }

/-- A light item across sleep: latch, and a head's reachability (column S). -/
def LightCh.afterS (c : LightCh) : LightCh := { latch := c.latch, rearm := c.rearm, faulted := c.faulted }
def LightHead.afterS (h : LightHead) : LightHead :=
  { reach := h.reach, latch := h.latch, rearm := h.rearm, barred := h.barred }

def LuxSt.afterE (x : LuxSt) : LuxSt :=
  { ch := x.ch.map LightCh.afterE, head := x.head.map LightHead.afterE
    comA := x.comA, comB := x.comB, comM := x.comM, rebcast := x.rebcast, bus := x.bus }

def LuxSt.afterS (x : LuxSt) : LuxSt :=
  { ch := x.ch.map LightCh.afterS, head := x.head.map LightHead.afterS
    comA := x.comA, comB := x.comB, comM := x.comM, rebcast := x.rebcast
    grp := x.grp.map (fun g => { g := g.g, pinRec := g.pinRec }), mstageCh := x.mstageCh
    mstageHd := x.mstageHd, mref := x.mref, bus := x.bus }

/-- Housekeeping across an engine reset keeps its two counts; across sleep also its channels' results. -/
def HkSt.afterE (h : HkSt) : HkSt := { discards := h.discards, unlocks := h.unlocks }
def HkSt.afterS (h : HkSt) : HkSt :=
  { discards := h.discards, unlocks := h.unlocks, period := h.period, tw := h.tw
    ch := h.ch.map (fun c => { c with
      unlocked := false, single := false, half := none, openN := 0, impN := 0, plausN := 0, toneN := 0, goodTsc := 0 }) }

def MemSt.afterE (m : MemSt) : MemSt :=
  { repair := m.repair, unrep := m.unrep, condemned := m.condemned, tstat := if m.tstat = .reload then .reload else .none }
def MemSt.afterS (m : MemSt) : MemSt :=
  { repair := m.repair, unrep := m.unrep, condemned := m.condemned, hwin := m.hwin, hoff := m.hoff, fMaster := m.fMaster, fWin := m.fWin
    fLane := m.fLane, tcount := m.tcount, tskip := m.tskip }

def PwrSt.afterE (p : PwrSt) : PwrSt :=
  { lnSwap := p.lnSwap, peOk := p.peOk, busOk := p.busOk, busLow := p.busLow, vrms := p.vrms, periodUs := p.periodUs, busV := p.busV
    holdup := p.holdup }
def PwrSt.afterS (p : PwrSt) : PwrSt :=
  { p.afterE with
    on := [false, false, false, false, p.on.getD 4 false], wiringA := p.wiringA, wiringB := p.wiringB
    wiringL := p.wiringL, busSwap := p.busSwap, busShort := p.busShort, auxShort := p.auxShort, mgtOff := p.mgtOff }

/-- The count of periods without PE goes on (R196). -/
def PwrHist.afterE (h : PwrHist) : PwrHist := { peBad := h.peBad, peGood := h.peGood, peLost := h.peLost }

/-- The clock runs on across an engine reset. -/
def ClkSt.afterE (c : ClkSt) : ClkSt := { c with pause := false, pattern := 0 }
/-- Crystal and PLL are off in sleep. -/
def ClkSt.afterS (c : ClkSt) : ClkSt :=
  { spread := c.spread, holds := c.holds, tries := c.tries, holdUs := c.holdUs, drift := c.drift
    alignPs := c.alignPs, lockUs := c.lockUs, alignUs := c.alignUs, fcode := c.fcode, nextF := c.nextF }

/-- Calibration fields that an engine reset keeps, and those that sleep keeps. -/
def CalSt.afterR (c : CalSt) : CalSt := { resOut := c.resOut, resSet := c.resSet }
/-- Across a lane reset a dark or flat commit that runs or waits goes on (R265); what the fields show of commits
before it returns to its reset value (R592). -/
def CalSt.afterL (c : CalSt) : CalSt :=
  if 2 ≤ c.state then { c with stage := List.replicate 96 0, cmdSet := 0, result := 0, lastSeq := 0, newDef := 0 }
  else c.afterR
def CalSt.afterS (c : CalSt) : CalSt :=
  { result := c.result, lastSeq := c.lastSeq, newDef := c.newDef, resOut := c.resOut, resSet := c.resSet, stage := c.stage }

/-- A link that is DOWN after an engine reset or sleep: the counts of Table 12.19. -/
def LinkSt.afterES (k : LinkSt) : LinkSt := { scanId := k.scanId, trains := k.trains, disagree := k.disagree }
/-- A link across a lane reset: it stays trained or goes on training (R104), every other field of Table 12.19 that
survives no lane reset returns to its reset value (R592). -/
def LinkSt.afterL (k : LinkSt) : LinkSt :=
  { k with
    resync := false, mag := 0, dual := false, maxCred := 0, granted := k.used, sent := none, magLast := none, magId := 0, magFree := 0
    errCode := 0, errDisc := 0, magBad := 0, seams := 0, abandons := 0 }

/-- The axis keeps its counters in every reset (R414); sleep also keeps its trims. -/
def AxisSt.afterR (a : AxisSt) : AxisSt :=
  { refLost := a.refLost, pos := a.pos, enc := a.enc, ab := a.ab, index := a.index, retries := a.retries, ladder := a.ladder }
def AxisSt.afterS (a : AxisSt) : AxisSt :=
  { a.afterR with encOk := a.encOk, runMa := a.runMa, holdMa := a.holdMa, seamErr := a.seamErr }

def HeadSt.afterS (h : HeadSt) : HeadSt :=
  let t := h.nextTrim.getD (h.gains, h.offsets)
  { idState := h.idState, thermOk := h.thermOk, feOk := h.feOk, typ := h.typ, serial := h.serial
    digest := h.digest, gains := t.1, offsets := t.2 }

/-- A lane across an engine reset. -/
def LaneSt.afterE (x : LaneSt) : LaneSt :=
  { mode := { trip := x.mode.trip }, cal := x.cal.afterR, link := x.link.afterES, axis := x.axis.afterR
    sets := x.sets, lrun := { tx := x.lrun.tx } }

/-- A lane across sleep. -/
def LaneSt.afterS (x : LaneSt) : LaneSt :=
  let y := x.mode
  { mode := { trip := y.trip, reason := y.reason, source := y.source, refProg := y.refProg, refCount := y.refCount
              prog := y.prog }
    head := x.head.afterS, cal := x.cal.afterS, till := { cause := x.till.cause }, link := x.link.afterES
    axis := x.axis.afterS, sets := x.sets, lrun := { tx := x.lrun.tx } }

/-- A lane at step 4 of its reset, before its shadow values are applied (R103). -/
def LaneSt.afterL (x : LaneSt) : LaneSt :=
  { mode := { reset := x.mode.reset }, cal := x.cal.afterL, link := x.link.afterL, lrun := x.lrun
    axis := { x.axis.afterR with atHold := x.axis.atHold }
    arun := { energised := x.arun.energised }, sets := x.sets }

/-! ### Engine reset (R101, R102, R555, R556) -/

/-- The Tally's run ends with a reset; a destructive one leaves the reload to step 6 (10). -/
def State.tallyReset (s : State) : State :=
  let k := s.mem.tstat
  let s := s.tallyCut
  if k = .destructive || k = .reload then s.modMem (fun m => { m with tstat := .reload }) else s

/-- Every unit as an engine reset leaves it before step 6. -/
def State.afterE (s : State) (cause : Nat) : State :=
  let p := s.power
  let y := s.sys
  { s with
    power := { phase := .engineReset, stage := 6, resetCount := p.resetCount, startCause := p.startCause, eresetCause := cause
               wakePin := p.wakePin, wakeTimer := p.wakeTimer, wakeTmr := p.wakeTmr, bringMs := p.bringMs
               refused := p.refused, padUs := p.padUs, entryUs := p.entryUs, mains := p.mains
               fatals := p.fatals, resetLoop := p.resetLoop, safeCause := p.safeCause }
    sys := { epochs := y.epochs, marks := y.marks, response := y.response, lead := y.lead }
    clk := s.clk.afterE, pwr := s.pwr.afterE, hist := s.hist.afterE, mem := s.mem.afterE, hk := s.hk.afterE
    lux := s.lux.afterE, laneA := s.laneA.afterE, laneB := s.laneB.afterE }

/-- An engine reset begins: 0x0020, both lanes stopped, everything unpowered. -/
def State.engineReset (s : State) (cause code : Nat) : State :=
  let s := (s.note 0x0020 (if cause = 2 then [2, code] else [1])).endEntry
  let s := ((s.abandonCal .a).abandonCal .b).tallyReset
  let s := (s.stopBoth 9 true (if cause = 2 then code else 0)).clearHalt
  let s := s.portsOff.lightsOff
  (s.afterE cause).markAll

/-- One minute of R556 in reference ticks. -/
def loopTicks : Nat := 1500000000

/-- A fatal fault: an engine reset with cause 2, or SAFE where it would be the third in 60 s (R555, R556). -/
def State.fatal (s : State) (code : Nat) (detail : List Nat) : State :=
  let s := s.record code 4 s.safeBits detail
  let near := s.power.fatals.filter (fun t => s.age t < loopTicks)
  if 2 ≤ near.length then
    let s := s.record 0x0031 4 s.safeBits
    (if s.sys.safe then s else s.enterSafe 0x0031).modPower (fun p => { p with resetLoop := true, safeCause := 0x0031 })
  else (s.modPower (fun p => { p with fatals := s.tmr.tsc :: near })).engineReset 2 code

/-! ### Lane reset (R103, R104) -/

/-- An engine or lane reset can begin: RUN, or an orderly power-down before its lights-off point. -/
def State.resettable (s : State) : Bool :=
  s.power.phase = .run || (s.power.phase = .powerDown && decide (s.power.stage ≤ 3))

/-- The other lane's part in a gang run that a lane reset ends: an abort for its gang partner, which ends it with scene
0 as its own party's (R418, R452). -/
def State.leavePartner (s : State) (l : Lane) : State :=
  let k := otherLane l
  let due := s.lux.planned.any (fun c => c.sent.isNone && c.ends && c.party = 3)
  let s := (s.discardLane k).modSys (fun y => { y with gang := false })
  if s.capturesRun k then
    let s := s.noteL k 0x8011 [4]
    let s := match (s.lane k).reading with
      | some c => s.abandonLine k c.num 4 false
      | none => s
    let s := (s.giveExposure k).modLane k (fun x => { x with reading := none })
    s.stopRun k { aborted := true, cause := 4 }
  else if due then s.plan (s.endCommit k)
  else s

/-- A lane reset begins: 0x0021 and step 1. One in progress absorbs the request. -/
def State.laneReset (s : State) (l : Lane) : State :=
  if !s.configured l || (s.lane l).mode.reset != 0 then s
  else
    let s := s.record 0x0021 0 (s.laneBits l) [laneNo l]
    let s := if s.sys.gang then s.leavePartner l else s
    -- the head parks at once (R205)
    let s := ((s.stopLane l 8 5 true).headOff l).abandonCoef l
    let s := s.discard (ofLane l)
    s.modMode l (fun y => { y with reset := 1 })

/-- Timers of a party. -/
def State.timersOf (s : State) (p : Nat) : List Nat := allUnits.filter (fun n => s.tmrOwner n = p)

/-- Step 4 of a lane reset: units, trims, timers and photometric factors from the shadow. -/
def State.reloadLane (s : State) (l : Lane) : State :=
  -- a resync in progress is over with LINK.STATE.RESYNC, and what waited for its end goes out first (R344, R592)
  let s := (s.modLink l (fun k => { k with resync := false })).sendOut l
  let s := s.modLane l (fun x => (x.afterL).apply (s.img l))
  let s := ((s.timersOf (laneParty l)).foldl State.reloadTimer s).mark 4
  let s := (s.laneGroups l).foldl (fun s k => s.modGrp k (fun g => { g with g := 0x8000 })) s
  [headUnit l, pixUnit l, tillUnit l, axisUnit l].foldl State.mark s

/-- Channels of a lane whose port faults a lane reset checks anew: the scan-lit ones (Table 18.2). -/
def State.litChans (s : State) (l : Lane) : List Nat :=
  (s.chansOf (laneParty l)).filter (fun n => (s.chRec n).scanLit)

/-- The port flags of a lane cleared as their checks begin anew; what fails sets them again (R191). -/
def State.recheckLane (s : State) (l : Lane) : State :=
  let w := (s.litChans l).foldl (fun w n => if bit w n then w - 2 ^ n else w) s.pwr.wiringL
  let s := (s.setWiring l 0).modPwr (fun p => { p with wiringL := w })
  (s.litChans l).foldl (fun s n => s.modCh n (fun c => { c with faulted := false })) s

/-- A cancelled power-down returns to RUN, READY high, once every lane is in IDLE (R96, log 24). -/
def State.offCancelled (s : State) : State :=
  let idle := s.cfgLanes.all (fun l => (s.lane l).mode.mode = .idle)
  if s.power.phase = .powerDown && s.power.offCancel && (s.sys.safe || idle) then
    let s := s.modPower (fun p => { p with phase := .run, stage := 0, offSource := 0, offCancel := false })
    let s := s.modSys (fun y => { y with ready := !y.safe })
    (s.linkWake .a).linkWake .b
  else s

/-- The end of a lane reset: the lane in IDLE, its timers started (R103, R505), and a trip found since shown. -/
def State.resetEnd (s : State) (l : Lane) : State :=
  let p := laneParty l
  let due := (s.lane l).mode.tripDue
  let s := (s.modMode l (fun y => { y with reset := 0, ending := false, tripDue := false })).placeIdle l
  let s := (if due then s.tripNow l else s).replaceSet l
  let s := s.modMode l (fun y => { y with halted := s.sys.haltReq })
  (s.startTimers (s.timersOf p) (fun o => o = p)).offCancelled

/-- The last step of a lane reset with a dark or flat commit still running or waiting, which no lane reset stops: the
lane is in its calibration mode with ENDING until the commit's end, and enters IDLE then (R265, R266, log 31). -/
def State.resetHeld (s : State) (l : Lane) : State :=
  let c := (s.lane l).cal
  let k := if c.acqWait then c.acqKind else c.kind
  (s.modMode l (fun y => { y with ending := true })).toMode l (if k = 1 then .darkCal else .flatCal)

/-- A step of a lane reset ends (R103). -/
def State.laneResetStep (s : State) (l : Lane) (r : StepReport) : State :=
  let k := (s.lane l).mode.reset
  let next := fun (s : State) => s.modMode l (fun y => { y with reset := k + 1 })
  let p := laneParty l
  match k with
  | 0 => s
  | 1 => next s
  | 2 => next ((s.discard (ofLane l)).commitNow (s.zeroCommit p))
  | 3 => next ((s.modAxis l (fun a => { a with atHold := (s.lane l).arun.energised })).headOff l)
  | 4 => next (s.reloadLane l)
  | 5 =>
    let s := s.clearTill l
    next ((((s.decayed r.decay).checkSets l (fun _ => true)).noteC2 r.c2).recheckLane l)
  | 6 =>
    let s := (s.selfTest l r.selfTest).rejudgeLane l
    next (s.powerLane l)
  | 7 => next ((s.driversOn l).identHeads (s.headsOf p))
  | 8 => next (s.commitNow (s.standbyCommit p))
  | _ => if s.runCommits l then s.resetHeld l else s.resetEnd l

/-! ### Sleep (R83 to R86) -/

/-- A wake source is enabled (R83, R516). -/
def State.wakeSource (s : State) : Bool :=
  s.tmr.lfOk && (s.shadow.wakeHon
    || [0, 1, 2, 3].any (fun n => bit s.shadow.wakeMask n && (s.timer n).en && !s.oddHalf n))

/-- Why a sleep request is refused, 0 for none, in the order of R83's conditions. -/
def State.sleepReason (s : State) : Nat :=
  if s.power.phase != .run || s.sys.service || s.sys.safe then 3
  else if s.cfgLanes.any (fun l => (s.lane l).mode.mode != .idle) then 1
  else if [Lane.a, Lane.b].any (fun l => committing (s.lane l).cal || (s.lane l).cal.state = 9) then 2
  else if s.sys.haltActive then 4
  else if !s.wakeSource then 5
  else 0

/-- A sleep request (R83, R84): the entry begins, or the refusal is noted. -/
def State.requestSleep (s : State) : State :=
  let k := s.sleepReason
  if k != 0 then (s.modPower (fun p => { p with sleepRefuse := k })).note 0x0014 [k]
  else
    let s := (s.endMove .a).endMove .b
    let s := (s.toMode .a .none).toMode .b .none
    let s := s.modSys (fun y => { y with ready := false })
    s.modPower (fun p => { p with phase := .sleepEntry, stage := 0, wakePin := false, wakeTimer := false, wakeTmr := 0 })

/-- Every unit as it stands once sleep entry is complete. -/
def State.afterS (s : State) (us : Nat) : State :=
  let p := s.power
  let y := s.sys
  { s with
    power := { p with phase := .sleep, stage := 0, entryUs := min 65535 us, padUs := 0 }
    sys := { epochs := y.epochs, marks := y.marks, events := y.events, mask := y.mask, faultN := y.faultN, attnN := true
             response := y.response, lead := y.lead }
    clk := s.clk.afterS, pwr := s.pwr.afterS, hist := s.hist.afterE, mem := { s.mem.afterS with march := s.shadow.march }, hk := s.hk.afterS
    lux := s.lux.afterS, laneA := s.laneA.afterS, laneB := s.laneB.afterS }

/-- The wake instant: supplies begin their ramp, the crystal starts (Table 3.5). -/
def State.beginWake (s : State) : State :=
  s.modPower (fun p => { p with phase := .wake, stage := 0, onLatched := false, wakeTsc := s.tmr.tsc })

/-- Sleep is complete: a latched OFF_REQ or wake follows (Table 3.8). With both latched the engine powers down
first and keeps the on request for the start that follows OFF, and it goes straight to D5 with no record 0x0001,
as does OFF_REQ in SLEEP (DESIGN CHOICE, logs 92 and 93). -/
def State.enterSleep (s : State) (us : Nat) : State :=
  let s := s.afterS us
  if s.power.offLatched then s.modPower (fun p => { p with phase := .powerDown, stage := 5, offLatched := false, served := false })
  else if s.power.onLatched then s.beginWake
  else s

/-- A stage of Table 3.4 ends. PMATCH and PERIOD do not survive a sleep in any timer (Table 16.5): those of the watch
timers clear with the core timers' (log 64). -/
def State.sleepStage (s : State) (us : Nat) : State :=
  let next := fun (s : State) => s.modPower (fun p => { p with stage := p.stage + 1 })
  match s.power.stage with
  | 0 => next s.zeroAll
  | 1 => next s.portsOff
  | 2 =>
    let s := (s.clearTill .a).clearTill .b
    let s := [0, 1, 2, 3].foldl (fun s n => s.modTmr (fun m => { m with ts := m.ts.modify n (fun t =>
      { t with pmatch := 0, period := 0 }) })) s
    next (((allUnits.drop 4).foldl State.sleepTimer s).mark 4)
  | 3 => next s
  | 4 => next ((s.lfHandover 1).modClk (fun c => { c with locked := false }))
  | _ => s.enterSleep us

/-! ### Wake (R87 to R93) -/

/-- The PLL locked at the Ledger f_core (Table 3.5, Table 3.10): axes at holding current, position lost. -/
def State.wakeLocked (s : State) : State :=
  let f := s.shadow.fcode
  let s := (s.modClk (fun c => { c with locked := true, fcode := f, nextF := f })).setBand
  let s := s.cfgLanes.foldl (fun s l => (s.holdAxis l).modAxis l (fun a => { a with refLost := true })) s
  s.modHk (fun h => { h with measure := some 0, awake := true })

/-- A stage of Table 3.5 ends. -/
def State.wakeStage (s : State) (r : StepReport) : State :=
  let next := fun (s : State) => s.modPower (fun p => { p with stage := p.stage + 1 })
  match s.power.stage with
  | 0 => next (s.cfgLanes.foldl State.supplyLane s)
  -- until the anchor edge of its lock the core domain runs from the reference (05)
  | 1 => next (s.crystalStable.modClk (fun c => { c with onRef := true, attempts := 0 }))
  | 2 => (next s.wakeLocked).modPower (fun p => { p with hkPass := s.passList })
  | 3 => next s
  | 4 => if r.shadowOk then next (s.cfgLanes.foldl (fun s l => s.checkSets l (fun _ => true)) ((s.decayed r.decay).noteC2 r.c2)) else s.shadowLost
  | 5 => next (s.cfgLanes.foldl State.driversOn s)
  | 6 => next (s.lightParties.foldl (fun s p => s.redrive p (s.standbyCommit p).chans) s)
  | 7 => next s.sceneZeroAll
  | _ => s

/-! ### Orderly power-down (R94 to R97) -/

/-- A calibration commit runs or waits on some lane. -/
def State.anyCommit (s : State) : Bool :=
  [Lane.a, Lane.b].any (fun l => committing (s.lane l).cal || (s.lane l).cal.state = 9)

/-- Record 0x0001 in phase D3, once the commit in progress has ended (Table 3.7). -/
def State.offDone (s : State) : State :=
  if s.power.phase = .powerDown && s.power.stage = 3 && s.power.offSource != 0 && !s.anyCommit then
    (s.note 0x0001 [s.power.offSource]).modPower (fun p => { p with offSource := 0 })
  else s

/-- Every run stops as an abort with a cause, a calibration run with cause 1 in 0x9034 (DESIGN CHOICE, log 127); SERVICE
ends, with a Tally run if one is in progress. -/
def State.stopRuns (s : State) (e : RunEnd) : State :=
  let s := [Lane.a, Lane.b].foldl (fun s l =>
    let s := if s.acquiring l then s.voidCal l 1 else s
    s.endRun l e) s
  if s.mem.tstat = .none then s.modSys (fun y => { y with service := false })
  else s.modSys (fun y => { y with serviceEnd := y.service })

/-- Phase D1 begins (R94): source 1 pin, 2 command. -/
def State.beginOff (s : State) (source : Nat) : State :=
  let s := s.clearHalt.modSys (fun y => { y with ready := false })
  let s := s.modPower (fun p => { p with phase := .powerDown, stage := 1, offSource := source, offLatched := false, served := s.serving })
  s.stopRuns { aborted := true, cause := 6 }

/-- SAFE was reached from another phase with an OFF_REQ latched there, which is acted on now (Table 3.8). -/
def State.offInSafe (s : State) (was : Phase) (n : Nat) : State :=
  match was with
  | .bringup | .engineReset => s.latchedOff n
  | _ => if s.power.offLatched then s.beginOff 1 else s

/-- The end of a drain: the Till of a lane with a mode flushed (R322), what is left with ABANDON, and SCAN_END sent
aborted where the run is still open. -/
def State.cutDrain (s : State) (l : Lane) (detail : Nat) (e : RunEnd) : State :=
  if (s.lane l).lrun.opened then
    (((s.recallLine l).flushNoted l detail e.cause).stopScan l e).modLrun l (fun r => { r with ending := none, lost := false, owed := none })
  else if (s.lane l).mode.mode != .none then s.flushNoted l detail e.cause
  else s

/-- Lights, windings and lane modes at the lights-off point of D4. A GANG-SCAN is left first, so that the zero
commits are each party's own (R12, R29). -/
def State.phaseD4 (s : State) : State :=
  let s := [Lane.a, Lane.b].foldl (fun s l =>
    (s.modMode l (fun y => { y with entering := false, entry := none, ending := false })).toMode l .none) s
  let s := s.modSys (fun y => { y with gang := false })
  ((s.zeroAll).unpowerAxis .a).unpowerAxis .b

/-- Supplies off: heads, magazines, AUX_3V3 and the 48 V bus. -/
def State.suppliesOff (s : State) : State :=
  (s.portsOff.setOut .aux false).modPwr (fun p => { p with busOk := false, busLow := false })

/-- A phase of Table 3.7 ends; the effect of the phase that begins is taken as it begins. -/
def State.offPhase (s : State) : State :=
  let next := fun (s : State) => s.modPower (fun p => { p with stage := p.stage + 1 })
  let e : RunEnd := { aborted := true, cause := 6 }
  match s.power.stage with
  | 1 => next s
  | 2 => (next ((s.cutDrain .a 3 e).cutDrain .b 3 e)).offDone
  | 3 => next s.phaseD4
  | 4 => next s.suppliesOff
  | _ => s.toOff

/-- WAKE before the lights-off point cancels the power-down (R96): the scans stopped in D1 end as they would
have, no further phase begins or ends, and no record 0x0001 is written (log 24). -/
def State.cancelOff (s : State) : State :=
  (s.modPower (fun p => { p with offCancel := true, offSource := 0, offEdge := none })).offCancelled

/-! ### Mains loss (R182 to R188) -/

/-- The erase in progress ended by the soft-reset sequence, if the device declares one (R188). -/
def State.endErase (s : State) : State :=
  match s.flash.op with
  | some op =>
    if !op.program && s.flash.dev.softReset then s.cutFlash.note 0x1032 else s
  | none => s

/-- The light bus driver is on: from step 11 of a start (R78), and in a wake from the light heads' stage. -/
def State.busDriven (s : State) : Bool :=
  match s.power.phase with
  | .off | .sleep | .resetLow | .mainsLoss => false
  | .bringup | .engineReset => decide (11 ≤ s.power.stage)
  | .wake => decide (7 ≤ s.power.stage)
  | _ => true

/-- PFW (Table 6.2 at 0): lights off, runs end, no exposure goes on. A calibration run's record 0x9034 has cause 1
(DESIGN CHOICE, log 127). -/
def State.beginPfw (s : State) : State :=
  let bus := s.busDriven
  let s := (s.note 0x1001).endEntry
  let s := (s.endMove .a).endMove .b
  let s := s.clearHalt.modSys (fun y => { y with ready := false, service := false, serviceEnd := false })
  let s := s.modPwr (fun p => { p with pfw := true })
  let s := s.modPower (fun p => { p with phase := .mainsLoss, stage := 0, mains := false, offCancel := false, served := s.serving })
  let s := (if bus then (s.busSend zeroFrame).busSend zeroFrame else s).lightsOff
  let s := s.endErase.guardCal.tallyCut
  let e : RunEnd := { aborted := true, cause := 7, pfw := true }
  [Lane.a, Lane.b].foldl (fun s l =>
    let s := if s.acquiring l then s.voidCal l 1 else s
    let s := (s.giveExposure l).modLane l (fun x => { x with capture := false })
    let s := if s.capturesRun l then
        (s.modLrun l (fun r => { r with ending := some e })).beginEnding l
      else if (s.lane l).mode.ending && (s.lane l).lrun.opened then
        s.modLrun l (fun r => { r with ending := some e })
      else s
    (s.modLux (fun x => { x with planned := [] })).freezeAxis l true |>.modAxis l (fun a => { a with refLost := true })) s

/-- A line that misses the 20 ms limit is not sent (R184): one whose last pixel has left the path goes on. -/
def State.lateLine (s : State) (l : Lane) : State :=
  match (s.lane l).reading with
  | some c => if s.pixelsOut l c then s else s.dropReading l 7
  | none => s

/-- A timed stage of Table 6.2 falls due: 20 ms, 45 ms, 50 ms, 56 ms, 60 ms. The 48 V bus and the windings at holding
current last to the end of the hold-up (R186). -/
def State.pfwStage (s : State) : State :=
  let next := fun (s : State) => s.modPower (fun p => { p with stage := p.stage + 1 })
  let e : RunEnd := { aborted := true, cause := 7, pfw := true }
  match s.power.stage with
  | 0 => next ((s.lateLine .a).lateLine .b)
  | 1 => next ((s.cutDrain .a 4 e).cutDrain .b 4 e)
  | 2 => next s
  | 3 => next (s.outputsOff.setOut .aux false)
  | _ => s.toOff

end Sys2Proof.Machine
end

