-- ==== Sys2Proof/Machine/ClockOps.lean ====
section
/-!
DEFINITION. The one clock (05): the clock commit, holdover from trip to anchor edge, failure to lock, loss
of the reference and the spread pattern; and the halting of lanes at their safe points (17, R543 to R546).
-/

namespace Sys2Proof.Machine

/-! ### Debug halt (R543, R544, R546) -/

/-- A configured lane stands at a safe point of Table 17.12. -/
def State.atSafePoint (s : State) (l : Lane) : Bool :=
  let x := s.lane l
  match x.mode.mode with
  | .idle => true
  | .smoulder => !s.clk.hold && (x.axis.phase = .none || x.axis.phase = .rest)
  | .none => true
  | _ => false

/-- The Tally has paused before its next row, or does not run. -/
def State.tallyPaused (s : State) : Bool := s.mem.tstat = .none || (s.mem.tstat = .preserving && !s.mem.ttest)

/-- Fields that survive no debug halt return to their reset values (Table 0.2, the field tables' Survives columns):
settings of SERVICE, figures since the last read, and figures of the last line. -/
def LaneSt.afterH (x : LaneSt) : LaneSt :=
  { x with
    head := { x.head with darks := List.replicate 8 0, clip := 0 }
    pix := { x.pix with sclip := 0, lclip := 0 }
    cal := { x.cal with cmdSet := 0 }
    till := { x.till with peak := 0 }
    link := { x.link with errCode := 0, errDisc := 0 }
    axis := { x.axis with moveLo := 0, moveHi := 0, moveProf := 0 } }

def State.afterH (s : State) : State :=
  { s with
    laneA := s.laneA.afterH, laneB := s.laneB.afterH
    mem := { s.mem with
      c0Worst := 0, c0Port := 0, c1Worst := 0, c2Worst := 0, kind := false, march := s.shadow.march, tfirst := 0, tlast := 511 }
    lux := { s.lux with crcErr := 0, head := s.lux.head.map (fun h => { h with temp := 0 }) }
    sys := { s.sys with badCrc := 0, aborts := 0, stale := 0, denied := 0 } }

/-- Lanes at a safe point halt; the halt is complete once every configured lane has halted (R544). -/
def State.haltSettle (s : State) : State :=
  if !s.sys.haltReq then s
  else
    let s := s.cfgLanes.foldl (fun s l =>
      if s.atSafePoint l && (s.lane l).mode.mode != .none then s.modMode l (fun y => { y with halted := true }) else s) s
    if s.sys.haltPend && s.tallyPaused && s.cfgLanes.all (fun l => (s.lane l).mode.halted) then
      ((s.modSys (fun y => { y with haltPend := false, haltActive := true })).note 0x0040).afterH
    else s

/-! ### Spread (R149, R150) -/

/-- The pattern R149 selects: 0 off, 1 free, 2 locked. -/
def State.patternDue (s : State) : Nat :=
  let c := s.clk
  let up : Bool := match s.power.phase with
    | .bringup | .engineReset => decide (6 ≤ s.power.stepDone)
    | _ => true
  if c.spread = 0 || s.sys.safe || !up || c.hold || c.onRef || !c.locked then 0
  else if [s.laneA, s.laneB].any (fun x => x.mode.mode != .none && x.mode.mode != .idle) then 2
  else 1

/-- The pattern after the present period: between free and locked none is injected until the next T_mod grid
boundary (R150). -/
def State.patternNext (s : State) : Nat := if s.clk.pattern = 1 && s.patternDue = 2 then 0 else s.patternDue

/-! ### Clock commit (R143, R144) -/

/-- R143's conditions. -/
def State.commitAllowed (s : State) : Bool :=
  s.sys.service && !s.clk.hold && !s.clk.interval
    && s.cfgLanes.all (fun l => (s.lane l).mode.mode = .idle && !(s.lane l).mode.ending)

/-- The conversions in progress will be discarded (R141, R164). -/
def State.doomConv (s : State) : State :=
  let doom := fun c : HkConv => { c with doomed := c.doomed || c.running || c.checking }
  s.modHk (fun h => { h with a := doom h.a, b := doom h.b })

/-- The heads' outputs are parked as a reference interval begins: what was being read is not published (R228). -/
def State.parkOutputs (s : State) : State :=
  let cut := fun h : HeadSt => { h with readout := none }
  (s.modHead .a cut).modHead .b cut

/-- A commit accepted: sequencing paused, the core domain on the reference, the new divisors loaded. -/
def State.beginClkCommit (s : State) : State :=
  (s.modClk (fun c => { c with
    pause := true, onRef := true, locked := false, pattern := 0, attempts := 0, oldF := c.fcode })).doomConv.parkOutputs

/-! ### Holdover (R152 to R165) -/

/-- Lanes that are capturing: a capturing mode with its run under way. -/
def State.holdLanes (s : State) : List Lane := [Lane.a, Lane.b].filter s.capturesRun

/-- The lanes as a mask, and as PARTIES (Table 18.3). -/
def State.laneMask (ls : List Lane) : Nat := (ls.map laneParty).sum
def State.maskParties (s : State) (ls : List Lane) : Nat :=
  if ls.isEmpty then 0 else if s.sys.gang then 11 else State.laneMask ls

/-- A lane at the trip (R154, R155 and the list after R157): a calibration run ends (R120), an entry pauses, to
restart at phase C, a lane in SMOULDER stays there, and ENDING and IDLE go on. A DARK-CAL or FLAT-CAL lane still in
entry phases A to E is taken as an entry (DESIGN CHOICE, log 96). -/
def State.tripLane (s : State) (l : Lane) : State :=
  if s.acquiring l && !(s.lane l).mode.entering then (s.unexposeAt l).voidCal l 2
  else if (s.lane l).mode.entering then
    if s.sys.gang && l = .b then s else s.brakeNow l
  else if s.seamOpen l then (if s.sys.gang && l = .b then s else s.reSmoulder l 2)
  else
    let s := s.unexposeAt l
    let mark := fun c : LineCtx => { c with suspect := true }
    let s := s.modLane l (fun x => { x with exposing := x.exposing.map mark, reading := x.reading.map mark, capture := false })
    if s.sys.gang && l = .b then s else s.seamDue l 2

/-- The trip (R153 to R158). The record names the lanes that are capturing: none in an entry or in SMOULDER. -/
def State.clockTrip (s : State) (drift : Int) (ref : Bool) : State :=
  let ls := s.holdLanes.filter (fun l => !(s.lane l).mode.entering && (s.lane l).mode.mode != .smoulder)
  let s := s.modClk (fun c => { c with
    hold := true, locked := false, pattern := 0, refLost := ref, tripTsc := s.tmr.tsc
    holds := satInc 255 c.holds, drift := drift })
  let s := s.record 0x2004 (if ls.isEmpty then 0 else 1) (s.maskParties ls) [State.laneMask ls, unsigned 16 drift]
  let s := (s.tripLane .a).tripLane .b
  let s := s.discard (fun c => c.phaseC || (c.group.isSome && c.party != 0))
  -- a COMMIT of phase C that is out already takes effect, and the fresh one after the anchor edge starts phase D
  (s.modLux (fun x => { x with planned := x.planned.map (fun c => { c with phaseC := false }) })).doomConv

/-- A trip can arise: RUN, SAFE among its modes, outside a holdover and a reference interval (R152). -/
def State.canTrip (s : State) : Bool := s.power.phase = .run && !s.clk.hold && !s.clk.onRef

/-- No lane has a line in progress and every axis is at rest (R159). -/
def State.holdQuiet (s : State) : Bool :=
  [s.laneA, s.laneB].all (fun x => x.exposing.isNone && x.reading.isNone && x.arun.motion.isNone)

/-- SAFE on the frozen VCO at the switch instant (R165). -/
def State.refLostSafe (s : State) : State := s.engineSafe 0x2003

/-- The switch to the reference (R159), or SAFE where the reference is lost (R165), where SAFE does not stand
already. -/
def State.holdSwitch (s : State) : State :=
  if !s.clk.hold || s.clk.onRef then s
  else if s.clk.refLost then if s.sys.safe then s else s.refLostSafe
  else (s.modClk (fun c => { c with onRef := true, attempts := 0 })).parkOutputs

/-- A line that cannot complete is ended with ABANDON, its number for the next line (R156); a line before it whose
last pixel has left the path stays. -/
def State.dropFrom (s : State) (l : Lane) (c : LineCtx) (cause : Nat) (cont : Bool) : State :=
  -- a stitched line is carried by the link of its parity (R370)
  let carrier : Lane := if s.sys.gang then (if c.num % 2 = 0 then .a else .b) else l
  let s := s.abandonLine carrier c.num cause cont
  let s := (s.giveExposure l).modLane l (fun x => {
    (x.giveUp c.num) with
    reading := x.reading.filter (fun r => r.num < c.num), group := none, resumed := true })
  (s.rewind l c.num 0).modPix l (fun p => { p with accum := [] })

/-- The first line in progress on a lane, whose number a seam takes up, is ended, and what follows it. -/
def State.dropLine (s : State) (l : Lane) (cause : Nat) (cont : Bool) : State :=
  match (s.lane l).reading.or (s.lane l).exposing with
  | none => s
  | some c => s.dropFrom l c cause cont

/-- trip + 4 ms (R156): a line whose last pixel has not left the path is ended and goes on under its number. -/
def State.lineLimit (s : State) (l : Lane) : State :=
  match (s.lane l).reading, (s.lane l).exposing with
  | some c, e =>
    if !s.pixelsOut l c then s.dropFrom l c 19 true
    else (e.map (fun e => s.dropFrom l e 19 true)).getD s
  | none, some e => s.dropFrom l e 19 true
  | none, none => s

/-- trip + 8 ms (R160): each lane with a line in progress or an axis in motion. The code is the CLK unit's
for both lanes (Table 5.7). -/
def State.holdOverrun (s : State) : State :=
  if !s.clk.hold || s.clk.onRef || s.sys.safe then s
  else
    let ls := [Lane.a, Lane.b].filter (fun l =>
      (s.lane l).exposing.isSome || (s.lane l).reading.isSome || (s.lane l).arun.motion.isSome)
    let halt := fun (s : State) (l : Lane) => (s.freezeAxis l true).modAxis l (fun a => { a with refLost := true })
    let go := fun (s : State) (l : Lane) =>
      let s := ((halt (s.dropLine l 15 false) l).record 0x2006 2 (s.laneBits l)).abortFault l 15 0x2006
      if (s.lane l).mode.ending && (s.lane l).lrun.opened then
        s.modLrun l (fun r => { r with ending := some { aborted := true, cause := 15, code := 0x2006 } })
      else s
    if !s.sys.gang then ls.foldl go s
    else match ls with
      | [] => s
      -- one fault of the gang party, contained under R135 (R552, R591)
      | l :: _ =>
        let s := ((ls.foldl halt s).record 0x2006 2 (s.laneBits l)).gangAbort l 0x2006
        ls.foldl (fun s k => (s.giveExposure k).modLane k (fun x => { x with reading := none })) s

/-- The core domain waits for a lock: in a reference interval, bring-up step 3 or the wake's relock. -/
def State.locking (s : State) : Bool :=
  !s.clk.locked && (s.clk.interval || (s.power.phase = .bringup && s.power.stage = 3)
    || (s.power.phase = .wake && s.power.stage = 2))

/-- Lock declared (R138, R161): 0x2008 for each failed attempt of a relock after holdover. -/
def State.lockGood (s : State) (us : Nat) : State :=
  if !s.locking then s
  else
    let n := s.clk.attempts
    let s := s.modClk (fun c => { c with locked := true, lockUs := min 255 us, tries := if c.hold then n + 1 else c.tries })
    if s.clk.hold then (List.range n).foldl (fun s k => s.note 0x2008 [k + 1]) s else s

/-- An attempt of 120 µs without lock: retried, and after the third SAFE on the reference (R161, R166); in a commit and
in a wake too, without record 0x2008 (log 115). -/
def State.lockBad (s : State) : State :=
  if !s.locking then s
  else
    let n := s.clk.attempts + 1
    let s := s.modClk (fun c => { c with attempts := n, tries := if c.hold then n else c.tries })
    if n < 3 then s
    else
      ((s.modClk (fun c => { c with onRef := true, pause := false })).engineSafe 0x2002).offInSafe s.power.phase s.power.stage

/-- A lane's entry restarts at phase C after a holdover (04, coincidences). -/
def State.restartEntry (s : State) (l : Lane) : State :=
  let y := (s.lane l).mode
  match y.entry, y.prog with
  | some .a, _ | some .b, _ | none, _ => s
  | some _, some p =>
    let c := if p.mode = 3 then s.zeroCommit (s.partyOf l) else s.sceneCommit (s.partyOf l) p.scene
    let s := s.modMode l (fun y => { y with entry := some .c })
    if s.sys.gang && l = .b then s else s.plan { c with phaseC := true }
  | some _, none => s

/-- Holdover ends at the anchor edge (R161, R164). -/
def State.holdEnd (s : State) (driftPpm10 : Int) : State :=
  let us := s.age s.clk.tripTsc / 25
  let s := s.modClk (fun c => { c with hold := false, holdUs := min 65535 us, drift := driftPpm10 })
  let s := s.modHk (fun h => { h with measure := some 0 })
  (s.restartEntry .a).restartEntry .b

/-- The anchor edge of a clock commit (Table 5.3): new f_core, record 0x2007, band check, sequencing resumes. -/
def State.commitEnd (s : State) : State :=
  let old := s.clk.oldF
  let s := s.carryPre.modClk (fun c => { c with fcode := c.nextF, pause := false })
  (s.note 0x2007 [old, s.clk.nextF]).judgeBand

/-- What a reference interval held back goes on: staging of commits, flash commands, owed frames (R141,
R277, R444). -/
def State.afterInterval (s : State) : State :=
  let s := [0, 1, 2, 3].foldl State.stageFirst s.framesOwed
  let s := (s.lossesDue .a).lossesDue .b
  let s := s.retryIssue.flashNext
  ((s.pump .a).pump .b).haltSettle

/-- The anchor edge (R139, R140, R144, R161). -/
def State.anchor (s : State) (alignUs : Nat) (residualPs driftPpm10 : Int) : State :=
  let first : Bool := (s.power.phase = .bringup && s.power.stage = 3) || (s.power.phase = .wake && s.power.stage = 2)
  if !s.clk.locked || !(s.clk.interval || first) then s
  else
    let s := s.modClk (fun c => { c with alignUs := min 255 alignUs, alignPs := residualPs })
    if !s.clk.interval then s
    else
      let s := s.modClk (fun c => { c with onRef := false, attempts := 0 })
      let s := if s.clk.hold then s.holdEnd driftPpm10 else s
      let s := if s.clk.pause then s.commitEnd else s
      -- the next line cycle of each lane starts here (R140)
      let s := (s.modLane .a (fun x => { x with shut := false })).modLane .b (fun x => { x with shut := false })
      -- conversions in progress overlapped the interval
      s.doomConv.afterInterval

/-- The reference is lost (R165): a trip without a switch; the TSC goes to the LF increment. While the core runs from
the reference a loss has no effect (DEDUCED, log 26). -/
def State.refLoss (s : State) : State :=
  if s.power.phase != .run || s.clk.onRef || s.clk.refLost then s
  else
    let s := if s.clk.hold then s.modClk (fun c => { c with refLost := true }) else (s.clockTrip (Config.lostDrift s.free).toInt true).takeFree
    let s := s.lfWait 3
    if s.holdQuiet then s.refLostSafe else s

end Sys2Proof.Machine
end

