-- ==== Sys2Proof/Machine/MainsOps.lean ====
section
/-!
DEFINITION. Mains and the ports (06): what one mains period brings, party budgets and shared overload, the
wiring and port faults of Table 6.4, and the identity and thermometer checks of a head (07).
-/

namespace Sys2Proof.Machine

/-! ### Means -/

/-- A quotient whose rounding the manual does not state: exact where it is whole, else one of the two whole
numbers beside it (log 8). -/
def quotShown (sum n : Nat) : Nat :=
  if n = 0 then 0
  else if sum % n != 0 && Config.roundedMean sum n then sum / n + 1 else sum / n

/-- The 50-period window of R171 and R176, newest first; until it is full, its mean is over the periods it holds and
nothing is judged (log 27). -/
def window50 (x : Nat) (xs : List Nat) : List Nat := (x :: xs).take 50

def meanShown (xs : List Nat) : Nat := quotShown xs.sum xs.length

/-- P_cap in 0.1 W, times 3 (R171); V in 0.1 V. -/
def cap3 (v : Nat) : Nat := if 1000 ≤ v then 15000 else if v < 850 then 12000 else 12000 + (v - 850) * 20

/-- The mean of 50 periods exceeds P_cap (R179). -/
def overCap (xs : List Nat) (v : Nat) : Bool := xs.length = 50 && decide (xs.length * cap3 v < 3 * xs.sum)

/-- The mean of 50 periods exceeds a budget by more than 5 % (R177). -/
def overBudget (xs : List Nat) (budget : Nat) : Bool :=
  xs.length = 50 && decide (21 * budget * xs.length < 20 * xs.sum)

/-! ### What one period brings -/

/-- PE and the neutral (R195 to R197). The first judgement shows what it finds; 0x1030 follows 50 periods without PE,
also where no period with PE came before them. LN_SWAP follows the measurements with the monitor off too (log 27). -/
def State.judgePe (s : State) (peL peN : Nat) : State :=
  let s := s.modPwr (fun p => { p with lnSwap := decide (peL < peN) })
  if !s.shadow.peMon then s.modPwr (fun p => { p with peOk := true })
  else
    let good := decide (min peL peN < 300)
    let first := s.hist.peBad = 0 && s.hist.peGood = 0
    let s := s.modHist (fun h => { h with
      peBad := if good then 0 else min 50 (h.peBad + 1), peGood := if good then min 50 (h.peGood + 1) else 0 })
    let put := fun (s : State) (ok : Bool) =>
      ((s.modPwr (fun p => { p with peOk := ok })).modHist (fun h => { h with peLost := !ok })).note 0x1030 [b2n !ok]
    if !s.hist.peLost && 50 ≤ s.hist.peBad then put s false
    else if s.hist.peLost && 50 ≤ s.hist.peGood then put s true
    else if first || 50 ≤ s.hist.peGood then s.modPwr (fun p => { p with peOk := p.peOk || good })
    else s

/-- Measured frequency outside 47 Hz to 63 Hz. -/
def freqBad (ticks : Nat) : Bool := decide (25000000 < 47 * ticks) || decide (63 * ticks < 25000000)

/-- Input voltage and frequency (R172). -/
def State.judgeMains (s : State) (v ticks : Nat) : State :=
  let low := decide (v < 850)
  let out := freqBad ticks
  let s := s.modHist (fun h => { h with
    lowCount := if low then min 50 (h.lowCount + 1) else 0, okCount := if low then 0 else min 50 (h.okCount + 1)
    fOutCount := if out then min 50 (h.fOutCount + 1) else 0, fOkCount := if out then 0 else min 50 (h.fOkCount + 1) })
  let s := if !s.pwr.mainsLow && 50 ≤ s.hist.lowCount then
      (s.modPwr (fun p => { p with mainsLow := true })).note 0x1002
    else if 50 ≤ s.hist.okCount then s.modPwr (fun p => { p with mainsLow := false })
    else s
  if !s.pwr.freqOut && 50 ≤ s.hist.fOutCount then (s.modPwr (fun p => { p with freqOut := true })).note 0x1003
  else if 50 ≤ s.hist.fOkCount then s.modPwr (fun p => { p with freqOut := false })
  else s

/-- The bus is judged by its measured voltage: from the end of step 9 of a start on (Table 6.8). -/
def State.busKnown (s : State) : Bool := s.power.phase != .bringup || decide (9 ≤ s.power.stepDone)

/-- Every party's window and what PWR shows of them (R176), the bus (R181) and the outputs at their limit (R175). -/
def State.takeDraws (s : State) (m : MainsReport) : State :=
  let s := s.modHist (fun h => { h with
    input := window50 m.input h.input, drawA := window50 m.drawA h.drawA
    drawB := window50 (if s.twoLanes then m.drawB else 0) h.drawB, drawM := window50 m.drawM h.drawM })
  let mAs := (List.range 8).map (fun n => m.chMa.getD n 0)
  let up := decide (4200 ≤ m.busMv10)
  let known := s.busKnown
  (s.modLux (fun x => { x with ch := x.ch.mapIdx (fun n c => { c with mA := mAs.getD n 0 }) })).modPwr (fun p =>
    { p with
      vrms := m.vrms, periodUs := min 65535 (quotShown m.ticks 25), busV := m.busMv10
      busOk := if known then up else p.busOk, busLow := p.busLow && !up
      limit := p.on.mapIdx (fun i on => on && m.atLimit.getD i false) })

/-- Which parties are over budget: lane A, lane B, management; the gang party as both lanes (R176, R177). -/
def State.overParties (s : State) : List Bool :=
  let h := s.hist
  let p := s.shadow.party
  let gang := overBudget (h.drawA.zipWith (· + ·) h.drawB) (p.budgetA + p.budgetB)
  if s.sys.gang then [gang, gang, overBudget h.drawM p.budgetM]
  else [overBudget h.drawA p.budgetA, s.configured .b && overBudget h.drawB p.budgetB, overBudget h.drawM p.budgetM]

/-- An overdraw of a lane party (R177): a gang party's trips both lanes. -/
def State.laneOver (s : State) (l : Lane) : State :=
  if s.sys.gang then
    -- both heads park, and TRIP is set in both lanes
    let s := (s.record 0x1020 3 11 [0]).modMode .b (fun y => { y with tripDue := true })
    (s.trip .a 0x1020).parkHead .b
  else (s.record 0x1020 3 (s.laneBits l) [laneNo l]).trip l 0x1020

/-- An overdraw of management (R178). -/
def State.mgtOver (s : State) : State :=
  let s := (s.noteItem 0x1021 0).setOut .aux false
  let s := s.modPwr (fun p => { p with mgtOff := true })
  (s.redrive 0 []).plan { party := 0 }

/-- The budgets judged; tells whether a party newly exceeds its own (R177, R178, R554). -/
def State.judgeBudgets (s : State) : State × Bool :=
  let now := s.overParties
  let was := s.hist.overd
  let new := fun (k : Nat) => now.getD k false && !was.getD k false
  let gang := s.sys.gang
  let s := s.modHist (fun h => { h with overd := now })
  let s1 := if new 0 then s.laneOver .a else s
  let s1 := if new 1 && !gang then s1.laneOver .b else s1
  let s1 := if new 2 then s1.mgtOver else s1
  (s1, new 0 || new 1)

/-- Shared overload (R179): every capturing lane aborts. -/
def State.overload (s : State) : State :=
  let ls := s.holdLanes
  let s := s.record 0x1010 (if ls.isEmpty then 0 else 2) (s.maskParties ls)
  if s.sys.gang then s.gangAbort .a 0x1010
  else ls.foldl (fun s l => s.endRun l { aborted := true, cause := 14, code := 0x1010 }) s

/-- Every lane in IDLE (R180). -/
def State.allIdle (s : State) : Bool := s.cfgLanes.all (fun l => (s.lane l).mode.mode = .idle)

/-- Overload shown (Table 6.8), and it and its persistence judged (R179, R180, log 27). A trip for overdraw
comes first, and overload is then judged on the next 50 periods. -/
def State.judgeLoad (s : State) (tripped : Bool) : State :=
  let left := if tripped then 50 else s.hist.skip - 1
  let hot := overCap s.hist.input s.pwr.vrms
  let s := (s.modHist (fun h => { h with skip := left })).modPwr (fun p => { p with overload := hot })
  if left != 0 then s
  else
    let was := s.hist.capHot
    let s := s.modHist (fun h => { h with capHot := hot })
    let s := if hot && !was then s.overload.modHist (fun h => { h with persist := 1 }) else s
    match s.hist.persist with
    | 0 => s
    | 1 => if s.allIdle then s.modHist (fun h => { h with persist := 2 }) else s
    | k =>
      if k < 51 then s.modHist (fun h => { h with persist := k + 1 })
      else
        let s := s.modHist (fun h => { h with persist := 0 })
        if hot then (s.engineSafe 0x1011).offInSafe s.power.phase s.power.stage else s

/-- Periods counted for management's photometric groups, and their stale references reported (R448, R449). -/
def State.mgtPeriod (s : State) : State :=
  let s := s.modLux (fun x => { x with grp := x.grp.mapIdx (fun k g =>
    if s.groupParty k = 0 then { g with since := g.since + 1 } else g) })
  (List.range 8).foldl (fun s k =>
    let r := s.shadow.photo.getD k {}
    if s.groupParty k = 0 && decide (r.refChan < 24) && s.hkStale r.refChan then s.photoNoref k else s) s

/-- A mains period ends. PFW in the same period governs: nothing is judged after it. In SAFE the power supervisor
goes on (Table 4.1). In a start the schedule runs from step 7 on; PE and the budgets are judged once step 6 has
applied the POWER and PARTY sections (log 27). -/
def State.mainsPeriod (s : State) (m : MainsReport) : State :=
  match s.power.phase with
  | .off | .sleep | .mainsLoss | .resetLow => s
  | ph =>
    let start : Bool := ph = .bringup || ph = .engineReset
    let s := if start && s.power.stepDone < 7 then s else s.hkCrossing m.ticks
    let s := s.takeDraws m
    let s := if s.resettable then s.mgtPeriod else s
    let s := s.judgeMains m.vrms m.ticks
    if ph = .bringup && s.power.stepDone < 6 then s.judgeLoad false
    else
      let (s, t) := (s.judgePe m.peL m.peN).judgeBudgets
      s.judgeLoad t

/-- The 48 V bus stays below 42.0 V (R181), outside a power-down; a bus that is low already is not found again
(R554). In SLEEP, where the bus is held charged, SAFE follows with the clock as sleep left it (log 98). -/
def State.busFell (s : State) : State :=
  let low := fun (s : State) => (s.modPwr (fun p => { p with busOk := false, busLow := true })).engineSafe 0x1012
  if s.pwr.busLow then s
  else
    match s.power.phase with
    | .run | .sleep => low s
    | .bringup | .engineReset | .wake | .sleepEntry =>
      if s.busKnown then (low s).offInSafe s.power.phase s.power.stage else s
    | _ => s

/-! ### Port faults (Table 6.4, R189 to R194) -/

/-- The encoder disabled (R194, R395): a run whose program needs it ends, another goes on open-loop. -/
def State.encFault (s : State) (l : Lane) (code : Nat) : State :=
  let s := (s.noteL l code).modAxis l (fun a => { a with encOk := false })
  let need := ((s.lane l).mode.prog.map Program.encReq).getD false
  if s.carriage l != l then s
  else if !need then (s.partners l).foldl (fun s k => s.modArun k (fun a => { a with encLost := true })) s
  else if s.capturesRun l then
    s.endRun l { aborted := true, cause := (Config.endCause code).toNat, code := code + laneOff l }
  else if s.acquiring l then s.voidCal l 1
  else s

/-- Whether a fault is one of overcurrent or a short, detected whatever POWER flag [2] holds. -/
def isShort : PortFault → Bool
  | .lanePort _ .headSupply | .lanePort _ .magSupply | .lanePort _ (.clockShort _)
  | .lanePort _ (.phaseShort _) | .lightPort _ .short | .busShort | .auxShort => true
  | _ => false

/-- The place of a fault in PWR.WIRING_x (Table 6.8). -/
def wireBit : LanePort → Nat
  | .headSupply => 0
  | .videoOpen _ => 1
  | .clockShort _ => 2
  | .idMismatch _ => 3
  | .magSupply => 4
  | .strandOpen => 5
  | .strandSwap => 6
  | .phaseShort _ => 7
  | .windingOpen => 8
  | .coilSwap => 9
  | .encSwap => 10
  | .encOpen => 11

/-- A lane port's fault contained (R189). -/
def State.lanePortFault (s : State) (l : Lane) (k : LanePort) : State :=
  if bit (s.wiring l) (wireBit k) || !s.configured l then s
  else
    let s := s.setWire l (wireBit k) true
    match k with
    | .headSupply => s.laneTrip l 0x8030
    | .videoOpen c => s.laneTrip l 0x8031 [c]
    | .clockShort w => s.laneTrip l 0x8032 [w]
    | .idMismatch d => s.laneTrip l 0x8033 [d]
    | .magSupply => ((s.setOut (magOut l) false).linkDown l).laneTrip l 0xA030
    | .strandOpen => s.noteL l 0xA031
    | .strandSwap => s.noteL l 0xA032
    | .phaseShort d => (s.laneTrip l 0xB030 [d]).unpowerAxis l
    | .windingOpen => (s.laneTrip l 0xB031).unpowerAxis l
    | .coilSwap => (s.laneTrip l 0xB032).unpowerAxis l
    | .encSwap => s.encFault l 0xB033
    | .encOpen => s.encFault l 0xB034

/-- A light channel's fault contained (R190). -/
def State.lightPortFault (s : State) (n code : Nat) (detail : List Nat) : State :=
  if !s.chOn n || (s.lux.ch.getD n {}).faulted then s
  else
    let own := s.chOwner n
    let s := s.modPwr (fun p => { p with wiringL := p.wiringL ||| 2 ^ n })
    let s := (s.modCh n (fun c => { c with faulted := true, drive := 0 }))
    if (s.chRec n).scanLit && own != 0 then
      let l : Lane := if own = 2 then .b else .a
      (s.record code 3 (s.laneBits l) detail).trip l code
    else s.noteItem code own detail

/-- The light bus is short (R193): every capturing lane that owns a scan-lit head aborts. -/
def State.busShorted (s : State) : State :=
  if s.pwr.busShort then s
  else
    let owns := fun (l : Lane) => (s.headsOf (laneParty l)).any (fun a => ((s.headRec a).map LightHeadRec.scanLit).getD false)
    let ls := s.holdLanes.filter (fun l => owns l || (s.sys.gang && owns (otherLane l)))
    let s := s.modPwr (fun p => { p with busShort := true })
    let s := s.record 0x6039 (if ls.isEmpty then 0 else 2) (s.maskParties ls)
    if ls.isEmpty then s
    else if s.sys.gang then s.gangAbort .a 0x6039
    else ls.foldl (fun s l =>
      s.endRun l { aborted := true, cause := (Config.endCause 0x6039).toNat, code := 0x6039 }) s

/-- AUX_3V3 off until an engine reset. -/
def State.auxShorted (s : State) : State :=
  if s.pwr.auxShort then s
  else ((s.modPwr (fun p => { p with auxShort := true })).setOut .aux false).noteItem 0x1031 0

/-- Whether Table 6.4 finds a fault at first motion, whatever POWER flag [2] holds. -/
def atMotion : PortFault → Bool
  | .lanePort _ .encSwap | .lanePort _ .coilSwap => true
  | _ => false

/-- Ports are watched: in bring-up and the resets' checks, and in RUN as POWER flag [2] says; in SAFE and in SLEEP,
where every other port is unpowered, AUX_3V3 alone. -/
def State.portWatched (s : State) (f : PortFault) : Bool :=
  let checks : Bool := s.laneA.mode.reset != 0 || s.laneB.mode.reset != 0
  match s.power.phase with
  | .bringup | .engineReset | .wake => true
  | .run => if s.sys.safe then f = .auxShort else s.shadow.portRun || isShort f || atMotion f || checks
  | .powerDown => isShort f || (decide (s.power.stage ≤ 3) && (atMotion f || checks))
  | .mainsLoss | .sleepEntry => isShort f
  | .sleep => f = .auxShort
  | _ => false

def State.portFault (s : State) (f : PortFault) : State :=
  if !s.portWatched f then s
  else
    match f with
    | .lanePort l k => s.lanePortFault l k
    | .lightPort n .short => s.lightPortFault n 0x6030 [n]
    | .lightPort n .openString => s.lightPortFault n 0x6031 []
    | .lightPort n .reversed => s.lightPortFault n 0x6032 []
    | .busSwap => if s.pwr.busSwap then s else (s.modPwr (fun p => { p with busSwap := true })).note 0x6038
    | .busShort => s.busShorted
    | .auxShort => s.auxShorted

/-- An output held at its limit too long, or too low (R175). -/
def State.foldback (s : State) (o : Output) : State :=
  if !s.outOn o then s
  else
    match o with
    | .headA => (s.headOff .a).portFault (.lanePort .a .headSupply)
    | .headB => (s.headOff .b).portFault (.lanePort .b .headSupply)
    | .magA => (s.setOut .magA false).portFault (.lanePort .a .magSupply)
    | .magB => (s.setOut .magB false).portFault (.lanePort .b .magSupply)
    | .aux => (s.setOut .aux false).portFault .auxShort

/-! ### Identity and thermometer (R207 to R211) -/

/-- What Table 7.3 finds in a full read, and how: none passed, else detail. -/
def idFinding (h : HeadSec) (bytes : Option (List Nat)) : List Nat :=
  match bytes with
  | none => [1]
  | some b =>
    let b := fit 0 64 b
    if b.take 4 != [0x42, 0x4C, 0x58, 0x48] || u16 b 4 != 1 || u32 b 60 != crc32 (b.take 60) then [2]
    else
      (if slice b 8 8 != fit 0 8 h.typeChars then [3] else [])
        ++ (if u8 b 16 != h.taps || u8 b 17 != h.outs || u16 b 18 != h.active || u8 b 20 != h.dark then [4] else [])

/-- The outcome of a full identity read (Table 7.3). Of two mismatches that trip, one record 0x8033 names the first
(log 116). -/
def State.judgeIdent (s : State) (l : Lane) (bytes : Option (List Nat)) : State :=
  let h := (s.img l).head
  let b := (bytes.map (fit 0 64)).getD []
  let fs := idFinding h bytes
  let trips := fs.filter (fun d => h.idCheck || d = 4)
  let st := if !trips.isEmpty then 3 else if fs.isEmpty then 1 else 2
  let s := s.modHead l (fun x => { x with
    idState := st, digest := bytes.map (fun _ => b.drop 56)
    typ := if bytes.isSome then slice b 8 8 else List.replicate 8 0, serial := if bytes.isSome then u32 b 56 else 0 })
  let s := (fs.filter (fun d => !(h.idCheck || d = 4))).foldl (fun s d => s.noteL l 0x8034 [d]) s
  match trips with
  | [] => s
  | d :: _ => (s.setWire l 3 true).laneTrip l 0x8033 [d]

/-- The digest read at wake (R209): one that cannot be shown to be the retained one counts as different. -/
def State.judgeDigest (s : State) (l : Lane) (bytes : Option (List Nat)) : State :=
  if (s.lane l).head.digest = bytes then s
  else ((s.setWire l 3 true).modHead l (fun x => { x with idState := 3 })).laneTrip l 0x8033 [5]

/-- Resistance in 10 Ω units, 0xFFFF when open (R211, Table 7.8); which way a remainder is rounded is a free value
(DESIGN CHOICE, log 8). -/
def thermDetail : Option Nat → Nat
  | none => 0xFFFF
  | some r => min 0xFFFF (quotShown r 10)

/-- The thermometer pair (R211). -/
def State.judgeTherm (s : State) (l : Lane) (r : Option Nat) : State :=
  let ok := match r with
    | some r => decide (700 ≤ r) && decide (r ≤ 1700)
    | none => false
  let s := s.modHead l (fun x => { x with thermOk := ok })
  if ok then s else s.laneTrip l 0x8036 [thermDetail r]

/-- An identity read ends (R207, R209). -/
def State.identRead (s : State) (l : Lane) (bytes : Option (List Nat)) (ohm : Option Nat) : State :=
  let full : Bool := ((s.power.phase = .bringup || s.power.phase = .engineReset) && s.power.stage = 10)
    || (s.resettable && (s.lane l).mode.reset = 7)
  let wake : Bool := s.power.phase = .wake
  if !s.configured l || !s.outOn (headOut l) then s
  else
  -- the read begins once HEAD_x is good (R203)
  let s := if full || wake then s.modHead l (fun h => { h with supply := true }) else s
  if full then (s.judgeIdent l bytes).judgeTherm l ohm
  else if wake then (s.judgeDigest l bytes).judgeTherm l ohm
  else s

end Sys2Proof.Machine
end

