-- ==== Sys2Proof/Machine/Regs.lean ====
section
/-!
DEFINITION. The registers as the management port reads them (R530, Table 17.6): for each unit the word at an
offset, none where Table 17.6 lists none. Write-only fields read 0 (Table 0.1), reserved bits read 0 (R9).
-/

namespace Sys2Proof.Machine

/-! ### Words -/

/-- Bits [15:0] and [31:16] of a number. -/
def lo16 (v : Nat) : Nat := v % 65536
def hi16 (v : Nat) : Nat := v / 65536 % 65536

/-- A signed number as a register shows it. -/
def word16 (x : Int) : Nat := unsigned 16 x

/-- The word at `o` of a block of registers that begins at `base`. -/
def block (o base : Nat) (ws : List Nat) : Option Nat := if base ≤ o then ws[o - base]? else none

/-- The place of an offset in an array of register groups: group and register. -/
def inArray (o base stride n : Nat) : Option (Nat × Nat) :=
  if base ≤ o ∧ o < base + stride * n then some ((o - base) / stride, (o - base) % stride) else none

/-! ### SYS (Tables 1.8, 3.13, 4.8, 17.15, 18.8) -/

/-- Items of the management party, the unused ones of a BLX-1416 included (R11, R14). -/
def State.mgtItems (s : State) : Nat :=
  let p := s.shadow.party
  let mine := fun (xs : List Nat) => xs.countP (fun o => s.ledgerOwner o == 0)
  mine p.winOwner + mine p.tmrOwner + mine p.hkOwner + mine p.chOwner + mine (p.headOwner.drop 1)

/-- SYS.MODE.TALLY_HOLD (R110). -/
def State.tallyHold (s : State) : Bool :=
  (s.mem.tstat = .destructive || s.mem.tstat = .reload) && s.power.phase = .run

/-- The oldest record at or after the selector (R568). -/
def State.selected (s : State) : Option FaultRec :=
  s.log.store.find? (fun r => r.seq == s.log.sel || later r.seq s.log.sel)

/-- The kth newest record held. -/
def State.kthNewest (s : State) (k : Nat) : Option FaultRec := s.log.store.reverse[k]?

/-- Word `i` of a record; 0xFFFF where there is none (R568). -/
def recWord (r : Option FaultRec) (i : Nat) : Nat :=
  match r with
  | some r => r.words.getD i 0
  | none => 0xFFFF

/-- SYS.FLOG.WORST: the highest class among unacknowledged records. -/
def State.worst (s : State) : Nat :=
  ((s.log.store.filter s.log.unacked).map FaultRec.cls).foldl max 0

/-- SYS.FLOG2.CAUSE. -/
def State.causeBits (s : State) : Nat := (s.faultCauses.mapIdx (fun i b => flag b i)).sum

def State.epochWord (s : State) (k : Nat) : Nat :=
  s.sys.epochs.getD (2 * k) 0 + 256 * s.sys.epochs.getD (2 * k + 1) 0

/-- SYS fault-log words from 0x100 (Table 18.8). -/
def State.flogWords (s : State) : List Nat :=
  let g := s.log
  let old := (g.store.head?.map FaultRec.seq).getD 0
  [min 1023 g.store.length + 1024 * (s.worst % 8) + flag g.ringOk 13,
   min 1023 (g.store.countP (fun r => !r.saved)) + 1024 * s.causeBits + flag (!s.sys.faultN) 15]
    ++ leWords 2 g.newest ++ leWords 2 old ++ leWords 2 g.ack ++ leWords 2 g.sel ++ [g.drops, g.start]

def State.sysWord (s : State) (o : Nat) : Option Nat :=
  let p := s.power
  let y := s.sys
  let b := s.shadow.party
  let cfg := fun (x : Nat) => if s.twoLanes then x else 0
  match o with
  | 0x000 => some ((if s.twoLanes then 2 else 1) + 0x100)
  | 0x018 => some (flag y.gang 0 + flag b.openA 1 + flag (b.openB && s.twoLanes) 2 + 256 * (s.mgtItems % 256))
  | 0x019 => some b.budgetA
  | 0x01A => some (cfg b.budgetB)
  | 0x01B => some b.budgetM
  | 0x020 => some (s.powerCode % 4 + 16 * (if p.stepDone = 0 then 12 else p.stepDone % 16) + 256 * (p.sleepRefuse % 8))
  | 0x021 => some 0
  | 0x022 => some (p.startCause % 8 + 8 * (p.eresetCause % 4) + flag p.wakePin 5 + flag p.wakeTimer 6
      + 128 * (p.wakeTmr % 4))
  | 0x023 => some (p.bringMs % 4096 + 4096 * (p.refused % 16))
  | 0x024 => some (p.padUs % 8192 + flag (s.hkPend .a) 13 + flag (s.hkPend .b) 14)
  | 0x025 => some (lo16 p.entryUs)
  | 0x026 => some (s.engineMode + flag y.service 3 + flag s.tallyHold 4)
  | 0x027 => some (flag y.haltReq 0 + flag y.haltPend 1 + flag y.haltActive 2 + flag s.laneA.mode.halted 3
      + flag s.laneB.mode.halted 4)
  | 0x038 => some (lo16 y.events)
  | 0x039 => some (lo16 y.mask)
  | 0x03A => some (y.badCrc + 256 * y.aborts)
  | 0x03B => some (y.stale + 256 * y.denied)
  | _ =>
    if 0x001 ≤ o ∧ o ≤ 0x010 then block o 0x001 (fit 0 16 (bytesToWords (fit 0 32 s.shadow.name)))
    else if 0x011 ≤ o ∧ o ≤ 0x014 then block o 0x011 (leWords 2 s.shadow.integ ++ leWords 2 s.shadow.irev)
    else if 0x030 ≤ o ∧ o ≤ 0x037 then some (s.epochWord (o - 0x030))
    else if 0x100 ≤ o ∧ o ≤ 0x10B then block o 0x100 s.flogWords
    else if 0x110 ≤ o ∧ o ≤ 0x11F then some (recWord s.selected (o - 0x110))
    else if 0x120 ≤ o ∧ o ≤ 0x1FF then some (recWord (s.kthNewest ((o - 0x120) / 16)) ((o - 0x120) % 16))
    else none

/-! ### PWR (Table 6.8), CLK (Table 5.8) -/

/-- Bits of a list, the first in bit 0. -/
def bitsOf (bs : List Bool) : Nat := (bs.mapIdx (fun i b => flag b i)).sum

def State.pwrWord (s : State) (o : Nat) : Option Nat :=
  let p := s.pwr
  let h := s.hist
  block o 0
    [bitsOf [p.pfw, p.lnSwap, p.peOk, p.mainsLow, p.freqOut, p.overload, p.busOk],
     lo16 p.vrms, lo16 p.periodUs, lo16 (meanShown h.input), lo16 (quotShown (cap3 p.vrms) 3),
     lo16 (meanShown h.drawA), (if s.twoLanes then lo16 (meanShown h.drawB) else 0), lo16 (meanShown h.drawM),
     lo16 p.busV, p.holdup % 256, bitsOf p.on + 256 * bitsOf p.limit, p.wiringA % 4096,
     (if s.twoLanes then p.wiringB % 4096 else 0),
     p.wiringL % 256 + flag p.busSwap 8 + flag p.busShort 9 + flag p.auxShort 10]

/-- T_free (Table 5.4). -/
def freePeriod (fcode : Nat) : Nat := if fcode = 0 then 9375 else if fcode = 1 then 10938 else 12500

def State.clkWord (s : State) (o : Nat) : Option Nat :=
  let c := s.clk
  let t := s.shadow.tmod
  block o 0
    [flag c.locked 0 + flag c.hold 1 + flag c.onRef 2 + flag c.pause 3 + 16 * (c.pattern % 4) + 64 * (c.fcode % 4)
       + 256 * (c.spread % 8) + flag c.refLost 11,
     c.nextF % 4, 0, lo16 t, t / 65536 % 256, freePeriod c.fcode, c.holds % 256 + 256 * (c.tries % 8),
     lo16 c.holdUs, word16 c.drift, word16 c.alignPs, c.lockUs % 256 + 256 * (c.alignUs % 256)]

/-! ### MEM (Tables 1.8, 10.8) -/

/-- Passing spares not in use. -/
def State.sparesFree (s : State) : Nat := s.mem.repair.countP (fun e => !e.valid && !e.bad)

/-- The registers of window w. -/
def State.winWords (s : State) (w : Nat) : List Nat :=
  let r := s.shadow.windows.getD w {}
  [lo16 r.base, r.base / 65536 % 64, lo16 r.len, r.len / 65536 % 128, flag (s.winOn w) 0 + 2 * s.winOwner w]

/-- The words of the aperture are no registers; here they only count as listed (R290). -/
def State.memWord (s : State) (o : Nat) : Option Nat :=
  let m := s.mem
  if o < 0x010 then
    let (n, rd, wr) := s.ctx.streamCount
    block o 0
      [n % 16 + 16 * (wr % 16) + 256 * (rd % 16), m.c0Worst % 8 + 8 * (m.c0Port % 64), m.c1Worst % 128,
       m.c2Worst % 8192, m.hwin % 16, lo16 m.hoff, m.hoff / 65536 % 128,
       m.fMaster % 16 + 16 * (m.fWin % 16) + flag m.fLane 8, flag m.kind 1 + 4 * (m.march % 2), m.tfirst % 512,
       m.tlast % 512, tallyCode m.tstat, s.rowNow % 512, m.tcount % 256, m.tskip % 1024,
       min 255 s.sparesFree + 256 * min 255 m.unrep.length]
  else if 0x100 ≤ o ∧ o ≤ 0x13F then some 0
  else if 0x200 ≤ o ∧ o ≤ 0x27F then some (repairWord (m.repair.getD (o - 0x200) {}))
  else
    match inArray o 0x010 8 16 with
    | some (w, k) => (s.winWords w)[k]?
    | none => none

/-! ### TMR (Table 16.5) -/

/-- The registers of timer n. A pair's odd EVT reads 0 (R500). -/
def State.tmrWords (s : State) (n : Nat) : List Nat :=
  let t := s.tmr.ts.getD n {}
  let r := s.timerRec n
  let evt := flag t.zero 0 + flag t.hit 1 + flag t.ovr 2 + 8 * (t.pmatch % 4) + 256 * (t.period % 256)
  [lo16 t.cnt, lo16 t.rld, lo16 t.cmp,
   r.presc % 16 + flag (s.cascaded n) 4 + flag r.group 5 + 64 * s.owner (s.shadow.party.tmrOwner.getD n 0)
     + flag (decide (n < 4)) 8 + flag (decide (n < 4) && bit s.shadow.wakeMask n) 9,
   lo16 r.phase, flag t.en 0, if s.oddHalf n then 0 else evt]

/-- The count of pair k: high word, low word, high word again (R518). -/
def State.pairWords (s : State) (k : Nat) : List Nat :=
  let h := lo16 (s.tmr.ts.getD (2 * k + 1) {}).cnt
  [h, lo16 (s.tmr.ts.getD (2 * k) {}).cnt, h]

def State.tmrTail (s : State) (o : Nat) : Option Nat :=
  let m := s.tmr
  match o with
  | 0x080 => some 0
  | 0x0B8 => some (flag m.lfSpan 0 + 2 * (m.cause % 4) + flag m.lfOk 3 + flag m.meas 4 + flag m.gap 5)
  | _ =>
    if 0x0B0 ≤ o ∧ o ≤ 0x0B4 then
      let h := m.tsc / 2 ^ 32 % 65536
      block o 0x0B0 [h, hi16 m.tsc, lo16 m.tsc, hi16 m.tsc, h]
    else block o 0x0B9 (leWords 2 m.inc ++ leWords 3 m.span ++ leWords 3 m.entry)

def State.tmrWord (s : State) (o : Nat) : Option Nat :=
  match inArray o 0 8 16, inArray o 0x090 4 8 with
  | some (n, k), _ => (s.tmrWords n)[k]?
  | none, some (n, k) => (s.pairWords n)[k]?
  | none, none => s.tmrTail o

/-! ### HK (Table 15.7) -/

/-- HK.RESx_TAG. -/
def HkRes.tag (r : HkRes) : Nat :=
  r.ch % 32 + flag r.full 5 + flag r.overrun 6 + flag r.fault 7 + flag r.unlocked 8 + flag r.single 9
    + 1024 * (r.seq % 64)

def State.hkWords (s : State) (n : Nat) : List Nat :=
  let c := s.hkChan n
  [word16 c.last, word16 c.raw, lo16 c.imp, word16 c.wlo, word16 c.whi,
   flag c.good 0 + flag c.fault 1 + 4 * (c.cause % 8) + flag c.unlocked 5 + flag c.single 6 + 128 * (c.band % 4)
     + flag c.evt 9]

def State.hkWord (s : State) (o : Nat) : Option Nat :=
  let h := s.hk
  if o < 6 then
    block o 0
      [bitsOf [!h.a.unlocked, !h.b.unlocked, h.a.failed, h.b.failed, s.hkPaired], lo16 h.tw, h.tw / 65536 % 16,
       h.a.slot % 64 + 256 * (h.b.slot % 64), word16 h.board, h.discards % 256 + 256 * (h.unlocks % 256)]
  else if 0x008 ≤ o ∧ o ≤ 0x00B then
    block o 0x008 [h.a.res.tag, word16 h.a.res.val, h.b.res.tag, word16 h.b.res.val]
  else
    match inArray o 0x040 8 24 with
    | some (n, k) => (s.hkWords n)[k]?
    | none => none

/-! ### LUX (Table 14.7) -/

def State.chWords (s : State) (n : Nat) : List Nat :=
  let r := s.chRec n
  let c := s.lux.ch.getD n {}
  [flag (s.chOn n) 0 + flag r.scanLit 1 + flag (s.chPwm n) 2 + 8 * s.owner (s.shadow.party.chOwner.getD n 0)
     + 32 * (if r.group < 8 then r.group else 15),
   c.set % 4096, r.limit % 4096, lo16 c.q, lo16 c.mA,
   flag (s.chShutOnly n) 0 + 2 * (s.chD n % 512) + flag c.latch 10]

def State.headWords (s : State) (a : Nat) : List Nat :=
  let h := s.lux.head.getD a {}
  [flag h.reach 0 + flag h.mismatch 1 + flag h.latch 2 + 8 * (s.headD a % 512), lo16 h.set, word16 h.temp]

def State.grpWords (s : State) (k : Nat) : List Nat :=
  let g := s.lux.grp.getD k {}
  [lo16 g.g, word16 (s.groupRef k), flag (s.groupRuns k) 0 + flag g.pinned 1 + 256 * unsigned 8 g.delta]

def State.luxTail (s : State) (o : Nat) : Option Nat :=
  let x := s.lux
  if 0x0C0 ≤ o ∧ o ≤ 0x0C2 then block o 0x0C0 [x.comA, if s.twoLanes then x.comB else 0, x.comM]
  else if 0x0F0 ≤ o ∧ o ≤ 0x0F7 then some (x.mstageCh.getD (o - 0x0F0) 0 % 4096)
  else if 0x101 ≤ o ∧ o ≤ 0x11F then some (lo16 (x.mstageHd.getD (o - 0x100) 0))
  else if 0x120 ≤ o ∧ o ≤ 0x127 then some (lo16 (x.mref.getD (o - 0x120) 0))
  else block o 0x128 [0, x.crcErr % 256 + 256 * (x.rebcast % 256), lo16 s.shadow.headroom]

def State.luxWord (s : State) (o : Nat) : Option Nat :=
  match inArray o 0 8 8, inArray o 0x044 4 31, inArray o 0x0C8 4 8 with
  | some (n, k), _, _ => (s.chWords n)[k]?
  | none, some (a, k), _ => (s.headWords (a + 1))[k]?
  | none, none, some (g, k) => (s.grpWords g)[k]?
  | none, none, none => s.luxTail o

/-! ### LEDGER (Table 2.15) -/

def calWord (sets : List CalSet) : Nat := (sets.mapIdx (fun i c => 16 ^ i * calBits c)).sum

def State.ledgerWord (s : State) (o : Nat) : Option Nat :=
  let g := s.ledger
  block o 0
    [g.copy % 2 + flag g.fallback 1 + 4 * (g.desc % 4) + flag g.verdictSafe 4 + flag g.flashOk 5 + flag g.addr4 6
       + flag g.laneACfg 8 + flag g.laneBCfg 9,
     lo16 g.seq, hi16 g.seq, g.lenUnits % 8192, lo16 g.density, lo16 (bitsOf g.progOk), lo16 (calWord s.laneA.sets),
     if g.laneBCfg then lo16 (calWord s.laneB.sets) else 0, g.ringSector % 256 + 256 * (g.ringFree % 128)]

/-! ### Lane units (Tables 4.8, 7.9, 8.5, 9.7, 11.5, 12.19, 13.5) -/

/-- win_start of the waveform set in force (R215). -/
def State.winStart (s : State) (l : Lane) : Nat :=
  let im := s.img l
  match (s.lane l).mode.prog, im.waves.find? (fun w => w.inst == (s.lane l).head.waves) with
  | some _, some w => w.winStart im.head.taps
  | _, _ => 0

/-- N, where a waveform set is in force. -/
def State.winCount (s : State) (l : Lane) : Nat :=
  if (s.lane l).mode.prog.isSome then (s.img l).head.winN else 0

def State.headUnitWord (s : State) (l : Lane) (o : Nat) : Option Nat :=
  let x := s.lane l
  let y := x.mode
  let h := x.head
  let hs := (s.img l).head
  if 0x018 ≤ o ∧ o ≤ 0x01F then some (h.gains.getD (o - 0x018) 0 % 64 + 64 * (h.offsets.getD (o - 0x018) 0 % 1024))
  else if 0x020 ≤ o ∧ o ≤ 0x027 then some (lo16 (h.darks.getD (o - 0x020) 0))
  else
    block o 0
      ([modeCode y.mode + 16 * modeCode y.origin + 256 * (((y.prog.map Program.num).getD 0) % 16) + flag y.entering 12
          + flag y.ending 13 + flag y.trip 14 + flag y.halted 15,
        0, y.reason % 16 + 16 * (y.source % 2) + 32 * (y.refProg % 16) + 512 * (y.refCount % 128),
        flag h.supply 0 + flag (s.driving l) 1 + flag (s.gate l) 2 + 8 * (h.idState % 4) + flag h.thermOk 5
          + 64 * (h.feOk % 256)]
        ++ fit 0 4 (bytesToWords (fit 0 8 h.typ)) ++ leWords 2 h.serial
        ++ [lo16 h.period, h.period / 65536 % 256, lo16 h.tInt, h.tInt / 65536 % 256, lo16 (s.winStart l),
            s.winStart l / 65536 % 256, lo16 (s.winCount l), hs.slew % 4, bitsOf (hs.chans.map HeadChan.sh) % 256,
            lo16 h.clip])

/-- PIX.STATUS.IDENT and SUBST (R233). -/
def State.substBits (s : State) (l : Lane) : Nat :=
  let p := (s.lane l).pix
  (if p.hasCoef then 0 else (2 ^ min 4 (s.img l).head.taps - 1) * 256) + flag (!p.hasDark) 12 + flag (!p.hasGain) 13

def State.pixUnitWord (s : State) (l : Lane) (o : Nat) : Option Nat :=
  let x := s.lane l
  let p := x.pix
  let c := x.cal
  let cfg := (s.img l).pix
  if 0x040 ≤ o ∧ o ≤ 0x09F then some (lo16 (c.stage.getD (o - 0x040) 0))
  else if 0x020 ≤ o then
    block o 0x020
      [c.state % 16 + 16 * (c.kind % 4) + 64 * (c.set % 4) + flag c.slotY 8 + 512 * (c.result % 8) + flag c.pending 12,
       c.prog % 2048, lo16 c.lastSeq, hi16 c.lastSeq, lo16 c.newDef, c.resOut % 4 + 4 * (c.resSet % 4), c.cmdSet % 4]
  else
    match inArray o 0x010 4 4 with
    | some (t, k) => (leWords 3 (p.foc.getD t 0))[k]?
    | none =>
      block o 0
        [flag (s.pixActive l) 0 + 2 * (p.set % 4) + 8 * (p.bin % 4) + flag p.gang 5 + flag p.stale 6 + flag p.tclamp 7
           + s.substBits l,
         word16 cfg.tCentre, lo16 cfg.tSpan, word16 p.temp, lo16 (unsigned 26 p.tau), hi16 (unsigned 26 p.tau),
         lo16 p.defects, lo16 p.sclip, lo16 p.lclip, lo16 p.outLen, p.outLen / 65536 % 4, p.overlap % 2048,
         lo16 p.lines, hi16 p.lines]

/-- Words of a 22-bit field. -/
def pair22 (v : Nat) : List Nat := [lo16 v, v / 65536 % 64]

def State.tillUnitWord (s : State) (l : Lane) (o : Nat) : Option Nat :=
  let x := s.lane l
  let t := x.till
  let k := x.link
  let c := s.tillSec l
  let ls := (s.img l).link
  if o < 0x040 then
    block o 0
      ([c.log2 % 32 + 32 * (c.window % 16), lo16 c.tailUs] ++ pair22 c.cut ++ pair22 c.stop ++ pair22 c.resume
        ++ pair22 t.wptr ++ pair22 t.rptr
        ++ [lo16 (s.tillFill l / 64), lo16 t.peak,
            flag (decide (s.tillFill l = 0)) 0 + flag t.stopped 1 + flag (s.tillResume l) 2 + flag t.dropping 3
              + flag x.lrun.lineOut 4,
            t.stops % 256 + 256 * (t.tails % 256), lo16 t.drops, hi16 t.drops, t.cause % 8, 0])
  else
    block o 0x040
      ([linkCode k.st + flag k.resync 3 + 16 * (k.mag % 8) + flag k.dual 7, ls.stripe % 4, ls.trainMs % 1024,
        lo16 ls.creditUs, lo16 ls.statusUs, lo16 k.scanId, k.held % 2048]
        ++ leWords 2 (lineOr k.sent) ++ leWords 2 (lineOr k.magLast) ++ leWords 2 k.magId ++ leWords 2 k.magFree
        ++ [k.errCode % 256 + 256 * (k.errDisc % 256), lo16 k.magBad, k.trains % 256 + 256 * (k.disagree % 256),
            k.seams % 256 + 256 * (k.abandons % 256), 0, k.maxCred % 2048])

/-- SEAM.PHASE's encoding (Table 13.5). -/
def seamCode : SeamPhase → Nat
  | .none => 0
  | .stopping => 1
  | .rest => 2
  | .backoff => 3
  | .dwell => 4
  | .align => 5
  | .approach => 6

def State.axisUnitWord (s : State) (l : Lane) (o : Nat) : Option Nat :=
  let x := s.lane l
  let a := x.axis
  let c := (s.img l).axis
  block o 0
    ([flag x.arun.motion.isSome 0 + flag a.atHold 1 + flag a.encOk 2 + flag a.refLost 3 + 16 * seamCode a.phase
        + flag a.retry 7,
      c.micro % 16 + flag c.encoder 4 + flag c.motorInv 5 + flag c.encInv 6, a.runMa % 4096, a.holdMa % 4096,
      lo16 c.runUp]
      ++ leWords 2 c.cpp ++ leWords 2 (unsigned 32 a.pos) ++ leWords 2 (unsigned 32 a.enc)
      ++ leWords 2 (unsigned 32 a.index)
      ++ [word16 a.dev, word16 a.seamErr, lo16 (unsigned 24 a.trim), hi16 (unsigned 24 a.trim),
          a.rung % 8 + 8 * (a.seams % 256)]
      ++ leWords 2 a.quiet ++ [a.retries % 256 + 256 * (a.ladder % 256), a.moveLo, a.moveHi, a.moveProf % 8])

/-! ### All units -/

/-- The lane of a lane unit. -/
def unitLane (u : Nat) : Lane := if u < 0xC then .a else .b

/-- The word a register holds; none where Table 17.6 lists no register. -/
def State.regWord (s : State) (u o : Nat) : Option Nat :=
  match u with
  | 0 => s.sysWord o
  | 1 => s.pwrWord o
  | 2 => s.clkWord o
  | 3 => s.memWord o
  | 4 => s.tmrWord o
  | 5 => s.hkWord o
  | 6 => s.luxWord o
  | 7 => s.ledgerWord o
  | 8 | 12 => s.headUnitWord (unitLane u) o
  | 9 | 13 => s.pixUnitWord (unitLane u) o
  | 10 | 14 => s.tillUnitWord (unitLane u) o
  | 11 | 15 => s.axisUnitWord (unitLane u) o
  | _ => none

end Sys2Proof.Machine
end

