-- ==== Sys2Proof/Machine/Operands.lean ====
section
/-!
DEFINITION. Management frames (17): a request as its words (Table 17.1), its parts, and the words a response
holds from its status word on (Tables 17.2, 17.3).
-/

namespace Sys2Proof.Machine

/-- A request whose CRC is good. -/
structure Req where
  write : Bool
  unit  : Nat
  off   : Nat
  n     : Nat
  epoch : Nat := 0
  data  : List Nat := []
  deriving DecidableEq, Repr

/-- What arrived on MGT_SDI: a frame cut before the end of its CRC (R529), one whose CRC fails, or a
request. The unit addressed is kept, since the status word names it. -/
inductive Arrival where
  | cut
  | badCrc (unit : Nat)
  | good (r : Req)
  deriving DecidableEq, Repr

/-- Words of a request before its CRC. -/
def Req.body (r : Req) : List Nat :=
  [flag r.write 15 + 2048 * (r.unit % 16) + r.off % 2048, 256 * (r.epoch % 256) + r.n % 128] ++ r.data

/-- The request on MGT_SDI (Table 17.1). -/
def Req.words (r : Req) : List Nat := r.body ++ [crcMgt r.body]

/-- The request that command, control and data words spell. -/
def parseReq (ws : List Nat) : Req :=
  let c := ws.getD 0 0
  let k := ws.getD 1 0
  let wr := bit c 15
  { write := wr, unit := bits c 14 11, off := bits c 10 0, n := k % 128, epoch := if wr then bits k 15 8 else 0
    data := if wr then (ws.drop 2).take (k % 128) else [] }

/-- Words that shifted in while MGT_CS_N was low; words past the CRC are not part of the request. -/
def arrival (ws : List Nat) : Arrival :=
  let r := parseReq ws
  let need := 2 + r.data.length
  if ws.length < 3 || (r.write && ws.length < 3 + r.n) then .cut
  else if ws.getD need 0 = crcMgt (ws.take need) then .good r
  else .badCrc r.unit

/-- The words that a host shifts past the CRC of a write. -/
def pastWords (ws : List Nat) : Nat :=
  let r := parseReq ws
  if r.write then ws.length - (3 + r.data.length) else 0

/-- The response to a write as far as the host shifts it out. Where `k` words follow the request, MGT_CS_N rises after
them: the first passes while the engine judges, each other one shifts out a word (R529; DESIGN CHOICE, log 117). Where
none is listed the response is shifted out whole. -/
def lateRise (k : Nat) (resp : List Nat) : List Nat := if k = 0 then resp else resp.take (k - 1)

/-- A word of a write, by the offset it addresses. -/
def Req.at? (r : Req) (o : Nat) : Option Nat := if r.write ∧ r.off ≤ o then r.data[o - r.off]? else none

/-- The value of a word after a write: the word's, or the one in force. -/
def Req.val (r : Req) (o old : Nat) : Nat := (r.at? o).getD old

/-- The value of a register of `m` values after a write: the word's low bits, or the one in force. -/
def Req.put (r : Req) (o m old : Nat) : Nat := ((r.at? o).map (· % m)).getD old

/-- A register of two words after a write: the halves written, over the one in force. -/
def Req.put2 (r : Req) (o old m : Nat) : Nat :=
  if (r.at? o).isNone && (r.at? (o + 1)).isNone then old
  else r.put o 65536 (lo16 old) + 65536 * r.put (o + 1) m (old / 65536)

/-- The offsets a request addresses. -/
def Req.offsets (r : Req) : List Nat := (List.range r.n).map (fun i => r.off + i)

/-- The words of a write with their offsets. -/
def Req.items (r : Req) : List (Nat × Nat) := r.data.mapIdx (fun i w => (r.off + i, w))

/-- A word written and the bit set in it. -/
def Req.sets (r : Req) (o i : Nat) : Bool := bit (r.val o 0) i

/-- A request to the words of the aperture (R290). -/
def Req.aperture (r : Req) : Bool := r.unit = 3 && 0x100 ≤ r.off && r.off ≤ 0x13F

/-- The response from its status word on. -/
def answer (code unit epoch : Nat) (data : List Nat) : List Nat :=
  let b := (4096 * code + 256 * unit + epoch % 256) :: data
  b ++ [crcMgt b]

/-- A one-word or longer write, and a read, as the rows that are host frames of one register send them. -/
def hostWrite (unit off : Nat) (ws : List Nat) (epoch : Nat) : Req :=
  { write := true, unit := unit, off := off, n := ws.length, epoch := epoch % 256, data := ws }

def hostRead (unit off n : Nat) : Req := { write := false, unit := unit, off := off, n := n }

end Sys2Proof.Machine
end

