-- ==== Sys2Proof/Machine/RequestOps.lean ====
section
/-!
DEFINITION. Requests and aborts (04): the reasons of Table 4.3, entry phase A with SCAN_BEGIN (R343), and the
abort of R129.
-/

namespace Sys2Proof.Machine

/-! ### Reasons -/

/-- The lanes a program runs on. -/
def progLanes (l : Lane) (p : Program) : List Lane := if p.mode = 6 then [.a, .b] else [l]

/-- Two seconds in reference ticks (R458). -/
def twoSec : Nat := 50000000

/-- Ember's latest temperature of head a is no older than 2 s, and at or below `top` (R458). -/
def State.headCool (s : State) (a : Nat) (top : Int) : Bool :=
  match (s.lux.head.getD a {}).latest with
  | none => false
  | some (t, at_) => decide (t ≤ top) && decide (s.age at_ ≤ twoSec)

/-- The latest result of the heatsink channel is at or below `top`, in 0.1 °C (R451, R458); one in fault counts as at
shutdown temperature (R487). -/
def State.sinkCool (s : State) (n : Nat) (top : Int) : Bool :=
  24 ≤ n || (!(s.hkChan n).fault && decide ((s.hkChan n).last ≤ 10 * top))

/-- Every scan-lit item that a scene lights on a lane meets R458's conditions; a bus short leaves no head
reachable (R193). -/
def State.startOk (s : State) (scene : Nat) (l : Lane) : Bool :=
  let p := laneParty l
  let room := (s.shadow.headroom : Int)
  let chOk := fun (n : Nat) =>
    let r := s.chRec n
    let c := s.lux.ch.getD n {}
    !r.scanLit || s.sceneCh scene n = 0 || (!c.latch && s.sinkCool r.hkChan (r.shut - room))
  let headOk := fun (a : Nat) =>
    match s.headRec a with
    | none => true
    | some r =>
      let h := s.lux.head.getD a {}
      !r.scanLit || s.sceneHead scene a = 0 ||
        (h.reach && !s.pwr.busShort && !h.latch && s.headCool a (r.shut - room))
  (s.chansOf p).all chOk && (s.headsOf p).all headOk

/-- A link serves a run: UP, the latest STATUS echoing the current epoch with state READY (R367). -/
def State.linkReady (s : State) (l : Lane) : Bool :=
  let x := s.lane l
  x.link.st = .up && x.lrun.gotStatus && x.lrun.magEpoch = s.sys.epochs.getD (tillUnit l) 0 && x.link.mag = 1

/-- Both magazines' TS2 carry the same identity and the dual-input bit (R369). -/
def State.oneMagazine (s : State) : Bool :=
  match s.laneA.lrun.lastTs2, s.laneB.lrun.lastTs2 with
  | some a, some b => a.dual && b.dual && a.identity = b.identity
  | _, _ => false

/-- Links ready for a program; striping code 1 wants one dual-input magazine on both (R369). -/
def State.linksReady (s : State) (l : Lane) (p : Program) : Bool :=
  (progLanes l p).all s.linkReady
    && (p.mode != 6 || s.shadow.laneA.link.stripe != 1
      || s.oneMagazine)

/-- The lane's head temperature is fit for a run (R93, R488). -/
def State.tempReady (s : State) (l : Lane) : Bool :=
  let c := s.hkChan (s.thermChan l)
  !s.hkPend l && !c.fault && c.good

/-- The lane runs nothing: IDLE, not in a reset and not moving its carriage (R130, R413). A lane that holds no
mode, in SAFE or after D4, counts as free, so that reason 4 does not mask reason 11 (DESIGN CHOICE, log 94). -/
def State.laneFree (s : State) (l : Lane) : Bool :=
  let x := s.lane l
  (x.mode.mode = .idle || x.mode.mode = .none) && !x.mode.ending && x.mode.reset = 0
    && !(x.arun.why = .move && x.arun.motion.isSome)

/-- Lane requests are refused as a whole: SAFE, a power-down, a destructive Tally or its reload (R110,
R296). -/
def State.requestsHeld (s : State) : Bool :=
  s.sys.safe || !s.sys.ready || s.mem.tstat = .destructive || s.mem.tstat = .reload

/-- The first reason of Table 4.3 that applies, 0 for none. Reason 1 is taken for defined programs;
reason 15 looks at the requesting lane's ABORT pin alone (log 37). -/
def State.refusal (s : State) (l : Lane) (n : Nat) (host stable : Bool) : Nat :=
  let po := s.shadow.programs.find? (fun p => p.num == n)
  if !s.configured l || (s.idleProg l).isNone then 1
  else if po.isSome && !(s.ledger.progOk.getD n false) then 1
  else
    match po with
    | none => 2
    | some p =>
      let ls := progLanes l p
      let x := s.lane l
      let shaded := capturing (progMode p)
      if p.party != laneParty l then 2
      else if (if host then !p.hostOk else !p.pinOk) then 3
      else if !s.laneFree l then 4
      else if !host && !stable then 5
      else if shaded && ls.any (fun k => !((s.lane k).sets.getD p.calSet {}).present) then 6
      else if !s.tempReady l then 7
      else if progMode p != .darkCal && !ls.all (s.startOk p.scene) then 8
      else if shaded && !s.linksReady l p then 9
      else if p.encReq && !x.axis.encOk then 10
      else if s.requestsHeld then 11
      else if s.sys.haltReq then 12
      else if p.mode = 6 && (!s.configured .b || s.laneB.mode.mode != .idle || !s.laneFree .b || s.laneB.mode.trip) then 13
      else if x.mode.trip then 14
      else if s.abortHigh l then 15
      else 0

/-- A refusal noted, with its event bit (R125, Table 17.11). -/
def State.refuse (s : State) (l : Lane) (n reason : Nat) (host : Bool) : State :=
  let w := reason % 16 + 16 * b2n host + 32 * (n % 16)
  let s := (s.noteL l 0x8010 [w]).event (4 + laneNo l)
  s.modMode l (fun y => { y with
    reason := reason % 16, source := b2n host, refProg := n % 16, refCount := satInc 127 y.refCount })

/-! ### Acceptance, phase A (Table 4.4a) -/

/-- Scan id after this one (R343). -/
def nextScan (n : Nat) : Nat := if n ≥ 0xFFFF then 1 else n + 1

/-- SCAN_BEGIN fields for the link of lane l (Table 12.6). -/
def State.scanBegin (s : State) (l : Lane) (p : Program) : List Nat :=
  let gang := p.mode = 6
  let src : Lane := if gang then .a else l
  let x := s.lane src
  let idx := if gang then laneNo l else 0
  [(s.lane l).link.scanId,
   p.num + 16 * p.mode + flag (l == .b) 8 + flag gang 9 + 1024 * idx + 2048 * ((s.img l).link.stripe % 4),
   p.taps % 16 + 16 * (p.binning % 4) + 64 * (maskTaps p.taps).length, s.nOut l p]
    ++ leWords 2 (s.payloadW l p) ++ leWords 2 p.lines
    ++ leWords 2 (p.period % 2 ^ 24 + 2 ^ 24 * s.clk.fcode) ++ leWords 2 p.integ ++ leWords 3 s.tmr.tsc
    ++ [if gang then p.overlap else 0] ++ fit 0 8 (bytesToWords (fit 0 16 p.name))
    ++ fit 0 4 (bytesToWords (fit 0 8 x.head.typ)) ++ leWords 2 x.head.serial

/-- A lane's registers and bookkeeping as a run begins ("0 at phase A", R306, R408). -/
def LaneSt.begin (x : LaneSt) (p : Program) : LaneSt :=
  { x with
    mode := { x.mode with prog := some p, origin := .none, entering := true, entry := some .b, ending := false, tripDue := false }
    till := { x.till with stopped := false, dropping := false, stops := 0, tails := 0, drops := 0 }
    link := { x.link with sent := none, seams := 0, abandons := 0 }
    lrun := { x.lrun with ending := none, badRec := false, lost := false, owed := none, complete := 0, seamN := 0, abandonN := 0, gaps := [] }
    axis := { x.axis with rung := 0, seams := 0, quiet := 0, phase := .none, retry := false, trim := 0 }
    arun := { energised := x.arun.energised }
    exposing := none, reading := none, nextLine := 0, sub := 0, capture := false, afterSeam := false
    afterGap := false, resumed := false, stopMask := none, group := none, owedSeams := [], lastNum := none }

/-- The figures of a calibration run (R259 to R263). -/
def CalSt.begin (c : CalSt) (p : Program) : CalSt :=
  let k := p.mode - 2
  let c := { c with
    acqKind := k, acqSet := p.calSet, acqWait := false, mask := p.taps, total := p.lines, lines := 0
    tempSum := 0, photo := List.replicate 8 (0, 0) }
  if 2 ≤ c.state then c else { c with state := 1, kind := k, set := p.calSet }

/-- The scan id a run opens with on a lane's link: lane A's on both links of a gang run. -/
def State.openId (s : State) (l : Lane) (gang : Bool) : Nat :=
  if gang && l = .b then s.laneA.link.scanId else nextScan (s.lane l).link.scanId

/-- One lane's part of phase A. -/
def State.acceptLane (s : State) (p : Program) (l : Lane) : State :=
  let s := (s.clearTill l).modLane l (fun x => x.begin p)
  let s := s.toMode l (progMode p)
  if calibrating (progMode p) then s.modCal l (fun c => c.begin p)
  else
    let n := s.openId l (p.mode = 6)
    let s := s.modLink l (fun k => { k with scanId := n })
    s.sendFrame l 0x01 (s.scanBegin l p)

/-- GANG-SCAN begins: both lanes' items are the gang party's, and so are the commits that wait (R12). -/
def State.joinGang (s : State) : State :=
  let s := s.modSys (fun y => { y with gang := true })
  s.modLux (fun x => { x with planned := x.planned.map (fun c =>
    if c.sent.isNone && c.party != 0 then { c with party := 3 } else c) })

/-- A request accepted. -/
def State.acceptRun (s : State) (l : Lane) (p : Program) : State :=
  let s := if p.mode = 6 then s.joinGang else s
  (progLanes l p).foldl (State.acceptLane · p) s

/-- Lane requests are decided: RUN with lane modes, or their refusals (R108, Table 3.7). -/
def State.decides (s : State) : Bool := s.power.phase = .run || s.power.phase = .powerDown || s.power.phase = .mainsLoss

/-- A request decided within its window (R124). -/
def State.request (s : State) (l : Lane) (n : Nat) (host stable : Bool) : State :=
  match s.refusal l n host stable, s.shadow.programs.find? (fun p => p.num == n) with
  | 0, some p => s.acceptRun l p
  | r, _ => s.refuse l n r host

/-! ### Aborts (R129, R265) -/

/-- An abort for the lane: 1 pin, 2 host. Nothing happens where no run or entry can end. -/
def State.abort (s : State) (l : Lane) (source : Nat) : State :=
  if s.acquiring l then
    let s := s.noteL l 0x8011 [source]
    s.voidCal l 1
  else if s.capturesRun l && (s.lane l).lrun.ending.isNone then
    (s.abortNotes l source).endRun l { aborted := true, cause := source }
  else s

end Sys2Proof.Machine
end

