-- ==== Sys2Proof/Machine/Access.lean ====
section
/-!
DEFINITION. Judging a management request (R526, Table 17.4): access (R536, R112, R24), the conditions each
field's chapter sets, trims (R539), debug halt's refusals (R545) and ranges.
-/

namespace Sys2Proof.Machine

/-! ### Trims (R539) -/

/-- The TRIMS record of a field, if one is in force (R538). -/
def State.trimRec (s : State) (u o lo w : Nat) : Option TrimRec :=
  s.shadow.trims.find? (fun r => r.unit == u && r.offset == o && r.lowBit == lo && r.width == w && !s.ctx.trimDrop r)

/-- A field without a record whose written value is not the one in force. -/
def State.trimDenied (s : State) (u o w : Nat) (f : Nat × Nat × Nat) : Bool :=
  let (lo, width, now) := f
  (s.trimRec u o lo width).isNone && w / 2 ^ lo % 2 ^ width != now

/-- A field whose written value lies outside its record's bounds. -/
def State.trimRange (s : State) (u o w : Nat) (sgn : Bool) (f : Nat × Nat × Nat) : Bool :=
  let (lo, width, _) := f
  match s.trimRec u o lo width with
  | some r => !trimWithin r sgn (w / 2 ^ lo % 2 ^ width)
  | none => false

/-- The trimmable fields of a word, as low bit, width and value in force; none where it has no such field
(Table 17.10). -/
def State.trimFields (s : State) (u o : Nat) : List (Nat × Nat × Nat) :=
  let x := s.lane (unitLane u)
  match u with
  | 8 | 12 =>
    if 0x018 ≤ o ∧ o ≤ 0x01F then
      [(0, 6, x.head.gains.getD (o - 0x018) 0 % 64), (6, 10, x.head.offsets.getD (o - 0x018) 0 % 1024)]
    else []
  | 11 | 15 => if o = 2 then [(0, 12, x.axis.runMa % 4096)] else if o = 3 then [(0, 12, x.axis.holdMa % 4096)] else []
  | 5 =>
    match inArray o 0x040 8 24 with
    | some (n, 3) => [(0, 16, word16 (s.hkChan n).wlo)]
    | some (n, 4) => [(0, 16, word16 (s.hkChan n).whi)]
    | _ => []
  | _ => []

def State.trimsDenied (s : State) (u o w : Nat) : Bool := (s.trimFields u o).any (s.trimDenied u o w)

/-! ### DENIED, word by word (R536) -/

/-- A carriage move outside a run is in progress (R412). -/
def LaneSt.moving (x : LaneSt) : Bool := x.arun.why = .move && x.arun.motion.isSome

/-- SYS. The conditions of R109, R113, R543 and R556; an engine reset is refused in a power-down (03,
coincidences). -/
def State.sysDenied (s : State) (o w : Nat) : Bool :=
  match o with
  | 0x021 => bit w 2 && (s.ledger.verdictSafe || s.power.resetLoop || s.power.phase != .run)
  | 0x026 => bit w 3 && !(s.shadow.serviceOk && !s.sys.safe && s.power.phase = .run)
  | 0x027 =>
    bit w 0 && !s.sys.haltReq
      && !(s.shadow.haltOk && s.power.phase = .run && s.mem.tstat != .destructive && s.mem.tstat != .reload)
  | 0x038 | 0x039 | 0x106 | 0x107 | 0x108 | 0x109 => false
  | _ => true

/-- A Tally run is refused (R110, R297), KIND, TFIRST and TLAST as the frame leaves them. -/
def State.tallyDenied (s : State) (preserving : Bool) (first last : Nat) : Bool :=
  !s.sys.service || s.mem.tstat != .none ||
    (if preserving then decide (last < first) else !s.cfgLanes.all (fun l => (s.lane l).mode.mode = .idle))

def State.memDenied (s : State) (r : Req) (o w : Nat) : Bool :=
  match o with
  | 0x004 | 0x005 | 0x006 => false
  | 0x008 =>
    !s.sys.service
      || (bit w 0 && s.tallyDenied (bit w 1) (r.put 0x009 512 s.mem.tfirst) (r.put 0x00A 512 s.mem.tlast))
  | 0x009 | 0x00A => !s.sys.service
  | _ => !(0x100 ≤ o && o ≤ 0x13F)

/-- TMR: the timers of the management party only (R498, R13). -/
def State.tmrDenied (s : State) (o : Nat) : Bool :=
  match inArray o 0 8 16 with
  | some (n, k) => s.tmrOwner n != 0 || !(k = 1 || k = 2 || k = 5 || k = 6)
  | none => !(o = 0x080 || o = 0x0B8)

def State.hkDenied (s : State) (o w : Nat) : Bool :=
  match inArray o 0x040 8 24 with
  | some (n, 3) | some (n, 4) => s.hkOwner n != 0 || s.trimsDenied 5 o w
  | some (_, 5) => false
  | some _ => true
  | none => !(o = 0x008 || o = 0x00A)

/-- LUX: staged settings of management items only, none unused (R419, R13, R4). -/
def State.luxDenied (s : State) (o : Nat) : Bool :=
  let p := s.shadow.party
  if 0x0F0 ≤ o ∧ o ≤ 0x0F7 then s.owner (p.chOwner.getD (o - 0x0F0) 0) != 0 || s.unused (p.chOwner.getD (o - 0x0F0) 0)
  else if 0x101 ≤ o ∧ o ≤ 0x11F then
    s.owner (p.headOwner.getD (o - 0x100) 0) != 0 || s.unused (p.headOwner.getD (o - 0x100) 0)
  else if 0x120 ≤ o ∧ o ≤ 0x127 then s.groupParty (o - 0x120) != 0
  else o != 0x128

/-- HEAD: gain and offset in IDLE, PREVIEW or FOCUS (R227). -/
def State.headDenied (s : State) (u o w : Nat) : Bool :=
  let m := (s.lane (unitLane u)).mode.mode
  if o = 0x001 then false
  else if 0x018 ≤ o ∧ o ≤ 0x01F then !(m = .idle || m = .preview || m = .focus) || s.trimsDenied u o w
  else true

/-- A commit of either lane is in progress or waits (R267). -/
def State.calBusy (s : State) : Bool :=
  [s.laneA.cal, s.laneB.cal].any (fun c => committing c || c.state = 9 || c.acqWait)

def State.pixDenied (s : State) (l : Lane) (o w : Nat) : Bool :=
  if o = 0x026 then
    !s.sys.service || (bit w 2 && (!s.configured l || (s.lane l).mode.trip || s.calBusy))
  else !(0x040 ≤ o && o ≤ 0x09F && s.sys.service)

/-- A flush is refused in a calibration run and while a commit of the lane uses the Till window (R323). -/
def State.flushDenied (s : State) (l : Lane) : Bool :=
  let c := (s.lane l).cal
  calibrating (s.lane l).mode.mode || (c.kind != 3 && (committing c || c.state = 9)) || c.acqWait

def State.tillDenied (s : State) (l : Lane) (o w : Nat) : Bool :=
  match o with
  | 0x013 => !s.sys.service || (bit w 0 && s.flushDenied l)
  | 0x053 => !s.sys.service || (bit w 0 && (s.lane l).mode.mode != .idle)
  | _ => true

/-- AXIS: currents in IDLE without a move (R416), moves under R412. -/
def State.axisDenied (s : State) (u o w : Nat) : Bool :=
  let x := s.lane (unitLane u)
  match o with
  | 0x002 | 0x003 => x.mode.mode != .idle || x.moving || s.trimsDenied u o w
  | 0x015 | 0x016 => !s.sys.service
  | 0x017 => !s.sys.service || (bit w 3 && (x.mode.mode != .idle || x.mode.trip || x.moving))
  | _ => true

/-- A word of a write fails a check of R536. -/
def State.wordDenied (s : State) (r : Req) (o w : Nat) : Bool :=
  match r.unit with
  | 0 => s.sysDenied o w
  | 2 => if o = 0x001 then !s.sys.service else if o = 0x002 then bit w 0 && !s.commitAllowed else true
  | 3 => s.memDenied r o w
  | 4 => s.tmrDenied o
  | 5 => s.hkDenied o w
  | 6 => s.luxDenied o
  | 8 | 12 => s.headDenied r.unit o w
  | 9 | 13 => s.pixDenied (unitLane r.unit) o w
  | 10 | 14 => s.tillDenied (unitLane r.unit) o w
  | 11 | 15 => s.axisDenied r.unit o w
  | _ => true

/-! ### DENIED, the whole frame -/

/-- In SAFE: OFF, ERESET and the acknowledgement only (R112). -/
def safeWord (u o w : Nat) : Bool := u = 0 && (o = 0x106 || o = 0x107 || (o = 0x021 && w % 32 / 8 = 0 && !bit w 0))

/-- The window that MEM.HWIN selects is closed to the host (R24). -/
def State.apertureClosed (s : State) : Bool :=
  let open_ := fun (l : Lane) (o : Bool) => s.sys.service && (s.lane l).mode.mode = .idle && o
  match s.winOwner s.mem.hwin with
  | 0 => false
  | 1 => !open_ .a s.shadow.party.openA
  | 2 => !open_ .b s.shadow.party.openB
  | _ => true

/-- An access check fails (step 6 of Table 17.4). -/
def State.denied (s : State) (r : Req) : Bool :=
  (s.sys.safe && 8 ≤ r.unit) || (r.aperture && s.apertureClosed)
    || (r.write && ((s.sys.safe && r.items.any (fun q => !safeWord r.unit q.1 q.2))
      || r.items.any (fun q => s.wordDenied r q.1 q.2)))

/-! ### HALTED (R545) and RANGE -/

/-- A write of a field that debug halt withholds; a command bit counts as written where it is 1. -/
def haltedWord (u o w : Nat) : Bool :=
  match u with
  | 0 => o = 0x026
  | 2 => o = 0x002 && bit w 0
  | 3 => o = 0x008 && bit w 0
  | 9 | 13 => o = 0x026 && bit w 2
  | 10 | 14 => (o = 0x013 || o = 0x053) && bit w 0
  | 11 | 15 => o = 0x017 && bit w 3
  | _ => false

/-- The sequence a frame acknowledges: the halves it writes, over the one in force (R570). -/
def State.ackValue (s : State) (r : Req) : Nat :=
  r.put2 0x106 s.log.ack 65536

/-- A sequence no earlier than the acknowledged one and no later than the newest (R570). -/
def LogSt.ackOk (g : LogSt) (q : Nat) : Bool := (q = g.ack || later q g.ack) && (q = g.newest || later g.newest q)

/-- A written value out of range (step 8 of Table 17.4). -/
def State.wordRange (s : State) (r : Req) (o w : Nat) : Bool :=
  let u := r.unit
  match u with
  | 0 => (o = 0x021 && bit w 4 && !s.twoLanes) || ((o = 0x106 || o = 0x107) && !s.log.ackOk (s.ackValue r))
  | 2 => o = 0x001 && w % 4 = 3
  | 5 => (s.trimFields u o).any (s.trimRange u o w true)
  | 8 | 12 =>
    (0x018 ≤ o && 36 < w % 64) || (s.trimFields u o).any (s.trimRange u o w false)
  | 11 | 15 =>
    -- run current is at most 3 000 mA rms (Tables 2.6, 13.3)
    (s.trimFields u o).any (s.trimRange u o w false) || (o = 2 && 3000 < w % 4096)
      || (o = 0x017 && bit w 3 && (s.entries (unitLane u) (w % 8)).isEmpty)
  | _ => false

/-- Word count 0 or above 64, an offset not listed, or an aperture frame that does not start at MEM.DATA0
(step 4 of Table 17.4). -/
def State.unlisted (s : State) (r : Req) : Bool :=
  r.n = 0 || 64 < r.n || r.offsets.any (fun o => (s.regWord r.unit o).isNone)
    || (r.unit = 3 && r.off != 0x100 && r.offsets.any (fun o => 0x100 ≤ o && o ≤ 0x13F))

/-- The port serves: RUN to the end of a power-down, outside reference intervals (Table 17.3). -/
def State.portServes (s : State) : Bool := s.serving && !s.clk.interval

/-- The port has power and no low level on RESET_N (R80). -/
def State.portLive (s : State) : Bool :=
  s.power.phase != .off && s.power.phase != .resetLow && !s.power.heldStep1

/-- The status code of a request whose CRC is good (R526, Tables 17.3, 17.4). -/
def State.status (s : State) (r : Req) : Nat :=
  if !s.portServes then 1
  else if !s.twoLanes && 0xC ≤ r.unit then 5
  else if s.unlisted r then 6
  else if r.write && r.epoch != s.sys.epochs.getD r.unit 0 then 2
  else if s.denied r then 3
  else if r.write && s.sys.haltReq && r.items.any (fun q => haltedWord r.unit q.1 q.2) then 7
  else if (r.write && r.items.any (fun q => s.wordRange r q.1 q.2)) || (r.aperture && !s.winOn s.mem.hwin) then 6
  else 0

end Sys2Proof.Machine
end

