-- ==== Sys2Proof/Machine/Settle.lean ====
section
/-!
DEFINITION. The form of every meaning: a command's effect, and what follows it in the same cycle (records in
order, epochs, STATUS frames, events, pins).
-/

namespace Sys2Proof.Machine

/-! ### A read of a lane's window overtaken by the lane (R25) -/

/-- A response that lacks its last `k` data words: they go out as 0x0000, with the CRC inverted. -/
def spoil (k : Nat) (resp : List Nat) : List Nat :=
  let sent := resp ++ List.replicate k 0
  sent ++ [0xFFFF - crcMgt sent]

/-- The owning lane leaves IDLE while a read of its window still returns words. -/
def settleRead (s0 s1 : State) : State :=
  match s0.sys.apert with
  | none => s1
  | some (l, k) =>
    if (s0.lane l).mode.mode = .idle && (s1.lane l).mode.mode != .idle then
      s1.modSys (fun y => { y with response := spoil k s0.sys.response, apert := none })
    else s1

/-! ### Engine STATUS frames -/

/-- The STATUS that an advance of the LINK epoch calls for, in the first gap (R339, R354). -/
def settleStatus (s : State) (l : Lane) : State :=
  if (s.lane l).lrun.statusDue && s.linkLive l then s.sendStatus l else s

/-! ### The form of every meaning -/

/-- Records, epochs, owed STATUS frames, events and pins after an effect that led from `s0` to `s1`. -/
def settle (s0 s1 : State) : State :=
  let s := settleEpochs s0 (settleRead s0 (s1.modLog LogSt.settle))
  settlePins (settleEvents s0 (settleStatus (settleStatus s .a) .b))

/-- Frames shown as sent by the previous command are forgotten. -/
def State.clearOut (s : State) : State :=
  let quiet := fun r : LinkRun => { r with tx := [] }
  ((s.modLrun .a quiet).modLrun .b quiet).modLux (fun x => { x with bus := [] })

/-- The state after a command whose effect led to `s1`. No command reaches the queue or the build. -/
def State.after (s s1 : State) : State := { settle s.clearOut s1 with pending := s.pending, twoLanes := s.twoLanes }

/-- A command's outcome: its effect, then the settling. -/
def perform (s : State) (f : State → State) : Host.Outcome State Fault Refusal := .next (s.after (f s.clearOut))

/-- The state a management frame finds: the response before it is over. -/
def State.mgtOpen (s : State) : State := s.modSys (fun y => { y with apert := none })

/-- The outcome of a management frame: its effect, the settling, and the response, whose status word holds
the epoch as it then stands; `k` request words precede it on the wire (Table 17.2). -/
def performMgt (s : State) (k : Nat) (f : State → State) (resp : State → List Nat) : Host.Outcome State Fault Refusal :=
  let t := s.mgtOpen.after (f s.mgtOpen.clearOut)
  .next (t.modSys (fun y => { y with response := resp t, lead := List.replicate k 0xFFFF }))

end Sys2Proof.Machine
end

