-- ==== Sys2Proof/Machine/HostOps.lean ====
section
/-!
DEFINITION. What a host write does once it is answered OK (R528): the registers it stores and the commands it
gives, unit by unit.
-/

namespace Sys2Proof.Machine

/-! ### SYS -/

/-- SYS.POWER (R106): a reset of the engine absorbs what the same word asks beside it, OFF a sleep (R100). -/
def State.powerWrite (s : State) (w : Nat) : State :=
  let lane := fun (s : State) (l : Lane) (i : Nat) => if bit w i && s.resettable then s.laneReset l else s
  if bit w 2 then (if s.resettable then s.engineReset 1 0 else s)
  else
    let s := lane (lane s .a 3) .b 4
    if bit w 1 then (if s.power.phase = .run then s.beginOff 2 else s)
    else if bit w 0 then s.requestSleep
    else s

/-- SYS.MODE.SERVICE (R109); with a Tally run in progress SERVICE ends with the run. -/
def State.serviceWrite (s : State) (on : Bool) : State :=
  if on then s.modSys (fun y => { y with service := true, serviceEnd := false })
  else if s.mem.tstat = .none then s.modSys (fun y => { y with service := false, serviceEnd := false })
  else s.modSys (fun y => { y with serviceEnd := y.service })

/-- One lane at a halt request (Table 17.12): a capturing lane's seam is due; a lane in SMOULDER halts at once,
but for an approach, which runs on to B′, and a holdover. -/
def State.haltLane (s : State) (l : Lane) : State :=
  let s := s.seamDue l 16
  let x := s.lane l
  if x.mode.mode = .smoulder && !s.clk.hold && x.axis.phase != .approach then s.modMode l (fun y => { y with halted := true })
  else s

/-- Debug halt requested (R543). -/
def State.haltRequest (s : State) : State :=
  if s.sys.haltReq then s
  else
    let s := s.modSys (fun y => { y with haltReq := true, haltPend := true })
    (s.cfgLanes.foldl State.haltLane s).haltSettle

/-- A stop that only the halt called for is no longer due. -/
def dropHalt (m : Option Nat) : Option Nat :=
  match m with
  | some k => if k = 16 then none else some (if bit k 4 then k - 16 else k)
  | none => none

/-- The halt released (R546): halted lanes resume through a seam, the Tally goes on with its next row. -/
def State.haltRelease (s : State) : State :=
  if !s.sys.haltReq then s
  else
    let s := s.clearHalt.note 0x0041
    let s := [Lane.a, Lane.b].foldl (fun s l => s.modLane l (fun x => { x with stopMask := dropHalt x.stopMask })) s
    if s.mem.tstat = .preserving && !s.mem.ttest && !s.mem.tover then s.rowFrom s.mem.trow else s

/-- SYS.ATTN.EVENTS: bits written 1 clear (R542). -/
def State.attnWrite (s : State) (w : Nat) : State :=
  s.modSys (fun y => { y with events := y.events - (y.events &&& w) })

/-- A write to SYS. -/
def State.sysWrite (s : State) (r : Req) : State :=
  let s := match r.at? 0x038 with
    | some w => s.attnWrite (w % 65536)
    | none => s
  let s := s.modSys (fun y => { y with mask := r.put 0x039 65536 y.mask })
  let ack := s.ackValue r
  let sel := r.put2 0x108 s.log.sel 65536
  let s := s.modLog (fun g => { g with ack := ack, sel := sel })
  let s := match r.at? 0x021 with
    | some w => s.powerWrite w
    | none => s
  let s := match r.at? 0x026 with
    | some w => s.serviceWrite (bit w 3)
    | none => s
  match r.at? 0x027 with
  | some w => if bit w 0 then s.haltRequest else s.haltRelease
  | none => s

/-! ### CLK, MEM -/

def State.clkWrite (s : State) (r : Req) : State :=
  let s := s.modClk (fun c => { c with nextF := r.put 0x001 4 c.nextF })
  if r.sets 0x002 0 then s.beginClkCommit else s

/-- A Tally run started (R295, R297). -/
def State.tallyStart (s : State) (preserving : Bool) : State :=
  if preserving then s.tallyPreserve else s.tallyDestroy

/-- A write through the aperture (R290). -/
def State.apertureWrite (s : State) (ws : List Nat) : State := s.winWrite s.mem.hwin s.mem.hoff ws

/-- HOFF after a frame of n words (R290). -/
def State.apertureAdvance (s : State) (n : Nat) : State :=
  let len := (s.shadow.windows.getD s.mem.hwin {}).len
  s.modMem (fun m => { m with hoff := if len = 0 then m.hoff else (m.hoff + n) % len })

def State.memWrite (s : State) (r : Req) : State :=
  if r.aperture then (s.apertureWrite r.data).apertureAdvance r.n
  else
    let s := s.modMem (fun m => { m with
      hwin := r.put 0x004 16 m.hwin
      hoff := r.put2 0x005 m.hoff 128
      tfirst := r.put 0x009 512 m.tfirst, tlast := r.put 0x00A 512 m.tlast })
    match r.at? 0x008 with
    | none => s
    | some w =>
      let s := s.modMem (fun m => { m with kind := bit w 1, march := b2n (bit w 2) })
      if bit w 0 then s.tallyStart (bit w 1) else s

/-! ### TMR (R494, R497, R498, R502) -/

/-- CTRL.EN (R498): a stopped timer restarts with its prescale counter at 0; a running one runs on. The odd timer of a
pair holds the flag without effect (R500). -/
def State.timerEnable (s : State) (n : Nat) (on : Bool) : State :=
  let t := s.tmr.ts.getD n {}
  if t.en = on || s.unused (s.shadow.party.tmrOwner.getD n 0) then s
  else
    let put := fun t : Timer => { t with en := on, pre := if on then 0 else t.pre, born := s.tmr.tsc }
    (s.modTmr (fun m => { m with ts := m.ts.modify n put })).mark 4

/-- CTRL.LOAD from the buffer `v` (R498). -/
def State.timerLoad (s : State) (n v : Nat) : State :=
  if s.oddHalf n then s else s.updTimer n (fun t => { loadTimer t v with born := s.tmr.tsc })

/-- One timer's registers written. A LOAD takes the buffer as it stood before the frame (R493). -/
def State.timerWrite (s : State) (r : Req) (n : Nat) : State :=
  let old := (s.timer n).rld
  let put := fun t : Timer => { t with rld := r.put (8 * n + 1) 65536 t.rld, cmp := r.put (8 * n + 2) 65536 t.cmp }
  let s := s.modTmr (fun m => { m with ts := m.ts.modify n put })
  let s := match r.at? (8 * n + 6) with
    | some w => s.modTmr (fun m => { m with ts := m.ts.modify n (fun t => { t with
        zero := t.zero && !bit w 0, hit := t.hit && !bit w 1, ovr := t.ovr && !bit w 2 }) })
    | none => s
  match r.at? (8 * n + 5) with
  | some w =>
    let s := s.timerEnable n (bit w 0)
    if bit w 1 then s.timerLoad n old else s
  | none => s

/-- TMR.GSTART.GO: the management party's group start (R502, R503). -/
def State.mgtGroupStart (s : State) : State := (s.groupStart allUnits (fun o => o = 0)).mark 4

def State.tmrWrite (s : State) (r : Req) : State :=
  let ns := allUnits.filter (fun n => r.items.any (fun q => q.1 / 8 = n))
  let s := ns.foldl (State.timerWrite · r) s
  let s := match r.at? 0x0B8 with
    | some w => s.modTmr (fun m => { m with lfSpan := m.lfSpan && !bit w 0, gap := m.gap && !bit w 5 })
    | none => s
  if r.sets 0x080 0 then s.mgtGroupStart else s

/-! ### HK, LUX -/

/-- HK.RESx_TAG.OVERRUN cleared by a 1 (R477). -/
def State.overrunClear (s : State) (b : Bool) (w : Option Nat) : State :=
  if bit (w.getD 0) 6 then
    s.modConv b (fun c => { c with res := { c.res with overrun := false, recorded := false } })
  else s

def State.hkChanWrite (s : State) (r : Req) (n : Nat) : State :=
  let o := 0x040 + 8 * n
  s.modHkChan n (fun c => { c with
    wlo := ((r.at? (o + 3)).map (signed 16)).getD c.wlo, whi := ((r.at? (o + 4)).map (signed 16)).getD c.whi
    evt := c.evt && !r.sets (o + 5) 9 })

def State.hkWrite (s : State) (r : Req) : State :=
  let s := (s.overrunClear false (r.at? 0x008)).overrunClear true (r.at? 0x00A)
  ((List.range 24).filter (fun n => r.items.any (fun q => 0x040 ≤ q.1 && (q.1 - 0x040) / 8 = n))).foldl
    (State.hkChanWrite · r) s

/-- LUX.MCTRL.REARM: management latches may release (R456). -/
def State.rearmMgt (s : State) : State :=
  s.modLux (fun x => { x with
    ch := x.ch.mapIdx (fun n c => if c.latch && s.chOwner n = 0 then { c with rearm := true } else c)
    head := x.head.mapIdx (fun a h => if h.latch && s.headOwner a = 0 then { h with rearm := true } else h) })

def State.luxWrite (s : State) (r : Req) : State :=
  let s := s.modLux (fun x => { x with
    mstageCh := x.mstageCh.mapIdx (fun n v => r.put (0x0F0 + n) 4096 v)
    mstageHd := x.mstageHd.mapIdx (fun a v => if a = 0 then v else r.put (0x100 + a) 65536 v)
    mref := x.mref.mapIdx (fun k v => r.put (0x120 + k) 65536 v) })
  let s := if r.sets 0x128 0 then s.plan s.mgtCommit else s
  if r.sets 0x128 1 then s.rearmMgt else s

/-! ### Lane units -/

/-- HEAD.REQ (R124, R127): an abort first, then a request that the abort refuses with reason 15. -/
def State.reqWrite (s : State) (l : Lane) (w : Nat) : State :=
  let n := w % 16
  let s := if bit w 5 then s.abort l 2 else s
  if !bit w 4 then s
  else if bit w 5 then s.refuse l n 15 true
  else s.request l n true true

/-- Gains and offsets accepted for the next line boundary (R227). -/
def State.headTrim (s : State) (l : Lane) (r : Req) : State :=
  let h := (s.lane l).head
  let (g, o) := h.nextTrim.getD (h.gains, h.offsets)
  let ws := r.items.filter (fun q => 0x018 ≤ q.1 && q.1 ≤ 0x01F)
  if ws.isEmpty then s
  else
    let g := ws.foldl (fun g q => g.set (q.1 - 0x018) (q.2 % 64)) g
    let o := ws.foldl (fun o q => o.set (q.1 - 0x018) (q.2 / 64 % 1024)) o
    s.modHead l (fun h => { h with nextTrim := some (g, o) })

def State.headWrite (s : State) (l : Lane) (r : Req) : State :=
  let s := s.headTrim l r
  match r.at? 0x001 with
  | some w => s.reqWrite l w
  | none => s

/-- A coefficient commit accepted (R267). -/
def State.coefCommit (s : State) (l : Lane) : State :=
  (s.modCal l (fun c => { c with kind := 3, set := c.cmdSet })).beginCommit l

def State.pixWrite (s : State) (l : Lane) (r : Req) : State :=
  let s := s.modCal l (fun c => { c with
    stage := c.stage.mapIdx (fun i v => r.put (0x040 + i) 65536 v), cmdSet := r.put 0x026 4 c.cmdSet })
  if r.sets 0x026 2 then s.coefCommit l else s

/-- TILL.CTRL.FLUSH (R323): a run ends as an abort, its Till emptied. -/
def State.hostFlush (s : State) (l : Lane) : State :=
  if s.capturesRun l || ((s.lane l).mode.ending && (s.lane l).lrun.opened) then
    let s := s.flushEnd l { aborted := true, cause := 18 }
    (s.noteL l 0xA002 [1]).modTill l (fun t => { t with cause := 1 })
  else s.flushNoted l 1 18

def State.tillWrite (s : State) (l : Lane) (r : Req) : State :=
  let s := if r.sets 0x013 0 then s.hostFlush l else s
  if r.sets 0x053 0 then s.linkLost l 4 else s

/-- A carriage move of signed microsteps at a profile's last interval (R412). -/
def State.startMove (s : State) (l : Lane) : State :=
  let a := (s.lane l).axis
  let es := s.fetched l a.moveProf
  let d := signed 32 (a.moveLo + 65536 * a.moveHi)
  let m := moveOf es a.moveProf (es.getLastD 0) d.natAbs (if d < 0 then -1 else 1)
  match someMotion m with
  | some m =>
    let s := s.setMotion l (some m) .move
    ((s.profile l a.moveProf).map (fun q => s.fenceNote l 6 q.window)).getD s
  | none => s

/-- A carriage move stopped (R413): it decelerates at once. -/
def State.stopMove (s : State) (l : Lane) : State :=
  match (s.lane l).arun.motion with
  | some m => if (s.lane l).arun.why = .move then s.setMotion l (someMotion (m.brake 0)) .move else s
  | none => s

def State.axisWrite (s : State) (l : Lane) (r : Req) : State :=
  let s := s.modAxis l (fun a => { a with
    runMa := r.put 0x002 4096 a.runMa, holdMa := r.put 0x003 4096 a.holdMa
    moveLo := r.put 0x015 65536 a.moveLo, moveHi := r.put 0x016 65536 a.moveHi
    moveProf := r.put 0x017 8 a.moveProf })
  let s := if r.sets 0x017 3 then s.startMove l else s
  if r.sets 0x017 4 then s.stopMove l else s

/-! ### The frame -/

/-- A word whose write alone does not advance its unit's epoch (R531). -/
def quietWord (u o : Nat) : Bool :=
  match u with
  | 0 => o = 0x038
  | 3 => 0x100 ≤ o && o ≤ 0x13F
  | 4 => true
  | 5 => o = 0x008 || o = 0x00A || (0x040 ≤ o && (o - 0x040) % 8 = 5)
  | 8 | 12 => o = 0x001
  | _ => false

/-- Every word of a write answered OK, in one cycle (R528), with the epoch's advance (R531). -/
def State.applyWrite (s : State) (r : Req) : State :=
  let l := unitLane r.unit
  let t := match r.unit with
    | 0 => s.sysWrite r
    | 2 => s.clkWrite r
    | 3 => s.memWrite r
    | 4 => s.tmrWrite r
    | 5 => s.hkWrite r
    | 6 => s.luxWrite r
    | 8 | 12 => s.headWrite l r
    | 9 | 13 => s.pixWrite l r
    | 10 | 14 => s.tillWrite l r
    | 11 | 15 => s.axisWrite l r
    | _ => s
  if r.items.all (fun q => quietWord r.unit q.1) then t else t.mark r.unit

end Sys2Proof.Machine
end

