-- ==== Sys2Proof/Machine/CalTallyCmds.lean ====
section
/-!
DEFINITION. Ends of operations at U20 (02, 09, 18), the steps of a calibration commit, the ring and the log
store, and the Tally's progress (10).
-/

namespace Sys2Proof.Machine

/-! ### Operations at U20 (R275, R567) -/

/-- A retry may be issued: the ring is in use and its time has not passed (R183, R565, R566), or the commit goes on
(R273). The operation of a commit that a reset has abandoned is retried too: R275 governs every one issued (log 124). -/
def State.retryAllowed (s : State) (op : FlashOp) : Bool :=
  match op.use with
  | .calErase l | .calPage l | .calRecord l => (op.orphan || s.calTarget l = some op.addr) && !s.pwr.pfw
  | _ => s.log.ringOk && s.ringPhase

/-- Bytes an operation may have touched. -/
def FlashOp.span (op : FlashOp) : Nat := if op.program then op.data.length else 4096

/-- Record 0x7041 (Table 2.16): reason 1 for a reported failure, 2 for an overrun. -/
def State.noteWrite (s : State) (op : FlashOp) (reason : Nat) : State :=
  s.note 0x7041 [if op.program then 1 else 2, lo16 op.addr, hi16 op.addr, reason]

/-- An operation is over, its retry included. -/
def State.flashGiveUp (s : State) (op : FlashOp) : State :=
  let s := s.modFlash (fun f => { f with op := none })
  -- from PFW the guard ends the commit first, with its own detail (R273)
  (((s.ringFailed op.use).guardCal.calFailed op).flashNext).offDone

/-- An operation ended well. -/
def State.flashGood (s : State) (op : FlashOp) : State :=
  let s := s.modFlash (fun f => { f with cells := op.apply f.cells, op := none })
  (((s.ringDone op.use).calDone op).guardCal.flashNext).offDone

/-- An operation failed or overran its time: recorded and retried once, where the device is ready. -/
def State.flashBad (s : State) (op : FlashOp) (reason : Nat) (ready : Bool) : State :=
  let s := s.scramble op.addr op.span
  if op.retried then s.flashGiveUp op
  else
    let s := s.noteWrite op reason
    -- no command is issued in a reference interval: the retry waits for its end (R277)
    if ready && s.retryAllowed op then s.issue { op with retried := true, due := s.clk.interval } else s.flashGiveUp op

/-- A page program or an erase reports its end (R275). -/
def execFlashOpDone (ok : Bool) (s : State) : Host.Outcome State Fault Refusal :=
  perform s fun s =>
    match s.flash.op with
    | none => s
    | some op => if op.due then s else if ok then s.flashGood op else s.flashBad op 1 true

/-- An operation exceeds its maximum time; `ready` tells that the device reports ready before twice that
time (R275). -/
def execFlashOpTimeout (ready : Bool) (s : State) : Host.Outcome State Fault Refusal :=
  perform s fun s =>
    match s.flash.op with
    | none => s
    | some op => if op.due then s else s.flashBad op 2 ready

/-- Records pending and the flash bus free: the ring's next operation (R563). -/
def execRingProgramStart (s : State) : Host.Outcome State Fault Refusal := perform s fun s => s.ringStep

/-- One second after the last 0x0050: another where records have been dropped since (R562). -/
def execLogDropped (s : State) : Host.Outcome State Fault Refusal :=
  perform s fun s => if s.log.unreported != 0 && s.dropDue then s.reportDrops else s

/-! ### Commits (R271) -/

/-- K6 has put the new version of a set in force, and in SRAM as well (R274). -/
def State.swapped (s t : State) (l : Lane) : Bool :=
  (s.lane l).cal.state = 7 && (t.lane l).cal.state != 7 && !(t.lane l).cal.pending

/-- A step K1 to K7 ends; its flash commands and reads wait out a reference interval (R277). -/
def execCalCommitStepDone (k : CalStepEnd) (s : State) : Host.Outcome State Fault Refusal :=
  perform s fun s =>
    if s.clk.interval then s
    else
      let s := if committing (s.lane k.lane).cal then s.noteC2 k.c2 else s
      let t := s.calStep k.lane
      (if s.swapped t k.lane then t.noteC1 k.c1 else t).offDone

/-! ### The Tally (R292 to R301) -/

/-- A row under test has been restored or repaired (R300), or a destructive march is through with a row in one element
(R292). The Tally holds in a reference interval. -/
def execTallyRowDone (reads retests : List MarchRead) (decay : List (Nat × Nat)) (latency : Nat) (s : State) :
    Host.Outcome State Fault Refusal :=
  perform s fun s =>
    if s.clk.interval then s
    else if s.marching then (s.noteC2 latency).marchRow reads
    else if s.mem.tstat = .preserving && s.mem.ttest then ((s.noteC2 latency).tallyRow reads retests decay).haltSettle
    else s

/-- A retention pause ends and the march goes on. -/
def execTallyRetentionPauseEnd (s : State) : Host.Outcome State Fault Refusal :=
  perform s fun s => if s.clk.interval then s else s.pauseEnd

/-- The march of a destructive run ends and the reload of R296 begins. -/
def State.destroyEnd (s : State) (reads retests : List MarchRead) : State :=
  (s.marchEnd reads retests).modMem (fun m => { m with tstat := .reload })

/-- The reload ends: tables, calibration sets and unrepaired rows as in step 6 (R296, R301). -/
def State.reloadEnd (s : State) : State :=
  (s.loadMemory.modMem (fun m => { m with tstat := .none })).judgeRows.endService

/-- A run ends (R296, R298, R301); a destructive one ends twice, with its march, once both its pauses have been
(R293), and with its reload. -/
def execTallyRunEnd (m : MarchReport) (c2 : Nat) (s : State) : Host.Outcome State Fault Refusal :=
  perform s fun s =>
    if s.clk.interval || s.power.phase = .engineReset then s
    else
      match s.mem.tstat with
      | .none => s
      | .destructive => if s.nextPause.isSome then s else (s.noteC2 c2).destroyEnd m.reads m.retests
      | .reload => (s.noteC2 c2).reloadEnd
      | .preserving => if s.mem.tover then s.tallyPreserveEnd.haltSettle else s

end Sys2Proof.Machine
end

