-- ==== Sys2Proof/Machine/LineOps.lean ====
section
/-!
DEFINITION. The line cycle (07, 08, 11, 12, 13): what a line start closes, which line's readout begins, and
what the new line cycle is for; with the capture decision (R316 to R318, R374, R411).
-/

namespace Sys2Proof.Machine

/-! ### The line's figures -/

/-- The lane whose link and Till carry line `n` of a run on lane `l` (R251, R370). -/
def State.carrier (s : State) (l : Lane) (n : Nat) : Lane := if s.sys.gang then (if n % 2 = 0 then .a else .b) else l

/-- A lane master's fenced access in a run, reported once (R289, R554). -/
def State.fenceLine (s : State) (l : Lane) (master w : Nat) : State :=
  let held := (s.lane l).lrun.ending.isSome || (s.lane l).mode.ending
  if s.fenced l w then (if held then s.noteFence l master w else s.fenceHit l master w) else s

/-- The taps of a line after shading, replacement and linearisation (R231 to R240), with both clamp counts. -/
def State.lineTaps (s : State) (l : Lane) (p : Program) (temp : Int) (codes : List (List Nat)) :
    List (List Nat) × Nat × Nat :=
  let h := (s.img l).head
  let px := (s.lane l).pix
  let cfg := (s.img l).pix
  let tau := tauOf temp cfg.tCentre cfg.tSpan
  let one := fun (t : Nat) =>
    let dgs := (s.setShading l px.set t h.active).map (fun q =>
      (if px.hasDark then q.1 else 0, if px.hasGain then q.2 else 0x4000))
    let (ys, sc) := shadeTap (tapActive h codes t) dgs
    let a := linCoefs (slice px.coefs (12 * t) 12) tau
    let zs := (replaceTap ys).map (linearise a)
    (zs.map Prod.fst, sc, zs.countP Prod.snd)
  let r := (maskTaps p.taps).map one
  (r.map (fun q => q.1), min 65535 ((r.map (fun q => q.2.1)).sum), min 65535 ((r.map (fun q => q.2.2)).sum))

/-- PIX.FOCt after a line: the metrics of the taps in the mask, in ascending order (R247). -/
def focusRegs (mask : Nat) (old new : List Nat) : List Nat :=
  (List.range 4).map (fun t => if bit mask t then new.getD (maskTaps (mask % 2 ^ t)).length 0 else old.getD t 0)

/-- The focus block of a line (R247). -/
def focusBlock (fs : List Nat) : List Nat := fs.flatMap (fun f => leWords 3 f ++ [0])

/-- The header words of a line (Table 12.9). -/
def State.header (s : State) (l : Lane) (p : Program) (c : LineCtx) (seamAfter : Bool) : List Nat :=
  let k := s.carrier l c.num
  let gang := s.sys.gang
  let w := s.payloadW l p
  let idx := if gang then laneNo k else 0
  let flags := flag seamAfter 0 + flag c.suspect 1 + flag (p.mode = 1 || p.mode = 2) 2 + flag c.seam 3 + flag c.gap 4
    + flag (p.mode = 2) 5 + flag (0 < p.binning) 6 + flag gang 7 + flag c.resumed 8
  [1 + flag (k == .b) 4 + flag gang 5 + 64 * idx + 256 * (p.num % 16) + 4096 * (c.rung % 8), (s.lane k).link.scanId]
    ++ leWords 2 c.num ++ leWords 3 c.tsc ++ [flags, c.com] ++ leWords 2 w ++ [s.nOut l p]
    ++ leWords 2 (p.rungP c.rung % 2 ^ 24 + 2 ^ 24 * s.clk.fcode)
    ++ [p.taps % 16 + 16 * (p.binning % 4) + 64 * (maskTaps p.taps).length, 0]

/-- Line status bits (Table 12.10). Bit [0] is the clock-suspect bit, which the magazine must take as authoritative
(R157). -/
def lineStatus (c : LineCtx) : Nat :=
  flag c.suspect 0 + flag c.stale 1 + flag c.tclamp 2 + flag (c.clipB || decide (0 < c.sclip + c.lclip)) 3 + flag c.unverified 4

/-- A sensor line joined to the group or the partner line before it: flags accumulate (R246, R250). -/
def LineCtx.join (g c : LineCtx) : LineCtx :=
  { c with
    num := g.num, tsc := g.tsc, pos := g.pos, com := g.com, suspect := g.suspect || c.suspect, stale := g.stale || c.stale
    tclamp := g.tclamp || c.tclamp, sclip := min 65535 (g.sclip + c.sclip), lclip := min 65535 (g.lclip + c.lclip)
    clipB := g.clipB || c.clipB, unverified := g.unverified || c.unverified, seam := g.seam || c.seam, gap := g.gap || c.gap
    resumed := g.resumed || c.resumed }

/-! ### Closing (R221) -/

/-- The head status of the readout that closes: dark references, clip count and open pairs (R225, R189). -/
def State.closeHead (s : State) (l : Lane) : State :=
  match (s.lane l).head.readout with
  | none => s
  | some (darks, clip, rails) =>
    -- the open-pair test runs in capture: on lines that a capturing mode reads
    let on := capturing (s.lane l).mode.work && (s.lane l).reading.isSome
    let ns := (s.lane l).head.railed.mapIdx (fun i n => if on && rails.getD i false then n + 1 else 0)
    let s := s.modHead l (fun h => { h with readout := none, darks := darks, clip := clip, railed := ns })
    match ns.findIdx? (· == 64) with
    | some c => s.portFault (.lanePort l (.videoOpen c))
    | none => s

/-- The trailer of a line's slot written, the slot closed (R308, R348, R349). -/
def State.closeSlot (s : State) (l : Lane) (c : LineCtx) : State :=
  let k := s.carrier l c.num
  let t := (s.lane k).till
  match t.slots.find? (fun q => q.num == c.num && !q.closed) with
  | none => s
  | some q =>
    let win := (s.tillSec k).window
    let at_ := fun o => (q.start + o) % s.tillSize k
    let ws := s.masterRead l win (at_ 0) (16 + q.w)
    let tr := leWords 2 (crc32 (wordsToBytes ws)) ++ [lineStatus c, c.num % 65536]
    let s := s.masterWrite l win (at_ (16 + q.w)) tr
    let s := s.modTill k (fun t => { t with slots := t.slots.map (fun r =>
      if r.num = c.num then { r with closed := true, written := r.w } else r) })
    s.modPix l (fun p => { p with lines := (p.lines + 1) % 2 ^ 32 })

/-- The line in readout closes. -/
def State.closeLine (s : State) (l : Lane) : State :=
  match (s.lane l).reading, (s.lane l).mode.prog with
  | some c, some p =>
    let s := s.modPix l (fun x => { x with
      sclip := c.sclip, lclip := c.lclip, foc := if p.mode = 2 then focusRegs p.taps x.foc c.foc else x.foc })
    let s := s.modLane l (fun x => { x with reading := none })
    if calibrating (progMode p) then
      let n := (s.lane l).cal.lines + 1
      let s := s.modCal l (fun y => { y with lines := n })
      if n = p.lines then s.closeAcq l else s
    else if c.sub + 1 < binFactor p.binning then s.modLane l (fun x => { x with group := some c })
    else
      let s := s.modLane l (fun x => { x with group := none })
      if s.sys.gang && l = .b then s else s.closeSlot l c
  | _, _ => s

/-! ### Readout (R221, R222, R308) -/

/-- What the readout that begins will show at its close (R225, Table 7.9). -/
def State.beginHead (s : State) (l : Lane) (codes : List (List Nat)) : State :=
  let h := (s.img l).head
  let ds := (List.range 8).map (darkRef h codes)
  let rs := (List.range 8).map (darkRailed h codes)
  s.modHead l (fun x => { x with readout := some (ds, clipCount h codes, rs) })

/-- A slot reserved with its header, the payload following (R307, R308, R242). -/
def State.fillSlot (s : State) (l : Lane) (p : Program) (c : LineCtx) (payload : List Nat) : State :=
  let k := s.carrier l c.num
  let win := (s.tillSec k).window
  let start := (s.lane k).till.wptr
  let w := s.payloadW l p
  let hdr := s.header l p c (s.lane l).stopMask.isSome
  let slot : Slot := { start := start, num := c.num, w := w, seams := (s.lane k).owedSeams }
  let s := s.modTill k (fun t => { t with slots := t.slots ++ [slot] })
  let s := (s.setWptr k (start + w + 20)).tillPeak k
  let s := s.modLane k (fun x => { x with owedSeams := [] })
  let s := (s.partners l).foldl (fun s j => s.modLane j (fun x => x.took c.num)) s
  let s := s.fenceLine l 1 win
  (s.masterWrite l win (start % s.tillSize k) hdr).masterWrite l win ((start + 16) % s.tillSize k) payload

/-- Raw codes added to the accumulators (R258, R259). -/
def State.accumulate (s : State) (l : Lane) (p : Program) (codes : List (List Nat)) : State :=
  let h := (s.img l).head
  let win := (s.tillSec l).window
  let s := (s.fenceLine l 3 win).fenceLine l 1 win
  (maskTaps p.taps).foldl (fun s t =>
    let xs := tapActive h codes t
    let old := s.calSums l t xs.length
    s.masterWrite l win (32768 * t) ((List.zipWith (· + ·) old xs).flatMap (leWords 2))) s

/-- Lane B's line written into the stitch window, tap after tap (R250). -/
def State.stitchOut (s : State) (taps : List (List Nat)) : State :=
  let s := s.fenceLine .b 1 s.stitchWin
  s.masterWrite .b s.stitchWin 0 taps.flatten

/-- Lane A's taps joined with lane B's (R250). -/
def State.stitchIn (s : State) (p : Program) (taps : List (List Nat)) : List (List Nat) :=
  let n := (s.img .b).head.active
  taps.mapIdx (fun i va => stitchTap va (s.masterRead .a s.stitchWin (i * n) n) p.overlap)

/-- The line whose exposure has ended is read (R221): its payload goes where the mode sends it. -/
def State.readLine (s : State) (l : Lane) (p : Program) (c : LineCtx) (codes : List (List Nat)) : State :=
  if calibrating (progMode p) then
    (s.accumulate l p codes).modLane l (fun x => { x with exposing := none, reading := some c })
  else
    let s := s.fenceLine l 2 (s.img l).pix.window
    let (taps, sc, lc) := s.lineTaps l p c.temp codes
    let c := { c with sclip := sc, lclip := lc, foc := if p.mode = 2 then taps.map (focusMetric · p.focStart p.focLen) else [] }
    let c := match (s.lane l).group with
      | some g => g.join c
      | none => c
    let c := match s.sys.gang, l, s.laneB.reading with
      | true, .a, some q =>
        -- each path counts its own clamps (R232, R240)
        { q.join c with
          num := c.num, tsc := c.tsc, pos := c.pos, com := c.com, sclip := c.sclip, lclip := c.lclip
          clipB := decide (0 < q.sclip + q.lclip) }
      | _, _, _ => c
    let s := s.modLane l (fun x => { x with exposing := none, reading := some c })
    if s.sys.gang && l = .b then s.stitchOut taps
    else if s.sys.gang then
      let s := s.fenceLine .a 4 s.stitchWin
      s.fillSlot l p c (s.stitchIn p taps).flatten
    else
      let b := binFactor p.binning
      if b = 1 then s.fillSlot l p c (taps.flatten ++ focusBlock c.foc)
      else
        let n := s.nOut l p
        let sums := taps.map (fun v => fit 0 n (binSums b n v))
        let old := if c.sub = 0 then sums.map (fun v => v.map (fun _ => 0)) else (s.lane l).pix.accum
        let acc := List.zipWith (List.zipWith (· + ·)) old sums
        let s := s.modPix l (fun x => { x with accum := acc })
        if c.sub + 1 < b then s else s.fillSlot l p c (acc.flatten.map (binOut b))

/-- The codes of a readout: each channel's samples through its input stage, offset and gain in force (R223). -/
def State.codes (s : State) (l : Lane) (x : LineInput) : List (List Nat) :=
  let h := (s.lane l).head
  x.volts.mapIdx (fun c vs =>
    vs.map (adcCode ((s.img l).head.chans.getD c {}).sh (h.gains.getD c 0) (h.offsets.getD c 0)))

/-- What a line start closes and which readout begins. -/
def State.lineRead (s : State) (l : Lane) (x : LineInput) : State :=
  let s := (s.closeHead l).closeLine l
  if !s.driving l then s.modLane l (fun y => { y with exposing := none })
  else
    let codes := s.codes l x
    let s := s.beginHead l codes
    match (s.lane l).exposing, (s.lane l).mode.prog with
    | some c, some p => s.readLine l p c codes
    | _, _ => s

/-! ### The encoder at a line start (R391 to R395) -/

/-- Deviation at line start n of a run in steady motion (R393); the Bool tells that it exceeds half a pitch. -/
def State.deviate (s : State) (l : Lane) (p : Program) (n : Nat) : State × Bool :=
  let s := s.modArun l (fun a => { a with cycle := n })
  let x := s.lane l
  if !s.moves l p || x.arun.why != .run then (s, false)
  else if !x.axis.encOk then
    (s.modLane l (fun x => { x with reading := x.reading.map (fun c => { c with unverified := true }), arun := { x.arun with devBad := true } }), false)
  else
    let d := s.deviation l p n x.axis.enc
    let cq := (s.img l).axis.cpp
    let off := beyond cq d 16
    let s := s.modAxis l (fun a => { a with dev := clampI (-32768) 32767 d })
    let mark := fun c : LineCtx => { c with unverified := c.unverified || off }
    let s := s.modLane l (fun x => { x with reading := x.reading.map mark, arun := { x.arun with devBad := off } })
    let s := if off && !x.arun.warnRec then
        (s.noteL l 0xB013).modArun l (fun a => { a with warnRec := true })
      else s
    (s, beyond cq d 2)

/-! ### A new line cycle -/

/-- The head temperature latched for a line, with its records (R236, R238, R239), in DARK-CAL and FLAT-CAL too (DEDUCED,
log 122). -/
def State.latchTemp (s : State) (l : Lane) : State :=
  let n := s.thermChan l
  let t := (s.hkChan n).last
  let stale := s.hkStale n
  let cfg := (s.img l).pix
  let cl := tauClamped t cfg.tCentre cfg.tSpan
  let px := (s.lane l).pix
  let s := s.modPix l (fun x => { x with
    temp := t, tau := tauOf t cfg.tCentre cfg.tSpan, stale := stale, tclamp := cl
    staleRec := x.staleRec || stale, clampRec := x.clampRec || cl })
  let s := if stale && !px.staleRec then s.noteL l 0x9010 else s
  if cl && !px.clampRec then s.noteL l 0x9011 else s

/-- The next line's exposure cycle begins on a lane; numbers and groups advance (R219, R246). At a line start that
exposes no line, no temperature is latched (DEDUCED, log 122). -/
def State.exposeLane (s : State) (l : Lane) (p : Program) : State :=
  let s := s.latchTemp l
  let x := s.lane l
  let b := binFactor p.binning
  let fresh := x.sub = 0
  let c : LineCtx :=
    { num := x.nextLine, tsc := s.tmr.tsc, pos := x.axis.pos, temp := x.pix.temp, stale := x.pix.stale
      com := s.comOf (s.partyOf l)
      tclamp := x.pix.tclamp, rung := x.axis.rung, seam := x.afterSeam, gap := x.afterGap, resumed := x.resumed
      sub := x.sub, unverified := x.arun.encLost || (x.arun.devBad && s.moves l p) }
  let last := b ≤ x.sub + 1
  let s := s.modLane l (fun x => { x with
    exposing := some c, capture := false, afterSeam := false, afterGap := false, resumed := false
    group := if fresh then none else x.group
    nextLine := if last then x.nextLine + 1 else x.nextLine, sub := if last then 0 else x.sub + 1 })
  -- the ladder's lane alone counts quiet lines (R408, R415)
  let s := if last && s.moves l p && s.carriage l == l then s.modAxis l (fun a => { a with quiet := a.quiet + 1 }) else s
  if calibrating (progMode p) then s.modCal l (fun y => { y with tempSum := y.tempSum + x.pix.temp }) else s

/-- The exposure cycle on each lane of the run. -/
def State.expose (s : State) (l : Lane) (p : Program) : State := (s.partners l).foldl (State.exposeLane · · p) s

/-- Capture ends at this boundary: ENDING, and the carriage of steady motion decelerates (R129). -/
def State.endAtBoundary (s : State) (l : Lane) : State :=
  let s := (s.partners l).foldl State.beginEnding s
  if (s.lane l).arun.why = .run then s.stopAtBoundary l else s.endCarriage l

/-- The run ends as an abort at this boundary by a fault at LANE-ABORT: no further exposure (R394). -/
def State.faultAtBoundary (s : State) (l : Lane) (code : Nat) (detail : List Nat) : State :=
  let s := s.recordL l code 2 detail
  if s.sys.gang then s.gangAbort l (code + laneOff l)
  else if s.acquiring l then s.voidCal l 1
  else
    let e : RunEnd := { aborted := true, cause := (Config.endCause code).toNat, code := code + laneOff l }
    let s := (s.partners l).foldl (fun s k =>
      s.modLrun k (fun r => { r with ending := some (r.ending.getD e) })) s
    s.endAtBoundary l

/-! ### Entry (Table 4.4a) -/

/-- Pixels marked in the latched set, over the taps in the mask (PIX.DEFECTS). -/
def State.countDefects (s : State) (l : Lane) (p : Program) : Nat :=
  let n := (s.img l).head.active
  min 65535 (((maskTaps p.taps).map (fun t =>
    (s.setShading l p.calSet t n).countP (fun q => q.2 == 0xFFFF))).sum)

/-- Phase B on a lane: period, waveforms and the set latched (R218, R233, R241, R447). -/
def State.phaseB (s : State) (p : Program) (l : Lane) : State :=
  let c := (s.lane l).sets.getD p.calSet {}
  let gain := c.present && c.gain
  let coef := c.present && c.coef
  let n := if gain then s.countDefects l p else 0
  let out := s.payloadW l p
  -- the coefficient load of a fenced window reads zeros (R17, R289)
  let dead := s.fenced l (s.img l).pix.window
  let s := s.modHead l (fun h => { h with period := p.period, tInt := p.integ, waves := p.waves })
  let s := s.modPix l (fun x => { x with
    set := p.calSet, bin := p.binning, gang := p.mode = 6, hasDark := c.present && c.dark, hasGain := gain
    hasCoef := coef, coefs := if dead then List.replicate 48 0 else coefFill coef (s.img l).head.taps c.coefs, defects := n, outLen := out
    overlap := if p.mode = 6 then p.overlap else 0, lines := 0
    staleRec := false, clampRec := false, accum := [] })
  let s := s.fenceLine l 5 (s.img l).pix.window
  (s.laneGroups l).foldl (fun s k => s.modGrp k (fun g => { g with
    ref := if c.present && c.photo then c.refs.getD k 0 else 0, pinned := false, pinRec := false, refRec := false })) s

/-- The commit of entry phase C: the program's scene, or zero for DARK-CAL. -/
def State.phaseC (s : State) (l : Lane) (p : Program) : Commit :=
  let q := s.partyOf l
  { (if p.mode = 3 then s.zeroCommit q else s.sceneCommit q p.scene) with phaseC := true }

/-- The accumulators cleared (R259). -/
def State.clearAcc (s : State) (l : Lane) : State :=
  (s.fenceLine l 1 (s.tillSec l).window).masterWrite l (s.tillSec l).window 0 (List.replicate 131072 0)

/-- Line 0 starts, or the lane enters SMOULDER before it where a stop is due (04, coincidences). -/
def State.lineZero (s : State) (l : Lane) (p : Program) : State :=
  let ls := s.partners l
  let mv := s.moves l p
  -- phase D is longer than a free period and T_mod: the pattern that R149 selects has come (R151)
  let s := s.modClk (fun c => { c with pattern := s.patternDue })
  let s := if mv then s.modArun l (fun a => { a with e0 := (s.lane l).axis.enc, why := .run }) else s
  let s := ls.foldl (fun s k => s.modPix k (fun x => { x with active := true })) s
  match (s.lane l).stopMask with
  | some m => ls.foldl (fun s k => s.smoulder k m false) s
  | none =>
    let s := if mv then s.modAxis l (fun a => { a with refLost := false }) else s
    let s := ls.foldl (fun s k => s.modMode k (fun y => { y with entering := false, entry := none })) s
    let s := if calibrating (progMode p) then
        (s.clearAcc l).modCal l (fun c => { c with t0 := s.tmr.tsc, lines := 0, tempSum := 0 })
      else s
    let (s, far) := s.deviate l p 0
    if far then s.faultAtBoundary l 0xB012 []
    else if (s.lane l).till.dropping then s
    else s.expose l p

/-- The approach reaches its target at this boundary: what is left of its steps is due from here on (R403, R404). -/
def State.arriving (s : State) (l : Lane) (p : Program) : Bool :=
  let a := (s.lane l).arun
  match a.motion with
  | some m => a.why = .approach && m.steady && decide ((s.img l).axis.runUp ≤ m.done + max 1 (s.dueSteps l p))
  | none => false

/-- The settle of phase D is over, no head of the party being in mismatch (R442). -/
def State.settled (s : State) (l : Lane) : Bool := (s.lux.reb.getD (s.partyOf l) {}).heads.isEmpty

/-- Line 0 is due at the coming boundary. -/
def State.zeroDue (s : State) (l : Lane) (p : Program) : Bool :=
  match (s.lane l).mode.entry with
  | some (.d n) => decide (n ≤ 1) && !s.moves l p && s.settled l
  | some .e => s.arriving l p
  | _ => false

/-- A line boundary within the entry, which pauses in a holdover (04, coincidences). -/
def State.entryLine (s : State) (l : Lane) (p : Program) : State :=
  if s.clk.hold then s else
  let ls := s.partners l
  let go := fun (s : State) (nxt : Entry) => ls.foldl (fun s k => s.modMode k (fun y => { y with entry := some nxt })) s
  match (s.lane l).mode.entry with
  | some .a | some .b => (go (ls.foldl (State.phaseB · p) s) .c).plan (s.phaseC l p)
  | some (.d n) =>
    if 1 < n then go s (.d (n - 1))
    else if s.zeroDue l p then s.lineZero l p
    else if s.settled l then go s .e
    else s
  | some .e => if s.zeroDue l p then s.lineZero l p else s
  | _ => s

/-! ### SMOULDER at a boundary (R398 to R411) -/

/-- The conditions of R398 other than the first. -/
def State.seamReady (s : State) (l : Lane) : Bool :=
  let ls := s.partners l
  let heads := (s.headsOf (s.partyOf l)).all (fun a => (s.lux.head.getD a {}).acking.isNone)
  !s.clk.hold && !s.clk.onRef && s.settled l && heads
    && ls.all (fun k => s.tillResume k && (s.lane k).link.st = .up && !(s.lane k).link.resync && !(s.lane k).mode.halted)

/-- SEAM fields (Table 12.11). -/
def State.seamFields (s : State) (l k : Lane) : List Nat :=
  let x := s.lane l
  [(s.lane k).link.scanId, x.arun.seamNo % 65536, x.arun.mask] ++ leWords 2 (lineOr x.lastNum)
    ++ leWords 2 x.nextLine ++ [x.arun.rung0 + 8 * x.axis.rung] ++ leWords 3 x.arun.mTsc ++ [0]

/-- The rung and its counts at B′ (R408 to R411). -/
def AxisSt.ladderStep (a : AxisSt) (counted ladder : Bool) (r : Nat) : AxisSt :=
  let a := if counted then { a with seams := satInc 255 a.seams, quiet := 0 } else a
  let a := if ladder then { a with ladder := satInc 255 a.ladder } else a
  if a.rung = r then a else { a with rung := r, seams := 0, quiet := 0 }

/-- A seam is counted (R409). -/
def seamCounted (mask : Nat) : Bool := bit mask 0 && !bit mask 1 && !bit mask 4 && !bit mask 5

/-- The run resumes: line cycle m begins (R119, R400, R403), and ORIGIN is 0 again (log 114). -/
def State.resume (s : State) (l : Lane) (p : Program) : State :=
  let ls := s.partners l
  let mv := s.moves l p
  let a := (s.lane l).arun
  let step := fun (y : AxisSt) =>
    if a.stepped then y else y.ladderStep (seamCounted a.mask && !a.ladderSeam) a.ladderSeam a.newRung
  let s := if mv then (s.modAxis l step).modArun l (fun y => { y with why := .run }) else s
  let r := (s.lane l).axis.rung
  let s := s.modArun l (fun y => { y with seamNo := y.seamNo + 1 })
  let s := ls.foldl (fun s k =>
    let f := s.seamFields l k
    let s := s.modAxis k (fun y => { y with phase := .none, retry := false, rung := r })
    let s := s.modHead k (fun h => { h with period := p.rungP r })
    let s := s.modTill k (fun t => { t with stopped := false, dropping := false })
    let s := s.modLane k (fun x => { x with owedSeams := x.owedSeams ++ [f], afterSeam := true })
    let s := (s.toMode k (s.lane k).mode.origin)
    s.modMode k (fun y => { y with origin := .none })) s
  let s := if mv && (s.lane l).lineIndex p = 0 then
      (s.modArun l (fun y => { y with e0 := (s.lane l).axis.enc })).modAxis l (fun y => { y with refLost := false })
    else s
  -- the pattern that R149 selects has come since the anchor edge (R151)
  let s := s.modClk (fun c => { c with pattern := s.patternDue })
  let (s, far) := s.deviate l p ((s.lane l).lineIndex p)
  if far then s.faultAtBoundary l 0xB012 [] else s.expose l p

/-- The check of R404 calls for a retry (R405): recorded at the checkpoint with its error, and
at the second one the run ends. -/
def State.callRetry (s : State) (l : Lane) : State :=
  if (s.lane l).arun.tries = 0 then
    let s := (s.noteL l 0xB010 [unsigned 16 (s.lane l).axis.seamErr]).modAxis l (fun y => { y with retries := satInc 255 y.retries })
    s.modArun l (fun y => { y with tries := 1 })
  else (s.recordL l 0xB011 2 []).abortFault l (Config.endCause 0xB011).toNat (0xB011 + laneOff l)

/-- B′ of an approach that called for a retry: line m stays unexposed, and the axis stops (R405). -/
def State.seamRetry (s : State) (l : Lane) : State :=
  (s.modArun l (fun y => { y with retryDue := false })).stopSeam l

/-- The line count was complete as the lane entered SMOULDER, and no line is left to close (Table 4.4). -/
def State.countDone (s : State) (l : Lane) (p : Program) : Bool :=
  let x := s.lane l
  p.lines != 0 && decide (p.lines ≤ x.nextLine) && x.exposing.isNone && x.reading.isNone && !x.mode.halted

/-- A line boundary in SMOULDER. -/
def State.smoulderLine (s : State) (l : Lane) (p : Program) : State :=
  if s.countDone l p then s.endRun l { aborted := false, cause := 0 }
  else if !s.moves l p then (if s.seamReady l && !s.sys.haltReq then s.resume l p else s)
  else if (s.lane l).axis.phase != .approach || !s.arriving l p then s
  else if (s.lane l).arun.retryDue then s.seamRetry l
  else if s.seamReady l && !s.sys.haltReq then s.resume l p
  else s.stopSeam l

/-! ### A boundary of the run -/

/-- A boundary of a run that captures or accumulates lines. -/
def State.runLine (s : State) (l : Lane) (p : Program) : State :=
  let x := s.lane l
  let (s, far) := s.deviate l p (x.arun.cycle + 1)
  if far && x.lrun.ending.isNone then s.faultAtBoundary l 0xB012 []
  else if calibrating (progMode p) then
    if x.nextLine < p.lines then s.expose l p
    else if x.arun.why = .run then s.stopAtBoundary l else s
  else if x.lrun.ending.isSome then s.endAtBoundary l
  else
    match x.stopMask with
    | some m => (s.partners l).foldl (fun s k => s.smoulder k m (m = 0)) s
    | none => if x.capture then s.expose l p else s

/-- What the new line cycle is for. Lane A leads both lanes of a gang run. -/
def State.lineCycle (s : State) (l : Lane) : State :=
  let y := (s.lane l).mode
  match y.prog with
  | none => s
  | some p =>
    if y.mode = .none || y.mode = .idle || y.ending || (s.sys.gang && l = .b) then s
    else if y.mode = .smoulder then s.smoulderLine l p
    else if y.entering then s.entryLine l p
    else s.runLine l p

/-- Line cycles counted for the photometric groups of a lane, and its stale references (R448, R449). -/
def State.lineGroups (s : State) (l : Lane) : State :=
  (s.laneGroups l).foldl (fun s k =>
    let s := s.modGrp k (fun g => { g with since := g.since + 1 })
    if s.hkStale (s.shadow.photo.getD k {}).refChan then s.photoNoref k else s) s

/-- Trims that wait for the boundary (R227). -/
def State.applyTrim (s : State) (l : Lane) : State :=
  match (s.lane l).head.nextTrim with
  | some (g, o) => s.modHead l (fun h => { h with gains := g, offsets := o, nextTrim := none })
  | none => s

/-- The period and waveform set that an entry to IDLE left for this boundary (R218). -/
def State.applyClock (s : State) (l : Lane) : State :=
  if (s.lane l).head.reclock then (s.clockHead l).modHead l (fun h => { h with reclock := false }) else s

/-- A line start of a lane whose head has a program (R115), outside reference intervals (R141). -/
def State.lineStart (s : State) (l : Lane) (x : LineInput) : State :=
  let y := (s.lane l).mode
  if y.mode = .none || y.prog.isNone || s.clk.interval then s
  else
    let s := s.modLane l (fun x => { x with shut := false, head := { x.head with running := x.head.drivers } })
    let s := ((s.applyTrim l).applyClock l).noteGrants l x.grants
    let s := s.countEdges l x.edges
    let s := (((s.lineRead l x).lineGroups l).lineCycle l).noteC1 x.c1
    let s := s.modLane l (fun x => { x with unexposed := none })
    let done : Bool := (s.lane l).mode.ending && (s.lane l).exposing.isNone && (s.lane l).reading.isNone
    let s := if done then s.modPix l (fun p => { p with active := false }) else s
    (s.stageFirst (s.partyOf l)).haltSettle

/-! ### The capture decision -/

/-- SEAM cause bits of a Till stop: the fill itself, and a link that is not UP (R316, R374, R409). -/
def State.stopBits (s : State) (l : Lane) : Nat :=
  let f := decide (s.tillSize l - s.tillFill l < (s.tillSec l).stop)
  flag f 0 + flag ((s.lane l).link.st != .up) 5

/-- The stop counted on a Till that reached its margin. -/
def State.countStop (s : State) (l : Lane) : State :=
  if s.stopBits l = 0 || (s.lane l).till.stopped then s
  else s.modTill l (fun t => { t with stopped := true, stops := satInc 255 t.stops })

/-- A line cycle of a lane at rest in which nothing is captured: a line dropped and its number passed over
(R116, R318), under binning a whole group of `b` sensor lines, counted once (R246). -/
def State.dropNext (s : State) (l : Lane) (b : Nat) : State :=
  let fresh := (s.lane l).sub = 0
  let last := b ≤ (s.lane l).sub + 1
  let s := s.modTill l (fun t => { t with
    dropping := true, drops := if fresh then (t.drops + 1) % 2 ^ 32 else t.drops })
  s.modLane l (fun x => { x with
    nextLine := if last then x.nextLine + 1 else x.nextLine, sub := if last then 0 else x.sub + 1
    group := none, afterGap := true, capture := false })

/-- The decision for the line that would start at the coming boundary. -/
def State.captureDecision (s : State) (l : Lane) : State :=
  let x := s.lane l
  match x.mode.prog with
  | none => s
  | some p =>
    let mv := s.moves l p
    let ls := s.partners l
    if !s.capturesRun l || x.mode.mode = .smoulder || x.lrun.ending.isSome || s.clk.hold then s
    else if x.mode.entering && !s.zeroDue l p then s
    else if p.lines != 0 && p.lines ≤ x.nextLine then
      ls.foldl (fun s k => s.modLrun k (fun r => { r with ending := some { aborted := false, cause := 0 } })) s
    else
      let take := fun (s : State) => ls.foldl (fun s k => s.modLane k (fun y => { y with capture := true })) s
      let stops := ls.filter (fun k => s.stopBits k != 0)
      let m := (stops.map s.stopBits).foldl (· ||| ·) 0
      if mv then
        let s := stops.foldl State.countStop s
        if m != 0 then s.seamDue l m
        else if x.stopMask.isSome then s
        else if 0 < x.axis.rung && p.quietUp ≤ x.axis.quiet then
          ls.foldl (fun s k => s.modLane k (fun y => { y with stopMask := some 0 })) s
        else take s
      else if x.stopMask.isSome then s
      else if x.till.dropping then
        if x.sub = 0 && s.tillResume l && x.link.st = .up then
          take (s.modTill l (fun t => { t with dropping := false, stopped := false }))
        else s.dropNext l (binFactor p.binning)
      else if 0 < x.sub then take s
      else if m != 0 then (s.countStop l).dropNext l (binFactor p.binning)
      else take s

end Sys2Proof.Machine
end

