-- ==== Sys2Proof/Machine/CarriageCmds.lean ====
section
/-!
DEFINITION. Events of the carriage (13): steps, the seam's back-off, dwell and approach, holding current and
the encoder's index. Profile stepping and sequencing hold in a reference interval (R141).
-/

namespace Sys2Proof.Machine

/-! ### Steps -/

/-- A step is due: the axis is energised and its motion has steps left (R385). -/
def State.stepDue (s : State) (l : Lane) : Bool :=
  let a := (s.lane l).arun
  match a.motion with
  | some m => a.energised && (m.steady || decide (m.done < m.total)) && !s.clk.interval
  | none => false

/-- The checkpoint step of a seam's approach (R404, R405). -/
def State.stepCheck (s : State) (l : Lane) (m : Motion) (enc : Int) : State :=
  let x := s.lane l
  match x.mode.prog with
  | some p =>
    if x.axis.phase = .approach && x.arun.why = .approach && s.encOn l
        && m.done + p.micro = (s.img l).axis.runUp then
      let s := s.checkpoint l p enc
      if (s.lane l).arun.retryDue then s.callRetry l else s
    else s
  | none => s

/-- The axis is at rest: the back-off is followed by the dwell (R401), a stop in SMOULDER by rest. -/
def State.atRest (s : State) (l : Lane) : State :=
  let x := s.lane l
  let next : SeamPhase :=
    if x.arun.why = .backoff then .dwell
    else if x.arun.why = .stop && x.mode.mode = .smoulder && x.axis.phase = .stopping then .rest
    else x.axis.phase
  (s.setMotion l none .none).modAxis l (fun a => { a with phase := next })

/-- One microstep issued (R385, R387); `edges` are the encoder's up to it (R391). -/
def State.stepIssue (s : State) (l : Lane) (edges : List EncEdge) (latency : Nat) : State :=
  match (s.lane l).arun.motion with
  | none => s
  | some m =>
    if !s.stepDue l then s
    else
      let m := { m with done := m.done + 1 }
      let s := s.noteC1 latency
      let s := (s.setMotion l (some m) (s.lane l).arun.why).countEdges l edges
      let s := s.modAxis l (fun a => { a with pos := a.pos + m.dir, atHold := false })
      let s := match (s.lane l).mode.prog with
        | some p => s.modArun l (fun a => { a with offset := s.stepOffset l p m.done })
        | none => s
      let s := s.stepCheck l m (s.lane l).axis.enc
      if m.steady || m.done < m.total then s else (s.atRest l).haltSettle

/-- The next microstep's interval expires. -/
def execStepIssue (l : Lane) (edges : List EncEdge) (latency : Nat) (s : State) : Host.Outcome State Fault Refusal :=
  perform s fun s => s.stepIssue l edges latency

/-- 20 ms after the last step of a motion: holding current (R383). -/
def execRunCurrentTimeout (l : Lane) (s : State) : Host.Outcome State Fault Refusal :=
  perform s fun s =>
    if (s.lane l).arun.energised && (s.lane l).arun.motion.isNone then s.modAxis l (fun a => { a with atHold := true }) else s

/-- An index pulse latches the count (R391). -/
def execEncoderIndex (l : Lane) (edges : List EncEdge) (s : State) : Host.Outcome State Fault Refusal :=
  perform s fun s =>
    if (s.img l).axis.encoder && (s.lane l).arun.energised then (s.countEdges l edges).modAxis l (fun a => { a with index := a.enc }) else s

/-! ### Seams -/

/-- The profile fetch of a motion that begins, reported where its window is fenced (R289). -/
def State.profileFence (s : State) (l : Lane) (prof : Nat) : State :=
  match s.profile l prof, (s.lane l).arun.motion with
  | some q, some _ => s.fenceLine l 6 q.window
  | _, _ => s

/-- Every condition of R398 holds for a lane at rest in SMOULDER whose origin moves its carriage. -/
def State.backoffDue (s : State) (l : Lane) (p : Program) : Bool :=
  let x := s.lane l
  x.mode.mode = .smoulder && s.moves l p && s.carriage l == l && x.axis.phase = .rest && x.arun.motion.isNone
    && s.seamReady l && !s.clk.interval

/-- The back-off to S_m begins (R398, R401). -/
def execSeamBackoffStart (l : Lane) (s : State) : Host.Outcome State Fault Refusal :=
  perform s fun s =>
    match (s.lane l).mode.prog with
    | some p => if s.backoffDue l p then (s.backoff l p).profileFence l p.profile else s
    | none => s

/-- r′ (R410, R411): one rung down at the program's count of counted seams, one up at a ladder seam. -/
def State.seamRung (s : State) (l : Lane) (p : Program) : Nat :=
  let x := s.lane l
  if x.arun.stepped then x.axis.rung
  else if x.arun.ladderSeam then x.axis.rung - 1
  else if seamCounted x.arun.mask && decide (p.seamsDn ≤ x.axis.seams + 1) && decide (x.axis.rung + 1 < p.rungs) then
    x.axis.rung + 1
  else x.axis.rung

/-- The dwell ends (R402, R407): rung fixed, the lane's pending commits discarded (R443). -/
def execSeamDwellEnd (l : Lane) (s : State) : Host.Outcome State Fault Refusal :=
  perform s fun s =>
    match (s.lane l).mode.prog with
    | some p =>
      if (s.lane l).axis.phase = .dwell && !s.clk.interval then
        let r := s.seamRung l p
        let s := s.modArun l (fun a => { a with newRung := r })
        let s := s.modAxis l (fun a => { a with phase := .align })
        s.discard (fun c => c.party = s.partyOf l)
      else s
    | none => s

/-- Phase E of an entry waits for its approach (R390). -/
def State.entryDue (s : State) (l : Lane) (p : Program) : Bool :=
  let x := s.lane l
  x.mode.entering && x.mode.entry = some .e && s.moves l p && s.carriage l == l && x.arun.motion.isNone

/-- The approach of D_r steps starts, of a seam at rung r′ (R403) or of an entry at rung 0 (R390). -/
def State.approachStart (s : State) (l : Lane) (p : Program) : State :=
  let x := s.lane l
  if s.clk.interval || s.clk.hold then s
  else if x.axis.phase = .align then
    -- RETRY shows a second approach (Table 13.5)
    ((s.approach l p x.arun.newRung .approach).modAxis l (fun a =>
      { a with phase := .approach, retry := decide (0 < x.arun.tries) })).profileFence l p.profile
  else if s.entryDue l p then
    let x0 := x.axis.pos + p.dir * ((s.img l).axis.runUp : Int)
    ((s.modArun l (fun a => { a with x0 := x0, newRung := 0 })).approach l p 0 .approach).profileFence l p.profile
  else s

/-- B′ − T_app: the approach begins. -/
def execApproachStart (l : Lane) (s : State) : Host.Outcome State Fault Refusal :=
  perform s fun s =>
    match (s.lane l).mode.prog with
    | some p => s.approachStart l p
    | none => s

end Sys2Proof.Machine
end

