-- ==== Sys2Proof/Machine/ClockCmds.lean ====
section
/-!
DEFINITION. Events of the one clock (05): lock, anchor edge, spread, holdover and the loss of the reference.
-/

namespace Sys2Proof.Machine

/-- Lock declared after `us` microseconds (R138, R161). -/
def execPllLock (us : Nat) (s : State) : Host.Outcome State Fault Refusal := perform s fun s => s.lockGood us

/-- A lock attempt fails (R161, R166). -/
def execPllLockTimeout (s : State) : Host.Outcome State Fault Refusal := perform s fun s => s.lockBad

/-- Alignment completes: the anchor edge (R139, R140, R144, R161). -/
def execAnchorEdge (alignUs : Nat) (residualPs driftPpm10 : Int) (s : State) : Host.Outcome State Fault Refusal :=
  perform s fun s => s.anchor alignUs residualPs driftPpm10

/-- The end of a modulation period, or the T_mod boundary after the end of a free one: the pattern R149 selects,
with no injection between the free and the locked pattern (R150). -/
def execSpreadPatternChange (s : State) : Host.Outcome State Fault Refusal :=
  perform s fun s => s.modClk (fun c => { c with pattern := s.patternNext })

/-- The trip (R152, R153), with the drift measured at it in units of 10 ppm. -/
def execHoldoverTrip (driftPpm10 : Int) (s : State) : Host.Outcome State Fault Refusal :=
  perform s fun s => if s.canTrip then s.clockTrip driftPpm10 false else s

/-- 4.000 ms after the trip: a line not complete is ended with ABANDON (R156). -/
def execHoldoverLineLimit (l : Lane) (s : State) : Host.Outcome State Fault Refusal :=
  perform s fun s => if s.clk.hold && !s.clk.onRef && s.capturesRun l then s.lineLimit l else s

/-- Every lane quiet: the core switches to the reference, or SAFE where that is lost (R159, R165). -/
def execHoldoverSwitch (s : State) : Host.Outcome State Fault Refusal :=
  perform s fun s => if s.holdQuiet then s.holdSwitch else s

/-- trip + 8.000 ms (R160), and the switch that follows at once (R159). -/
def execHoldOverrun (s : State) : Host.Outcome State Fault Refusal :=
  perform s fun s => if s.clk.hold && !s.clk.onRef then (s.holdOverrun).holdSwitch else s

/-- No reference edge for 120 ns (R165). -/
def execRefLoss (s : State) : Host.Outcome State Fault Refusal := perform s fun s => s.refLoss

end Sys2Proof.Machine
end

