-- ==== Sys2Proof/Machine/HkTmrCmds.lean ====
section
/-!
DEFINITION. Events of the housekeeping converters (15), of timers, of the LF oscillator and of the INC
measurement (16).
-/

namespace Sys2Proof.Machine

/-! ### Housekeeping -/

/-- A conversion's window ends (R467, R468), with the impedance measured where one was due (R484). -/
def execHkConversionEnd (convB : Bool) (positive : Nat) (zMeas : Option Nat) (s : State) :
    Host.Outcome State Fault Refusal :=
  perform s fun s => s.convEnd convB positive zMeas

/-- A self-check ends with its zero and reference codes (R469, R470, R486). -/
def execHkSelfcheckEnd (convB : Bool) (zero reference : Int) (s : State) : Host.Outcome State Fault Refusal :=
  perform s fun s => s.selfCheck convB zero reference

/-- A failed converter's self-check falls due again (R470); from PFW none starts (R475). -/
def execHkSelfcheckRetry (convB : Bool) (s : State) : Host.Outcome State Fault Refusal :=
  perform s fun s =>
    let c := s.conv convB
    if c.failed && !c.ready && !s.pwr.pfw then s.startCheck convB else s

/-- With no command waiting, one edge of the reference passes, and a paired HKB starts if its time has come (R471). -/
def idle (s : State) : Host.Outcome State Fault Refusal :=
  if s.refTick.lagDue then perform s fun s => s.refTick.lagStart else .next s.refTick

/-! ### Timers -/

/-- A timer's prescale counter expires: one tick (R492 to R495, R500). Watch timers advance at LF ticks while a
sleep's span lasts (R508). -/
def execTimerTick (n : Nat) (s : State) : Host.Outcome State Fault Refusal :=
  perform s fun s =>
    if s.timerRuns n && !(s.tmr.lf && s.tmr.lfCause = 1) then
      s.updTimer n (fun t => { tickTimer t with pre := 0, born := s.tmr.tsc })
    else s

/-! ### The LF oscillator (R508, R509, R513 to R517) -/

/-- Watch timer w matches in the advance of this LF tick. -/
def State.watchMatch (s : State) (w : Nat) : Bool :=
  let t := s.timer w
  let q := t.frac + s.tmr.inc * clkM s.clk.fcode
  s.timerRuns w && (feedTimer { t with hit := false } (s.timerRec w).presc (q / 2 ^ 22)).hit

/-- A watch timer of the wake mask that matches in this tick, the lowest where several do. -/
def State.watchWake (s : State) : Option Nat :=
  [0, 1, 2, 3].find? (fun w => bit s.shadow.wakeMask w && s.watchMatch w)

/-- A timer's wake: from SLEEP, latched in sleep entry, or beside a WAKE edge of the same tick (R100, R509). -/
def State.timerWake (s : State) (w : Nat) : State :=
  let cause := fun (s : State) => s.modPower (fun p => { p with wakeTimer := true, wakeTmr := w })
  match s.power.phase with
  | .sleep => (cause s).beginWake
  | .sleepEntry => cause (s.modPower (fun p => { p with onLatched := true }))
  | .wake => if s.power.wakeTsc = s.tmr.tsc && s.power.wakePin then cause s else s
  | _ => s

/-- The watch timers' part of an LF tick; they stand still with the TSC (R517). -/
def State.lfTimers (s : State) : State :=
  if s.tmr.lfCause != 1 || s.tmr.gapSpan then s
  else
    let k := s.watchWake
    let s := s.lfWatch
    match k with
    | some w => s.timerWake w
    | none => s

/-- An LF tick: the handover that waits for it, or the span's advance and, where due, its handback. -/
def State.lfStep (s : State) : State :=
  let s := s.modTmr (fun m => { m with silent := false })
  let s :=
    if s.tmr.lfPend then s.lfHandover s.tmr.lfCause
    else if s.tmr.lf then s.lfTimers.modTmr TmrSt.lfAdvance
    else s
  if s.tmr.lfBack then s.lfHandback else s

/-- A tick of the 32.768 kHz oscillator. -/
def execLfTick (s : State) : Host.Outcome State Fault Refusal := perform s fun s => s.lfStep

/-- 60 s of LF ticks with `edges` reference edges in them (R513, R516); abandoned where the reference stops. A
measurement out of bounds sets off record 0x4001 again only after one within (R554), one within sets LF_OK. -/
def State.incMeasured (s : State) (edges : Nat) : State :=
  let old := s.tmr.inc
  let new := incOf edges % 2 ^ 32
  let s := s.modTmr (fun m => { m with inc := new, meas := true })
  let s := if offPpm new old 20 then s.note 0x4003 [(Config.incStepPpm old new).toNat] else s
  let isBad := offPpm new incNominal 200
  let again := s.tmr.incBad
  let s := s.modTmr (fun m => { m with incBad := isBad })
  if !isBad then if s.tmr.lfOk then s else (s.modTmr (fun m => { m with lfOk := true })).mark 4
  else if again then s
  else s.lfBad 2

/-- An INC measurement ends. -/
def execIncMeasureEnd (edges : Nat) (s : State) : Host.Outcome State Fault Refusal :=
  perform s fun s => if s.tmr.counting then s.incMeasured edges else s

/-- No LF tick for 100 µs: the span that runs or is due stands still (R517); awake, the oscillator is judged failed,
once in each silence (R516, R554). -/
def State.lfFails (s : State) : State :=
  let span := s.tmr.lf || s.tmr.lfPend || s.power.phase = .sleepEntry
  let sleep := s.power.phase = .sleepEntry || (span && s.tmr.lfCause = 1)
  let again := s.tmr.silent
  let s := s.modTmr (fun m => { m with silent := true, gapSpan := m.gapSpan || span, lfOwed := m.lfOwed || sleep })
  let s := if sleep || again then s else s.lfBad 1
  if s.tmr.lfBack then s.lfHandback else s

/-- The LF oscillator falls silent. -/
def execLfTimeout (s : State) : Host.Outcome State Fault Refusal :=
  perform s fun s => if s.power.phase = .off then s else s.lfFails

end Sys2Proof.Machine
end

