-- ==== Sys2Proof/Machine/DrainOps.lean ====
section
/-!
DEFINITION. Between Till and magazine (11, 12): the drain's fetches (R309 to R313), the runs' ends (R129, R344),
training (Table 12.3), credit (R356, R357), the magazine's STATUS (R361 to R366) and the return to UP (R375).
-/

namespace Sys2Proof.Machine

/-! ### The drain -/

/-- DATA bursts waiting in the transmit buffer. -/
def LaneSt.bursts (x : LaneSt) : Nat := x.lrun.txq.countP (fun i => match i with
  | .data _ => true
  | .frame _ _ => false)

/-- A further burst may be fetched: a credit held for it, and a half of the buffer free (R313). -/
def LaneSt.burstRoom (x : LaneSt) : Bool := decide (x.bursts < x.link.held) && decide (x.bursts < 2)

/-- Eligible payload words of a slot not yet fetched (R309). -/
def Slot.waiting (q : Slot) : Nat := (if q.closed then q.w else min q.w q.written) - q.fetched

/-- The written-through count seen for the slot at the Till's front (R243). -/
def State.seeWritten (s : State) (l : Lane) (written : Nat) : State :=
  s.modTill l (fun t => { t with slots := match t.slots with
    | [] => []
    | q :: qs => { q with written := max q.written (min written q.w) } :: qs })

/-- A DATA frame's words (R350). -/
def dataFields (num off : Nat) (ws : List Nat) : List Nat := [num % 65536] ++ leWords 2 off ++ [ws.length] ++ ws

/-- Items queued behind what waits. -/
def State.queueTx (s : State) (l : Lane) (is : List TxItem) : State :=
  s.modLrun l (fun r => { r with txq := r.txq ++ is })

/-- `n` payload words of the front slot fetched into the transmit buffer, and the trailer after the last. -/
def State.fetchWords (s : State) (l : Lane) (q : Slot) (n : Nat) : State :=
  let win := (s.tillSec l).window
  let rd := fun (s : State) (o k : Nat) => s.masterRead l win ((q.start + o) % s.tillSize l) k
  let s := s.fenceLine l 3 win
  let s := if n = 0 then s
    else (s.queueTx l [.data (dataFields q.num q.fetched (rd s (16 + q.fetched) n))]).advRptr l n
  let f := q.fetched + n
  if q.closed && f = q.w then
    let s := (s.queueTx l [.frame 0x05 (rd s (16 + q.w) 4)]).advRptr l 4
    s.modTill l (fun t => { t with slots := t.slots.tail })
  else s.modTill l (fun t => { t with slots := { q with fetched := f } :: t.slots.tail })

/-- The drain of the next line starts: header and first burst together (R310). -/
def State.drainStart (s : State) (l : Lane) (written : Nat) (gs : List C0Grant) : State :=
  let s := s.seeWritten l written
  let x := s.lane l
  match x.till.slots with
  | [] => s
  | q :: _ =>
    let c := (s.tillSec l).cut
    let n := min 1024 q.waiting
    if q.begun || !s.linkRuns l || !(q.closed || min c q.w ≤ q.written) || (n != 0 && !x.burstRoom) then s
    else
      let win := (s.tillSec l).window
      let s := s.noteGrants l gs
      let hdr := s.masterRead l win (q.start % s.tillSize l) 16
      let s := s.fenceLine l 3 win
      let s := (s.queueTx l (q.seams.map (TxItem.frame 0x06) ++ [.frame 0x03 hdr])).advRptr l 16
      (s.fetchWords l { q with begun := true, seams := [] } n).pump l

/-- A further burst, or the rest of a closed line (R311). -/
def State.burstFetch (s : State) (l : Lane) (written : Nat) (gs : List C0Grant) : State :=
  let s := s.seeWritten l written
  let x := s.lane l
  match x.till.slots with
  | [] => s
  | q :: _ =>
    let n := min 1024 q.waiting
    if !q.begun || !s.linkRuns l || (n < 1024 && !q.closed) || (n != 0 && !x.burstRoom) then s
    else ((s.noteGrants l gs).fetchWords l q n).pump l

/-- The tail timeout: a short burst of what waits (R312). -/
def State.tailFetch (s : State) (l : Lane) (written : Nat) (gs : List C0Grant) : State :=
  let s := s.seeWritten l written
  let x := s.lane l
  match x.till.slots with
  | [] => s
  | q :: _ =>
    let n := q.waiting
    if !q.begun || !s.linkRuns l || q.closed || n = 0 || 1024 ≤ n || !x.burstRoom then s
    else
      let s := s.modTill l (fun t => { t with tails := satInc 255 t.tails })
      ((s.noteGrants l gs).fetchWords l q n).pump l

/-- A DATA frame starts: one credit used (R356). -/
def State.sendData (s : State) (l : Lane) : State :=
  let s := s.pump l
  match (s.lane l).lrun.txq with
  | .data f :: q =>
    if !s.linkRuns l || (s.lane l).link.held = 0 then s
    else
      let s := (s.modLrun l (fun r => { r with txq := q })).modLink l (fun k => { k with used := (k.used + 1) % 65536 })
      (s.wire l 0x04 f).pump l
  | _ => s

/-! ### A run's end -/

/-- Nothing of the run is left to send on a link (R344). -/
def State.drained (s : State) (l : Lane) : Bool :=
  let x := s.lane l
  x.till.slots.isEmpty && x.lrun.txq.isEmpty && x.lrun.owed.isNone && !x.lrun.lost && x.lrun.openLine.isNone
    && (s.partners l).all (fun k => (s.lane k).exposing.isNone && (s.lane k).reading.isNone)

/-- Where a GANG-SCAN ends under R135, each SCAN_END names the last line of either link: both have sent theirs
(R591). -/
def State.gangSent (s : State) (e : RunEnd) : Bool :=
  !(s.sys.gang && e.aborted && e.cause = 5)
    || [s.laneA, s.laneB].all (fun x => x.till.slots.isEmpty && x.lrun.txq.isEmpty && x.lrun.openLine.isNone)

/-- SCAN_END on a link whose run is over and drained (R129, R344). -/
def State.scanEnd (s : State) (l : Lane) : State :=
  let x := s.lane l
  match x.lrun.ending with
  | none => s
  | some e =>
    if !x.lrun.opened || !x.mode.ending || !s.linkRuns l || !s.drained l || !s.gangSent e then s
    else
      let s := s.pump l
      (s.wire l 0x02 (s.scanEndFields l e)).modLrun l (fun r => { r with lastEnd := some e, opened := false })

/-- A lane whose run is over, SCAN_END sent and carriage at rest (R129, R266). -/
def State.idleDue (s : State) (l : Lane) : Bool :=
  let x := s.lane l
  let rest := s.carriage l
  x.mode.ending && x.mode.mode != .none && x.mode.mode != .idle && !x.lrun.opened && x.exposing.isNone && x.reading.isNone
    && (s.lane rest).arun.motion.isNone && !(calibrating x.mode.work && s.runCommits l)

/-- A lane enters IDLE: program and light as they are, Till cleared, a trip shown (R115, R132, R306). -/
def State.enterIdle (s : State) (l : Lane) : State :=
  let due := (s.lane l).mode.tripDue
  let s := s.modMode l (fun y => { y with ending := false, entering := false, entry := none, origin := .none, halted := false })
  let s := s.modLrun l (fun r => { r with ending := none, lost := false, owed := none })
  let s := s.modLane l (fun x => { x with capture := false, stopMask := none, group := none, sub := 0, owedSeams := [] })
  let s := s.modPix l (fun p => { p with active := false, gang := false, overlap := 0 })
  let s := s.modTill l (fun t => { t with stopped := false, dropping := false })
  let s := ((s.toMode l .idle).clearTill l).modHead l (fun h => { h with reclock := true })
  let s := if due then s.tripNow l else s
  s.replaceSet l

/-- The entry to IDLE; both lanes of a gang together, the gang party dissolved (R29, R134). -/
def State.runEnd (s : State) (l : Lane) : State :=
  let ls := s.partners l
  if !ls.all s.idleDue then s
  else
    let s := ls.foldl State.enterIdle s
    ((s.modSys (fun y => { y with gang := y.gang && ls.length = 1 })).haltSettle).offCancelled

/-- The 100 ms limit of the end drain (R324). -/
def State.endDrainLimit (s : State) (l : Lane) : State :=
  let x := s.lane l
  if !x.mode.ending || !x.lrun.opened || x.till.slots.isEmpty then s
  else
    let s := s.flushNoted l 2 12
    -- a GANG-SCAN that R135 ended keeps its cause and its fault code (R591)
    if s.sys.gang && (x.lrun.ending.map (fun e => e.aborted && e.cause = 5)).getD false then s
    else s.modLrun l (fun r => { r with ending := some { aborted := true, cause := 12 } })

/-! ### Training (R336 to R339) -/

/-- A poll of the receiver detect (Table 6.4, Table 12.3). -/
def State.detectPoll (s : State) (l : Lane) (f0 f1 k : Bool) : State :=
  let s := s.linkWake l
  let x := s.lane l
  if x.link.st != .detect || x.lrun.waiting then s
  else if f0 && f1 && !k then ((s.setWire l 5 false).setWire l 6 false).linkTrain l
  else if k && !f0 && !f1 then (s.setWire l 5 false).lanePortFault l .strandSwap
  else if !f0 || !f1 then (s.setWire l 6 false).lanePortFault l .strandOpen
  else s

/-- A training attempt given up: the strands idle, nothing counted, until the wait is over. -/
def State.trainWait (s : State) (l : Lane) (st : LinkState) : State :=
  (s.modLink l (fun k => { k with st := st })).modLrun l (fun r =>
    { r with waiting := true, ts1 := 0, ts2 := 0, lastTs2 := none, kLock := false, kBad := [] })

/-- What a TS2 of the magazine shows (Table 12.4). -/
def State.seeTs2 (s : State) (l : Lane) (o : OrderedSet) : State :=
  if o.ts2 then s.modLink l (fun k => { k with dual := o.dual, magId := o.identity, maxCred := o.maxCredits }) else s

/-- The link reaches UP (R339, R356); after a loss during a run a resync comes first (R375). -/
def State.linkUp (s : State) (l : Lane) : State :=
  let s := s.modLink l (fun k => { k with st := .up, granted := 0, used := 0, trains := satInc satByte k.trains })
  let s := s.modLrun l (fun r => { r with
    seqNo := 0, badCount := 0, discCount := 0, gotStatus := false, statusDue := true, told := none, protoRec := false })
  if (s.lane l).lrun.lost then s.startResync l else s

/-- A TS1 received in TRAIN (Table 12.3). -/
def State.trainSet (s : State) (l : Lane) (o : OrderedSet) : State :=
  let n := if !o.ts2 && o.lock then (s.lane l).lrun.ts1 + 1 else 0
  let s := s.modLrun l (fun r => { r with ts1 := n, kLock := true })
  if n < 8 then s
  else (s.modLink l (fun k => { k with st := .config })).modLrun l (fun r => { r with ts2 := 0, lastTs2 := none })

/-- A TS2 received in CONFIG: the eighth identical one in a row ends it, once 16 have been sent (Table 12.3, R338). -/
def State.configSet (s : State) (l : Lane) (o : OrderedSet) : State :=
  let r := (s.lane l).lrun
  let key := some { o with sentTs2 := 0 }
  let n := if r.lastTs2 = key then r.ts2 + 1 else 1
  let s := s.modLrun l (fun r => { r with ts2 := n, lastTs2 := key, kLock := true })
  if n < 8 || o.sentTs2 < 16 then s
  else if o.version = 1 && 1 ≤ o.maxCredits && o.maxCredits ≤ 1024 then s.linkUp l
  else
    let s := if r.protoRec then s else s.noteL l 0xA03B
    (s.trainWait l .detect).modLrun l (fun r => { r with protoRec := true })

/-- An ordered set arrives on K. -/
def State.orderedSet (s : State) (l : Lane) (o : OrderedSet) : State :=
  if (s.lane l).lrun.waiting then s
  else
    match (s.lane l).link.st with
    | .train => (s.seeTs2 l o).trainSet l o
    | .config => if o.ts2 then (s.seeTs2 l o).configSet l o else (s.linkTrain l).modLrun l (fun r => { r with kLock := true })
    | .up => if o.ts2 then s else s.linkLost l 4
    | _ => s

/-- The training timeout (R337): the strands idle for 10 ms before DETECT. -/
def State.trainTimeout (s : State) (l : Lane) : State :=
  let k := (s.lane l).link.st
  if (k = .train || k = .config) && !(s.lane l).lrun.waiting then (s.noteL l 0xA033).trainWait l k else s

/-- The 10 ms idle, or the 1 s protocol retry, is over (R337, R338). -/
def State.retryTimer (s : State) (l : Lane) : State :=
  if (s.lane l).lrun.waiting then
    (s.modLink l (fun k => { k with st := .detect })).modLrun l (fun r => { r with waiting := false })
  else s

/-! ### The return strand -/

/-- A return frame discarded: counted, and after eight together the link is lost (R373). -/
def State.frameDiscarded (s : State) (l : Lane) : State :=
  if (s.lane l).link.st != .up then s
  else
    let s := s.modLink l (fun k => { k with errDisc := satInc satByte k.errDisc })
    let s := s.modLrun l (fun r => { r with discCount := r.discCount + 1 })
    if 8 ≤ (s.lane l).lrun.discCount then s.linkLost l 5 else s

/-- A CREDIT frame that passes R340 (R356, R357). -/
def State.takeCredit (s : State) (l : Lane) (count : Nat) : State :=
  let k := (s.lane l).link
  if k.st != .up then s
  else
    let count := count % 65536
    let lower := 32768 ≤ (count + 65536 - k.granted) % 65536
    let more := (s.lane l).lrun.bound < (count + 65536 - k.used % 65536) % 65536
    if lower || more then s.frameDiscarded l
    else (s.modLink l (fun k => { k with granted := count })).modLrun l (fun r => { r with discCount := 0 })

/-- 200 µs in reference ticks (R361). -/
def echoTicks : Nat := 5000

/-- Which condition of R361 a magazine STATUS meets: 0 none, 1 epoch, 2 run open, 3 no run open, 4 a later
line. -/
def State.disagrees (s : State) (l : Lane) (m : MagStatus) : Nat :=
  let x := s.lane l
  let e := s.sys.epochs.getD (tillUnit l) 0
  if m.epoch != e then (if x.lrun.told = some e && decide (x.lrun.statusTsc + echoTicks < m.began) then 1 else 0)
  else if x.lrun.opened && (m.scanId != x.link.scanId || !(2 ≤ m.state && m.state ≤ 4)) then 2
  else if !x.lrun.opened && m.state = 2 then 3
  else if m.last != 0xFFFFFFFF && (match x.link.sent with
    | some k => decide (k < m.last)
    | none => true) then 4
  else 0

/-- A magazine's last line stands before the last line sent (R365). -/
def lastEarlier (sent : Option Nat) (last : Nat) : Bool :=
  match sent with
  | some k => last = 0xFFFFFFFF || decide (last < k)
  | none => false

/-- The run ended by a fault as a flush ends it; in GANG-SCAN under R135, where complete lines drain. -/
def State.linkFault (s : State) (l : Lane) (code cause : Nat) : State :=
  let s := s.recordL l code 2
  if s.sys.gang && (s.capturesRun l || s.closing l) then s.gangAbort l (code + laneOff l)
  else s.flushEnd l { aborted := true, cause := cause, code := code + laneOff l }

/-- The end of a resync (R363). -/
def State.endResync (s : State) (l : Lane) : State :=
  (s.modLink l (fun k => { k with resync := false })).mark (tillUnit l)

/-- A resync failed (R365). After a loss of the link the line it left open is the one that the flush abandons, and
nothing of the lines behind it can be sent. -/
def State.resyncFail (s : State) (l : Lane) : State :=
  let r := (s.lane l).lrun
  let s := s.endResync l
  if !r.lost then s.linkFault l 0xA037 16
  else
    let s := (s.recallLine l).linkFault l 0xA037 16
    if s.sys.gang then s.flushTill l 5 else s

/-- A SEAM owed again: the line that it precedes is now `num`, after `last`. -/
def reSeam (num : Nat) (last : Option Nat) (f : List Nat) : List Nat :=
  f.take 3 ++ leWords 2 (lineOr last) ++ leWords 2 num ++ f.drop 7

/-- Every line from `num` on that a link has begun or queued is withdrawn from it (R326, R375). -/
def State.withdrawFrom (s : State) (l : Lane) (num cause : Nat) : State :=
  let s := match (s.lane l).lrun.openLine with
    | some n => if num ≤ n then s.abandonLine l n cause true else s
    | none => s
  match (s.lane l).till.slots.find? (fun q => num ≤ q.num) with
  | some q => s.abandonLine l q.num cause true
  | none => s

/-- The run goes on with line `num`, or a line before it that it goes on with already, after a seam that names cause
[5] (R375). -/
def State.resumeFrom (s : State) (l : Lane) (num : Nat) : State :=
  let num := min num (s.lane l).nextLine
  let s := (s.partners l).foldl (fun s k =>
    let s := (s.giveExposure k).modLane k (fun x => { (x.giveUp num) with
      reading := none, group := none, resumed := true
      owedSeams := x.owedSeams.map (reSeam num (x.lastBefore num)) })
    let s := (s.rewind k num 0).modPix k (fun p => { p with accum := [] })
    if (s.lane k).mode.mode = .smoulder then s.modArun k (fun a => { a with mask := a.mask ||| 32 }) else s) s
  if (s.lane l).mode.mode = .smoulder then s.abandonSeam (s.carriage l) else s.seamDue l 32

/-- A line abandoned by a loss of the link, its number for the next line of the run (R375, R326): ABANDON with bit
[8] before any other frame of the run; in GANG-SCAN on both links. -/
def State.resumeAt (s : State) (l : Lane) (num cause : Nat) : State :=
  let s := s.frameFirst l 0x07 (s.abandonFields l num cause true false)
  let s := s.withdrawFrom l num cause
  let s := if s.sys.gang then
      let k := otherLane l
      let s := s.withdrawFrom k num cause
      s.sendFrame k 0x07 (s.abandonFields k num cause true true)
    else s
  if (s.lane l).mode.ending then s else s.resumeFrom l num

/-- After a loss and its resync, the line left open is withdrawn and the run goes on (R375). -/
def State.afterLoss (s : State) (l : Lane) : State :=
  let r := (s.lane l).lrun
  if !r.lost then s.pump l
  else
    let s := s.modLrun l (fun y => { y with lost := false, owed := none })
    match r.owed with
    | some (n, c) => (s.resumeAt l n c).pump l
    | none => s.pump l

/-- What a magazine STATUS shows. -/
def State.showStatus (s : State) (l : Lane) (m : MagStatus) : State :=
  let x := s.lane l
  -- the magazine counts from UP
  let seen := if x.lrun.gotStatus then x.link.magBad else 0
  let rises := x.lrun.opened && !x.lrun.badRec && decide (seen < m.discarded)
  let s := s.modLink l (fun k => { k with
    mag := m.state % 8, magLast := if m.last = 0xFFFFFFFF then none else some m.last
    magFree := m.freeMib, magBad := min 65535 m.discarded })
  let s := s.modLrun l (fun r => { r with gotStatus := true, magEpoch := m.epoch, discCount := 0, badRec := r.badRec || rises })
  if rises then s.noteL l 0xA03A [m.discarded] else s

/-- Invalid code groups on K, at their places in the characters received: counted, and judged (R372); a loss of sync
found in a reference interval is acted on at the anchor edge (R373). -/
def State.kGroups (s : State) (l : Lane) (groups : List Nat) : State :=
  match (s.lane l).link.st with
  | .down | .detect => s
  | st =>
    let s := s.modLink l (fun k => { k with errCode := min 255 (k.errCode + groups.length) })
    let seen := (s.lane l).lrun.kBad ++ groups
    if !syncLost seen then s.modLrun l (fun r => { r with kBad := seen.drop (seen.length - 3) })
    else
      let s := s.modLrun l (fun r => { r with kBad := [], kLock := false })
      if st != .up then s.modLrun l (fun r => { r with ts1 := 0, ts2 := 0, lastTs2 := none })
      else if s.clk.interval then s.modLrun l (fun r => { r with syncDue := true })
      else s.linkLost l 1

/-- A magazine STATUS that passes R340; a reference interval suspends its judgement (R373). -/
def State.magStatus (s : State) (l : Lane) (m : MagStatus) : State :=
  if (s.lane l).link.st != .up then s
  else if s.clk.interval then s.showStatus l m
  else
    let s := s.showStatus l m
    let x := s.lane l
    let e := s.sys.epochs.getD (tillUnit l) 0
    let bad := s.disagrees l m
    let ended : Bool := (x.lrun.ending.map (fun r => r.cause = 10 || r.cause = 11 || (s.sys.gang && r.cause = 5))).getD false
    if m.epoch = e && x.lrun.opened && (m.state = 3 || m.state = 4) && !ended then
      (if m.state = 3 then s.linkFault l 0xA038 10 else s.linkFault l 0xA039 11).pump l
    else if x.link.resync then
      if m.epoch = e && m.ack && bad = 0 then
        if x.lrun.opened && lastEarlier x.link.sent m.last then s.resyncFail l else (s.endResync l).afterLoss l
      else s
    else if bad = 0 then (s.modLrun l (fun r => { r with badCount := 0 })).pump l
    else
      let s := s.modLrun l (fun r => { r with badCount := r.badCount + 1 })
      if (s.lane l).lrun.badCount < 3 then s
      else
        let s := s.recordL l 0xA036 (if s.capturesRun l then 1 else 0) [bad]
        (s.startResync l).seamDue l 4

/-- A resync's limit (R365). -/
def State.resyncLimit (s : State) (l : Lane) : State :=
  if (s.lane l).link.resync && (s.lane l).link.st = .up then s.resyncFail l else s

/-- The link stayed down for the training timeout during a run (R376). -/
def State.linkAborts (s : State) (l : Lane) : State :=
  let x := s.lane l
  if x.link.st = .up || !x.lrun.opened then s
  else
    let e : RunEnd := { aborted := true, cause := 17, code := 0xA035 + laneOff l }
    ((s.linkFault l 0xA035 17).clearTill l).modLrun l (fun r => { r with
      lastEnd := some e, ending := some e, opened := false, lost := false, owed := none, txq := [], openLine := none })

end Sys2Proof.Machine
end

