-- ==== Sys2Proof/Machine/LaneCmds.lean ====
section
/-!
DEFINITION. Events of a lane's requests, aborts and line cycle (04, 07, 11): pins, line starts, capture
decisions and the entry to IDLE. All of them wait in a reference interval (R141).
-/

namespace Sys2Proof.Machine

/-- The pins of a lane are there (R3), and their filters run (R141). -/
def State.pinsLive (s : State) (l : Lane) : Bool := (s.twoLanes || l == .a) && !s.clk.interval

/-- A confirmed SCAN_REQ_x edge (R76, R86, R122, R124): decided, or counted as refused in bring-up
and in an engine reset (R102). -/
def execScanReqPin (l : Lane) (prog : Nat) (stable abortHigh : Bool) (s : State) :
    Host.Outcome State Fault Refusal :=
  perform s fun s =>
    if !s.pinsLive l then s
    else
      let s := s.setAbort l abortHigh
      if s.decides then s.request l (prog % 16) false stable
      else if s.power.phase = .bringup || s.power.phase = .engineReset then s.modPower (fun p => { p with refused := satInc 15 p.refused })
      else s

/-- The filtered level of ABORT_x changes: a rising edge aborts (R121, R129, R265). -/
def execAbortPin (p : PinLevel) (s : State) : Host.Outcome State Fault Refusal :=
  perform s fun s =>
    if !s.pinsLive p.lane then s
    else
      let s := s.setAbort p.lane p.high
      if p.high && s.decides then s.abort p.lane 1 else s

/-- A lane's line cycle starts (R218 to R221). -/
def execLineStart (l : Lane) (x : LineInput) (s : State) : Host.Outcome State Fault Refusal :=
  perform s fun s => s.lineStart l x

/-- The capture decision for the coming line cycle (R316, R411). -/
def execCaptureDecision (l : Lane) (s : State) : Host.Outcome State Fault Refusal :=
  perform s fun s => if s.clk.interval then s else s.captureDecision l

/-- The run's end is complete: the lane enters IDLE (R129, R266), as the last step of a lane reset where the commit
outlived it (R103). -/
def execRunEndIdleEntry (e : IdleEntry) (s : State) : Host.Outcome State Fault Refusal :=
  perform s fun s =>
    if s.clk.interval then s
    else
      let t := if (s.lane e.lane).mode.reset = 0 then s.runEnd e.lane
        else if s.idleDue e.lane then (s.resetEnd e.lane).haltSettle else s
      if (s.lane e.lane).next != (t.lane e.lane).next then t.noteC1 e.c1 else t

end Sys2Proof.Machine
end

