-- ==== Sys2Proof/Machine/LightCmds.lean ====
section
/-!
DEFINITION. Events of the light bus and of light commits (14): commits sent and in force, replies judged,
re-broadcasts, identity checks and silent heads.
-/

namespace Sys2Proof.Machine

/-! ### Commits (R437, R439) -/

/-- The COMMIT frame of the party's next commit is sent (R439, R444). -/
def execLightCommitSend (party : Nat) (s : State) : Host.Outcome State Fault Refusal :=
  perform s fun s => s.sendCommit party

/-- Phase C has ended on a lane: four line cycles of settle follow (Table 4.4a). -/
def State.beginSettle (s : State) (l : Lane) : State :=
  if (s.lane l).mode.entry = some .c then s.modMode l (fun y => { y with entry := some (.d 4) }) else s

/-- The commit point of the party's sent commit (R437). -/
def execLightCommitPoint (party : Nat) (s : State) : Host.Outcome State Fault Refusal :=
  perform s fun s =>
    match s.commitPoint party with
    | (s, some c) => if c.phaseC then (partyLanes party).foldl State.beginSettle s else s
    | (s, none) => s

/-! ### Heads -/

def State.lightHead (s : State) (a : Nat) : LightHead := s.lux.head.getD a {}

/-- A head the engine speaks with: configured, not barred by its last identity check (R432). -/
def State.headUsed (s : State) (a : Nat) : Bool := (s.headRec a).isSome && !(s.lightHead a).barred

/-- The light bus works: not in OFF, sleep or with RESET_N low. -/
def State.busLive (s : State) : Bool :=
  match s.power.phase with
  | .off | .sleep | .resetLow => false
  | _ => true

/-- The party whose last commit is the latest that names a head's owner: the gang party's where its number is
the owner's counter. -/
def State.lastParty (s : State) (a : Nat) : Nat :=
  let o := s.headOwner a
  let n := s.comOf o
  if o != 0 && (s.lux.reb.getD 3 {}).num = n && (s.lux.reb.getD o {}).num != n then 3 else o

/-! ### Acknowledgement (R441, R442) -/

/-- A head acknowledges: its mismatch ends, and what waited behind the re-broadcasts goes on. -/
def State.ackHead (s : State) (a p : Nat) : State :=
  let s := s.modLightHead a (fun h => { h with mismatch := false, acking := none })
  let s := s.modReb p (fun r =>
    let hs := r.heads.filter (· != a)
    { r with heads := hs, told := r.told.filter (· != a), tries := if hs.isEmpty then 0 else r.tries,
             due := r.due && !hs.isEmpty })
  if (s.lux.reb.getD p {}).heads.isEmpty then s.stageFirst p else s

/-- A mismatch in a seam under way: its approach is abandoned and its mask gains bit [3] (R399). -/
def State.mismatchSeam (s : State) (l : Lane) : State :=
  let x := s.lane l
  match x.axis.phase with
  | .backoff | .dwell | .align | .approach => if x.mode.mode = .smoulder then s.seamDue l 8 else s
  | _ => if s.seamOpen l then s.seamDue l 8 else s

/-- The third re-broadcast has not cured a head: 0x6012, and a capturing lane's seam (R442). -/
def State.mismatchFault (s : State) (a p : Nat) : State :=
  let r := s.lux.reb.getD p {}
  if r.tries < 3 || r.told.contains a then s
  else
    let s := s.modReb p (fun r => { r with told := r.told ++ [a] })
    match (partyLanes p).head? with
    | some l =>
      let run := s.capturesRun l && !(s.lane l).mode.entering
      let s := s.record 0x6012 (if run then 1 else 0) (if p = 3 then 11 else p) [p, a]
      if run then s.seamDue l 8 else s
    | none => s.noteItem 0x6012 0 [p, a]

/-- A head is in mismatch (R441). -/
def State.mismatchHead (s : State) (a p : Nat) : State :=
  let s := s.modLightHead a (fun h => { h with mismatch := true, acking := none })
  let s := s.modReb p (fun r => { r with due := true, heads := if r.heads.contains a then r.heads else r.heads ++ [a] })
  let s := match (partyLanes p).head? with
    | some l => s.mismatchSeam l
    | none => s
  s.mismatchFault a p

/-- A reply of head `a` judged against the last commit naming its owner. A poll's reply is judged too, once
that commit is complete: a head reset by its own supply is restored. A latch in the cycle of the commit point counts
as an acknowledgement (14, coincidences). HEADn_SET takes an acknowledged setting only (Table 14.7). -/
def State.judgeReply (s : State) (a : Nat) (h : HeadStatus) : State :=
  let x := s.lightHead a
  let p := x.acking.getD (s.lastParty a)
  let r := s.lux.reb.getD p {}
  let open_ := s.lux.planned.any (fun c => c.party = p && c.sent.isSome)
  let acked := (s.modLightHead a (fun y => { y with set := h.setting })).ackHead a p
  if s.excused a p then acked
  else if r.num = 0 || !r.mask.contains a || (x.acking.isNone && open_) then s
  else if h.applied = r.num && h.setting = valOf r.vals a then acked
  else s.mismatchHead a p

/-- The temperature of a STATUS for Ember, and the end of the run a shutdown calls for (R454 to R457). -/
def State.headTemp (s : State) (a : Nat) (t : Int) : State :=
  let (s, cut) := s.emberHead a t
  let s := if cut && s.excused a (s.lastParty a) then s.ackHead a (s.lastParty a) else s
  if cut then s.emberEnd (s.headOwner a) else s

/-! ### Missed and discarded replies (R428, R429, R433) -/

/-- A head's identity is not the expected one, or unanswered (R432): no further frame until the next check. -/
def State.identFails (s : State) (a : Nat) : State :=
  (s.modLightHead a (fun h => { h with reach := false, barred := true, identing := false, acking := none })).noteItem
    0x6011 (s.headOwner a)

/-- A request to a head missed. -/
def State.missHead (s : State) (a : Nat) : State :=
  let x := s.lightHead a
  if x.identing then s.identFails a
  else
    let s := s.modLightHead a (fun h => { h with missed := h.missed + 1 })
    let s := if 3 ≤ x.missed + 1 && x.reach then
        (s.modLightHead a (fun h => { h with reach := false })).noteItem 0x6010 (s.headOwner a)
      else s
    match x.acking with
    | some p => if s.excused a p then s.ackHead a p else s.mismatchHead a p
    | none => s

/-- A frame on the bus discarded (LUX.BUS.CRCERR); its request counts as missed. -/
def State.discardReply (s : State) (a : Nat) : State :=
  (s.modLux (fun x => { x with crcErr := satInc 255 x.crcErr })).missHead a

/-! ### Reply frames (R427, R428) -/

/-- The payload length that Table 14.2 gives a type; none where the type is unknown. -/
def typeLen : Nat → Option Nat
  | 0x01 | 0x02 | 0x06 | 0x07 => some 0
  | 0x03 => some 2
  | 0x04 => some 8
  | 0x05 => some 4
  | 0x81 => some 7
  | 0x82 => some 5
  | _ => none

/-- A frame that R428 keeps: its CRC, its type and its length are good. -/
def intactFrame (f : List Nat) : Bool :=
  let n := f.getD 2 0
  f.length = n + 5 && f.all (· < 256) && typeLen (f.getD 1 0) = some n
    && f.drop (n + 3) = leBytes 2 (crc16 (f.take (n + 3)))

/-- The little-endian number in bytes i to i + n − 1 of a frame (R6). -/
def frameNum (f : List Nat) (i n : Nat) : Nat := (((f.drop i).take n).foldr (fun b x => b + 256 * x) 0)

/-- An intact frame is the reply of head `addr` of type `t`: its byte 0 carries that address with the reply bit. -/
def replyOf (t addr : Nat) (f : List Nat) : Bool := f.getD 0 0 = addr + 32 && f.getD 1 0 = t

/-- The STATUS a frame of type 0x81 carries. -/
def statusIn (f : List Nat) : HeadStatus :=
  { state := f.getD 3 0, applied := frameNum f 4 2, setting := frameNum f 6 2, temp := signed 16 (frameNum f 8 2) }

/-- The bytes a head answers a STATUS_REQ with, as the engine receives them. A frame that is another head's or of
another type is no reply (DESIGN CHOICE, log 107). -/
def execLightStatusReply (addr : Nat) (body crc : List Nat) (s : State) : Host.Outcome State Fault Refusal :=
  perform s fun s =>
    let frame := body ++ crc
    if !s.headUsed addr || !s.busLive then s
    else if !intactFrame frame then s.discardReply addr
    else if !replyOf 0x81 addr frame then s.missHead addr
    else
      let h := statusIn frame
      let s := s.modLightHead addr (fun x => { x with
        missed := 0, reach := true, temp := h.temp, latest := some (h.temp, s.tmr.tsc) })
      (s.judgeReply addr h).headTemp addr h.temp

/-- The expected identity of a head's LIGHTHEAD record, protocol version 1 (R432). -/
def State.identGood (s : State) (a identity version : Nat) : Bool :=
  version = 1 && ((s.headRec a).map LightHeadRec.identity) == some identity

/-- The bytes a head answers an IDENT_REQ with (type 0x82). -/
def execLightIdentReply (addr : Nat) (front payload crc : List Nat) (s : State) : Host.Outcome State Fault Refusal :=
  perform s fun s =>
    let frame := front ++ payload ++ crc
    if !(s.lightHead addr).identing || !s.busLive then s
    else if !intactFrame frame then s.discardReply addr
    else if !replyOf 0x82 addr frame then s.missHead addr
    else if s.identGood addr (frameNum frame 3 4) (frame.getD 7 0) then
      s.modLightHead addr (fun h => { h with reach := true, identing := false, missed := 0 })
    else s.identFails addr

/-- A reply has not begun 60 µs after its request (R429, R433). -/
def execLightReplyMissed (addr : Nat) (s : State) : Host.Outcome State Fault Refusal :=
  perform s fun s => if s.headUsed addr && s.busLive then s.missHead addr else s

/-- The 100 ms poll of a reachable head (R429). -/
def execLightPoll (addr : Nat) (s : State) : Host.Outcome State Fault Refusal :=
  perform s fun s =>
    if s.headUsed addr && s.busLive && !s.sys.safe && (s.lightHead addr).reach then s.busSend (statusReq addr) else s

/-! ### Re-broadcast (R442) -/

/-- The staging of a commit of the party that waits is taken back before a re-broadcast, which would put it in force;
its STAGE frames follow the re-broadcast (R442; DESIGN CHOICE, log 108). -/
def State.unstage (s : State) (p : Nat) : State :=
  let s := (s.lux.planned.filter (waits p)).foldl State.dropFor s
  s.modLux (fun x => { x with planned := x.planned.map (fun c => if waits p c then { c with staged := none } else c) })

/-- The heads in mismatch staged again with the commit's values, the same COMMIT sent again, its head mask polled
again (R441); a barred head gets no frame of its own (R432). -/
def State.rebroadcast (s : State) (p : Nat) : State :=
  let r := s.lux.reb.getD p {}
  let hs := r.heads.filter (fun a => !(s.lightHead a).barred)
  if hs.isEmpty || !r.due || s.clk.interval || s.pwr.busShort then s
  else
    let s := s.unstage p
    let s := hs.foldl (fun s a => (s.busSend (stageFrame a (valOf r.vals a))).modLightHead a (fun h =>
      { h with staged := valOf r.vals a })) s
    let s := s.busSend (commitFrame p r.num (r.tries + 1) r.mask)
    let s := (s.modReb p (fun r => { r with tries := r.tries + 1, due := false })).modLux (fun x => { x with rebcast := satInc 255 x.rebcast })
    let s := r.mask.foldl (fun s a =>
      if (s.lightHead a).barred then s
      else (s.busSend (statusReq a)).modLightHead a (fun h => { h with acking := some p })) s
    s.stageFirst p

/-- The next eligible commit point of a commit with heads in mismatch, or 10 ms after the last attempt. -/
def execLightRebroadcast (party : Nat) (s : State) : Host.Outcome State Fault Refusal :=
  perform s fun s => s.rebroadcast party

/-! ### A silent head (R433) -/

/-- A head has been unreachable for 1 s: a scan-lit one in its lane's guarded span ends the run as an Ember
shutdown does, with 0x6001. -/
def execHeadSilentTimeout (addr : Nat) (s : State) : Host.Outcome State Fault Refusal :=
  perform s fun s =>
    let o := s.headOwner addr
    let lit := ((s.headRec addr).map LightHeadRec.scanLit).getD false
    if lit && s.guarded o && !(s.lightHead addr).reach then
      (s.record 0x6001 2 (s.partyBits o) [emberHeadDetail addr]).emberEnd o
    else s

end Sys2Proof.Machine
end

