-- ==== Sys2Proof/Machine/LinkCmds.lean ====
section
/-!
DEFINITION. Events of the Till's drain (11) and of the Trawin link (12).
-/

namespace Sys2Proof.Machine

/-! ### The Till's drain -/

/-- The next line's header and first burst are fetched (R310, R313, R351, R370). -/
def execTillLineDrainStart (l : Lane) (d : DrainReport) (s : State) : Host.Outcome State Fault Refusal :=
  perform s fun s => s.drainStart l d.written d.grants

/-- A further burst, or the rest of a closed line (R311, R313); the C0 grants observed are those of
the burst's own fetch and those of the other streams (Table 1.8). -/
def execTillBurstFetch (l : Lane) (written : Nat) (own others : List C0Grant) (s : State) : Host.Outcome State Fault Refusal :=
  perform s fun s => s.burstFetch l written (own ++ others)

/-- The tail timeout (R312, R313). -/
def execTillTailTimeout (l : Lane) (d : DrainReport) (s : State) : Host.Outcome State Fault Refusal :=
  perform s fun s => s.tailFetch l d.written d.grants

/-- 100 ms after a run's last close the Till has not emptied (R324). -/
def execTillEndDrainLimit (l : Lane) (s : State) : Host.Outcome State Fault Refusal :=
  perform s fun s => if s.clk.interval then s else s.endDrainLimit l

/-- The copies of a pointer differ (R327), which every cycle of a core clock compares; found in a reference interval,
it is acted on at the anchor edge. -/
def execTillPtrMismatch (l : Lane) (rptr wptr : Bool) (s : State) : Host.Outcome State Fault Refusal :=
  perform s fun s =>
    let d := ptrDetail rptr wptr
    if d = 0 || !s.configured l || !s.coreRuns then s
    else if s.clk.interval then s.modLrun l (fun r => { r with ptrDue := d })
    else s.ptrMismatch l d

/-! ### Training -/

/-- The receiver detect of DETECT, every 100 ms (R336, Table 6.4). -/
def execLinkDetectPoll (l : Lane) (f0 f1 k : Bool) (s : State) : Host.Outcome State Fault Refusal :=
  perform s fun s => s.detectPoll l f0 f1 k

/-- A TS1 or TS2 arrives on K (R336, R338, R339, R373). -/
def execOrderedSetReceived (l : Lane) (o : OrderedSet) (s : State) : Host.Outcome State Fault Refusal :=
  perform s fun s => s.orderedSet l o

/-- The training timeout (R337). -/
def execLinkTrainingTimeout (l : Lane) (s : State) : Host.Outcome State Fault Refusal :=
  perform s fun s => s.trainTimeout l

/-- The 10 ms idle, or the 1 s protocol retry, is over (R337, R338). -/
def execLinkRetryTimer (l : Lane) (s : State) : Host.Outcome State Fault Refusal :=
  perform s fun s => s.retryTimer l

/-! ### The return strand -/

/-- A CREDIT frame that passes R340 (R356, R357); its free count is informational (Table 12.14). -/
def execCredit (l : Lane) (count _free : Nat) (s : State) : Host.Outcome State Fault Refusal :=
  perform s fun s => s.takeCredit l count

/-- A magazine STATUS that passes R340 (R361 to R366, R375, R377). -/
def execMagazineStatus (l : Lane) (m : MagStatus) (s : State) : Host.Outcome State Fault Refusal :=
  perform s fun s => s.magStatus l m

/-- No STATUS ended the resync within the status timeout (R365). -/
def execResyncTimeout (l : Lane) (s : State) : Host.Outcome State Fault Refusal :=
  perform s fun s => if s.clk.interval then s else s.resyncLimit l

/-- K loses sync where four of these invalid code groups fall within 64 characters (R372, R373). -/
def execKSyncLoss (l : Lane) (groups : List Nat) (s : State) : Host.Outcome State Fault Refusal :=
  perform s fun s => s.kGroups l groups

/-- No CREDIT frame within the credit timeout (R373), which reference intervals suspend. -/
def execCreditTimeout (l : Lane) (s : State) : Host.Outcome State Fault Refusal :=
  perform s fun s => if s.clk.interval then s else s.linkLost l 2

/-- No magazine STATUS within the status timeout (R373). -/
def execStatusTimeout (l : Lane) (s : State) : Host.Outcome State Fault Refusal :=
  perform s fun s => if s.clk.interval then s else s.linkLost l 3

/-- A return frame fails its checks and is discarded (R340, R373). -/
def execReturnFrameDiscarded (l : Lane) (s : State) : Host.Outcome State Fault Refusal :=
  perform s fun s => s.frameDiscarded l

/-- The link has not returned to UP within the training timeout of leaving it (R376). -/
def execLinkAbort (l : Lane) (s : State) : Host.Outcome State Fault Refusal :=
  perform s fun s => if (s.lane l).lrun.lost then s.linkAborts l else s

/-! ### The forward strands -/

/-- The 250 µs heartbeat, or the gap after an epoch advance (R354). -/
def execEngineStatusHeartbeat (l : Lane) (s : State) : Host.Outcome State Fault Refusal :=
  perform s fun s => if s.linkLive l then (s.sendStatus l).pump l else s

/-- A DATA frame starts on the wire and uses one credit (R356). -/
def execDataFrameSend (l : Lane) (s : State) : Host.Outcome State Fault Refusal :=
  perform s fun s => s.sendData l

/-- Every line of the run has been sent: SCAN_END (R129, R344). -/
def execScanEnd (l : Lane) (s : State) : Host.Outcome State Fault Refusal :=
  perform s fun s => s.scanEnd l

end Sys2Proof.Machine
end

