-- ==== Sys2Proof/Machine/MainsCmds.lean ====
section
/-!
DEFINITION. Events of mains, outputs and ports (06), and the reads of a head's identity and thermometer (07).
-/

namespace Sys2Proof.Machine

/-- A rising zero crossing closes a mains period (R466, R171, R172, R176 to R180, R195, R196). -/
def execMainsPeriodEnd (m : MainsReport) (s : State) : Host.Outcome State Fault Refusal :=
  perform s fun s => s.mainsPeriod m

/-- An output held at its limit for 10 ms, or below half voltage for 1 ms (R175). -/
def execOutputFoldbackTimeout (o : Output) (s : State) : Host.Outcome State Fault Refusal :=
  perform s fun s => s.foldback o

/-- The 48 V bus below 42.0 V for 1 ms (R181). -/
def execBusLow (s : State) : Host.Outcome State Fault Refusal := perform s fun s => s.busFell

/-- A fault of Table 6.4 (R189 to R194). -/
def execPortFaultDetected (f : PortFault) (s : State) : Host.Outcome State Fault Refusal :=
  perform s fun s => s.portFault f

/-- The 1 s check of the light bus finds a short, or clears one (R193). -/
def execLightBusCheck (shorted : Bool) (s : State) : Host.Outcome State Fault Refusal :=
  perform s fun s =>
    if shorted then s.portFault .busShort
    else if s.power.phase = .run && !s.sys.safe then s.modPwr (fun p => { p with busShort := false })
    else s

/-- A head's identity or wake digest and its thermometer have been read (R207 to R211). -/
def execIdentReadDone (l : Lane) (bytes : Option (List Nat)) (thermOhm : Option Nat) (s : State) :
    Host.Outcome State Fault Refusal :=
  perform s fun s => s.identRead l bytes thermOhm

end Sys2Proof.Machine
end

