-- ==== Sys2Proof/Machine/Mgmt.lean ====
section
/-!
DEFINITION. The management port (17): a frame judged, applied and answered; what a read consumes (R478, R569,
and the registers cleared by a read); and the rows that are frames.
-/

namespace Sys2Proof.Machine

/-! ### Reads -/

/-- What the return of a word changes: registers cleared by their read, and results consumed (R478). -/
def State.consumeWord (s : State) (u o : Nat) : State :=
  let l := unitLane u
  match u, o with
  | 0, 0x03A => s.modSys (fun y => { y with badCrc := 0, aborts := 0 })
  | 0, 0x03B => s.modSys (fun y => { y with stale := 0, denied := 0 })
  | 3, 0x001 => s.modMem (fun m => { m with c0Worst := 0, c0Port := 0 })
  | 3, 0x002 => s.modMem (fun m => { m with c1Worst := 0 })
  | 3, 0x003 => s.modMem (fun m => { m with c2Worst := 0 })
  | 5, 0x009 => s.modConv false (fun c => { c with res := { c.res with full := false } })
  | 5, 0x00B => s.modConv true (fun c => { c with res := { c.res with full := false } })
  | 6, 0x129 => s.modLux (fun x => { x with crcErr := 0 })
  | 10, 0x00D | 14, 0x00D =>
    let f := s.tillFill l / 64
    s.modTill l (fun t => { t with peak := f })
  | 10, 0x04F | 14, 0x04F => s.modLink l (fun k => { k with errCode := 0, errDisc := 0 })
  | _, _ => s

/-- The selector follows a selected record whose word 15 has been returned (R569). -/
def State.advanceSel (s : State) (sel : Option FaultRec) : State :=
  match sel with
  | some r => s.modLog (fun g => { g with sel := (r.seq + 1) % 2 ^ 32 })
  | none => s

/-- The data words of a read answered OK. -/
def State.readData (s : State) (r : Req) : List Nat :=
  if r.aperture then s.winRead s.mem.hwin s.mem.hoff r.n
  else r.offsets.map (fun o => (s.regWord r.unit o).getD 0)

/-- The lane that owns the selected window. -/
def State.apertureLane (s : State) : Option Lane :=
  match s.winOwner s.mem.hwin with
  | 1 => some .a
  | 2 => some .b
  | _ => none

/-- A read answered OK of which `shifted` data words were returned whole (R529). -/
def State.applyRead (s : State) (r : Req) (shifted : Nat) : State :=
  if r.aperture then
    let s := match s.apertureLane with
      | some l => if shifted < r.n then s.modSys (fun y => { y with apert := some (l, r.n - shifted) }) else s
      | none => s
    s.apertureAdvance r.n
  else
    let os := (r.offsets).take shifted
    let sel := s.selected
    let s := os.foldl (fun s o => s.consumeWord r.unit o) s
    if r.unit = 0 && os.contains 0x11F then s.advanceSel sel else s

/-! ### The frame -/

/-- The effect of a request judged with a status code: of one refused, its count (Table 17.15). `latency` is the
longest C2 grant of an aperture frame (Table 10.8). -/
def State.frameEffect (s : State) (r : Req) (code shifted latency : Nat) : State :=
  match code with
  | 0 =>
    let t := if r.write then s.applyWrite r else s.applyRead r shifted
    if r.aperture then t.modMem (fun m => { m with c2Worst := max m.c2Worst (min 8191 latency) }) else t
  | 2 => s.modSys (fun y => { y with stale := satInc 255 y.stale })
  | 3 => s.modSys (fun y => { y with denied := satInc 255 y.denied })
  | _ => s

/-- The data words of the response to a request judged with a status code. -/
def State.frameData (s : State) (r : Req) (code : Nat) : List Nat :=
  if r.write then []
  else
    match code with
    | 0 => s.readData r
    | 1 => List.replicate r.n 0
    | _ => []

/-- The response as far as the host has shifted it out: a read abandoned before its last word keeps the data words
returned whole, a write's what a late rise leaves of it (R529). -/
def State.shiftedOut (s : State) (r : Req) (code shifted : Nat) (resp : List Nat) : List Nat :=
  if r.write then lateRise shifted resp
  else if (s.frameData r code).length ≤ shifted then resp
  else resp.take (shifted + 1)

/-- A request whose CRC is good: nothing on a port without power or with RESET_N low (R80). `shifted` counts the data
words of a read that were returned whole, and the words that follow a write. -/
def State.mgtRequest (s : State) (r : Req) (shifted latency : Nat) : Host.Outcome State Fault Refusal :=
  let code := s.status r
  if s.portLive then
    performMgt s r.words.length (fun s => s.frameEffect r code shifted latency) (fun t =>
      s.shiftedOut r code shifted (answer code r.unit (t.sys.epochs.getD r.unit 0) (s.frameData r code)))
  else performMgt s 0 id (fun _ => [])

/-- A frame cut before the end of its CRC, with `k` words shifted whole: discarded and counted (R529). -/
def State.mgtCut (s : State) (k : Nat) : Host.Outcome State Fault Refusal :=
  performMgt s (if s.portLive then k else 0)
    (fun s => if s.portLive then s.modSys (fun y => { y with aborts := satInc 255 y.aborts }) else s) (fun _ => [])

/-- A frame of `k` words whose CRC fails: counted and answered BAD_CRC; `past` words follow it. -/
def State.mgtBad (s : State) (unit k past : Nat) : Host.Outcome State Fault Refusal :=
  performMgt s (if s.portLive then k else 0)
    (fun s => if s.portLive then s.modSys (fun y => { y with badCrc := satInc 255 y.badCrc }) else s)
    (fun t => if s.portLive then lateRise past (answer 4 unit (t.sys.epochs.getD unit 0) []) else [])

/-- A frame on the port. -/
def State.mgtFrame (s : State) (words : List Nat) (shifted latency : Nat) : Host.Outcome State Fault Refusal :=
  match arrival words with
  | .cut => s.mgtCut words.length
  | .badCrc u => s.mgtBad u (3 + (parseReq words).data.length) (pastWords words)
  | .good r => s.mgtRequest r (if r.write then pastWords words else shifted) latency

/-! ### The rows that are frames -/

/-- A read frame (R527). -/
def execMgtRead (words : List Nat) (shifted : Nat) (s : State) : Host.Outcome State Fault Refusal :=
  s.mgtFrame words shifted 0

/-- A write frame (R528). -/
def execMgtWrite (words : List Nat) (s : State) : Host.Outcome State Fault Refusal := s.mgtFrame words 0 0

/-- MGT_CS_N rises early (R529). -/
def execMgtFrameAbort (s : State) : Host.Outcome State Fault Refusal := s.mgtCut 0

/-- A frame to MEM.DATA0 onwards (R290). -/
def execMemDataAccess (words : List Nat) (shifted latency : Nat) (s : State) : Host.Outcome State Fault Refusal :=
  s.mgtFrame words shifted latency

/-- One register read, and cleared where its table says so. -/
def execClearOnRead (unit offset : Nat) (s : State) : Host.Outcome State Fault Refusal :=
  s.mgtRequest (hostRead unit offset 1) 1 0

/-- HK.RESx read, alone or with its tag (R478). -/
def execHkResultRead (resB withTag : Bool) (shifted : Nat) (s : State) : Host.Outcome State Fault Refusal :=
  let v := if resB then 0x00B else 0x009
  s.mgtRequest (if withTag then hostRead 5 (v - 1) 2 else hostRead 5 v 1) shifted 0

/-- The selected record read whole (R569). -/
def execFlogSelectedRead (s : State) : Host.Outcome State Fault Refusal := s.mgtRequest (hostRead 0 0x110 16) 16 0

/-- The acknowledged sequence written (R570). -/
def execFlogAck (seq epoch : Nat) (s : State) : Host.Outcome State Fault Refusal :=
  s.mgtRequest (hostWrite 0 0x106 [lo16 seq, hi16 seq] epoch) 0 0

/-- A host write of one word with a row of its own. -/
def State.oneWrite (s : State) (unit off w epoch : Nat) : Host.Outcome State Fault Refusal :=
  s.mgtRequest (hostWrite unit off [w] epoch) 0 0

/-- SYS.POWER.SLEEP = 1 (R83, R84). -/
def execSysPowerSleep (epoch : Nat) (s : State) : Host.Outcome State Fault Refusal := s.oneWrite 0 0x021 0x01 epoch

/-- SYS.POWER.OFF = 1 (R94). -/
def execSysPowerOff (epoch : Nat) (s : State) : Host.Outcome State Fault Refusal := s.oneWrite 0 0x021 0x02 epoch

/-- SYS.POWER.ERESET = 1 (R101, R113). -/
def execSysPowerEreset (epoch : Nat) (s : State) : Host.Outcome State Fault Refusal := s.oneWrite 0 0x021 0x04 epoch

/-- SYS.POWER.LRESET_x = 1 (R103, R106). -/
def execSysPowerLreset (l : Lane) (epoch : Nat) (s : State) : Host.Outcome State Fault Refusal :=
  s.oneWrite 0 0x021 (if l = .a then 0x08 else 0x10) epoch

/-- SYS.MODE.SERVICE (R109). -/
def execSysModeService (on : Bool) (epoch : Nat) (s : State) : Host.Outcome State Fault Refusal :=
  s.oneWrite 0 0x026 (flag on 3) epoch

/-- SYS.HALT.REQ = 1 (R543). -/
def execSysHaltReq (epoch : Nat) (s : State) : Host.Outcome State Fault Refusal := s.oneWrite 0 0x027 1 epoch

/-- SYS.HALT.REQ = 0 (R546). -/
def execHaltRelease (epoch : Nat) (s : State) : Host.Outcome State Fault Refusal := s.oneWrite 0 0x027 0 epoch

/-- HEAD.REQ.GO = 1, with or without ABORT (R124, R127). -/
def execHeadReqGo (l : Lane) (prog : Nat) (abort : Bool) (epoch : Nat) (s : State) : Host.Outcome State Fault Refusal :=
  s.oneWrite (headUnit l) 0x001 (prog % 16 + 16 + flag abort 5) epoch

/-- HEAD.REQ.ABORT = 1 (R129). -/
def execHeadReqAbort (l : Lane) (epoch : Nat) (s : State) : Host.Outcome State Fault Refusal :=
  s.oneWrite (headUnit l) 0x001 0x20 epoch

/-- CLK.CTRL.COMMIT = 1 (R143). -/
def execClkCtrlCommit (epoch : Nat) (s : State) : Host.Outcome State Fault Refusal := s.oneWrite 2 0x002 1 epoch

/-- PIX.CALCMD.SET with GO = 1 (R267). -/
def execPixCalcmdGo (l : Lane) (set epoch : Nat) (s : State) : Host.Outcome State Fault Refusal :=
  s.oneWrite (pixUnit l) 0x026 (set % 4 + 4) epoch

/-- MEM.TCTRL.GO = 1 with KIND = 0 (R110, R292). -/
def execTallyDestructiveGo (march epoch : Nat) (s : State) : Host.Outcome State Fault Refusal :=
  s.oneWrite 3 0x008 (1 + 4 * (march % 2)) epoch

/-- MEM.TCTRL.GO = 1 with KIND = 1 (R297). -/
def execTallyPreservingGo (march epoch : Nat) (s : State) : Host.Outcome State Fault Refusal :=
  s.oneWrite 3 0x008 (3 + 4 * (march % 2)) epoch

/-- TILL.CTRL.FLUSH = 1 (R323). -/
def execTillCtrlFlush (l : Lane) (epoch : Nat) (s : State) : Host.Outcome State Fault Refusal :=
  s.oneWrite (tillUnit l) 0x013 1 epoch

/-- LINK.CTRL.RETRAIN = 1 (Table 12.19). -/
def execLinkCtrlRetrain (l : Lane) (epoch : Nat) (s : State) : Host.Outcome State Fault Refusal :=
  s.oneWrite (tillUnit l) 0x053 1 epoch

/-- AXIS.MOVE_LO, MOVE_HI and MOVE with GO = 1, in one frame (R412). -/
def execAxisMoveGo (l : Lane) (steps : Int) (prof epoch : Nat) (s : State) : Host.Outcome State Fault Refusal :=
  s.mgtRequest (hostWrite (axisUnit l) 0x015 (leWords 2 (unsigned 32 steps) ++ [prof % 8 + 8]) epoch) 0 0

/-- AXIS.MOVE.STOP = 1 (R413); MOVE.PROF stays as it is. -/
def execAxisMoveStop (l : Lane) (epoch : Nat) (s : State) : Host.Outcome State Fault Refusal :=
  s.oneWrite (axisUnit l) 0x017 ((s.lane l).axis.moveProf % 8 + 16) epoch

/-- LUX.MCTRL.GO = 1 (R419). -/
def execLuxMctrlGo (epoch : Nat) (s : State) : Host.Outcome State Fault Refusal := s.oneWrite 6 0x128 1 epoch

/-- LUX.MCTRL.REARM = 1 (R456). -/
def execLuxMctrlRearm (epoch : Nat) (s : State) : Host.Outcome State Fault Refusal := s.oneWrite 6 0x128 2 epoch

/-- TMR.Tn_CMP (R497). -/
def execTmrCmpWrite (n value epoch : Nat) (s : State) : Host.Outcome State Fault Refusal :=
  s.oneWrite 4 (8 * n + 2) (value % 65536) epoch

/-- TMR.Tn_CTRL.LOAD = 1 (R498), EN as it is. -/
def execTmrCtrlLoad (n epoch : Nat) (s : State) : Host.Outcome State Fault Refusal :=
  s.oneWrite 4 (8 * n + 5) (2 + b2n (s.tmr.ts.getD n {}).en) epoch

/-- TMR.Tn_CTRL.EN (R498). -/
def execTmrCtrlEn (n : Nat) (en : Bool) (epoch : Nat) (s : State) : Host.Outcome State Fault Refusal :=
  s.oneWrite 4 (8 * n + 5) (b2n en) epoch

/-- TMR.GSTART.GO = 1 (R503). -/
def execTmrGstartGo (epoch : Nat) (s : State) : Host.Outcome State Fault Refusal := s.oneWrite 4 0x080 1 epoch

end Sys2Proof.Machine
end

