-- ==== Sys2Proof/Machine/PowerCmds.lean ====
section
/-!
DEFINITION. Commands and events of power states, starts, resets and power-downs (03, 06): the rows that the
supply, the control pins of J12 and the ends of sequence steps give.
-/

namespace Sys2Proof.Machine

/-! ### Supply -/

/-- Mains first applied at J1 in OFF (R73, R101). -/
def execMainsApplied (s : State) : Host.Outcome State Fault Refusal :=
  perform s fun s =>
    if s.power.phase = .off && !s.power.mains then (s.modPower (fun p => { p with mains := true })).startOne else s

/-- Mains back at J1: within a mains-loss power-down it is latched as an on request (R97). -/
def execMainsReturn (s : State) : Host.Outcome State Fault Refusal :=
  perform s fun s =>
    match s.power.phase with
    | .mainsLoss => s.modPower (fun p => { p with mains := true, onLatched := true })
    | .off => s
    | _ => s.modPower (fun p => { p with mains := true })

/-- The supply collapses with no power-down: OFF at once, an operation at U20 cut short (R71, R275). -/
def execUncontrolledSupplyLoss (s : State) : Host.Outcome State Fault Refusal :=
  perform s fun s => (s.cutFlash.blank).modPower (fun p => { p with mains := false })

/-! ### Bring-up -/

/-- A step of Table 3.2 ends (R73, R98). -/
def execBringupStepComplete (r : StepReport) (s : State) : Host.Outcome State Fault Refusal :=
  perform s fun s => if s.power.phase = .bringup && !s.clk.interval then s.bringupStep r else s

/-- A step of an engine reset ends: step 6 from the shadow, then 7, 8, 10, 11 and 12 (Table 3.9). -/
def execEngineReset (r : StepReport) (s : State) : Host.Outcome State Fault Refusal :=
  perform s fun s => if s.power.phase = .engineReset && !s.clk.interval then s.bringupStep r else s

/-- The crystal has not started 2.0 ms into step 2 (R168): recorded once, FAULT_N low while it lasts (R571). -/
def execXtalFail (s : State) : Host.Outcome State Fault Refusal :=
  perform s fun s =>
    if s.power.phase = .bringup && s.power.stage = 2 && !s.power.xtalHeld then
      (s.record 0x2001 4 s.safeBits).modPower (fun p => { p with xtalHeld := true })
    else s

/-! ### RESET_N (R80 to R82) -/

/-- RESET_N counts in the present phase (Table 3.8). -/
def State.resetCounts (s : State) : Bool :=
  match s.power.phase with
  | .off | .mainsLoss | .resetLow => false
  | .powerDown => decide (s.power.stage < 4)
  | _ => true

/-- A low level on RESET_N: its 10 µs count starts and nothing else happens (R82). -/
def execResetNFall (s : State) : Host.Outcome State Fault Refusal :=
  perform s fun s =>
    if s.resetCounts && !s.power.heldStep1 then s.modPower (fun p => { p with resetCount := true }) else s

/-- RESET_N low for 10 µs (R81): bring-up held before step 2 where step 1 runs, else crystal and PLL stop. -/
def execResetNConfirm (s : State) : Host.Outcome State Fault Refusal :=
  perform s fun s =>
    if !s.power.resetCount || !s.resetCounts then s.modPower (fun p => { p with resetCount := false })
    else if s.power.phase = .bringup && s.power.stage = 1 then
      s.modPower (fun p => { p with resetCount := false, heldStep1 := true })
    else s.toResetLow

/-- RESET_N returns high: bring-up goes on at step 2 after a confirmed reset (R80), else nothing happened. -/
def execResetNRelease (s : State) : Host.Outcome State Fault Refusal :=
  perform s fun s =>
    if s.power.phase = .resetLow then s.modPower (fun p => { p with phase := .bringup, stage := 2 })
    else if s.power.heldStep1 then
      s.modPower (fun p => { p with
        heldStep1 := false, stage := if p.phase = .bringup && p.stage = 1 && p.stepDone = 1 then 2 else p.stage })
    else s.modPower (fun p => { p with resetCount := false })

/-! ### WAKE, OFF_REQ and SLEEP_REQ (Table 3.8) -/

/-- A confirmed WAKE edge (R96, R97, R100). -/
def execWakeEdge (s : State) : Host.Outcome State Fault Refusal :=
  perform s fun s =>
    let pin := fun (s : State) => s.modPower (fun p => { p with wakePin := true })
    let latch := fun (s : State) => s.modPower (fun p => { p with onLatched := true })
    match s.power.phase with
    | .off => if s.power.mains then s.startOne else s
    | .sleep => if s.shadow.wakeHon then (pin s).beginWake else s
    | .sleepEntry => if s.shadow.wakeHon then pin (latch s) else s
    | .wake => if s.shadow.wakeHon && s.power.wakeTsc = s.tmr.tsc && s.power.wakeTimer then pin s else s
    | .powerDown => if s.power.stage ≤ 3 then s.cancelOff else latch s
    | .mainsLoss => latch s
    | _ => s

/-- A confirmed OFF_REQ edge (R94, R98, R100). In SLEEP it goes straight to D5 (DESIGN CHOICE, log 93). -/
def execOffReqEdge (s : State) : Host.Outcome State Fault Refusal :=
  perform s fun s =>
    match s.power.phase with
    | .run => (s.beginOff 1).modPower (fun p => { p with offEdge := some s.tmr.tsc })
    | .sleep =>
      s.modPower (fun p => { p with phase := .powerDown, stage := 5, served := false, offEdge := some s.tmr.tsc })
    | .bringup | .engineReset | .sleepEntry | .wake => s.modPower (fun p => { p with offLatched := true })
    | _ => s

/-- A rising SLEEP_REQ edge, which counts while SYSTEM flag [0] is set (R83, R84, R100). Beside an OFF_REQ edge of
the same cycle it is ignored (log 21). -/
def execSleepReqEdge (s : State) : Host.Outcome State Fault Refusal :=
  perform s fun s =>
    if !s.shadow.sleepHon then s
    else
      match s.power.phase with
      | .run | .mainsLoss => s.requestSleep
      | .powerDown => if s.power.offEdge = some s.tmr.tsc then s else s.requestSleep
      | _ => s

/-! ### Sleep and wake -/

/-- A stage of Table 3.4 ends; `entryUs` is the time since acceptance, for SYS.WAKE2 (R85). -/
def execSleepEntryStepDone (entryUs : Nat) (s : State) : Host.Outcome State Fault Refusal :=
  perform s fun s => if s.power.phase = .sleepEntry && !s.clk.interval then s.sleepStage entryUs else s

/-- A step of Table 3.5 ends (R88, R90, R91); the lock ends with its anchor edge, the reference interval being
over (R141). -/
def execWakeSequenceStepDone (r : StepReport) (s : State) : Host.Outcome State Fault Refusal :=
  perform s fun s => if s.power.phase = .wake && !s.clk.interval then s.wakeStage r else s

/-- The READY instant of a wake (R87, R89): READY rises, or the power-down that an OFF_REQ latched begins with the
lanes in IDLE, as a WAKE edge may cancel it (R96). -/
def execWakeReady (padUs : Nat) (late : Bool) (s : State) : Host.Outcome State Fault Refusal :=
  perform s fun s =>
    if s.power.phase != .wake || s.power.stage != 8 then s
    else
      let s := s.modPower (fun p => { p with padUs := if late then 0 else padUs % 8192 })
      let s := if late then s.note 0x0011 else s
      if s.power.offLatched then ((s.markAll).placeLanes ((List.range 16).drop 4)).beginOff 1
      else (s.markAll).goReady ((List.range 16).drop 4)

/-! ### Power-downs -/

/-- A phase of Table 3.7 ends; D3 ends only once the commit in progress has (R94). -/
def execPowerDownPhaseEnd (s : State) : Host.Outcome State Fault Refusal :=
  perform s fun s =>
    let held := s.power.offCancel || (s.power.stage = 3 && s.anyCommit)
    if s.power.phase != .powerDown || s.clk.interval || held then s else s.offPhase

/-- The power-fail warning (R182, R183): a mains-loss power-down begins, or supersedes an orderly one. -/
def execPfw (s : State) : Host.Outcome State Fault Refusal :=
  perform s fun s =>
    let gone := fun (s : State) => s.modPower (fun p => { p with mains := false })
    match s.power.phase with
    | .off | .mainsLoss => gone s
    | .powerDown => if 4 ≤ s.power.stage then gone s else s.beginPfw
    | _ => s.beginPfw

/-- A timed stage of Table 6.2 falls due (R183). -/
def execPfwStageDeadline (s : State) : Host.Outcome State Fault Refusal :=
  perform s fun s => if s.power.phase = .mainsLoss && !s.clk.interval then s.pfwStage else s

/-! ### Lane reset, supervision -/

/-- The grant of a coefficient load, where a waiting set has replaced its own (R274). -/
def noteLoad (s t : State) (l : Lane) (latency : Nat) : State :=
  if (s.lane l).next = (t.lane l).next then t else t.noteC1 latency

/-- A step of a lane reset ends (R103); it is held in a reference interval (R141). -/
def execLaneResetStepDone (l : Lane) (r : StepReport) (s : State) : Host.Outcome State Fault Refusal :=
  perform s fun s =>
    if (s.lane l).mode.reset != 0 && s.resettable && !s.sys.safe && !s.clk.interval then (noteLoad s (s.laneResetStep l r) l r.c1).haltSettle else s

/-- The sequencing machines run on a core clock (R555, log 30). -/
def State.supervised (s : State) : Bool := !s.sys.haltActive && !s.clk.interval && s.coreRuns

/-- A supervised machine misses its cycle (R555, R556); debug halt and reference intervals suspend this. After the
lights-off point the power-down goes on (log 30). -/
def execSeqWatchdog (machine : Nat) (s : State) : Host.Outcome State Fault Refusal :=
  perform s fun s =>
    if !s.supervised then s
    else if s.power.phase = .mainsLoss || (s.power.phase = .powerDown && decide (4 ≤ s.power.stage)) then
      s.record 0x0060 4 s.safeBits [machine]
    else s.fatal 0x0060 [machine]

end Sys2Proof.Machine
end

