-- ==== Sys2Proof/Machine/Dispatch.lean ====
section
/-!
DEFINITION. The meaning of every command: one direct call per constructor of `Instr`.
-/

namespace Sys2Proof.Machine

/-- A command's effect on everything but the queue. -/
def exec (i : Instr) (s : State) : Host.Outcome State Fault Refusal :=
  match i with
  | .mainsApplied => Sys2Proof.Machine.execMainsApplied s
  | .bringupStepComplete r => Sys2Proof.Machine.execBringupStepComplete r s
  | .xtalFail => Sys2Proof.Machine.execXtalFail s
  | .resetNFall => Sys2Proof.Machine.execResetNFall s
  | .resetNConfirm => Sys2Proof.Machine.execResetNConfirm s
  | .resetNRelease => Sys2Proof.Machine.execResetNRelease s
  | .wakeEdge => Sys2Proof.Machine.execWakeEdge s
  | .offReqEdge => Sys2Proof.Machine.execOffReqEdge s
  | .sleepReqEdge => Sys2Proof.Machine.execSleepReqEdge s
  | .sysPowerSleep epoch => Sys2Proof.Machine.execSysPowerSleep epoch s
  | .sysPowerOff epoch => Sys2Proof.Machine.execSysPowerOff epoch s
  | .sysPowerEreset epoch => Sys2Proof.Machine.execSysPowerEreset epoch s
  | .sysPowerLreset l epoch => Sys2Proof.Machine.execSysPowerLreset l epoch s
  | .sleepEntryStepDone entryUs => Sys2Proof.Machine.execSleepEntryStepDone entryUs s
  | .wakeSequenceStepDone r => Sys2Proof.Machine.execWakeSequenceStepDone r s
  | .wakeReady padUs late => Sys2Proof.Machine.execWakeReady padUs late s
  | .powerDownPhaseEnd => Sys2Proof.Machine.execPowerDownPhaseEnd s
  | .engineReset r => Sys2Proof.Machine.execEngineReset r s
  | .laneResetStepDone l r => Sys2Proof.Machine.execLaneResetStepDone l r s
  | .seqWatchdog machine => Sys2Proof.Machine.execSeqWatchdog machine s
  | .sysModeService on epoch => Sys2Proof.Machine.execSysModeService on epoch s
  | .sysHaltReq epoch => Sys2Proof.Machine.execSysHaltReq epoch s
  | .haltRelease epoch => Sys2Proof.Machine.execHaltRelease epoch s
  | .scanReqPin l prog stable abortHigh => Sys2Proof.Machine.execScanReqPin l prog stable abortHigh s
  | .headReqGo l prog abort epoch => Sys2Proof.Machine.execHeadReqGo l prog abort epoch s
  | .abortPin p => Sys2Proof.Machine.execAbortPin p s
  | .headReqAbort l epoch => Sys2Proof.Machine.execHeadReqAbort l epoch s
  | .lineStart l x => Sys2Proof.Machine.execLineStart l x s
  | .captureDecision l => Sys2Proof.Machine.execCaptureDecision l s
  | .runEndIdleEntry l => Sys2Proof.Machine.execRunEndIdleEntry l s
  | .clkCtrlCommit epoch => Sys2Proof.Machine.execClkCtrlCommit epoch s
  | .pllLock us => Sys2Proof.Machine.execPllLock us s
  | .pllLockTimeout => Sys2Proof.Machine.execPllLockTimeout s
  | .anchorEdge alignUs residualPs driftPpm10 => Sys2Proof.Machine.execAnchorEdge alignUs residualPs driftPpm10 s
  | .spreadPatternChange => Sys2Proof.Machine.execSpreadPatternChange s
  | .holdoverTrip driftPpm10 => Sys2Proof.Machine.execHoldoverTrip driftPpm10 s
  | .holdoverLineLimit l => Sys2Proof.Machine.execHoldoverLineLimit l s
  | .holdoverSwitch => Sys2Proof.Machine.execHoldoverSwitch s
  | .holdOverrun => Sys2Proof.Machine.execHoldOverrun s
  | .refLoss => Sys2Proof.Machine.execRefLoss s
  | .mainsPeriodEnd m => Sys2Proof.Machine.execMainsPeriodEnd m s
  | .pfw => Sys2Proof.Machine.execPfw s
  | .pfwStageDeadline => Sys2Proof.Machine.execPfwStageDeadline s
  | .outputFoldbackTimeout o => Sys2Proof.Machine.execOutputFoldbackTimeout o s
  | .busLow => Sys2Proof.Machine.execBusLow s
  | .portFaultDetected f => Sys2Proof.Machine.execPortFaultDetected f s
  | .lightBusCheck shorted => Sys2Proof.Machine.execLightBusCheck shorted s
  | .identReadDone l bytes thermOhm => Sys2Proof.Machine.execIdentReadDone l bytes thermOhm s
  | .flashOpDone ok => Sys2Proof.Machine.execFlashOpDone ok s
  | .flashOpTimeout ready => Sys2Proof.Machine.execFlashOpTimeout ready s
  | .calCommitStepDone k => Sys2Proof.Machine.execCalCommitStepDone k s
  | .pixCalcmdGo l set epoch => Sys2Proof.Machine.execPixCalcmdGo l set epoch s
  | .memDataAccess words shifted latency => Sys2Proof.Machine.execMemDataAccess words shifted latency s
  | .tallyDestructiveGo march epoch => Sys2Proof.Machine.execTallyDestructiveGo march epoch s
  | .tallyPreservingGo march epoch => Sys2Proof.Machine.execTallyPreservingGo march epoch s
  | .tallyRowDone failBanks failSpares badSets latency => Sys2Proof.Machine.execTallyRowDone failBanks failSpares badSets latency s
  | .tallyRetentionPauseEnd => Sys2Proof.Machine.execTallyRetentionPauseEnd s
  | .tallyRunEnd m c2 => Sys2Proof.Machine.execTallyRunEnd m c2 s
  | .tillLineDrainStart l d => Sys2Proof.Machine.execTillLineDrainStart l d s
  | .tillBurstFetch l written own others => Sys2Proof.Machine.execTillBurstFetch l written own others s
  | .tillTailTimeout l d => Sys2Proof.Machine.execTillTailTimeout l d s
  | .tillCtrlFlush l epoch => Sys2Proof.Machine.execTillCtrlFlush l epoch s
  | .tillEndDrainLimit l => Sys2Proof.Machine.execTillEndDrainLimit l s
  | .tillPtrMismatch l rptr wptr => Sys2Proof.Machine.execTillPtrMismatch l rptr wptr s
  | .linkDetectPoll l f0 f1 k => Sys2Proof.Machine.execLinkDetectPoll l f0 f1 k s
  | .orderedSetReceived l o => Sys2Proof.Machine.execOrderedSetReceived l o s
  | .linkTrainingTimeout l => Sys2Proof.Machine.execLinkTrainingTimeout l s
  | .linkRetryTimer l => Sys2Proof.Machine.execLinkRetryTimer l s
  | .credit l count free => Sys2Proof.Machine.execCredit l count free s
  | .magazineStatus l m => Sys2Proof.Machine.execMagazineStatus l m s
  | .resyncTimeout l => Sys2Proof.Machine.execResyncTimeout l s
  | .kSyncLoss l badGroups => Sys2Proof.Machine.execKSyncLoss l badGroups s
  | .creditTimeout l => Sys2Proof.Machine.execCreditTimeout l s
  | .statusTimeout l => Sys2Proof.Machine.execStatusTimeout l s
  | .returnFrameDiscarded l => Sys2Proof.Machine.execReturnFrameDiscarded l s
  | .linkAbort l => Sys2Proof.Machine.execLinkAbort l s
  | .linkCtrlRetrain l epoch => Sys2Proof.Machine.execLinkCtrlRetrain l epoch s
  | .engineStatusHeartbeat l => Sys2Proof.Machine.execEngineStatusHeartbeat l s
  | .dataFrameSend l => Sys2Proof.Machine.execDataFrameSend l s
  | .scanEnd l => Sys2Proof.Machine.execScanEnd l s
  | .stepIssue l enc latency => Sys2Proof.Machine.execStepIssue l enc latency s
  | .runCurrentTimeout l => Sys2Proof.Machine.execRunCurrentTimeout l s
  | .encoderIndex l count => Sys2Proof.Machine.execEncoderIndex l count s
  | .seamBackoffStart l => Sys2Proof.Machine.execSeamBackoffStart l s
  | .seamDwellEnd l => Sys2Proof.Machine.execSeamDwellEnd l s
  | .approachStart l => Sys2Proof.Machine.execApproachStart l s
  | .axisMoveGo l steps prof epoch => Sys2Proof.Machine.execAxisMoveGo l steps prof epoch s
  | .axisMoveStop l epoch => Sys2Proof.Machine.execAxisMoveStop l epoch s
  | .lightCommitSend party => Sys2Proof.Machine.execLightCommitSend party s
  | .lightCommitPoint party => Sys2Proof.Machine.execLightCommitPoint party s
  | .lightStatusReply addr body crc => Sys2Proof.Machine.execLightStatusReply addr body crc s
  | .lightIdentReply addr front payload crc => Sys2Proof.Machine.execLightIdentReply addr front payload crc s
  | .lightReplyMissed addr => Sys2Proof.Machine.execLightReplyMissed addr s
  | .lightPoll addr => Sys2Proof.Machine.execLightPoll addr s
  | .lightRebroadcast party => Sys2Proof.Machine.execLightRebroadcast party s
  | .headSilentTimeout addr => Sys2Proof.Machine.execHeadSilentTimeout addr s
  | .luxMctrlGo epoch => Sys2Proof.Machine.execLuxMctrlGo epoch s
  | .luxMctrlRearm epoch => Sys2Proof.Machine.execLuxMctrlRearm epoch s
  | .hkConversionEnd convB positive zMeas => Sys2Proof.Machine.execHkConversionEnd convB positive zMeas s
  | .hkSelfcheckEnd convB zero reference => Sys2Proof.Machine.execHkSelfcheckEnd convB zero reference s
  | .hkSelfcheckRetry convB => Sys2Proof.Machine.execHkSelfcheckRetry convB s
  | .hkResultRead resB withTag shifted => Sys2Proof.Machine.execHkResultRead resB withTag shifted s
  | .timerTick n => Sys2Proof.Machine.execTimerTick n s
  | .tmrCmpWrite n value epoch => Sys2Proof.Machine.execTmrCmpWrite n value epoch s
  | .tmrCtrlLoad n epoch => Sys2Proof.Machine.execTmrCtrlLoad n epoch s
  | .tmrCtrlEn n en epoch => Sys2Proof.Machine.execTmrCtrlEn n en epoch s
  | .tmrGstartGo epoch => Sys2Proof.Machine.execTmrGstartGo epoch s
  | .lfTick => Sys2Proof.Machine.execLfTick s
  | .incMeasureEnd edges => Sys2Proof.Machine.execIncMeasureEnd edges s
  | .lfTimeout => Sys2Proof.Machine.execLfTimeout s
  | .mgtRead words shifted => Sys2Proof.Machine.execMgtRead words shifted s
  | .mgtWrite words => Sys2Proof.Machine.execMgtWrite words s
  | .mgtFrameAbort => Sys2Proof.Machine.execMgtFrameAbort s
  | .clearOnRead unit offset => Sys2Proof.Machine.execClearOnRead unit offset s
  | .flogSelectedRead => Sys2Proof.Machine.execFlogSelectedRead s
  | .flogAck seq epoch => Sys2Proof.Machine.execFlogAck seq epoch s
  | .ringProgramStart => Sys2Proof.Machine.execRingProgramStart s
  | .logDropped => Sys2Proof.Machine.execLogDropped s
  | .mainsReturn => Sys2Proof.Machine.execMainsReturn s
  | .uncontrolledSupplyLoss => Sys2Proof.Machine.execUncontrolledSupplyLoss s

end Sys2Proof.Machine
end

