-- ==== Sys2Proof/Machine/Step.lean ====
section
/-!
DEFINITION. One step: the command at the front of the queue, or, with nothing waiting, one edge of the
25 MHz reference (assumption log 1).
-/

namespace Sys2Proof.Machine

/-- Take the command at the front of the queue; idle for one reference edge when there is none. -/
def step (s : State) : Host.Outcome State Fault Refusal :=
  match s.pending with
  | [] => idle s
  | c :: cs => exec c { s with pending := cs }

/-- The state with the command a table word spells put at the front of its queue; unchanged where the
word spells none. -/
def State.withFetchWord (s : State) (nbits w : Nat) : State :=
  match decodeTableWord nbits w with
  | some c => { s with pending := c :: s.pending }
  | none => s

end Sys2Proof.Machine
end

