-- ==== Sys2Proof/Safety.lean ====
section
/-!
DEFINITION. What counts as a settled state and as an untouched unit, in the terms the claims use.
-/

namespace Sys2Proof.Machine

/-- A step that neither faults nor is refused. -/
def Runs (o : Host.Outcome State Fault Refusal) : Prop := ∃ t, o = .next t

/-- What every command leaves behind it: FAULT_N and ATTN_N stand as R571 and R541 say, each of the sixteen
units has one epoch (R531), and no record and no epoch waits to be numbered. -/
abbrev State.Settled (s : State) : Prop :=
  s.sys.faultN = s.faultPin ∧ s.sys.attnN = s.attnPin ∧ s.sys.epochs.length = 16 ∧ s.sys.marks = []
    ∧ s.log.fresh = 0

/-- Both memories stand in their canonical form. -/
abbrev State.MemOk (s : State) : Prop :=
  Mem.wf memBlank s.bank = true ∧ Mem.wf flashBlank s.flash.cells = true

/-- The log after one more record, the store having room for it (R559, R562). -/
def LogSt.plus (g : LogSt) (r : FaultRec) : LogSt := { g with store := g.store ++ [r], newest := r.seq }

/-- The log store holds fewer than its 512 records (R562), so that a new one replaces none. -/
abbrev State.LogRoom (s : State) : Prop := s.log.store.length < 512

/-- The port answers a request OK (Table 17.4). -/
abbrev State.Accepts (s : State) (r : Req) : Prop := s.portLive = true ∧ s.status r = 0

/-- The response on the port is OK with data words, under the epoch its unit has now (Table 17.2). -/
def State.Replied (t : State) (r : Req) (data : List Nat) : Prop :=
  t.sys.response = answer 0 r.unit (t.sys.epochs.getD r.unit 0) data

/-- The parts of the engine's state that a frame names. -/
inductive Part where
  | power
  | pins
  | sys
  | log
  | flash
  | ledger
  | clk
  | pwr
  | hist
  | mem
  | bank
  | tmr
  | hk
  | lux
  | lane (l : Lane)
  | free
  deriving DecidableEq, Repr

/-- Link figures of a lane that an owed engine STATUS changes after any command (R354): the frames on the
wire, their sequence number, and the note of the STATUS. -/
def LinkRun.bare (r : LinkRun) : LinkRun :=
  { r with tx := [], seqNo := 0, statusDue := false, told := none, statusTsc := 0 }

def LaneSt.bare (x : LaneSt) : LaneSt := { x with lrun := x.lrun.bare }

/-- SYS fields but for what follows from other changes in every cycle: epochs (R531), event bits (Table
17.11), the two pins (R571, R541), and the response on the port (R25). -/
def SysSt.bare (y : SysSt) : SysSt :=
  { y with epochs := [], marks := [], events := 0, faultN := true, attnN := true, response := [], lead := [], apert := none }

/-- A part reads after a command as it read before. -/
def Part.same (s t : State) : Part → Prop
  | .power => t.power = s.power
  | .pins => t.pins = s.pins
  | .sys => t.sys.bare = s.sys.bare
  | .log => t.log = s.log
  | .flash => t.flash = s.flash
  | .ledger => t.ledger = s.ledger ∧ t.shadow = s.shadow
  | .clk => t.clk = s.clk
  | .pwr => t.pwr = s.pwr
  | .hist => t.hist = s.hist
  | .mem => t.mem = s.mem
  | .bank => t.bank = s.bank
  | .tmr => t.tmr = s.tmr
  | .hk => t.hk = s.hk
  | .lux => t.lux = { s.lux with bus := [] }
  | .lane l => (t.lane l).bare = (s.lane l).bare
  | .free => t.free = s.free

/-- The frame of a command: every part but the named ones reads as before, every byte of both memories
among them; the build and the queue are never touched. -/
def Frame (touched : List Part) (s t : State) : Prop :=
  t.twoLanes = s.twoLanes ∧ t.pending = s.pending ∧ ∀ p, p ∉ touched → Part.same s t p

end Sys2Proof.Machine
end

