-- ==== Sys2Proof/Certificates/Slice0/Obligations.lean ====
section
/-!
DEFINITION. The statements for the provers: what every step keeps, and for each command the state it leads to and
what it leaves alone. A statement rests on the rules of spec/ that OBLIGATIONS.json cites for it.
-/

open Sys2Proof Sys2Proof.Machine

/-! ### The machine: steps, the invariant, the memories -/

/-- The command at the front of the queue is what a step runs, on the state with the rest of the queue. -/
def Obligations.StepRunsFrontCommand : Prop :=
  ∀ (c : Instr) (cs : List Instr) (s : State), s.pending = c :: cs → step s = exec c { s with pending := cs }

/-- With nothing waiting a step is one reference edge, the model's own choice (log 1): the TSC advances by 1
modulo 2^48 while it counts reference edges (R510), and nothing else changes but the housekeeping converters where a
paired HKB starts its slot, half of HKA's window after HKA did (R471, log 118). -/
def Obligations.IdleStepIsOneReferenceEdge : Prop :=
  (∀ s : State, s.pending = [] → s.refTick.lagDue = false →
    (s.tmr.counting = true →
      step s = .next { s with tmr := { s.tmr with tsc := (s.tmr.tsc + 1) % 2 ^ 48 } })
    ∧ (s.tmr.counting = false → step s = .next s))
  ∧ ∀ s : State, s.Settled → s.pending = [] → s.tmr.counting = true → s.refTick.lagDue = true →
    s.hk.b.failed = false → s.pwr.pfw = false → (∀ n, n < 24 → (s.hkChan n).fault = false) → ∃ t, step s = .next t ∧ t.tmr.tsc = (s.tmr.tsc + 1) % 2 ^ 48
      ∧ t.hk.lag = none ∧ t.hk.b.running = true ∧ t.hk.b.slot = s.hk.a.slot ∧ t.hk.b.start = t.tmr.tsc
      ∧ t.hk.a = s.hk.a ∧ t.hk.ch = s.hk.ch ∧ Frame [.tmr, .hk] s t

/-- After reset the engine is in OFF: nothing is powered, retained or shown, no mains is applied, and no command
waits (Table 3.1). That FAULT_N is high in OFF is log 80, what no table gives a value is log 4, and that the banked memory
lists nothing is log 5: the model's own. The invariants hold: the state is settled, both memories in canonical form. -/
def Obligations.ResetIsOffAndSettled : Prop :=
  (State.reset.power.phase = .off ∧ State.reset.power.mains = false ∧ State.reset.pending = []
    ∧ (∀ o, State.reset.outOn o = false) ∧ State.reset.sys.ready = false ∧ State.reset.sys.faultN = true
    ∧ State.reset.sys.attnN = true ∧ State.reset.log.store = [] ∧ State.reset.bank = []
    ∧ (∀ l, (State.reset.lane l).mode.mode = .none ∧ (State.reset.lane l).head.supply = false
        ∧ (State.reset.lane l).arun.energised = false ∧ (State.reset.lane l).link.st = .down)
    ∧ (∀ n, (State.reset.lux.ch.getD n {}).drive = 0) ∧ State.reset.clk.locked = false
    ∧ State.reset.tmr.counting = false)
  ∧ (State.reset.Settled ∧ State.reset.MemOk)

/-- Every step keeps the engine settled: the pins stand as R571 and R541 say, each of the sixteen units has one
epoch (R531), and no epoch and no record waits to be numbered (R553). -/
def Obligations.StepKeepsEngineSettled : Prop :=
  ∀ s t : State, s.Settled → step s = .next t → t.Settled

/-- Every step keeps both memories, the banked memory and U20, in their canonical form. -/
def Obligations.StepKeepsMemoriesCanonical : Prop :=
  ∀ s t : State, s.MemOk → step s = .next t → t.MemOk

/-- Every command has a next state in every state, well formed or not; that state is settled, and neither the build
nor the queue has changed. -/
def Obligations.EveryCommandCompletes : Prop :=
  ∀ (c : Instr) (s : State), ∃ t, exec c s = .next t ∧ t.Settled ∧ t.twoLanes = s.twoLanes ∧ t.pending = s.pending

/-- The pins after every command. FAULT_N of a powered engine (R571): low exactly while the engine is in SAFE, bring-up
is held by the crystal (R168), a lane is tripped, or the store holds an unacknowledged record of class LANE-ABORT (2) or
above; SLEEP, whose level R86 fixes, is left out. ATTN_N (R541): low exactly while READY is high and EVENTS AND ATTN_MASK
is nonzero. -/
def Obligations.InterruptPinsFollowTheirCauses : Prop :=
  (∀ (c : Instr) (s t : State), exec c s = .next t → t.power.phase ≠ .off → t.power.phase ≠ .sleep →
    (t.sys.faultN = false ↔ (t.sys.safe = true ∨ t.power.xtalHeld = true ∨ t.laneA.mode.trip = true
      ∨ t.laneB.mode.trip = true ∨ ∃ r ∈ t.log.store, 2 ≤ r.cls ∧ later r.seq t.log.ack = true)))
  ∧ ∀ (c : Instr) (s t : State), exec c s = .next t →
    (t.sys.attnN = false ↔ (t.sys.ready = true ∧ t.sys.events &&& t.sys.mask ≠ 0))

/-- Bytes written into a memory in canonical form read back, every other byte reads as before, and the form stays;
and two canonical memories that read alike everywhere are equal data. -/
def Obligations.MemoryReadsBackAndIsCanonical : Prop :=
  (∀ (d : Byte) (m : Mem) (a : Nat) (bs : List Byte), Mem.wf d m = true →
    Mem.wf d (Mem.write d m a bs) = true ∧ Mem.read d (Mem.write d m a bs) a bs.length = bs
      ∧ ∀ k, k < a ∨ a + bs.length ≤ k → Mem.get d (Mem.write d m a bs) k = Mem.get d m k)
  ∧ (∀ (d : Byte) (m n : Mem), Mem.wf d m = true → Mem.wf d n = true → (∀ k, Mem.get d m k = Mem.get d n k) → m = n)

/-! ### Supply, starts and resets (03) -/

/-- Mains applied in OFF starts the engine from step 1 (R101, Table 3.9): everything but U20, mains, the levels of the
pins and the free counter stands as after reset. Mains back within a mains-loss power-down is latched as an on request
(R97); elsewhere, as log 22 reads it, it only counts as present, and nothing else changes. The supply lost with no
power-down, in any state: nothing is retained (Table 3.1) but U20, where only the bytes that an operation in progress
works on may have changed (R275). -/
def Obligations.MainsAppliedReturnedAndLost : Prop :=
  (∀ s : State, s.power.phase = .off → s.power.mains = false → ∃ t, exec .mainsApplied s = .next t
    ∧ t.power = { mains := true, phase := .bringup, stage := 1, startCause := 1, fromStep1 := true }
    ∧ t.flash = { cells := s.flash.cells, dev := s.flash.dev } ∧ t.free = s.free
    ∧ t.pins = s.pins ∧ t.twoLanes = s.twoLanes ∧ t.pending = s.pending
    ∧ ∀ p, p ∉ [Part.power, .pins, .flash, .free] → Part.same State.reset t p)
  ∧ (∀ s : State, s.Settled → s.power.phase = .mainsLoss → ∃ t, exec .mainsReturn s = .next t
    ∧ t.power = { s.power with mains := true, onLatched := true } ∧ Frame [.power] s t)
  ∧ (∀ s : State, s.Settled → s.power.phase ≠ .mainsLoss → s.power.phase ≠ .off → ∃ t, exec .mainsReturn s = .next t
    ∧ t.power = { s.power with mains := true } ∧ Frame [.power] s t)
  ∧ ∀ s : State, ∃ t, exec .uncontrolledSupplyLoss s = .next t ∧ t.power = {} ∧ t.flash.op = none
    ∧ t.flash.dev = s.flash.dev ∧ t.twoLanes = s.twoLanes ∧ t.pending = s.pending
    ∧ (∀ p, p ∉ [Part.power, .pins, .flash, .free] → Part.same State.reset t p)
    ∧ (s.flash.op = none → t.flash.cells = s.flash.cells ∧ t.free = s.free)
    ∧ ∀ op, s.flash.op = some op → ∀ a,
        (a < op.addr ∨ op.addr + (if op.program then op.data.length else 4096) ≤ a) →
        Mem.get flashBlank t.flash.cells a = Mem.get flashBlank s.flash.cells a

/-- Bring-up goes step by step (R73): the end of step 1 begins step 2, that of step 3 leaves the PLL locked at f_core
code 2, and nothing else changes. A crystal that has not started at the end of step 2's 2.0 ms (R168) is recorded once,
as class ENGINE-SAFE, and FAULT_N goes low (R571). Step 12 raises READY (R79): after a full start with its duration shown,
and after an engine reset (Table 3.9); every configured lane is then in IDLE, and no timer of the engine is held. -/
def Obligations.BringupStepsCrystalAndReady : Prop :=
  (∀ (r : StepReport) (s : State), s.Settled → s.power.phase = .bringup → s.power.stage = 1 → s.clk.interval = false →
    s.power.heldStep1 = false → s.power.offLatched = false → ∃ t, exec (.bringupStepComplete r) s = .next t
      ∧ t.power = { s.power with stage := 2, stepDone := 1 } ∧ Frame [.power] s t)
  ∧ (∀ (r : StepReport) (s : State), s.Settled → s.power.phase = .bringup → s.power.stage = 3 → s.clk.interval = false →
    s.power.offLatched = false → ∃ t, exec (.bringupStepComplete r) s = .next t
      ∧ t.power = { s.power with stage := 4, stepDone := 3 }
      ∧ t.clk = { s.clk with locked := true, fcode := 2, attempts := 0 } ∧ Frame [.power, .clk] s t)
  ∧ (∀ s : State, s.Settled → s.LogRoom → s.power.phase = .bringup → s.power.stage = 2 → s.power.xtalHeld = false →
    ∃ t, exec .xtalFail s = .next t ∧ t.power = { s.power with xtalHeld := true }
      ∧ t.log = s.log.plus (s.mkRec 0x2001 4 s.safeBits []) ∧ t.sys.faultN = false ∧ Frame [.power, .log] s t)
  ∧ (∀ (r : StepReport) (s : State), s.power.stage = 12 → s.power.offLatched = false → s.clk.interval = false →
    s.power.phase = .bringup → ∃ t, exec (.bringupStepComplete r) s = .next t
      ∧ t.power = { s.power with phase := .run, stage := 0, stepDone := 12, bringMs := min 4095 r.elapsedMs }
      ∧ t.sys.ready = true ∧ (∀ l, s.configured l = true → (t.lane l).mode.mode = .idle)
      ∧ ∀ n, n < 16 → (t.tmr.ts.getD n { held := false }).held = false)
  ∧ ∀ (r : StepReport) (s : State), s.power.stage = 12 → s.power.offLatched = false → s.clk.interval = false →
    s.power.phase = .engineReset → ∃ t, exec (.engineReset r) s = .next t
      ∧ t.power = { s.power with phase := .run, stage := 0, stepDone := 12 }
      ∧ t.sys.ready = true ∧ (∀ l, s.configured l = true → (t.lane l).mode.mode = .idle)
      ∧ ∀ n, n < 16 → (t.tmr.ts.getD n { held := false }).held = false

/-- The end of bring-up step 4 (R43 to R60, R594): a U20 that fails its checks, no usable copy, and a copy that a load
check finds wrong each end the start in SAFE, the shadow left as it was; a copy against which nothing stands becomes the
shadow, field by field as Tables 2.6 to 2.9 lay it out, with PROGOK by the program checks. Of two copies with valid
headers the later is taken (R49), and where its structure fails and fallback is allowed the other. Step 6 applies the
shadow's sections: attention mask, head trims, axis currents, housekeeping windows, timers, AUX_3V3 and f_core; of each
configured lane's calibration sets one without a valid slot is absent, and one loaded is that of its valid slot with the
later sequence, X where neither is later (R63, R64); and that slot's set is present unless its header does not fit its
place or its size the head (R256), or it holds a run of more than 16 marked pixels (R235); R91 checks sets at no full
start. -/
def Obligations.LedgerCopyBecomesTheShadow : Prop :=
  (∀ (r : StepReport) (s : State), s.power.phase = .bringup → s.power.stage = 4 → s.power.offLatched = false →
    s.clk.interval = false → (s.flash.dev.sfdp && s.flash.dev.conforms) = false →
    ∃ t, exec (.bringupStepComplete r) s = .next t ∧ t.sys.safe = true ∧ t.sys.faultN = false
      ∧ t.ledger.verdictSafe = true ∧ t.ledger.flashOk = false ∧ t.shadow = s.shadow)
  ∧ (∀ (r : StepReport) (s : State), s.power.phase = .bringup → s.power.stage = 4 → s.power.offLatched = false →
    s.clk.interval = false → s.flash.dev.sfdp = true → s.flash.dev.conforms = true →
    (pickCopy s.flash.cells (chooseDesc s.flash.cells).2.1 (chooseDesc s.flash.cells).2.2).slot = none →
    ∃ t, exec (.bringupStepComplete r) s = .next t ∧ t.sys.safe = true ∧ t.sys.faultN = false
      ∧ t.ledger.verdictSafe = true ∧ t.ledger.flashOk = true ∧ t.shadow = s.shadow)
  ∧ (∀ (r : StepReport) (k : Nat) (h : List Nat) (ss : List Sect) (s : State), s.power.phase = .bringup →
    s.power.stage = 4 → s.power.offLatched = false → s.clk.interval = false → s.flash.dev.sfdp = true →
    s.flash.dev.conforms = true →
    (pickCopy s.flash.cells (chooseDesc s.flash.cells).2.1 (chooseDesc s.flash.cells).2.2).slot = some k →
    h = Mem.flash s.flash.cells (copyBase k) 64 → ss = copySects s.flash.cells k →
    (judge s.twoLanes ss (readLedger s.twoLanes (u32 h 8) (u32 h 12) ss)).safes = [] →
    ∃ t, exec (.bringupStepComplete r) s = .next t ∧ t.power.stage = 5 ∧ t.power.stepDone = 4
      ∧ t.sys.safe = s.sys.safe ∧ t.ledger.copy = k ∧ t.ledger.seq = u32 h 8 ∧ t.ledger.laneACfg = true
      ∧ t.shadow = readLedger s.twoLanes (u32 h 8) (u32 h 12) ss
      ∧ t.ledger.progOk = (judge s.twoLanes ss t.shadow).progOk
      ∧ t.shadow.fcode = u8 (bodyOf (sectsUsed s.twoLanes ss) 0x2001) 0
      ∧ t.shadow.spread = u8 (bodyOf (sectsUsed s.twoLanes ss) 0x2001) 1
      ∧ t.shadow.tmod = u32 (bodyOf (sectsUsed s.twoLanes ss) 0x2001) 4
      ∧ t.shadow.wakeHon = bit (u16 (bodyOf (sectsUsed s.twoLanes ss) 0x0804) 2) 1
      ∧ t.shadow.laneA.till.window = u8 (bodyOf (sectsUsed s.twoLanes ss) 0xA001) 1
      ∧ (∀ w, w < 16 → (t.shadow.windows.getD w {}).len = u32 (bodyOf (sectsUsed s.twoLanes ss) 0x3001) (12 * w + 4))
      ∧ ∀ i p, t.shadow.programs[i]? = some p → i < u8 (bodyOf (sectsUsed s.twoLanes ss) 0x7001) 0
        ∧ p.num = u8 (bodyOf (sectsUsed s.twoLanes ss) 0x7001) (4 + 96 * i)
        ∧ p.mode = u8 (bodyOf (sectsUsed s.twoLanes ss) 0x7001) (5 + 96 * i)
        ∧ p.period = u32 (bodyOf (sectsUsed s.twoLanes ss) 0x7001) (24 + 96 * i))
  ∧ (∀ (r : StepReport) (k : Nat) (h : List Nat) (ss : List Sect) (s : State), s.power.phase = .bringup →
    s.power.stage = 4 → s.power.offLatched = false → s.clk.interval = false → s.flash.dev.sfdp = true →
    s.flash.dev.conforms = true →
    (pickCopy s.flash.cells (chooseDesc s.flash.cells).2.1 (chooseDesc s.flash.cells).2.2).slot = some k →
    h = Mem.flash s.flash.cells (copyBase k) 64 → ss = copySects s.flash.cells k →
    (judge s.twoLanes ss (readLedger s.twoLanes (u32 h 8) (u32 h 12) ss)).safes ≠ [] →
    ∃ t, exec (.bringupStepComplete r) s = .next t ∧ t.sys.safe = true ∧ t.sys.faultN = false
      ∧ t.ledger.verdictSafe = true ∧ t.ledger.copy = k ∧ t.ledger.laneACfg = false ∧ t.shadow = s.shadow)
  ∧ (∀ (r : StepReport) (k : Nat) (h : Nat → List Nat) (s : State), s.power.phase = .bringup → s.power.stage = 4 →
    s.power.offLatched = false → s.clk.interval = false → s.flash.dev.sfdp = true → s.flash.dev.conforms = true →
    k < 2 → (chooseDesc s.flash.cells).2.2 = none → (∀ j, h j = Mem.flash s.flash.cells (copyBase j) 64) →
    headerOk (h 0) = true → headerOk (h 1) = true → copyBlank s.flash.cells 0 = false → copyBlank s.flash.cells 1 = false →
    later (u32 (h k) 8) (u32 (h (1 - k)) 8) = true → copyReason s.flash.cells k = 0 →
    ∃ t, exec (.bringupStepComplete r) s = .next t ∧ t.ledger.copy = k ∧ t.ledger.fallback = false)
  ∧ (∀ (r : StepReport) (k : Nat) (h : Nat → List Nat) (s : State), s.power.phase = .bringup → s.power.stage = 4 →
    s.power.offLatched = false → s.clk.interval = false → s.flash.dev.sfdp = true → s.flash.dev.conforms = true →
    k < 2 → (chooseDesc s.flash.cells).2 = (true, none) → (∀ j, h j = Mem.flash s.flash.cells (copyBase j) 64) →
    headerOk (h 0) = true → headerOk (h 1) = true → copyBlank s.flash.cells 0 = false → copyBlank s.flash.cells 1 = false →
    later (u32 (h k) 8) (u32 (h (1 - k)) 8) = true → copyReason s.flash.cells k ≠ 0 →
    copyReason s.flash.cells (1 - k) = 0 →
    ∃ t, exec (.bringupStepComplete r) s = .next t ∧ t.ledger.copy = 1 - k ∧ t.ledger.fallback = true)
  ∧ ∀ (r : StepReport) (s : State), s.power.phase = .bringup → s.power.stage = 6 → s.power.offLatched = false →
    s.clk.interval = false → s.mem.unrep = [] → s.tmr.ts.length = 16 → s.hk.ch.length = 24 →
    ∃ t, exec (.bringupStepComplete r) s = .next t ∧ t.power.stage = 7 ∧ t.power.stepDone = 6
      ∧ t.sys.mask = s.shadow.attnMask ∧ t.mem.march = s.shadow.march ∧ t.clk.fcode = s.shadow.fcode
      ∧ t.clk.nextF = s.shadow.fcode ∧ t.outOn .aux = (s.shadow.auxOn && decide (4 < s.pwr.on.length))
      ∧ (∀ l, (t.lane l).head.gains = (s.img l).head.chans.map HeadChan.gain
        ∧ (t.lane l).head.offsets = (s.img l).head.chans.map HeadChan.offset
        ∧ (t.lane l).axis.runMa = (s.img l).axis.runMa ∧ (t.lane l).axis.holdMa = (s.img l).axis.holdMa)
      ∧ (∀ n, n < 24 → (t.hkChan n).wlo = (s.hkRec n).winLow ∧ (t.hkChan n).whi = (s.hkRec n).winHigh)
      ∧ (∀ n, n < 16 → (t.tmr.ts.getD n {}).rld = (s.timerRec n).reload ∧ (t.tmr.ts.getD n {}).cmp = (s.timerRec n).compare
        ∧ (t.tmr.ts.getD n {}).cnt = (s.timerRec n).reload ∧ (t.tmr.ts.getD n {}).held = true)
      ∧ ∀ (l : Lane) (k : Nat) (c : CalSet), s.configured l = true → k < 4 → (s.lane l).sets.length = 4 →
        c = (t.lane l).sets.getD k {} →
        (slotSeq s.flash.cells l k false = none → slotSeq s.flash.cells l k true = none → c.present = false)
        ∧ (c.present = true → slotSeq s.flash.cells l k c.slotY = some c.seq
          ∧ (slotSeq s.flash.cells l k (!c.slotY)).all (fun q => if c.slotY then later c.seq q else !later q c.seq) = true)
        ∧ ∀ (y : Bool) (q : Nat), slotSeq s.flash.cells l k y = some q →
          (slotSeq s.flash.cells l k (!y)).all (fun p => if y then later q p else !later p q) = true →
          Mem.flash s.flash.cells (slotAddr l k y + 0x100) 2 = [laneNo l, k] →
          (slotContent s.flash.cells l k y).taps = (s.img l).head.taps →
          (slotContent s.flash.cells l k y).active = (s.img l).head.active →
          ((slotContent s.flash.cells l k y).gain = false
            ∨ longTap (slotContent s.flash.cells l k y) (slotShading s.flash.cells l k y) = none) →
          c.present = true ∧ c.slotY = y ∧ c.seq = q

/-- RESET_N (R80 to R82): a low level starts the 10 µs count and does nothing else; released before its
confirmation, it has had no effect; confirmed, it leaves the log store and the TSC and nothing else of what was
powered; released after that, bring-up begins at step 2. -/
def Obligations.ResetPinCountsConfirmsAndReleases : Prop :=
  (∀ s : State, s.Settled → s.resetCounts = true → s.power.heldStep1 = false → ∃ t, exec .resetNFall s = .next t
    ∧ t.power = { s.power with resetCount := true } ∧ Frame [.power] s t)
  ∧ (∀ s : State, s.Settled → s.power.phase ≠ .resetLow → s.power.heldStep1 = false →
    ∃ t, exec .resetNRelease s = .next t ∧ t.power = { s.power with resetCount := false } ∧ Frame [.power] s t)
  ∧ (∀ s : State, s.Settled → s.resetCounts = true → s.power.resetCount = true →
    ¬(s.power.phase = .bringup ∧ s.power.stage = 1) → ∃ t, exec .resetNConfirm s = .next t
      ∧ t.power = { mains := s.power.mains, phase := .resetLow, startCause := 3 }
      ∧ t.log.store = s.log.store ∧ t.log.newest = s.log.newest ∧ t.log.ack = s.log.ack ∧ t.tmr.tsc = s.tmr.tsc
      ∧ t.twoLanes = s.twoLanes ∧ t.pending = s.pending
      ∧ ∀ p, p ∉ [Part.power, .pins, .log, .tmr, .flash, .free] → Part.same State.reset t p)
  ∧ ∀ s : State, s.Settled → s.power.phase = .resetLow → ∃ t, exec .resetNRelease s = .next t
    ∧ t.power = { s.power with phase := .bringup, stage := 2 } ∧ Frame [.power] s t

/-- WAKE, OFF_REQ and SLEEP_REQ edges by phase (Table 3.8): WAKE in OFF starts from step 1, in SLEEP begins the wake,
and before the lights-off point of an orderly power-down cancels it, the engine in RUN once every lane is in IDLE
(R96; that it stands noted until then, and that SAFE counts as at rest, is log 24); OFF_REQ in SLEEP leads to OFF by
phase D5 (log 93) and is latched in bring-up, sleep entry, the wake and, as log 21 reads Table 3.8, an engine reset; in
RUN it begins phase D1 with READY low (R94), a SLEEP_REQ edge of its cycle having no effect (R100). -/
def Obligations.WakeAndOffEdgesByPhase : Prop :=
  (∀ s : State, s.power.phase = .off → s.power.mains = true → ∃ t, exec .wakeEdge s = .next t
    ∧ t.power = { mains := true, phase := .bringup, stage := 1, startCause := 1, fromStep1 := true }
    ∧ ∀ p, p ∉ [Part.power, .pins, .flash, .free] → Part.same State.reset t p)
  ∧ (∀ s : State, s.Settled → s.power.phase = .sleep → s.shadow.wakeHon = true → ∃ t, exec .wakeEdge s = .next t
    ∧ t.power = { s.power with phase := .wake, stage := 0, wakePin := true, onLatched := false, wakeTsc := s.tmr.tsc }
    ∧ Frame [.power] s t)
  ∧ (∀ s : State, s.Settled → s.power.phase = .powerDown → s.power.stage ≤ 3 →
    (∀ l, s.configured l = true → s.sys.safe = true ∨ (s.lane l).mode.mode = .idle) → ∃ t, exec .wakeEdge s = .next t
    ∧ t.power = { s.power with phase := .run, stage := 0, offSource := 0, offCancel := false, offEdge := none }
    ∧ t.sys.bare = { s.sys with ready := !s.sys.safe }.bare
    ∧ (∀ l, (t.lane l).bare =
        if (s.lane l).link.st = LinkState.down ∧ s.sys.safe = false ∧ s.outOn (magOut l) = true ∧ s.configured l = true
          ∧ bit (s.wiring l) 4 = false then { s.lane l with link := { (s.lane l).link with st := .detect } }.bare
        else (s.lane l).bare)
    ∧ Frame [.power, .sys, .lane .a, .lane .b] s t)
  ∧ (∀ (l : Lane) (s : State), s.Settled → s.power.phase = .powerDown → s.power.stage ≤ 3 → s.sys.safe = false →
    s.configured l = true → (s.lane l).mode.mode ≠ .idle → ∃ t, exec .wakeEdge s = .next t
    ∧ t.power = { s.power with offCancel := true, offSource := 0, offEdge := none } ∧ Frame [.power] s t)
  ∧ (∀ s : State, s.Settled → s.power.phase = .sleep → ∃ t, exec .offReqEdge s = .next t
    ∧ t.power = { s.power with phase := .powerDown, stage := 5, served := false, offEdge := some s.tmr.tsc }
    ∧ Frame [.power] s t)
  ∧ (∀ s : State, s.Settled → s.power.phase ∈ [Phase.bringup, .engineReset, .sleepEntry, .wake] →
    ∃ t, exec .offReqEdge s = .next t ∧ t.power = { s.power with offLatched := true } ∧ Frame [.power] s t)
  ∧ (∀ s : State, s.power.phase = .run → ∃ t, exec .offReqEdge s = .next t
    ∧ t.power = { s.power with
        phase := .powerDown, stage := 1, offSource := 1, offLatched := false, served := s.serving, offEdge := some s.tmr.tsc }
    ∧ t.sys.ready = false ∧ t.sys.haltReq = false ∧ t.sys.haltActive = false)
  ∧ ∀ s : State, s.Settled → s.power.phase = .powerDown → s.power.offEdge = some s.tmr.tsc →
    ∃ t, exec .sleepReqEdge s = .next t ∧ Frame [] s t

/-- A sleep request, by pin or by host (R83 to R86): with every condition met, sleep entry begins with READY low and
no lane in a mode; otherwise the refusal is shown in SYS.STATE and recorded as 0x0014 with its reason. -/
def Obligations.SleepRequestEntersOrIsRefused : Prop :=
  (∀ s : State, s.Settled → s.shadow.sleepHon = true → s.power.phase = .run → s.sleepReason = 0 →
    (∀ l, (s.lane l).arun.motion = none) → ∃ t, exec .sleepReqEdge s = .next t
      ∧ t.power = { s.power with phase := .sleepEntry, stage := 0, wakePin := false, wakeTimer := false, wakeTmr := 0 }
      ∧ t.sys.ready = false ∧ (∀ l, (t.lane l).mode.mode = .none)
      ∧ Frame [.power, .sys, .lux, .lane .a, .lane .b] s t)
  ∧ (∀ (e : Nat) (s : State), s.Settled → s.Accepts (hostWrite 0 0x021 [1] e) → s.power.phase = .run →
    s.sleepReason = 0 → (∀ l, (s.lane l).arun.motion = none) → ∃ t, exec (.sysPowerSleep e) s = .next t
      ∧ t.power = { s.power with phase := .sleepEntry, stage := 0, wakePin := false, wakeTimer := false, wakeTmr := 0 }
      ∧ t.sys.ready = false ∧ (∀ l, (t.lane l).mode.mode = .none) ∧ t.Replied (hostWrite 0 0x021 [1] e) []
      ∧ Frame [.power, .sys, .lux, .lane .a, .lane .b] s t)
  ∧ (∀ s : State, s.Settled → s.LogRoom → s.shadow.sleepHon = true → s.power.phase = .run → s.sleepReason ≠ 0 →
    ∃ t, exec .sleepReqEdge s = .next t ∧ t.power = { s.power with sleepRefuse := s.sleepReason }
      ∧ t.log = s.log.plus (s.mkRec 0x0014 0 0 [s.sleepReason]) ∧ Frame [.power, .log] s t)
  ∧ ∀ (e : Nat) (s : State), s.Settled → s.LogRoom → s.Accepts (hostWrite 0 0x021 [1] e) → s.sleepReason ≠ 0 →
    ∃ t, exec (.sysPowerSleep e) s = .next t ∧ t.power = { s.power with sleepRefuse := s.sleepReason }
      ∧ t.log = s.log.plus (s.mkRec 0x0014 0 0 [s.sleepReason]) ∧ t.Replied (hostWrite 0 0x021 [1] e) []
      ∧ Frame [.power, .log] s t

/-- The host's power commands (R94, R101, R103): OFF begins phase D1 with source 2 and READY low; ERESET begins an
engine reset at step 6 with cause 1 and no lane in a mode; LRESET begins step 1 of a lane reset, the lane showing no
mode (log 31) and the other lane's mode left alone. Both begin in RUN and before the lights-off point (log 20). -/
def Obligations.HostPowerCommands : Prop :=
  (∀ (e : Nat) (s : State), s.Accepts (hostWrite 0 0x021 [2] e) → s.power.phase = .run →
    ∃ t, exec (.sysPowerOff e) s = .next t ∧ t.Replied (hostWrite 0 0x021 [2] e) []
      ∧ t.power = { s.power with phase := .powerDown, stage := 1, offSource := 2, offLatched := false, served := s.serving }
      ∧ t.sys.ready = false ∧ t.sys.haltReq = false)
  ∧ (∀ (e : Nat) (s : State), s.Accepts (hostWrite 0 0x021 [4] e) →
    ∃ t, exec (.sysPowerEreset e) s = .next t ∧ t.Replied (hostWrite 0 0x021 [4] e) []
      ∧ t.power.phase = .engineReset ∧ t.power.stage = 6 ∧ t.power.eresetCause = 1
      ∧ t.power.startCause = s.power.startCause ∧ t.tmr.tsc = s.tmr.tsc
      ∧ t.sys.ready = false ∧ t.sys.safe = false ∧ t.sys.service = false ∧ t.sys.gang = false
      ∧ ∀ l, (t.lane l).mode.mode = .none ∧ (t.lane l).mode.trip = (s.lane l).mode.trip
        ∧ (t.lane l).head.supply = false ∧ (t.lane l).arun.energised = false)
  ∧ ∀ (l : Lane) (e : Nat) (s : State), s.Accepts (hostWrite 0 0x021 [if l = .a then 8 else 16] e) →
    s.resettable = true → s.configured l = true → (s.lane l).mode.reset = 0 → s.sys.gang = false →
    ∃ t, exec (.sysPowerLreset l e) s = .next t ∧ t.Replied (hostWrite 0 0x021 [if l = .a then 8 else 16] e) []
      ∧ (t.lane l).mode.reset = 1 ∧ (t.lane l).mode.mode = .none
      ∧ (t.lane (otherLane l)).mode = (s.lane (otherLane l)).mode ∧ t.power = s.power

/-- Sleep entry and wake go stage by stage (Tables 3.4, 3.5): the stages that only wait change nothing else; after
the last the engine is in SLEEP with its entry time kept; the crystal started, the core runs from the reference until
the anchor edge of its lock (R141); a shadow that did not keep its contents makes the wake a full start from step 2 with
cause 4 and record 0x0012 (R90; the whole record and what survives are log 28); at the READY instant the engine runs again with every
configured lane in IDLE (R87, R89). -/
def Obligations.SleepAndWakeStages : Prop :=
  (∀ (us : Nat) (s : State), s.Settled → s.power.phase = .sleepEntry → s.power.stage = 3 → s.clk.interval = false →
    ∃ t, exec (.sleepEntryStepDone us) s = .next t ∧ t.power = { s.power with stage := 4 } ∧ Frame [.power] s t)
  ∧ (∀ (us : Nat) (s : State), s.Settled → s.power.phase = .sleepEntry → 5 ≤ s.power.stage →
    s.clk.interval = false → s.power.offLatched = false → s.power.onLatched = false → ∃ t, exec (.sleepEntryStepDone us) s = .next t
      ∧ t.power = { s.power with phase := .sleep, stage := 0, entryUs := min 65535 us, padUs := 0 }
      ∧ t.sys.mask = s.sys.mask ∧ (∀ l, (t.lane l).sets = (s.lane l).sets)
      ∧ Frame [.power, .sys, .clk, .pwr, .hist, .mem, .hk, .lux, .lane .a, .lane .b] s t)
  ∧ (∀ (r : StepReport) (s : State), s.Settled → s.power.phase = .wake → s.power.stage = 3 →
    s.clk.interval = false → ∃ t, exec (.wakeSequenceStepDone r) s = .next t ∧ t.power = { s.power with stage := 4 } ∧ Frame [.power] s t)
  ∧ (∀ (r : StepReport) (s : State), s.power.phase = .wake → s.power.stage = 1 → s.clk.interval = false →
    ∃ t, exec (.wakeSequenceStepDone r) s = .next t
      ∧ t.power = { s.power with stage := 2 } ∧ t.clk = { s.clk with onRef := true, attempts := 0 })
  ∧ (∀ (r : StepReport) (s : State), s.Settled → s.LogRoom → s.power.phase = .wake → s.power.stage = 4 →
    s.clk.interval = false → r.shadowOk = false → ∃ t, exec (.wakeSequenceStepDone r) s = .next t
      ∧ t.power = { mains := s.power.mains, phase := .bringup, stage := 2, startCause := 4
                    resetCount := s.power.resetCount, offLatched := s.power.offLatched }
      ∧ t.log.store = s.log.store ++ [s.mkRec 0x0012 0 0 []] ∧ t.tmr.tsc = s.tmr.tsc)
  ∧ ∀ (us : Nat) (late : Bool) (s : State), s.power.phase = .wake → s.power.stage = 8 → s.power.offLatched = false →
    ∃ t, exec (.wakeReady us late) s = .next t
      ∧ t.power = { s.power with phase := .run, stage := 0, stepDone := 12, padUs := if late then 0 else us % 8192 }
      ∧ t.sys.ready = true ∧ ∀ l, s.configured l = true → (t.lane l).mode.mode = .idle

/-- Power-downs go phase by phase (Tables 3.7, 6.2): the end of D1 begins D2 and changes nothing else; PFW begins a
mains-loss power-down with READY low, every light at zero and no line in exposure; its wait at 50 ms changes nothing
else and 56 ms turns the magazines, the heads and AUX off and keeps the 48 V bus and the windings (R186); the last phase of either leads to OFF, where only U20 is kept. -/
def Obligations.PowerDownPhases : Prop :=
  (∀ s : State, s.Settled → s.power.phase = .powerDown → s.power.stage = 1 →
    s.clk.interval = false → s.power.offCancel = false → ∃ t, exec .powerDownPhaseEnd s = .next t
    ∧ t.power = { s.power with stage := 2 } ∧ Frame [.power] s t)
  ∧ (∀ s : State, s.power.phase = .powerDown → 5 ≤ s.power.stage → s.clk.interval = false →
    s.power.offCancel = false → s.power.onLatched = false → ∃ t, exec .powerDownPhaseEnd s = .next t ∧ t.power = { mains := s.power.mains }
      ∧ t.flash.dev = s.flash.dev ∧ (s.flash.op = none → t.flash.cells = s.flash.cells)
      ∧ ∀ p, p ∉ [Part.power, .pins, .flash, .free] → Part.same State.reset t p)
  ∧ (∀ s : State, s.power.phase = .run → ∃ t, exec .pfw s = .next t
    ∧ t.power = { s.power with phase := .mainsLoss, stage := 0, mains := false, served := s.serving, offCancel := false } ∧ t.pwr.pfw = true
    ∧ t.sys.ready = false ∧ t.sys.service = false ∧ (∀ n, (t.lux.ch.getD n {}).drive = 0)
    ∧ ∀ l, (t.lane l).exposing = none)
  ∧ (∀ s : State, s.Settled → s.power.phase = .mainsLoss → s.power.stage = 2 →
    s.clk.interval = false → ∃ t, exec .pfwStageDeadline s = .next t
    ∧ t.power = { s.power with stage := 3 } ∧ Frame [.power] s t)
  ∧ (∀ s : State, s.power.phase = .mainsLoss → s.power.stage = 3 → s.clk.interval = false → ∃ t, exec .pfwStageDeadline s = .next t
    ∧ t.power = { s.power with stage := 4 } ∧ (∀ o, t.outOn o = false) ∧ t.pwr.busOk = s.pwr.busOk
    ∧ (∀ l, (t.lane l).arun.energised = (s.lane l).arun.energised ∧ (t.lane l).axis = (s.lane l).axis))
  ∧ ∀ s : State, s.power.phase = .mainsLoss → 4 ≤ s.power.stage → s.clk.interval = false → s.power.onLatched = false →
    ∃ t, exec .pfwStageDeadline s = .next t ∧ t.power = { mains := s.power.mains }
      ∧ t.flash.dev = s.flash.dev ∧ (s.flash.op = none → t.flash.cells = s.flash.cells)
      ∧ ∀ p, p ∉ [Part.power, .pins, .flash, .free] → Part.same State.reset t p

/-- A lane reset goes step by step and ends in IDLE (R103), where a commit that its run led to still goes on after that
commit (R266, and as log 31 has it in the calibration mode with ENDING till then). A supervised machine that misses its cycle causes an
engine reset with cause 2 (R555), but for the third within 60 s, which ends in SAFE and bars SYS.POWER.ERESET
(R556). -/
def Obligations.LaneResetStepsAndWatchdog : Prop :=
  (∀ (l : Lane) (r : StepReport) (s : State), s.Settled → (s.lane l).mode.reset = 1 → s.resettable = true →
    s.clk.interval = false → s.sys.safe = false → s.sys.haltReq = false → ∃ t, exec (.laneResetStepDone l r) s = .next t
      ∧ (t.lane l).bare = { s.lane l with mode := { (s.lane l).mode with reset := 2 } }.bare ∧ Frame [.lane l] s t)
  ∧ (∀ (l : Lane) (r : StepReport) (s : State), (s.lane l).mode.reset = 9 → s.resettable = true →
    s.clk.interval = false → s.sys.safe = false → ∃ t, exec (.laneResetStepDone l r) s = .next t
      ∧ (s.runCommits l = false →
        (t.lane l).mode.mode = .idle ∧ (t.lane l).mode.reset = 0 ∧ (s.power.offCancel = false → t.power = s.power))
      ∧ (s.runCommits l = true → (t.lane l).mode.ending = true ∧ (t.lane l).mode.reset = 9
        ∧ (t.lane l).mode.mode
          = (if (if (s.lane l).cal.acqWait then (s.lane l).cal.acqKind else (s.lane l).cal.kind) = 1 then .darkCal else .flatCal)
        ∧ (t.lane l).cal = (s.lane l).cal ∧ t.power = s.power))
  ∧ (∀ (m : Nat) (s : State), s.power.phase = .run → s.sys.safe = false → s.sys.haltActive = false →
    s.clk.interval = false → s.power.fatals = [] → ∃ t, exec (.seqWatchdog m) s = .next t
      ∧ t.power.phase = .engineReset ∧ t.power.stage = 6 ∧ t.power.eresetCause = 2
      ∧ t.power.fatals = [s.tmr.tsc] ∧ t.tmr.tsc = s.tmr.tsc ∧ t.sys.ready = false
      ∧ ∀ l, (t.lane l).mode.mode = .none)
  ∧ ∀ (m x y : Nat) (s : State), s.power.phase = .run → s.sys.safe = false → s.sys.haltActive = false →
    s.clk.interval = false → s.power.fatals = [x, y] → x ≤ s.tmr.tsc → y ≤ s.tmr.tsc → s.tmr.tsc < 2 ^ 48 →
    s.tmr.tsc < x + 1500000000 → s.tmr.tsc < y + 1500000000 → ∃ t, exec (.seqWatchdog m) s = .next t
      ∧ t.sys.safe = true ∧ t.sys.ready = false ∧ t.power.resetLoop = true ∧ t.sys.faultN = false
      ∧ ∀ l, (t.lane l).mode.mode = .none

/-! ### Service, debug halt, requests and the line cycle (04, 07, 11, 17) -/

/-- SYS.MODE.SERVICE set and, no Tally running, cleared (R109). Debug halt with every configured lane in IDLE and no
Tally is complete at once, with record 0x0040 (R543, R544), and what survives no halt returns to its reset value (log 109:
the instant and the fields are read from the Survives columns); its release clears it, with record 0x0041 (R546). -/
def Obligations.ServiceAndHalt : Prop :=
  (∀ (on : Bool) (e : Nat) (s : State), s.Settled → s.Accepts (hostWrite 0 0x026 [flag on 3] e) →
    s.mem.tstat = .none → ∃ t, exec (.sysModeService on e) s = .next t
      ∧ t.Replied (hostWrite 0 0x026 [flag on 3] e) []
      ∧ t.sys.bare = { s.sys with service := on, serviceEnd := false }.bare ∧ Frame [.sys] s t)
  ∧ (∀ (e : Nat) (s : State), s.Settled → s.LogRoom → s.Accepts (hostWrite 0 0x027 [1] e) → s.sys.haltReq = false →
    s.mem.tstat = .none → (∀ l, s.configured l = true → (s.lane l).mode.mode = .idle) → s.sys.gang = false →
    ∃ t, exec (.sysHaltReq e) s = .next t ∧ t.Replied (hostWrite 0 0x027 [1] e) []
      ∧ t.sys.haltReq = true ∧ t.sys.haltPend = false ∧ t.sys.haltActive = true
      ∧ (∀ l, s.configured l = true → (t.lane l).mode = { (s.lane l).mode with halted := true })
      ∧ (∀ l, (t.lane l).link = { (s.lane l).link with errCode := 0, errDisc := 0 }
        ∧ (t.lane l).till = { (s.lane l).till with peak := 0 } ∧ (t.lane l).arun = (s.lane l).arun
        ∧ (t.lane l).axis = { (s.lane l).axis with moveLo := 0, moveHi := 0, moveProf := 0 })
      ∧ t.mem = { s.mem with c0Worst := 0, c0Port := 0, c1Worst := 0, c2Worst := 0, kind := false,
                             march := s.shadow.march, tfirst := 0, tlast := 511 }
      ∧ t.lux.crcErr = 0 ∧ t.lux.ch = s.lux.ch ∧ t.lux.planned = s.lux.planned
      ∧ (∃ r, t.log = s.log.plus r ∧ r.code = 0x0040 ∧ r.cls = 0 ∧ r.seq = nextSeq s.log.newest)
      ∧ Frame [.sys, .log, .mem, .lux, .lane .a, .lane .b] s t)
  ∧ ∀ (e : Nat) (s : State), s.Settled → s.LogRoom → s.Accepts (hostWrite 0 0x027 [0] e) → s.sys.haltReq = true →
    s.mem.tstat = .none → ∃ t, exec (.haltRelease e) s = .next t ∧ t.Replied (hostWrite 0 0x027 [0] e) []
      ∧ t.sys.haltReq = false ∧ t.sys.haltPend = false ∧ t.sys.haltActive = false
      ∧ (∀ l, (t.lane l).mode = { (s.lane l).mode with halted := false })
      ∧ (∃ r, t.log = s.log.plus r ∧ r.code = 0x0041 ∧ r.cls = 0 ∧ r.seq = nextSeq s.log.newest)
      ∧ Frame [.sys, .log, .lane .a, .lane .b] s t

/-- A request with no reason against it (Table 4.3) starts its program's run: each lane the program runs on takes
the program's mode, entering, with an empty Till (R306); a gang program joins the lanes. So for the pin and for the
host. In bring-up a pin request is counted as refused (R76). -/
def Obligations.AcceptedRequestStartsEntry : Prop :=
  (∀ (l : Lane) (n : Nat) (stable high : Bool) (p : Program) (s : State), s.pinsLive l = true → s.decides = true →
    (s.setAbort l high).refusal l (n % 16) false stable = 0 → s.shadow.programs.find? (fun q => q.num == n % 16) = some p →
    ∃ t, exec (.scanReqPin l n stable high) s = .next t ∧ t.sys.gang = (s.sys.gang || decide (p.mode = 6))
      ∧ ∀ k ∈ progLanes l p, (t.lane k).mode.mode = progMode p ∧ (t.lane k).mode.entering = true
        ∧ (t.lane k).mode.prog = some p ∧ (t.lane k).till.slots = [] ∧ (t.lane k).till.wptr = 0
        ∧ (t.lane k).till.rptr = 0 ∧ (t.lane k).nextLine = 0)
  ∧ (∀ (l : Lane) (n e : Nat) (p : Program) (s : State), s.Accepts (hostWrite (headUnit l) 1 [n % 16 + 16] e) →
    s.refusal l (n % 16) true true = 0 → s.shadow.programs.find? (fun q => q.num == n % 16) = some p →
    ∃ t, exec (.headReqGo l n false e) s = .next t ∧ t.Replied (hostWrite (headUnit l) 1 [n % 16 + 16] e) []
      ∧ t.sys.gang = (s.sys.gang || decide (p.mode = 6))
      ∧ ∀ k ∈ progLanes l p, (t.lane k).mode.mode = progMode p ∧ (t.lane k).mode.entering = true
        ∧ (t.lane k).mode.prog = some p ∧ (t.lane k).till.slots = [] ∧ (t.lane k).till.wptr = 0
        ∧ (t.lane k).till.rptr = 0 ∧ (t.lane k).nextLine = 0)
  ∧ ∀ (l : Lane) (n : Nat) (stable high : Bool) (s : State), s.Settled → s.pinsLive l = true →
    s.power.phase = .bringup → ∃ t, exec (.scanReqPin l n stable high) s = .next t
      ∧ t.power = { s.power with refused := satInc 15 s.power.refused } ∧ t.pins = (s.setAbort l high).pins
      ∧ Frame [.power, .pins] s t

/-- A request with a reason against it (R125), ABORT_x high at the request among them (reason 15), changes nothing but
HEAD.REFUSE, which shows the first reason that applies, and the log, which gains record 0x8010; so for the pin and for the host, whose abort in the same word is
reason 15 (R127). -/
def Obligations.RefusedRequestIsNoted : Prop :=
  (∀ (l : Lane) (n : Nat) (stable high : Bool) (s : State), s.Settled → s.LogRoom → s.pinsLive l = true →
    s.decides = true → (s.setAbort l high).refusal l (n % 16) false stable ≠ 0 →
    (s.setAbort l high).refusal l (n % 16) false stable < 16 ∧ ∃ t, exec (.scanReqPin l n stable high) s = .next t
      ∧ (t.lane l).mode = { (s.lane l).mode with
          reason := (s.setAbort l high).refusal l (n % 16) false stable, source := 0, refProg := n % 16
          refCount := satInc 127 (s.lane l).mode.refCount }
      ∧ t.log = s.log.plus (s.mkRec (0x8010 + laneOff l) 0 (s.laneBits l)
          [(s.setAbort l high).refusal l (n % 16) false stable + 32 * (n % 16)])
      ∧ t.pins = (s.setAbort l high).pins ∧ Frame [.lane l, .log, .pins] s t)
  ∧ (∀ (l : Lane) (n e : Nat) (s : State), s.Settled → s.LogRoom →
    s.Accepts (hostWrite (headUnit l) 1 [n % 16 + 16] e) → s.refusal l (n % 16) true true ≠ 0 →
    ∃ t, exec (.headReqGo l n false e) s = .next t ∧ t.Replied (hostWrite (headUnit l) 1 [n % 16 + 16] e) []
      ∧ (t.lane l).mode = { (s.lane l).mode with
          reason := s.refusal l (n % 16) true true, source := 1, refProg := n % 16
          refCount := satInc 127 (s.lane l).mode.refCount }
      ∧ t.log = s.log.plus (s.mkRec (0x8010 + laneOff l) 0 (s.laneBits l)
          [s.refusal l (n % 16) true true + 16 + 32 * (n % 16)])
      ∧ Frame [.lane l, .log] s t)
  ∧ ∀ (l : Lane) (n e : Nat) (s : State), s.Settled → s.LogRoom → s.capturesRun l = false → s.acquiring l = false →
    s.Accepts (hostWrite (headUnit l) 1 [n % 16 + 48] e) → ∃ t, exec (.headReqGo l n true e) s = .next t
      ∧ t.Replied (hostWrite (headUnit l) 1 [n % 16 + 48] e) []
      ∧ (t.lane l).mode = { (s.lane l).mode with
          reason := 15, source := 1, refProg := n % 16, refCount := satInc 127 (s.lane l).mode.refCount }
      ∧ t.log = s.log.plus (s.mkRec (0x8010 + laneOff l) 0 (s.laneBits l) [15 + 16 + 32 * (n % 16)])
      ∧ Frame [.lane l, .log] s t

/-- An abort by pin or by host ends a capturing lane's run as aborted, with cause 1 or 2 (R129, Table 12.8), and
writes 0x8011 with that source; ABORT_x going low only changes the pin's level; the other lane, the clock, timers and memories stay as they are. -/
def Obligations.AbortEndsTheRun : Prop :=
  (∀ (l : Lane) (s : State), s.Settled → s.LogRoom → s.pinsLive l = true → s.decides = true →
    s.capturesRun l = true → (s.lane l).lrun.ending = none → s.sys.gang = false →
    ∃ t, exec (.abortPin ⟨l, true⟩) s = .next t ∧ (t.lane l).lrun.ending = some { aborted := true, cause := 1 }
      ∧ t.log = s.log.plus (s.mkRec (0x8011 + laneOff l) 0 (s.laneBits l) [1])
      ∧ t.abortHigh l = true ∧ Frame [.lane l, .lux, .log, .pins] s t)
  ∧ (∀ (l : Lane) (s : State), s.Settled → s.pinsLive l = true → ∃ t, exec (.abortPin ⟨l, false⟩) s = .next t
    ∧ t.pins = (s.setAbort l false).pins ∧ Frame [.pins] s t)
  ∧ ∀ (l : Lane) (e : Nat) (s : State), s.Settled → s.LogRoom → s.Accepts (hostWrite (headUnit l) 1 [0x20] e) →
    s.capturesRun l = true → (s.lane l).lrun.ending = none → s.sys.gang = false →
    ∃ t, exec (.headReqAbort l e) s = .next t ∧ t.Replied (hostWrite (headUnit l) 1 [0x20] e) []
      ∧ (t.lane l).lrun.ending = some { aborted := true, cause := 2 }
      ∧ t.log = s.log.plus (s.mkRec (0x8011 + laneOff l) 0 (s.laneBits l) [2])
      ∧ Frame [.lane l, .lux, .log] s t

/-- The line cycle of a run (R219 to R221). A PREVIEW run at rest: the decision to capture, the line start that gives the
next line its number, its TSC and its head temperature (R236), the decision that finds every line of the program taken, and
the entry to IDLE once nothing of the run is left (R129). A moving SCAN lane at its Till's stop margin, or with its link not
UP (R374), is to stop (R117); the next boundary takes it into SMOULDER with the causes noted, no line exposed and its line
to be taken first after the seam (R118, R396). A line of a moving SCAN, and a gang's, which both lanes take at one instant
(R134), carry number, TSC, position and rung. -/
def Obligations.LineCycleOfARun : Prop :=
  (∀ (l : Lane) (p : Program) (s : State), s.Settled → s.clk.interval = false → s.clk.hold = false →
    s.sys.gang = false → (s.lane l).mode.prog = some p → s.moves l p = false → s.capturesRun l = true →
    (s.lane l).mode.mode = .preview → (s.lane l).mode.entering = false → (s.lane l).lrun.ending = none →
    (s.lane l).stopMask = none → (s.lane l).sub = 0 → (s.lane l).till.dropping = false → s.stopBits l = 0 →
    (p.lines = 0 ∨ (s.lane l).nextLine < p.lines) → ∃ t, exec (.captureDecision l) s = .next t
      ∧ (t.lane l).bare = { s.lane l with capture := true }.bare ∧ Frame [.lane l] s t)
  ∧ (∀ (l : Lane) (p : Program) (s : State), s.Settled → s.clk.interval = false → s.clk.hold = false →
    s.sys.gang = false → (s.lane l).mode.prog = some p → s.capturesRun l = true →
    (s.lane l).mode.mode ≠ .smoulder → (s.lane l).mode.entering = false → (s.lane l).lrun.ending = none →
    p.lines ≠ 0 → p.lines ≤ (s.lane l).nextLine → ∃ t, exec (.captureDecision l) s = .next t
      ∧ (t.lane l).lrun.ending = some { aborted := false, cause := 0 } ∧ Frame [.lane l] s t)
  ∧ (∀ (l : Lane) (x : LineInput) (p : Program) (s : State), s.clk.interval = false → s.sys.gang = false →
    (s.lane l).mode.prog = some p → p.mode = 1 → p.lines = 0 → p.binning = 0 → (s.lane l).mode.mode = .preview →
    (s.lane l).mode.entering = false → (s.lane l).mode.ending = false → (s.lane l).lrun.ending = none →
    (s.lane l).stopMask = none → (s.lane l).sub = 0 → (s.lane l).capture = true → (s.lane l).head.drivers = true →
    (s.lane l).head.readout = none → (s.lane l).exposing = none → (s.lane l).reading = none →
    ∃ t c, exec (.lineStart l x) s = .next t ∧ (t.lane l).exposing = some c ∧ c.num = (s.lane l).nextLine
      ∧ c.tsc = s.tmr.tsc ∧ c.temp = (s.hkChan (s.thermChan l)).last ∧ (t.lane l).pix.temp = c.temp
      ∧ (t.lane l).nextLine = (s.lane l).nextLine + 1 ∧ (t.lane l).capture = false
      ∧ t.tmr = s.tmr ∧ t.power = s.power ∧ t.flash = s.flash)
  ∧ (∀ (l : Lane) (p : Program) (s : State), s.Settled → s.clk.interval = false → s.clk.hold = false →
    s.sys.gang = false → (s.lane l).mode.prog = some p → s.moves l p = true → s.capturesRun l = true →
    (s.lane l).mode.mode = .scan → (s.lane l).mode.entering = false → (s.lane l).lrun.ending = none →
    (p.lines = 0 ∨ (s.lane l).nextLine < p.lines) → s.seamOpen l = false → s.stopBits l ≠ 0 →
    ∃ t, exec (.captureDecision l) s = .next t
      ∧ (t.lane l).stopMask = some (((s.lane l).stopMask.getD 0) ||| s.stopBits l)
      ∧ (t.lane l).till = { (s.lane l).till with
          stopped := true
          stops := if (s.lane l).till.stopped then (s.lane l).till.stops else satInc 255 (s.lane l).till.stops }
      ∧ (t.lane l).capture = (s.lane l).capture ∧ Frame [.lane l] s t)
  ∧ (∀ (l : Lane) (x : LineInput) (p : Program) (m : Nat) (s : State), s.clk.interval = false → s.sys.gang = false →
    (s.lane l).mode.prog = some p → p.mode = 5 → (s.lane l).mode.mode = .scan → (s.lane l).mode.entering = false →
    (s.lane l).mode.ending = false → (s.lane l).lrun.ending = none → (s.lane l).sub = 0 → (s.lane l).unexposed = none →
    (s.lane l).stopMask = some m →
    (∀ n ∈ (s.lane l).head.railed, n < 63) → ((s.lane l).exposing = none ∨
      (s.fenced l (s.img l).pix.window = false ∧ s.fenced l (s.tillSec l).window = false)) →
    ((s.lane l).axis.encOk = true → beyond (s.img l).axis.cpp (s.deviation l p ((s.lane l).arun.cycle + 1)
      ((s.countEdges l x.edges).lane l).axis.enc) 2 = false) →
    ∃ t, exec (.lineStart l x) s = .next t ∧ (t.lane l).mode.mode = .smoulder ∧ (t.lane l).mode.origin = .scan
      ∧ (t.lane l).mode.ending = false ∧ (t.lane l).arun.mask = m ∧ (t.lane l).arun.mTsc = s.tmr.tsc
      ∧ (t.lane l).exposing = none ∧ (t.lane l).nextLine = (s.lane l).nextLine ∧ (t.lane l).stopMask = none
      ∧ ((t.lane l).axis.phase = .stopping ∨ (t.lane l).axis.phase = .rest)
      ∧ t.tmr = s.tmr ∧ t.power = s.power ∧ t.flash = s.flash)
  ∧ (∀ (l : Lane) (x : LineInput) (p : Program) (s : State), s.clk.interval = false → s.sys.gang = false →
    (s.lane l).mode.prog = some p → p.mode = 5 → p.binning = 0 → (s.lane l).mode.mode = .scan →
    (s.lane l).mode.entering = false → (s.lane l).mode.ending = false → (s.lane l).lrun.ending = none →
    (s.lane l).sub = 0 → (s.lane l).capture = true → (s.lane l).stopMask = none →
    (∀ n ∈ (s.lane l).head.railed, n < 63) → ((s.lane l).exposing = none ∨
      (s.fenced l (s.img l).pix.window = false ∧ s.fenced l (s.tillSec l).window = false)) →
    ((s.lane l).axis.encOk = true → beyond (s.img l).axis.cpp (s.deviation l p ((s.lane l).arun.cycle + 1)
      ((s.countEdges l x.edges).lane l).axis.enc) 2 = false) →
    ∃ t c, exec (.lineStart l x) s = .next t ∧ (t.lane l).exposing = some c ∧ c.num = (s.lane l).nextLine
      ∧ c.tsc = s.tmr.tsc ∧ c.pos = (s.lane l).axis.pos ∧ c.rung = (s.lane l).axis.rung
      ∧ (t.lane l).nextLine = (s.lane l).nextLine + 1 ∧ (t.lane l).axis.quiet = (s.lane l).axis.quiet + 1
      ∧ (t.lane l).capture = false ∧ t.tmr = s.tmr ∧ t.power = s.power ∧ t.flash = s.flash)
  ∧ (∀ (x : LineInput) (p : Program) (s : State), s.clk.interval = false → s.sys.gang = true →
    s.laneA.mode.prog = some p → p.mode = 6 → p.binning = 0 → s.laneA.mode.mode = .gangScan →
    s.laneA.mode.entering = false → s.laneA.mode.ending = false → s.laneA.lrun.ending = none →
    s.laneA.sub = 0 → s.laneB.sub = 0 → s.laneA.capture = true → s.laneA.stopMask = none →
    (∀ n ∈ s.laneA.head.railed, n < 63) → (s.laneA.exposing = none ∨ (s.fenced .a (s.img .a).pix.window = false
      ∧ s.fenced .a s.stitchWin = false ∧ s.fenced .a (s.tillSec .a).window = false
      ∧ s.fenced .a (s.tillSec .b).window = false)) →
    (s.laneA.axis.encOk = true → beyond (s.img .a).axis.cpp (s.deviation .a p (s.laneA.arun.cycle + 1)
      (s.countEdges .a x.edges).laneA.axis.enc) 2 = false) →
    ∃ t, exec (.lineStart .a x) s = .next t
      ∧ t.laneA.exposing.map LineCtx.num = some s.laneA.nextLine ∧ t.laneB.exposing.map LineCtx.num = some s.laneB.nextLine
      ∧ t.laneA.exposing.map LineCtx.tsc = some s.tmr.tsc ∧ t.laneB.exposing.map LineCtx.tsc = some s.tmr.tsc
      ∧ t.laneA.exposing.map LineCtx.pos = some s.laneA.axis.pos ∧ t.laneA.nextLine = s.laneA.nextLine + 1 ∧ t.laneB.nextLine = s.laneB.nextLine + 1
      ∧ t.tmr = s.tmr ∧ t.power = s.power ∧ t.flash = s.flash)
  ∧ ∀ (l : Lane) (c1 : Nat) (s : State), s.clk.interval = false → s.sys.gang = false → s.idleDue l = true →
    ∃ t, exec (.runEndIdleEntry ⟨l, c1⟩) s = .next t ∧ (t.lane l).mode.mode = .idle ∧ (t.lane l).mode.ending = false
      ∧ (t.lane l).mode.trip = ((s.lane l).mode.trip || (s.lane l).mode.tripDue) ∧ (t.lane l).mode.reset = 0
      ∧ ((s.lane l).mode.reset = 0 →
        (t.lane l).till.slots = [] ∧ (t.lane l).till.wptr = 0 ∧ (t.lane l).till.rptr = 0)
      ∧ t.tmr = s.tmr ∧ t.power = s.power ∧ t.flash = s.flash

/-- A line's read-out (R221, R230, R307, R308). Entry phase B latches the program's period, waveform set, calibration set,
binning and payload length (R218, R233, R241). As a line's readout begins, its slot is reserved, WPTR advanced by W + 20,
and the slot holds the header of Table 12.9 and the taps of the pixel path: that all its words are in memory at that
LINE_START is the model's choice (log 47), as R242 to R244 write them as samples arrive; as it closes, its trailer is the CRC-32 of
what the slot holds, the line status and the number (R348, R349), and PIX shows its counts. The pixel path to the bit:
with neither dark, gain nor coefficients the taps are the raw codes (R233); an unmarked pixel is shaded by its offset and
gain (R232), and a marked one takes the mean of the nearest unmarked ones beside it (R234). -/
def Obligations.LineReadoutFillsAndClosesItsSlot : Prop :=
  (∀ (l : Lane) (x : LineInput) (p : Program) (s : State), s.clk.interval = false → s.clk.hold = false →
    s.sys.gang = false → (s.lane l).mode.prog = some p → (s.lane l).mode.mode ≠ .none → (s.lane l).mode.mode ≠ .idle →
    (s.lane l).mode.mode ≠ .smoulder → (s.lane l).mode.ending = false → (s.lane l).mode.entering = true →
    ((s.lane l).mode.entry = some .a ∨ (s.lane l).mode.entry = some .b) → ∃ t, exec (.lineStart l x) s = .next t
      ∧ (t.lane l).mode.entry = some .c ∧ (t.lane l).head.period = p.period ∧ (t.lane l).head.tInt = p.integ
      ∧ (t.lane l).head.waves = p.waves ∧ (t.lane l).pix.set = p.calSet ∧ (t.lane l).pix.bin = p.binning
      ∧ (t.lane l).pix.outLen = s.payloadW l p ∧ (t.lane l).pix.lines = 0
      ∧ (t.lane l).pix.hasDark = (((s.lane l).sets.getD p.calSet {}).present && ((s.lane l).sets.getD p.calSet {}).dark)
      ∧ ∃ c ∈ t.lux.planned, c.party = laneParty l ∧ c.phaseC = true)
  ∧ (∀ (l : Lane) (x : LineInput) (p : Program) (c : LineCtx) (s : State), s.MemOk → s.marching = false →
    s.clk.interval = false → s.sys.gang = false → (s.lane l).mode.prog = some p → p.mode = 1 → p.lines = 0 →
    p.binning = 0 → (s.lane l).mode.mode = .preview → (s.lane l).mode.entering = false → (s.lane l).mode.ending = false →
    (s.lane l).lrun.ending = none → (s.lane l).stopMask = none → (s.lane l).head.nextTrim = none →
    (s.lane l).head.reclock = false → s.driving l = true → (s.lane l).head.readout = none → (s.lane l).reading = none →
    (s.lane l).group = none → (s.lane l).exposing = some c → s.fenced l (s.img l).pix.window = false →
    s.fenced l (s.tillSec l).window = false →
    (s.shadow.windows.getD (s.tillSec l).window {}).len = s.tillSize l → 16 + s.payloadW l p ≤ s.tillSize l →
    ∃ t, exec (.lineStart l x) s = .next t
      ∧ (t.lane l).till.slots = (s.lane l).till.slots ++
          [{ start := (s.lane l).till.wptr, num := c.num, w := s.payloadW l p, seams := (s.lane l).owedSeams }]
      ∧ (t.lane l).till.wptr = ((s.lane l).till.wptr + s.payloadW l p + 20) % (2 * s.tillSize l)
      ∧ (t.lane l).till.wptr2 = (t.lane l).till.wptr ∧ (t.lane l).till.rptr = (s.lane l).till.rptr
      ∧ (t.lane l).reading = some { c with
          sclip := (s.lineTaps l p c.temp (s.codes l x)).2.1, lclip := (s.lineTaps l p c.temp (s.codes l x)).2.2, foc := [] }
      ∧ t.masterRead l (s.tillSec l).window ((s.lane l).till.wptr % s.tillSize l) (16 + s.payloadW l p)
        = (s.header l p c false ++ (s.lineTaps l p c.temp (s.codes l x)).1.flatten).map (· % 65536))
  ∧ (∀ (l : Lane) (x : LineInput) (p : Program) (c : LineCtx) (q : Slot) (s : State), s.MemOk → s.marching = false →
    s.clk.interval = false → s.sys.gang = false → (s.lane l).mode.prog = some p → p.mode = 1 → p.lines = 0 →
    p.binning = 0 → (s.lane l).mode.mode = .preview → (s.lane l).mode.entering = false → (s.lane l).mode.ending = false →
    (s.lane l).lrun.ending = none → (s.lane l).stopMask = none → (s.lane l).capture = false →
    (s.lane l).exposing = none → (s.lane l).reading = some c →
    (s.lane l).till.slots.find? (fun r => r.num == c.num && !r.closed) = some q →
    s.fenced l (s.tillSec l).window = false →
    (s.shadow.windows.getD (s.tillSec l).window {}).len = s.tillSize l → q.w + 20 ≤ s.tillSize l →
    ∃ t, exec (.lineStart l x) s = .next t ∧ (t.lane l).reading = none
      ∧ (∀ r ∈ (t.lane l).till.slots, r.num = c.num → r.closed = true ∧ r.written = r.w)
      ∧ (t.lane l).till.slots.map Slot.num = (s.lane l).till.slots.map Slot.num
      ∧ (t.lane l).pix.sclip = c.sclip ∧ (t.lane l).pix.lclip = c.lclip
      ∧ (t.lane l).pix.lines = ((s.lane l).pix.lines + 1) % 2 ^ 32
      ∧ t.masterRead l (s.tillSec l).window ((q.start + 16 + q.w) % s.tillSize l) 4
        = leWords 2 (crc32 (wordsToBytes (s.masterRead l (s.tillSec l).window (q.start % s.tillSize l) (16 + q.w))))
          ++ [flag c.suspect 0 + flag c.stale 1 + flag c.tclamp 2 + flag (c.clipB || decide (0 < c.sclip + c.lclip)) 3
            + flag c.unverified 4, c.num % 65536])
  ∧ (∀ (l : Lane) (p : Program) (temp : Int) (codes : List (List Nat)) (s : State), p.mode = 1 →
    (s.lane l).pix.hasDark = false → (s.lane l).pix.hasGain = false → (s.img l).head.taps ≤ 4 →
    p.taps < 2 ^ (s.img l).head.taps → (s.lane l).pix.coefs = coefFill false (s.img l).head.taps [] →
    (∀ xs ∈ codes, ∀ v ∈ xs, v < 65536) →
    s.lineTaps l p temp codes = ((maskTaps p.taps).map (tapActive (s.img l).head codes), 0, 0))
  ∧ (∀ (xs : List Nat) (dgs : List (Nat × Nat)) (i : Nat), dgs.length = xs.length → i < xs.length →
    (dgs.getD i (0, 0)).2 ≠ 0xFFFF → (replaceTap (shadeTap xs dgs).1).getD i 0 =
      (clampI 0 65535 ((((xs.getD i 0 : Int) - (dgs.getD i (0, 0)).1) * (dgs.getD i (0, 0)).2 + 8192) / 16384)).toNat)
  ∧ ∀ (xs : List Nat) (dgs : List (Nat × Nat)) (i j k : Nat), dgs.length = xs.length → j < i → i < k → k < xs.length →
    (dgs.getD j (0, 0)).2 ≠ 0xFFFF → (dgs.getD k (0, 0)).2 ≠ 0xFFFF →
    (∀ m, m < k → j < m → (dgs.getD m (0, 0)).2 = 0xFFFF) → (replaceTap (shadeTap xs dgs).1).getD i 0 =
      ((replaceTap (shadeTap xs dgs).1).getD j 0 + (replaceTap (shadeTap xs dgs).1).getD k 0 + 1) / 2

/-! ### The one clock (05) -/

/-- A clock commit puts the core on the reference with sequencing paused (R143, R144), conversions in progress to be
discarded (R141) and what is in readout not published (R228); a lock is declared with its
time (R138, R161); a lock attempt that fails is counted, and the third is SAFE on the reference (R161, R166; in a clock
commit and in a wake as log 115 reads it). -/
def Obligations.ClockCommitAndLock : Prop :=
  (∀ (e : Nat) (s : State), s.Settled → s.Accepts (hostWrite 2 2 [1] e) → ∃ t, exec (.clkCtrlCommit e) s = .next t
    ∧ t.Replied (hostWrite 2 2 [1] e) []
    ∧ t.clk = { s.clk with pause := true, onRef := true, locked := false, pattern := 0, attempts := 0, oldF := s.clk.fcode }
    ∧ t.hk = { s.hk with a := { s.hk.a with doomed := s.hk.a.doomed || s.hk.a.running || s.hk.a.checking }
                         b := { s.hk.b with doomed := s.hk.b.doomed || s.hk.b.running || s.hk.b.checking } }
    ∧ (∀ l, (t.lane l).bare = { s.lane l with head := { (s.lane l).head with readout := none } }.bare)
    ∧ Frame [.clk, .hk, .lane .a, .lane .b] s t)
  ∧ (∀ (us : Nat) (s : State), s.Settled → s.locking = true → (s.clk.hold = false ∨ s.clk.attempts = 0) →
    ∃ t, exec (.pllLock us) s = .next t
      ∧ t.clk = { s.clk with locked := true, lockUs := min 255 us,
                             tries := if s.clk.hold then s.clk.attempts + 1 else s.clk.tries }
      ∧ Frame [.clk] s t)
  ∧ (∀ s : State, s.Settled → s.locking = true → s.clk.attempts < 2 → ∃ t, exec .pllLockTimeout s = .next t
    ∧ t.clk = { s.clk with attempts := s.clk.attempts + 1,
                           tries := if s.clk.hold then s.clk.attempts + 1 else s.clk.tries }
    ∧ Frame [.clk] s t)
  ∧ ∀ s : State, s.locking = true → 2 ≤ s.clk.attempts → s.sys.safe = false → ∃ t, exec .pllLockTimeout s = .next t
    ∧ t.sys.safe = true ∧ t.sys.ready = false ∧ t.sys.faultN = false ∧ t.clk.onRef = true ∧ t.clk.pause = false

/-- The anchor edge of the first lock, in bring-up step 3 or the wake's relock, only shows its alignment (R139); that of
a clock commit puts the new f_core in force, off the reference, with sequencing resumed (R144); that of a relock after
holdover ends it, its length, cut off to whole microseconds (log 8), and drift shown (R161, R164, R169). The spread pattern
(R149, R150): none with the spread off, in SAFE, in a holdover or on the reference, and, as log 32 has it, unlocked or
before step 6; the free one with every lane in IDLE or, by the same log, in no mode; the locked one with a lane in a mode
beyond, but none yet where the free one just ends. -/
def Obligations.AnchorEdgeAndSpread : Prop :=
  (∀ (us : Nat) (ps d : Int) (s : State), s.Settled → s.clk.locked = true → s.clk.interval = false →
    ((s.power.phase = .bringup ∧ s.power.stage = 3) ∨ (s.power.phase = .wake ∧ s.power.stage = 2)) →
    ∃ t, exec (.anchorEdge us ps d) s = .next t
      ∧ t.clk = { s.clk with alignUs := min 255 us, alignPs := ps } ∧ Frame [.clk] s t)
  ∧ (∀ (us : Nat) (ps d : Int) (s : State), s.clk.locked = true → s.clk.interval = true → s.clk.hold = false →
    s.clk.pause = true → ∃ t, exec (.anchorEdge us ps d) s = .next t
      ∧ t.clk.onRef = false ∧ t.clk.pause = false ∧ t.clk.fcode = s.clk.nextF ∧ t.clk.attempts = 0
      ∧ t.clk.alignUs = min 255 us ∧ t.clk.alignPs = ps ∧ t.tmr.tsc = s.tmr.tsc ∧ t.power = s.power)
  ∧ (∀ (us : Nat) (ps d : Int) (s : State), s.clk.locked = true → s.clk.interval = true → s.clk.hold = true →
    s.clk.pause = false → s.clk.tripTsc ≤ s.tmr.tsc → s.tmr.tsc < 2 ^ 48 → ∃ t, exec (.anchorEdge us ps d) s = .next t
      ∧ t.clk = { s.clk with
          onRef := false, hold := false, attempts := 0, alignUs := min 255 us, alignPs := ps, drift := d
          holdUs := min 65535 ((s.tmr.tsc - s.clk.tripTsc) / 25) }
      ∧ t.tmr.tsc = s.tmr.tsc ∧ t.power = s.power)
  ∧ (∀ s : State, s.Settled → (s.clk.spread = 0 ∨ s.sys.safe = true ∨ s.clk.hold = true ∨ s.clk.onRef = true
      ∨ s.clk.locked = false ∨ ((s.power.phase = .bringup ∨ s.power.phase = .engineReset) ∧ s.power.stepDone < 6)) →
    ∃ t, exec .spreadPatternChange s = .next t ∧ t.clk = { s.clk with pattern := 0 } ∧ Frame [.clk] s t)
  ∧ (∀ s : State, s.Settled → s.clk.spread ≠ 0 → s.sys.safe = false → s.clk.hold = false → s.clk.onRef = false →
    s.clk.locked = true → s.power.phase ≠ .bringup → s.power.phase ≠ .engineReset →
    (∀ l, (s.lane l).mode.mode = .none ∨ (s.lane l).mode.mode = .idle) → ∃ t, exec .spreadPatternChange s = .next t ∧ t.clk = { s.clk with pattern := 1 } ∧ Frame [.clk] s t)
  ∧ ∀ (l : Lane) (s : State), s.Settled → s.clk.spread ≠ 0 → s.sys.safe = false → s.clk.hold = false →
    s.clk.onRef = false → s.clk.locked = true → s.power.phase ≠ .bringup → s.power.phase ≠ .engineReset →
    (s.lane l).mode.mode ≠ .none → (s.lane l).mode.mode ≠ .idle →
    ∃ t, exec .spreadPatternChange s = .next t
      ∧ t.clk = { s.clk with pattern := if s.clk.pattern = 1 then 0 else 2 } ∧ Frame [.clk] s t

/-- Holdover (R152 to R165): the trip is counted (at the trip: log 34) and timed with the PLL unlocked and the spread off,
in SAFE too (log 26); of a capturing lane it marks the line in readout suspect and calls for SMOULDER at the next boundary
(R154, R155), a lane in SMOULDER takes it as one more cause, a calibration run ends (R120), an entry, one of a calibration
run too (log 96), and a lane in ENDING or IDLE keep their mode; a line whose last pixel has not left the path 4 ms after it (when it has, to 128 cycles, is log 97)
gives its number to the next, and one that is out goes on; with every lane quiet the core switches to the reference, or
the engine goes to SAFE where that is lost. -/
def Obligations.HoldoverTripAndSwitch : Prop :=
  (∀ (d : Int) (s : State), s.canTrip = true → ∃ t, exec (.holdoverTrip d) s = .next t
    ∧ t.clk = { s.clk with hold := true, locked := false, pattern := 0, refLost := false, tripTsc := s.tmr.tsc,
                           holds := satInc 255 s.clk.holds, drift := d }
    ∧ t.power = s.power ∧ t.tmr = s.tmr ∧ t.flash = s.flash ∧ t.bank = s.bank)
  ∧ (∀ (l : Lane) (d : Int) (s : State), s.canTrip = true → s.sys.gang = false → ∃ t, exec (.holdoverTrip d) s = .next t
    ∧ ((s.lane l).mode.mode = .none ∨ (s.lane l).mode.mode = .idle → (t.lane l).mode = (s.lane l).mode)
    ∧ (s.acquiring l = true → (s.lane l).mode.entering = false →
      (t.lane l).mode.mode = (s.lane l).mode.mode ∧ (t.lane l).mode.ending = true ∧ (t.lane l).cal.result = 4)
    ∧ (s.acquiring l = false → (s.lane l).mode.entering = false → s.seamOpen l = false → (t.lane l).mode = (s.lane l).mode)
    ∧ ((s.lane l).mode.entering = true → (t.lane l).mode = (s.lane l).mode)
    ∧ (s.capturesRun l = true → (s.lane l).mode.entering = false → s.seamOpen l = false → (s.lane l).mode.mode ≠ .smoulder →
      (t.lane l).stopMask = some (((s.lane l).stopMask.getD 0) ||| 2)
      ∧ (t.lane l).reading = (s.lane l).reading.map (fun c => { c with suspect := true }))
    ∧ (s.capturesRun l = true → (s.lane l).mode.mode = .smoulder → s.seamOpen l = false →
      (s.lane l).mode.entering = false → (t.lane l).arun.mask = ((s.lane l).arun.mask ||| 2)))
  ∧ (∀ (l : Lane) (c : LineCtx) (s : State), s.clk.hold = true → s.clk.onRef = false → s.capturesRun l = true →
    s.sys.gang = false → (s.lane l).reading = some c → s.pixelsOut l c = false →
    ∃ t, exec (.holdoverLineLimit l) s = .next t ∧ (t.lane l).exposing = none ∧ (t.lane l).reading = none
      ∧ (t.lane l).nextLine = c.num ∧ (t.lane l).resumed = true ∧ t.clk = s.clk)
  ∧ (∀ (l : Lane) (c e : LineCtx) (s : State), s.clk.hold = true → s.clk.onRef = false → s.capturesRun l = true →
    s.sys.gang = false → (s.lane l).reading = some c → s.pixelsOut l c = true → (s.lane l).exposing = some e →
    c.num < e.num → ∃ t, exec (.holdoverLineLimit l) s = .next t ∧ (t.lane l).exposing = none
      ∧ (t.lane l).reading = some c ∧ (t.lane l).nextLine = e.num ∧ (t.lane l).resumed = true ∧ t.clk = s.clk)
  ∧ (∀ (l : Lane) (e : LineCtx) (s : State), s.clk.hold = true → s.clk.onRef = false → s.capturesRun l = true →
    s.sys.gang = false → (s.lane l).reading = none → (s.lane l).exposing = some e →
    ∃ t, exec (.holdoverLineLimit l) s = .next t ∧ (t.lane l).exposing = none ∧ (t.lane l).reading = none
      ∧ (t.lane l).nextLine = e.num ∧ (t.lane l).resumed = true ∧ t.clk = s.clk)
  ∧ (∀ s : State, s.Settled → s.clk.hold = true → s.clk.onRef = false → s.sys.safe = false → s.holdQuiet = true →
    s.clk.refLost = false → ∃ t, exec .holdoverSwitch s = .next t
      ∧ t.clk = { s.clk with onRef := true, attempts := 0 }
      ∧ (∀ l, (t.lane l).bare = { s.lane l with head := { (s.lane l).head with readout := none } }.bare)
      ∧ Frame [.clk, .lane .a, .lane .b] s t)
  ∧ ∀ s : State, s.clk.hold = true → s.clk.onRef = false → s.sys.safe = false → s.holdQuiet = true →
    s.clk.refLost = true → ∃ t, exec .holdoverSwitch s = .next t
      ∧ t.sys.safe = true ∧ t.sys.ready = false ∧ t.sys.faultN = false

/-- At trip + 8 ms every line in progress and every motion has ended, and the switch follows (R160, R159). The loss
of the reference is a trip without a switch to it: the TSC stops counting reference edges, and with every lane quiet
the engine is in SAFE (R165), at once where they are so already (log 26). -/
def Obligations.HoldOverrunAndReferenceLoss : Prop :=
  (∀ s : State, s.clk.hold = true → s.clk.onRef = false → s.sys.safe = false → s.clk.refLost = false →
    ∃ t, exec .holdOverrun s = .next t ∧ t.clk.onRef = true
      ∧ ∀ l, (t.lane l).exposing = none ∧ (t.lane l).reading = none ∧ (t.lane l).arun.motion = none)
  ∧ ∀ s : State, s.power.phase = .run → s.sys.safe = false → s.clk.onRef = false → s.clk.refLost = false →
    s.tmr.lf = false → s.tmr.lfPend = false → ∃ t, exec .refLoss s = .next t
      ∧ t.clk.hold = true ∧ t.clk.refLost = true ∧ t.clk.onRef = false ∧ t.tmr.counting = false ∧ t.tmr.lfPend = true
      ∧ t.tmr.tsc = s.tmr.tsc ∧ (s.holdQuiet = true → t.sys.safe = true ∧ t.sys.ready = false)

/-! ### Mains, outputs and ports (06, 07) -/

/-- A mains period before bring-up step 6, in range where the mains were (R172), only enters the windows and what PWR and LUX
show of them (R176, R466; the period shown in whole microseconds is log 8, and BUS_OK by phase, the low bus standing until
42.0 V, log 27). In RUN, SAFE too, each period enters them and is judged (that a window is judged once it holds 50 periods,
and OVERLOAD shown at every one, is log 27): the voltage or the frequency out of range for 50 periods, or back for 50
(R172); a lane newly over its budget, recorded and tripped (R177), in GANG-SCAN both; management over its own, its outputs
and lights off (R178); an overload, recorded, which ends every captured run (R179), and one that lasts over the 50 periods
after every lane came to IDLE, which is SAFE (R180). An output held at its limit too long goes off (R175); on AUX_3V3 that is a short, recorded as
0x1031. The 48 V bus fallen in RUN is SAFE (R181). -/
def Obligations.MainsPeriodAndOutputs : Prop :=
  (∀ (m : MainsReport) (s : State), s.Settled → s.power.phase = .bringup → s.power.stepDone < 6 → 850 ≤ m.vrms →
    freqBad m.ticks = false → s.pwr.mainsLow = false → s.pwr.freqOut = false → s.hist.persist = 0 →
    overCap (window50 m.input s.hist.input) m.vrms = false → ∃ t, exec (.mainsPeriodEnd m) s = .next t
    ∧ t.pwr = { s.pwr with
        overload := false
        vrms := m.vrms, periodUs := min 65535 (quotShown m.ticks 25), busV := m.busMv10
        busOk := if s.busKnown then decide (4200 ≤ m.busMv10) else s.pwr.busOk
        busLow := s.pwr.busLow && decide (m.busMv10 < 4200)
        limit := s.pwr.on.mapIdx (fun i on => on && m.atLimit.getD i false) }
    ∧ t.hist.input = (m.input :: s.hist.input).take 50 ∧ t.hist.drawA = (m.drawA :: s.hist.drawA).take 50
    ∧ t.hist.drawB = ((if s.twoLanes then m.drawB else 0) :: s.hist.drawB).take 50
    ∧ t.hist.drawM = (m.drawM :: s.hist.drawM).take 50
    ∧ (∀ n, n < s.lux.ch.length → t.lux.ch.getD n {} = { s.lux.ch.getD n {} with mA := if n < 8 then m.chMa.getD n 0 else 0 })
    ∧ Frame [.pwr, .hist, .lux] s t)
  ∧ (∀ (m : MainsReport) (s : State), s.power.phase = .run → s.hist.persist = 0 → ∃ t, exec (.mainsPeriodEnd m) s = .next t
    ∧ t.pwr.vrms = m.vrms ∧ t.pwr.periodUs = min 65535 (quotShown m.ticks 25) ∧ t.pwr.busV = m.busMv10
    ∧ t.pwr.busOk = decide (4200 ≤ m.busMv10) ∧ t.pwr.overload = overCap (window50 m.input s.hist.input) m.vrms
    ∧ t.hist.input = window50 m.input s.hist.input ∧ t.hist.drawA = window50 m.drawA s.hist.drawA
    ∧ t.hist.drawB = window50 (if s.twoLanes then m.drawB else 0) s.hist.drawB
    ∧ t.hist.drawM = window50 m.drawM s.hist.drawM)
  ∧ (∀ (m : MainsReport) (s : State), s.power.phase = .run → s.hist.persist = 0 → s.log.store.length < 480 →
    ∃ t, exec (.mainsPeriodEnd m) s = .next t
    ∧ (m.vrms < 850 → 49 ≤ s.hist.lowCount → s.pwr.mainsLow = false → t.pwr.mainsLow = true
      ∧ ∃ r ∈ t.log.store.drop s.log.store.length, r.code = 0x1002 ∧ r.cls = 0)
    ∧ (850 ≤ m.vrms → 49 ≤ s.hist.okCount → t.pwr.mainsLow = false)
    ∧ (freqBad m.ticks = true → 49 ≤ s.hist.fOutCount → s.pwr.freqOut = false → t.pwr.freqOut = true
      ∧ ∃ r ∈ t.log.store.drop s.log.store.length, r.code = 0x1003 ∧ r.cls = 0)
    ∧ (freqBad m.ticks = false → 49 ≤ s.hist.fOkCount → t.pwr.freqOut = false))
  ∧ (∀ (l : Lane) (m : MainsReport) (w : List Nat) (b : Nat) (s : State), s.power.phase = .run →
    s.log.store.length < 480 → s.sys.gang = false → s.configured l = true →
    w = (if l = .a then window50 m.drawA s.hist.drawA else window50 m.drawB s.hist.drawB) →
    b = (if l = .a then s.shadow.party.budgetA else s.shadow.party.budgetB) → overBudget w b = true →
    s.hist.overd.getD (laneNo l) false = false → ∃ t, exec (.mainsPeriodEnd m) s = .next t
      ∧ (∃ r ∈ t.log.store.drop s.log.store.length,
        r.code = 0x1020 ∧ r.cls = 3 ∧ r.parties = s.laneBits l ∧ r.detail.headD 9 = laneNo l)
      ∧ (t.lane l).head.supply = false ∧ t.hist.overd.getD (laneNo l) false = true
      ∧ ((s.lane l).mode.mode = .idle → (t.lane l).mode.trip = true)
      ∧ (s.capturesRun l = true → (s.lane l).lrun.ending = none → (t.lane l).mode.tripDue = true
        ∧ (t.lane l).lrun.ending = some { aborted := true, cause := 5, code := 0x1020 }))
  ∧ (∀ (m : MainsReport) (s : State), s.power.phase = .run → s.log.store.length < 480 → s.sys.gang = true →
    overBudget ((window50 m.drawA s.hist.drawA).zipWith (· + ·) (window50 (if s.twoLanes then m.drawB else 0) s.hist.drawB))
      (s.shadow.party.budgetA + s.shadow.party.budgetB) = true → s.hist.overd.getD 0 false = false →
    s.capturesRun .a = true → s.capturesRun .b = true →
    ∃ t, exec (.mainsPeriodEnd m) s = .next t
      ∧ (∃ r ∈ t.log.store.drop s.log.store.length, r.code = 0x1020 ∧ r.cls = 3)
      ∧ ∀ l, (t.lane l).mode.tripDue = true ∧ (t.lane l).head.supply = false)
  ∧ (∀ (m : MainsReport) (s : State), s.power.phase = .run → s.log.store.length < 480 →
    overBudget (window50 m.drawM s.hist.drawM) s.shadow.party.budgetM = true → s.hist.overd.getD 2 false = false →
    ∃ t, exec (.mainsPeriodEnd m) s = .next t
      ∧ (∃ r ∈ t.log.store.drop s.log.store.length, r.code = 0x1021 ∧ r.cls = 0)
      ∧ t.outOn .aux = false ∧ t.pwr.mgtOff = true ∧ (∃ c ∈ t.lux.planned, c.party = 0)
      ∧ ∀ n ∈ s.chansOf 0, (t.lux.ch.getD n {}).drive = 0)
  ∧ (∀ (m : MainsReport) (s : State), s.power.phase = .run → s.log.store.length < 480 → s.sys.gang = false →
    overCap (window50 m.input s.hist.input) m.vrms = true → s.hist.capHot = false → s.hist.skip ≤ 1 →
    overBudget (window50 m.drawA s.hist.drawA) s.shadow.party.budgetA = false →
    overBudget (window50 m.drawB s.hist.drawB) s.shadow.party.budgetB = false →
    (s.capturesRun .a || s.capturesRun .b) = true → ∃ t, exec (.mainsPeriodEnd m) s = .next t
      ∧ (∃ r ∈ t.log.store.drop s.log.store.length, r.code = 0x1010 ∧ r.cls = 2) ∧ t.pwr.overload = true
      ∧ t.hist.persist = (if s.allIdle then 2 else 1)
      ∧ ∀ l, s.capturesRun l = true → (s.lane l).lrun.ending = none →
        (t.lane l).lrun.ending = some { aborted := true, cause := 14, code := 0x1010 })
  ∧ (∀ (m : MainsReport) (s : State), s.power.phase = .run → s.log.store.length < 480 → s.sys.safe = false →
    overCap (window50 m.input s.hist.input) m.vrms = true → s.hist.capHot = true → s.hist.skip ≤ 1 →
    (∀ n, n < 3 → s.hist.overd.getD n false = true) → 51 ≤ s.hist.persist →
    ∃ t, exec (.mainsPeriodEnd m) s = .next t ∧ t.sys.safe = true ∧ t.sys.ready = false
      ∧ (∃ r ∈ t.log.store.drop s.log.store.length, r.code = 0x1011 ∧ r.cls = 4))
  ∧ (∀ (m : MainsReport) (s : State), s.power.phase = .run → s.hist.persist = 1 → s.hist.capHot = true →
    s.hist.skip ≤ 1 → (∀ n, n < 3 → s.hist.overd.getD n false = true) → s.allIdle = true →
    ∃ t, exec (.mainsPeriodEnd m) s = .next t ∧ t.hist.persist = 2 ∧ t.sys.safe = s.sys.safe)
  ∧ (∀ (o : Output) (s : State), ∃ t, exec (.outputFoldbackTimeout o) s = .next t ∧ t.outOn o = false)
  ∧ (∀ s : State, s.Settled → s.LogRoom → s.outOn .aux = true → s.power.phase = .run → s.sys.safe = false →
    s.pwr.auxShort = false → ∃ t, exec (.outputFoldbackTimeout .aux) s = .next t
      ∧ t.pwr = { s.pwr with on := s.pwr.on.set 4 false, limit := s.pwr.limit.set 4 false, auxShort := true }
      ∧ t.log = s.log.plus (s.mkRec 0x1031 0 (s.partyBits 0) []) ∧ Frame [.pwr, .log] s t)
  ∧ ∀ s : State, s.power.phase = .run → s.pwr.busOk = true → s.sys.safe = false → ∃ t, exec .busLow s = .next t
    ∧ t.pwr.busOk = false ∧ t.sys.safe = true ∧ t.sys.ready = false ∧ t.sys.faultN = false

/-- A port fault that is watched sets its flag of PWR.WIRING (R189, Table 6.8), and a light port its channel's; the
1 s check of the light bus sets BUS_SHORT and, the short gone, clears it (R193). -/
def Obligations.PortFaultSetsItsFlag : Prop :=
  (∀ (l : Lane) (k : LanePort) (s : State), s.portWatched (.lanePort l k) = true → s.configured l = true →
    ∃ t, exec (.portFaultDetected (.lanePort l k)) s = .next t ∧ bit (t.wiring l) (wireBit k) = true)
  ∧ (∀ (n : Nat) (k : LightPort) (s : State), s.portWatched (.lightPort n k) = true → s.chOn n = true →
    (s.lux.ch.getD n {}).faulted = false → ∃ t, exec (.portFaultDetected (.lightPort n k)) s = .next t
      ∧ bit t.pwr.wiringL n = true)
  ∧ (∀ s : State, s.portWatched .busSwap = true → ∃ t, exec (.portFaultDetected .busSwap) s = .next t
    ∧ t.pwr.busSwap = true)
  ∧ (∀ s : State, s.portWatched .auxShort = true → s.pwr.auxShort = false →
    ∃ t, exec (.portFaultDetected .auxShort) s = .next t ∧ t.pwr.auxShort = true ∧ t.outOn .aux = false)
  ∧ (∀ s : State, s.portWatched .busShort = true → ∃ t, exec (.lightBusCheck true) s = .next t
    ∧ t.pwr.busShort = true)
  ∧ ∀ s : State, s.Settled → s.power.phase = .run → s.sys.safe = false → ∃ t, exec (.lightBusCheck false) s = .next t
    ∧ t.pwr = { s.pwr with busShort := false } ∧ Frame [.pwr] s t

/-- A head's identity read in full in bring-up (R207, R208, R211): one that Table 7.3 finds nothing against, beside
a thermometer in range, shows HEAD.STATUS.ID = 1, type, serial number and digest; one unread where the check is on
shows ID = 3 and its wiring flag. -/
def Obligations.IdentityReadShowsTheHead : Prop :=
  (∀ (l : Lane) (b : List Nat) (ohm : Nat) (s : State), s.Settled → s.power.phase = .bringup → s.power.stage = 10 →
    s.configured l = true → s.outOn (headOut l) = true → b.length = 64 →
    idFinding (s.img l).head (some b) = [] → 700 ≤ ohm → ohm ≤ 1700 →
    ∃ t, exec (.identReadDone l (some b) (some ohm)) s = .next t
      ∧ (t.lane l).head = { (s.lane l).head with
          supply := true, idState := 1, digest := some (b.drop 56), typ := slice b 8 8, serial := u32 b 56, thermOk := true }
      ∧ Frame [.lane l] s t)
  ∧ ∀ (l : Lane) (ohm : Nat) (s : State), s.power.phase = .bringup → s.power.stage = 10 → s.configured l = true →
    s.outOn (headOut l) = true → (s.img l).head.idCheck = true → 700 ≤ ohm → ohm ≤ 1700 →
    ∃ t, exec (.identReadDone l none (some ohm)) s = .next t ∧ (t.lane l).head.idState = 3
      ∧ (t.lane l).head.digest = none ∧ bit (t.wiring l) 3 = true

/-! ### U20, the log, calibration commits, memory and the Tally (02, 09, 10, 18) -/

/-- An operation at U20 that ends well has changed the cells as an erase or a page program does; one that fails or
overruns leaves only the cells it works on open (R275), is recorded as 0x7041 and, where it may be, issued once more. -/
def Obligations.FlashOperationsEnd : Prop :=
  (∀ (op : FlashOp) (s : State), s.flash.op = some op → op.due = false → ∃ t, exec (.flashOpDone true) s = .next t
    ∧ t.flash.cells = op.apply s.flash.cells ∧ t.flash.dev = s.flash.dev ∧ t.free = s.free)
  ∧ (∀ (op : FlashOp) (s : State), s.flash.op = some op → op.due = false → ∃ t, exec (.flashOpDone false) s = .next t
    ∧ t.free = s.free + 1 ∧ (∀ a, a < op.addr ∨ op.addr + op.span ≤ a →
      Mem.wf flashBlank s.flash.cells = true →
      Mem.get flashBlank t.flash.cells a = Mem.get flashBlank s.flash.cells a))
  ∧ (∀ (op : FlashOp) (s : State), s.Settled → s.LogRoom → s.flash.op = some op → op.due = false →
    op.retried = false → s.retryAllowed op = true → ∃ t, exec (.flashOpDone false) s = .next t
      ∧ t.flash.op = some { op with retried := true, due := s.clk.interval }
      ∧ (∃ r, t.log = s.log.plus r ∧ r.code = 0x7041 ∧ r.cls = 0
        ∧ r.detail = [if op.program then 1 else 2, lo16 op.addr, hi16 op.addr, 1].map (· % 65536))
      ∧ Frame [.flash, .log, .free] s t)
  ∧ ∀ (op : FlashOp) (s : State), s.Settled → s.LogRoom → s.flash.op = some op → op.due = false →
    op.retried = false → s.retryAllowed op = true → ∃ t, exec (.flashOpTimeout true) s = .next t
      ∧ t.flash.op = some { op with retried := true, due := s.clk.interval }
      ∧ (∃ r, t.log = s.log.plus r ∧ r.code = 0x7041 ∧ r.cls = 0
        ∧ r.detail = [if op.program then 1 else 2, lo16 op.addr, hi16 op.addr, 2].map (· % 65536))
      ∧ Frame [.flash, .log, .free] s t

/-- With records pending in an open sector, the ring programs the first of them, as Table 18.3 lays them out, at its
next place to the end of the page (R563). Dropped records are reported by 0x0050 with their count (R562). -/
def Obligations.RingProgramsPendingRecords : Prop :=
  (∀ s : State, s.Settled → s.ringAllowed = true → s.log.ringOpen = true → s.log.ringPos < 127 →
    s.pendingRecs ≠ [] → ∃ t, exec .ringProgramStart s = .next t
      ∧ t.flash.op = some {
          program := true
          addr := recAddr s.ledger.ringSector s.log.ringPos
          data := (s.pendingRecs.take (8 - (s.log.ringPos + 1) % 8)).flatMap FaultRec.bytes
          use := .ringPage ((s.pendingRecs.take (8 - (s.log.ringPos + 1) % 8)).map FaultRec.seq) }
      ∧ t.flash.cells = s.flash.cells ∧ t.flash.dev = s.flash.dev
      ∧ t.log.store = s.log.store ∧ Frame [.flash, .log] s t)
  ∧ ∀ s : State, s.Settled → s.LogRoom → s.log.unreported ≠ 0 → s.dropDue = true →
    ∃ t, exec .logDropped s = .next t
      ∧ t.log = { s.log with unreported := 0, lastDropTsc := some s.tmr.tsc }.plus
          (s.mkRec 0x0050 0 0 [min 65535 s.log.unreported])
      ∧ Frame [.log] s t

/-- A coefficient commit begins with step K2 and record 0x9030 (R267, R270, Table 9.2), and its end, record
0x9031 saved in the ring, shows the outcome (K7); K2's end, 0x9030 saved, begins the erases of K3. -/
def Obligations.CalibrationCommitSteps : Prop :=
  (∀ (l : Lane) (k e : Nat) (s : State), s.Settled → s.LogRoom → s.Accepts (hostWrite (pixUnit l) 0x026 [k % 4 + 4] e) →
    ∃ t, exec (.pixCalcmdGo l k e) s = .next t ∧ t.Replied (hostWrite (pixUnit l) 0x026 [k % 4 + 4] e) []
      ∧ (t.lane l).cal.kind = 3 ∧ (t.lane l).cal.set = k % 4 ∧ (t.lane l).cal.state = 3
      ∧ ((t.lane l).cal.slotY, (t.lane l).cal.seq) = s.spare l (k % 4)
      ∧ t.log = s.log.plus (s.mkRec (0x9030 + laneOff l) 0 (s.laneBits l)
          ([k % 4, b2n (s.spare l (k % 4)).1] ++ leWords 2 (s.spare l (k % 4)).2))
      ∧ Frame [.lane l, .log] s t)
  ∧ (∀ (l : Lane) (c2 c1 : Nat) (s : State), s.Settled → (s.lane l).cal.state = 3 →
    s.recSaved (0x9030 + laneOff l) = true → s.flash.op = none → s.clk.interval = false →
    s.pwr.pfw = false → s.power.phase = .run → ∃ t, exec (.calCommitStepDone ⟨l, c2, c1⟩) s = .next t
      ∧ (t.lane l).cal = { (s.lane l).cal with state := 4, count := 0, prog := 0 }
      ∧ t.mem = { s.mem with c2Worst := max s.mem.c2Worst (min 8191 c2) }
      ∧ t.flash.op = some { program := false, addr := slotAddr l (s.lane l).cal.set (s.lane l).cal.slotY, use := .calErase l }
      ∧ t.flash.cells = s.flash.cells ∧ Frame [.lane l, .flash, .mem] s t)
  ∧ ∀ (l : Lane) (c2 c1 : Nat) (s : State), s.Settled → (s.lane l).cal.state = 8 → s.recSaved (0x9031 + laneOff l) = true →
    s.clk.interval = false → (s.lane l).cal.acqKind = 0 → (s.lane l).cal.acqWait = false → (s.lane (otherLane l)).cal.state ≠ 9 →
    ((s.flash.op.map (fun op => op.use.ofCal l)).getD false) = false →
    s.power.phase = .run → ∃ t, exec (.calCommitStepDone ⟨l, c2, c1⟩) s = .next t
      ∧ (t.lane l).cal = { (s.lane l).cal with state := 0, result := 1, lastSeq := (s.lane l).cal.seq }
      ∧ t.mem = { s.mem with c2Worst := max s.mem.c2Worst (min 8191 c2) } ∧ Frame [.lane l, .mem] s t

/-- A calibration run (R258 to R266). Each line of a DARK-CAL or FLAT-CAL run is added, as raw codes, to the accumulators
of the taps in its mask; the line that completes the count ends the acquisition and its commit begins with step K1, in the
slot and under the sequence that R270 gives; K1 puts the candidate into the Till window and begins K2 with record 0x9030,
or rejects it with record 0x9032 and its reason (R264). A dark candidate's offset is the mean of its codes, rounded half
up, the gain carried over (R260). -/
def Obligations.CalibrationRunAcquires : Prop :=
  (∀ (l : Lane) (x : LineInput) (p : Program) (c : LineCtx) (s : State), s.MemOk → s.marching = false →
    s.clk.interval = false → s.sys.gang = false → (s.lane l).mode.prog = some p → (p.mode = 3 ∨ p.mode = 4) →
    (s.lane l).mode.mode = progMode p → s.moves l p = false → (s.lane l).mode.entering = false →
    (s.lane l).mode.ending = false → (s.lane l).head.nextTrim = none → (s.lane l).head.reclock = false →
    s.driving l = true → (s.lane l).head.readout = none → (s.lane l).reading = none → (s.lane l).exposing = some c →
    s.fenced l (s.tillSec l).window = false → 131072 ≤ (s.shadow.windows.getD (s.tillSec l).window {}).len →
    (s.img l).head.active ≤ 16384 → p.taps < 16 → ∃ t, exec (.lineStart l x) s = .next t
      ∧ (t.lane l).reading = some c ∧ ∀ k ∈ maskTaps p.taps, t.calSums l k (s.img l).head.active
        = (List.zipWith (· + ·) (s.calSums l k (s.img l).head.active) (tapActive (s.img l).head (s.codes l x) k)).map
            (· % 2 ^ 32))
  ∧ (∀ (l : Lane) (x : LineInput) (p : Program) (c : LineCtx) (s : State), s.clk.interval = false →
    s.sys.gang = false → (s.lane l).mode.prog = some p → (p.mode = 3 ∨ p.mode = 4) →
    (s.lane l).mode.mode = progMode p → s.moves l p = false → (s.lane l).mode.entering = false →
    (s.lane l).mode.ending = false → (s.lane l).reading = some c → (s.lane l).exposing = none →
    (s.lane l).cal.state = 1 → (s.lane l).cal.lines + 1 = p.lines → (s.lane l).cal.acqKind = p.mode - 2 →
    committing (s.lane (otherLane l)).cal = false → ∃ t, exec (.lineStart l x) s = .next t
      ∧ (t.lane l).mode.ending = true ∧ (t.lane l).reading = none ∧ (t.lane l).cal.state = 2
      ∧ (t.lane l).cal.kind = p.mode - 2 ∧ (t.lane l).cal.set = (s.lane l).cal.acqSet ∧ (t.lane l).cal.acqKind = 0
      ∧ ((t.lane l).cal.slotY, (t.lane l).cal.seq) = s.spare l (s.lane l).cal.acqSet)
  ∧ (∀ (l : Lane) (c2 c1 : Nat) (s : State), s.Settled → s.MemOk → s.LogRoom → s.marching = false →
    s.clk.interval = false → s.power.phase = .run → (s.lane l).cal.state = 2 → s.calReject l = none →
    s.fenced l (s.tillSec l).window = false → s.fenced l (s.img l).pix.window = false →
    candOffset + payloadLen / 2 ≤ (s.shadow.windows.getD (s.tillSec l).window {}).len →
    ∃ t, exec (.calCommitStepDone ⟨l, c2, c1⟩) s = .next t ∧ (t.lane l).cal.state = 3
      ∧ (t.lane l).cal.cand = s.candidate l
      ∧ t.masterRead l (s.tillSec l).window candOffset (payloadLen / 2)
        = bytesToWords (candPayload l (s.lane l).cal.set (s.candidate l) (s.candShading l))
      ∧ t.log = s.log.plus (s.mkRec (0x9030 + laneOff l) 0 (s.laneBits l)
          ([(s.lane l).cal.set, b2n (s.lane l).cal.slotY] ++ leWords 2 (s.lane l).cal.seq))
      ∧ Frame [.lane l, .log, .mem, .bank] s t)
  ∧ (∀ (l : Lane) (c2 c1 r x : Nat) (s : State), s.Settled → s.LogRoom → s.clk.interval = false →
    s.power.phase = .run → (s.lane l).cal.state = 2 → s.calReject l = some (r, x) →
    (s.lane l).cal.acqKind = 0 → (s.lane l).cal.acqWait = false → (s.lane (otherLane l)).cal.state ≠ 9 →
    s.fenced l (s.tillSec l).window = false → s.fenced l (s.img l).pix.window = false → s.flash.op = none →
    ∃ t, exec (.calCommitStepDone ⟨l, c2, c1⟩) s = .next t ∧ (t.lane l).cal.state = 0 ∧ (t.lane l).cal.result = 2
      ∧ t.log = s.log.plus (s.mkRec (0x9032 + laneOff l) 0 (s.laneBits l) [r, x])
      ∧ t.bank = s.bank ∧ Frame [.lane l, .log, .mem] s t)
  ∧ ∀ (l : Lane) (k n i : Nat) (s : State), (s.lane l).cal.kind = 1 → k ∈ s.calTaps l → 0 < (s.lane l).cal.total → i < n →
    (s.candTap l k n).getD i (0, 0) = (((s.calSums l k n).getD i 0 + (s.lane l).cal.total / 2) / (s.lane l).cal.total,
      ((s.carried l k n).getD i (0, 0)).2)

/-- The aperture (R290): an accepted write of words puts them into the selected window from MEM.HOFF on, wrapping at
its end as often as it comes to it, the last word to a place standing, and leaves every other word of memory alone; an
accepted read answers the words there as far as they are shifted (log 117); either advances HOFF modulo the window's length and notes the longest grant. -/
def Obligations.ApertureReadsAndWritesTheWindow : Prop :=
  (∀ (r : Req) (k lat : Nat) (s : State), s.Settled → arrival r.words = .good r → s.Accepts r → r.aperture = true →
    r.write = true → 0 < (s.shadow.windows.getD s.mem.hwin {}).len → r.data.length = r.n →
    (∀ w ∈ r.data, w < 65536) → Mem.wf memBlank s.bank = true →
    ∃ t, exec (.memDataAccess r.words k lat) s = .next t ∧ t.Replied r []
      ∧ (∀ i, i < r.n → r.n ≤ i + (s.shadow.windows.getD s.mem.hwin {}).len →
        Mem.words t.bank (s.winAddr s.mem.hwin (s.mem.hoff + i)) 1 = [r.data.getD i 0])
      ∧ t.mem = { s.mem with hoff := (s.mem.hoff + r.n) % (s.shadow.windows.getD s.mem.hwin {}).len,
                             c2Worst := max s.mem.c2Worst (min 8191 lat) }
      ∧ (∀ a, (∀ i, i < r.n → a ≠ s.winAddr s.mem.hwin (s.mem.hoff + i)) → Mem.words t.bank a 1 = Mem.words s.bank a 1)
      ∧ Frame [.mem, .bank] s t)
  ∧ ∀ (r : Req) (k lat : Nat) (s : State), s.Settled → arrival r.words = .good r → s.Accepts r → r.aperture = true →
    r.write = false → 0 < (s.shadow.windows.getD s.mem.hwin {}).len →
    ∃ t, exec (.memDataAccess r.words k lat) s = .next t
      ∧ t.sys.response = (answer 0 3 (s.sys.epochs.getD 3 0) (s.winRead s.mem.hwin s.mem.hoff r.n)).take
          (if r.n ≤ k then r.n + 2 else k + 1)
      ∧ t.mem = { s.mem with hoff := (s.mem.hoff + r.n) % (s.shadow.windows.getD s.mem.hwin {}).len,
                             c2Worst := max s.mem.c2Worst (min 8191 lat) }
      ∧ Frame [.mem] s t

/-- A Tally run accepted (R292, R297): a destructive one marches over memory, a preserving one keeps what it holds; at the
march's end memory reads as nothing listed (the model's choice of what the arrays then read as, logs 5 and 65). A march
takes the elements of R292 in their order, noting those rows whose read it does not expect (R294, by the marks of log 66);
its rows in ascending order in the two elements for which Table 10.3 says Either is the model's choice (log 101), and with
march code 1 it waits at each pause (R293). A
preserving run goes row by row (R298 to R300): a row that passes is followed by the next one free, and one with a read
other than the march expects is steered to its bank's lowest spare; a pause of the march with retention is counted, and
the run does not end before its second (R293); a destructive march that ends is followed by the reload, which ends the run (R296): TALLY_RUN_END comes twice, as
log 66 has it; a preserving run ends after its last row. -/
def Obligations.TallyRunsStartGoOnAndEnd : Prop :=
  ((∀ (m e : Nat) (s : State), s.Settled → s.Accepts (hostWrite 3 8 [1 + 4 * (m % 2)] e) →
    ∃ t, exec (.tallyDestructiveGo m e) s = .next t ∧ t.Replied (hostWrite 3 8 [1 + 4 * (m % 2)] e) []
      ∧ t.mem = { s.mem with kind := false, march := m % 2, tstat := .destructive, tcount := 0, tskip := 0, trow := 0, pauses := 0, tpos := 0, found := [],
                             ttest := false, tover := false }
      ∧ Frame [.mem] s t)
  ∧ ∀ (m e : Nat) (s : State), s.Settled → s.Accepts (hostWrite 3 8 [3 + 4 * (m % 2)] e) →
    ∃ t, exec (.tallyPreservingGo m e) s = .next t ∧ t.Replied (hostWrite 3 8 [3 + 4 * (m % 2)] e) []
      ∧ t.mem.tstat = .preserving ∧ t.mem.kind = true ∧ t.mem.march = m % 2 ∧ t.mem.tcount = 0
      ∧ t.mem.repair = s.mem.repair ∧ t.mem.unrep = s.mem.unrep
      ∧ (s.rowBusy s.mem.tfirst = false → t.mem.trow = s.mem.tfirst ∧ t.mem.ttest = true)
      ∧ Frame [.mem] s t)
  ∧ ((∀ (ds : List (Nat × Nat)) (lat : Nat) (s : State), s.Settled → s.mem.tstat = .preserving → s.mem.ttest = true →
    s.marching = false → s.clk.interval = false → s.sys.haltReq = false → s.mem.trow + 1 ≤ s.mem.tend → s.rowBusy (s.mem.trow + 1) = false →
    ∃ t, exec (.tallyRowDone [] [] ds lat) s = .next t
      ∧ t.mem = { s.mem with trow := s.mem.trow + 1, c2Worst := max s.mem.c2Worst (min 8191 lat),
                             tcount := min 255 s.mem.tcount }
      ∧ Frame [.mem] s t)
  ∧ (∀ (x : MarchRead) (ds : List (Nat × Nat)) (lat : Nat) (s : State), s.mem.tstat = .preserving → s.mem.ttest = true →
    s.marching = false → s.clk.interval = false → readBad x = true → x.row = s.mem.trow → x.row < 512 →
    s.mem.repair.length = 128 → (∀ k, k < 4 → s.mem.repair.getD (4 * x.bank + k) {} = {}) →
    ∃ t, exec (.tallyRowDone [x] [] ds lat) s = .next t
      ∧ t.mem.repair = s.mem.repair.set (4 * x.bank) { row := x.row, suspect := true, valid := true }
      ∧ t.mem.tcount = min 255 (s.mem.tcount + 1) ∧ t.mem.unrep = s.mem.unrep)
  ∧ (∀ s : State, s.Settled → s.mem.tstat = .destructive → s.mem.march = 1 → s.mem.pauses < 2 → s.clk.interval = false →
    ∃ t, exec .tallyRetentionPauseEnd s = .next t
      ∧ t.mem = { s.mem with pauses := s.mem.pauses + 1
                             tpos := max (if s.mem.pauses = 0 then 1032 else 2580) s.mem.tpos } ∧ Frame [.mem] s t)
  ∧ (∀ (x : MarchRead) (ds : List (Nat × Nat)) (lat : Nat) (s : State), s.Settled → s.mem.tstat = .destructive →
    (s.mem.march ≠ 1 ∨ marchPauses[s.mem.pauses]? ≠ some s.mem.tpos) → s.clk.interval = false → s.mem.tpos < marchLen → readBad x = true →
    marchStepOf x.pass x.elem x.row = s.mem.tpos →
    ∃ t, exec (.tallyRowDone [x] [] ds lat) s = .next t
      ∧ t.mem = { s.mem with tpos := s.mem.tpos + 1, found := (s.mem.found ++ [(x.bank, x.row)]).eraseDups
                             c2Worst := max s.mem.c2Worst (min 8191 lat) } ∧ Frame [.mem] s t)
  ∧ (∀ (rs ts : List MarchRead) (c2 : Nat) (s : State), s.Settled → s.mem.tstat = .destructive → s.mem.march = 1 →
    s.mem.pauses < 2 → ∃ t, exec (.tallyRunEnd ⟨rs, ts⟩ c2) s = .next t ∧ Frame [] s t)
  ∧ (∀ (c2 : Nat) (s : State), s.Settled → s.mem.tstat = .destructive → s.clk.interval = false → s.power.phase = .run →
    (s.mem.march ≠ 1 ∨ 2 ≤ s.mem.pauses) → ∃ t, exec (.tallyRunEnd {} c2) s = .next t
      ∧ t.mem = { s.mem with repair := List.replicate 128 {}, unrep := [], tcount := 0, pauses := 0, tstat := .reload,
                             tpos := 0, found := [],
                             c2Worst := max s.mem.c2Worst (min 8191 c2) }
      ∧ t.bank = [] ∧ Frame [.mem, .bank] s t)
  ∧ (∀ (rs ts : List MarchRead) (c2 : Nat) (s : State), s.mem.tstat = .reload → s.clk.interval = false →
    s.power.phase = .run → ∃ t, exec (.tallyRunEnd ⟨rs, ts⟩ c2) s = .next t ∧ t.mem.tstat = .none)
  ∧ ∀ (rs ts : List MarchRead) (c2 : Nat) (s : State), s.Settled → s.mem.tstat = .preserving → s.mem.tover = true →
    s.mem.tskip = 0 → s.mem.unrep = [] → s.clk.interval = false → s.power.phase = .run → s.sys.haltReq = false →
    s.sys.serviceEnd = false → ∃ t, exec (.tallyRunEnd ⟨rs, ts⟩ c2) s = .next t
      ∧ t.mem = { s.mem with tstat := .none, ttest := false, tover := false } ∧ Frame [.mem] s t)

/-! ### Till and link (11, 12) -/

/-- What the drain fetches from an own, enabled window (R309 to R312): the header with the first burst of a line, a
burst of a line under way or the rest of a closed one, or after the tail timeout what waits; RPTR advances by the
words fetched, the trailer with the last, and no byte of memory changes. -/
def Obligations.DrainFetchesFromTheTill : Prop :=
  (∀ (l : Lane) (w n : Nat) (gs : List C0Grant) (q : Slot) (qs : List Slot) (s : State), s.Settled →
    (s.lane l).till.slots = q :: qs → q.begun = false → q.fetched = 0 → s.linkRuns l = true → s.fenced l (s.tillSec l).window = false →
    (q.closed = true ∨ min (s.tillSec l).cut q.w ≤ max q.written (min w q.w)) → (s.lane l).burstRoom = true →
    n = min 1024 (if q.closed then q.w else min q.w (max q.written (min w q.w))) →
    ∃ t, exec (.tillLineDrainStart l ⟨w, gs⟩) s = .next t
      ∧ (t.lane l).till.rptr = ((s.lane l).till.rptr + 16 + n + (if q.closed ∧ n = q.w then 4 else 0)) % (2 * s.tillSize l)
      ∧ (t.lane l).till.rptr2 = (t.lane l).till.rptr ∧ (t.lane l).till.wptr = (s.lane l).till.wptr
      ∧ Frame [.lane l, .mem] s t)
  ∧ (∀ (l : Lane) (w n : Nat) (fs gs : List C0Grant) (q : Slot) (qs : List Slot) (s : State), s.Settled →
    (s.lane l).till.slots = q :: qs → q.begun = true → s.linkRuns l = true →
    s.fenced l (s.tillSec l).window = false → (s.lane l).burstRoom = true →
    n = min 1024 ((if q.closed then q.w else min q.w (max q.written (min w q.w))) - q.fetched) →
    0 < n → (n = 1024 ∨ q.closed = true) → ∃ t, exec (.tillBurstFetch l w fs gs) s = .next t
      ∧ (t.lane l).till.rptr =
        ((s.lane l).till.rptr + n + (if q.closed ∧ q.fetched + n = q.w then 4 else 0)) % (2 * s.tillSize l)
      ∧ (t.lane l).till.rptr2 = (t.lane l).till.rptr ∧ (t.lane l).till.wptr = (s.lane l).till.wptr
      ∧ Frame [.lane l, .mem] s t)
  ∧ ∀ (l : Lane) (w n : Nat) (gs : List C0Grant) (q : Slot) (qs : List Slot) (s : State), s.Settled →
    (s.lane l).till.slots = q :: qs → q.begun = true → q.closed = false → s.linkRuns l = true → s.fenced l (s.tillSec l).window = false →
    (s.lane l).burstRoom = true → n = min q.w (max q.written (min w q.w)) - q.fetched → 0 < n → n < 1024 →
    ∃ t, exec (.tillTailTimeout l ⟨w, gs⟩) s = .next t
      ∧ (t.lane l).till.rptr = ((s.lane l).till.rptr + n) % (2 * s.tillSize l)
      ∧ (t.lane l).till.rptr2 = (t.lane l).till.rptr ∧ (t.lane l).till.wptr = (s.lane l).till.wptr
      ∧ (t.lane l).till.tails = satInc 255 (s.lane l).till.tails ∧ Frame [.lane l, .mem] s t

/-- A flush by the host (R323), the end drain's limit (R324) and a pointer mismatch in a run (R327) empty the Till, both
copies of both pointers at 0, under the cause of Table 11.4. Outside a run a flush changes nothing beyond the lane
and the log. -/
def Obligations.FlushesEmptyTheTill : Prop :=
  (∀ (l : Lane) (e : Nat) (s : State), s.Accepts (hostWrite (tillUnit l) 0x013 [1] e) →
    ∃ t, exec (.tillCtrlFlush l e) s = .next t ∧ t.Replied (hostWrite (tillUnit l) 0x013 [1] e) []
      ∧ (t.lane l).till.slots = [] ∧ (t.lane l).till.wptr = 0 ∧ (t.lane l).till.rptr = 0
      ∧ (t.lane l).till.wptr2 = 0 ∧ (t.lane l).till.rptr2 = 0 ∧ (t.lane l).till.cause = 1
      ∧ (s.Settled → s.capturesRun l = false → (s.lane l).lrun.opened = false → Frame [.lane l, .log] s t))
  ∧ (∀ (l : Lane) (s : State), s.Settled → s.clk.interval = false → (s.lane l).mode.ending = true →
    (s.lane l).lrun.opened = true → (s.lane l).till.slots ≠ [] → ∃ t, exec (.tillEndDrainLimit l) s = .next t
      ∧ (t.lane l).till.slots = [] ∧ (t.lane l).till.wptr = 0 ∧ (t.lane l).till.rptr = 0
      ∧ (t.lane l).till.wptr2 = 0 ∧ (t.lane l).till.rptr2 = 0 ∧ (t.lane l).till.cause = 2
      ∧ (t.lane l).lrun.ending = some { aborted := true, cause := 12 } ∧ Frame [.lane l, .log] s t)
  ∧ ∀ (l : Lane) (rp wp : Bool) (s : State), s.clk.interval = false → s.configured l = true → s.serving = true →
    s.sys.gang = false → s.capturesRun l = true → (rp = true ∨ wp = true) →
    ∃ t, exec (.tillPtrMismatch l rp wp) s = .next t
      ∧ (t.lane l).till.slots = [] ∧ (t.lane l).till.wptr = 0 ∧ (t.lane l).till.rptr = 0
      ∧ (t.lane l).till.wptr2 = 0 ∧ (t.lane l).till.rptr2 = 0 ∧ (t.lane l).till.cause = 7

/-- Training (R336 to R339, Table 12.3): a receiver found on both strands begins TRAIN; the eighth TS1 with LOCK leads
to CONFIG, where a TS1 leads back to TRAIN; the eighth identical TS2, sixteen sent, a known version and a credit limit
of 1 to 1 024 lead to UP with no credit granted; a training timeout is recorded as 0xA033 and begins a wait, at whose
end, and then only, the link is in DETECT. -/
def Obligations.LinkTrainingGoesStepByStep : Prop :=
  (∀ (l : Lane) (s : State), s.Settled → (s.lane l).link.st = .detect → (s.lane l).lrun.waiting = false →
    ∃ t, exec (.linkDetectPoll l true true false) s = .next t
      ∧ (t.lane l).link = { (s.lane l).link with st := .train, resync := false }
      ∧ (t.lane l).lrun.ts1 = 0 ∧ Frame [.lane l, .pwr] s t)
  ∧ (∀ (l : Lane) (o : OrderedSet) (s : State), s.Settled → (s.lane l).link.st = .train →
    (s.lane l).lrun.waiting = false → o.ts2 = false → o.lock = true → (s.lane l).lrun.ts1 = 7 →
    ∃ t, exec (.orderedSetReceived l o) s = .next t
      ∧ (t.lane l).link = { (s.lane l).link with st := .config } ∧ (t.lane l).lrun.ts2 = 0 ∧ Frame [.lane l] s t)
  ∧ (∀ (l : Lane) (o : OrderedSet) (s : State), s.Settled → (s.lane l).link.st = .config →
    (s.lane l).lrun.waiting = false → o.ts2 = false → ∃ t, exec (.orderedSetReceived l o) s = .next t
      ∧ (t.lane l).link = { (s.lane l).link with st := .train, resync := false }
      ∧ (t.lane l).lrun.ts1 = 0 ∧ Frame [.lane l] s t)
  ∧ (∀ (l : Lane) (o : OrderedSet) (s : State), s.Settled → (s.lane l).link.st = .config →
    (s.lane l).lrun.waiting = false → o.ts2 = true → (s.lane l).lrun.ts2 = 7 →
    (s.lane l).lrun.lastTs2 = some { o with sentTs2 := 0 } → 16 ≤ o.sentTs2 → o.version = 1 → 1 ≤ o.maxCredits →
    o.maxCredits ≤ 1024 → (s.lane l).lrun.lost = false → ∃ t, exec (.orderedSetReceived l o) s = .next t
      ∧ (t.lane l).link = { (s.lane l).link with
          st := .up, dual := o.dual, magId := o.identity, maxCred := o.maxCredits, granted := 0, used := 0
          trains := satInc 255 (s.lane l).link.trains }
      ∧ (t.lane l).lrun.gotStatus = false ∧ Frame [.lane l] s t)
  ∧ (∀ (l : Lane) (s : State), s.Settled → s.LogRoom → ((s.lane l).link.st = .train ∨ (s.lane l).link.st = .config) →
    (s.lane l).lrun.waiting = false → ∃ t, exec (.linkTrainingTimeout l) s = .next t
      ∧ (t.lane l).link = (s.lane l).link ∧ (t.lane l).lrun.waiting = true
      ∧ t.log = s.log.plus (s.mkRec (0xA033 + laneOff l) 0 (s.laneBits l) []) ∧ Frame [.lane l, .log] s t)
  ∧ ∀ (l : Lane) (s : State), s.Settled → ∃ t, exec (.linkRetryTimer l) s = .next t ∧ (t.lane l).lrun.waiting = false
    ∧ ((s.lane l).lrun.waiting = true → (t.lane l).link = { (s.lane l).link with st := .detect } ∧ Frame [.lane l] s t)
    ∧ ((s.lane l).lrun.waiting = false → Frame [] s t)

/-- What comes back on K: a credit count that neither falls nor exceeds the limit of the last TS2 is taken (R356, R357);
any other, and a frame that fails its checks, is discarded and counted (R373). A magazine STATUS that agrees shows the
magazine's state (R361) and with R set ends a resync (R363, R364); the third in turn that disagrees starts one, with
record 0xA036 and the condition as detail (R362; the conditions' numbers, 3 for an open run that is none, are log 70); FULL and FAULT end the run with the causes 10 and 11, the Till flushed (R366). -/
def Obligations.ReturnStrandFrames : Prop :=
  (∀ (l : Lane) (n free : Nat) (s : State), s.Settled → (s.lane l).link.st = .up →
    (n % 65536 + 65536 - (s.lane l).link.granted) % 65536 < 32768 →
    (n % 65536 + 65536 - (s.lane l).link.used % 65536) % 65536 ≤ (s.lane l).lrun.bound →
    ∃ t, exec (.credit l n free) s = .next t ∧ (t.lane l).link = { (s.lane l).link with granted := n % 65536 }
      ∧ (t.lane l).lrun.discCount = 0 ∧ Frame [.lane l] s t)
  ∧ (∀ (l : Lane) (n free : Nat) (s : State), s.Settled → (s.lane l).link.st = .up → (s.lane l).lrun.discCount < 7 →
    (32768 ≤ (n % 65536 + 65536 - (s.lane l).link.granted) % 65536
      ∨ (s.lane l).lrun.bound < (n % 65536 + 65536 - (s.lane l).link.used % 65536) % 65536) →
    ∃ t, exec (.credit l n free) s = .next t
      ∧ (t.lane l).link = { (s.lane l).link with errDisc := satInc 255 (s.lane l).link.errDisc }
      ∧ (t.lane l).lrun.discCount = (s.lane l).lrun.discCount + 1 ∧ Frame [.lane l] s t)
  ∧ (∀ (l : Lane) (s : State), s.Settled → (s.lane l).link.st = .up → (s.lane l).lrun.discCount < 7 →
    ∃ t, exec (.returnFrameDiscarded l) s = .next t
      ∧ (t.lane l).link = { (s.lane l).link with errDisc := satInc 255 (s.lane l).link.errDisc }
      ∧ (t.lane l).lrun.discCount = (s.lane l).lrun.discCount + 1 ∧ Frame [.lane l] s t)
  ∧ (∀ (l : Lane) (m : MagStatus) (s : State), s.Settled → (s.lane l).link.st = .up → s.clk.interval = false →
    m.epoch = s.sys.epochs.getD (tillUnit l) 0 → (s.lane l).lrun.opened = false → (s.lane l).lrun.lost = false →
    ((s.lane l).link.resync = true → m.ack = true) → m.state ≠ 2 → m.last = 0xFFFFFFFF →
    ∃ t, exec (.magazineStatus l m) s = .next t
      ∧ (t.lane l).link = { (s.lane l).link with
          resync := false, mag := m.state % 8, magFree := m.freeMib, magLast := none
          magBad := min 65535 m.discarded }
      ∧ (t.lane l).lrun.gotStatus = true ∧ (t.lane l).lrun.magEpoch = m.epoch ∧ (t.lane l).lrun.discCount = 0
      ∧ Frame [.lane l] s t)
  ∧ (∀ (l : Lane) (m : MagStatus) (s : State), s.Settled → s.LogRoom → (s.lane l).link.st = .up →
    s.clk.interval = false → m.epoch = s.sys.epochs.getD (tillUnit l) 0 → (s.lane l).lrun.opened = false →
    (s.lane l).link.resync = false → m.state = 2 → (s.lane l).lrun.badCount = 2 →
    ∃ t, exec (.magazineStatus l m) s = .next t ∧ (t.lane l).link.resync = true
      ∧ (t.lane l).link.disagree = satInc 255 (s.lane l).link.disagree
      ∧ t.log = s.log.plus (s.mkRec (0xA036 + laneOff l) (if s.capturesRun l then 1 else 0) (s.laneBits l) [3]))
  ∧ ∀ (l : Lane) (m : MagStatus) (s : State), (s.lane l).link.st = .up → s.clk.interval = false → s.sys.gang = false →
    m.epoch = s.sys.epochs.getD (tillUnit l) 0 → (s.lane l).lrun.opened = true → s.capturesRun l = true →
    (s.lane l).lrun.ending = none → (m.state = 3 ∨ m.state = 4) → ∃ t, exec (.magazineStatus l m) s = .next t
      ∧ (t.lane l).mode.ending = true ∧ (t.lane l).till.slots = [] ∧ (t.lane l).till.wptr = 0 ∧ (t.lane l).till.rptr = 0
      ∧ (t.lane l).lrun.ending = some { aborted := true, cause := 7 + m.state, code := 0xA035 + m.state + laneOff l }

/-- The link leaves UP for TRAIN with record 0xA034 and its cause (R373; class LANE-SEAM in a run, one that is ENDING
too, by Table 18.2 as log 105 reads it): loss of sync on K, four invalid code groups
within 64 characters (R372) after fewer are only counted; no CREDIT, no STATUS, or a retrain by the host. A resync not
ended in time ends the run with cause 16 and record 0xA037, the Till flushed (R365), and a link that has not returned
ends it with cause 17 (R376). -/
def Obligations.LinkLossAndItsLimits : Prop :=
  (∀ (l : Lane) (gs : List Nat) (s : State), s.Settled → (s.lane l).link.st ≠ .down → (s.lane l).link.st ≠ .detect →
    syncLost ((s.lane l).lrun.kBad ++ gs) = false → ∃ t, exec (.kSyncLoss l gs) s = .next t
      ∧ (t.lane l).link = { (s.lane l).link with errCode := min 255 ((s.lane l).link.errCode + gs.length) }
      ∧ Frame [.lane l] s t)
  ∧ (∀ (l : Lane) (a b c d : Nat) (s : State), s.Settled → s.LogRoom → (s.lane l).link.st = .up →
    s.clk.interval = false → (s.lane l).lrun.kBad = [] → d < a + 64 →
    ∃ t, exec (.kSyncLoss l [a, b, c, d]) s = .next t
      ∧ (t.lane l).link = { (s.lane l).link with
          st := .train, resync := false, maxCred := 0, errCode := min 255 ((s.lane l).link.errCode + 4) }
      ∧ (t.lane l).lrun.gotStatus = false
      ∧ t.log = s.log.plus (s.mkRec (0xA034 + laneOff l) (if s.capturesRun l || s.closing l then 1 else 0) (s.laneBits l) [1]))
  ∧ (∀ (l : Lane) (s : State), s.Settled → s.LogRoom → (s.lane l).link.st = .up → s.clk.interval = false →
    ∃ t, exec (.creditTimeout l) s = .next t ∧ (t.lane l).link.st = .train ∧ (t.lane l).lrun.gotStatus = false
      ∧ t.log = s.log.plus (s.mkRec (0xA034 + laneOff l) (if s.capturesRun l || s.closing l then 1 else 0) (s.laneBits l) [2]))
  ∧ (∀ (l : Lane) (s : State), s.Settled → s.LogRoom → (s.lane l).link.st = .up → s.clk.interval = false →
    ∃ t, exec (.statusTimeout l) s = .next t ∧ (t.lane l).link.st = .train ∧ (t.lane l).lrun.gotStatus = false
      ∧ t.log = s.log.plus (s.mkRec (0xA034 + laneOff l) (if s.capturesRun l || s.closing l then 1 else 0) (s.laneBits l) [3]))
  ∧ (∀ (l : Lane) (e : Nat) (s : State), s.Settled → s.LogRoom → (s.lane l).link.st = .up →
    s.Accepts (hostWrite (tillUnit l) 0x053 [1] e) → ∃ t, exec (.linkCtrlRetrain l e) s = .next t
      ∧ t.Replied (hostWrite (tillUnit l) 0x053 [1] e) []
      ∧ (t.lane l).link.st = .train ∧ (t.lane l).lrun.gotStatus = false
      ∧ t.log = s.log.plus (s.mkRec (0xA034 + laneOff l) (if s.capturesRun l || s.closing l then 1 else 0) (s.laneBits l) [4]))
  ∧ (∀ (l : Lane) (s : State), s.Settled → s.LogRoom → (s.lane l).link.st = .up → (s.lane l).link.resync = true →
    s.clk.interval = false → (s.lane l).lrun.lost = false → s.capturesRun l = false → (s.lane l).lrun.opened = false →
    s.sys.gang = false → ∃ t, exec (.resyncTimeout l) s = .next t
      ∧ (t.lane l).link = { (s.lane l).link with resync := false }
      ∧ t.log = s.log.plus (s.mkRec (0xA037 + laneOff l) 2 (s.laneBits l) []) ∧ Frame [.lane l, .log] s t)
  ∧ (∀ (l : Lane) (s : State), (s.lane l).link.st = .up → (s.lane l).link.resync = true → s.clk.interval = false →
    (s.lane l).lrun.lost = false → s.capturesRun l = true → s.sys.gang = false →
    ∃ t, exec (.resyncTimeout l) s = .next t ∧ (t.lane l).link.resync = false ∧ (t.lane l).mode.ending = true
      ∧ (t.lane l).till.slots = [] ∧ (t.lane l).till.wptr = 0 ∧ (t.lane l).till.rptr = 0
      ∧ (t.lane l).lrun.ending = some { aborted := true, cause := 16, code := 0xA037 + laneOff l })
  ∧ ∀ (l : Lane) (s : State), (s.lane l).lrun.lost = true → (s.lane l).link.st ≠ .up → (s.lane l).lrun.opened = true →
    ∃ t, exec (.linkAbort l) s = .next t ∧ (t.lane l).lrun.opened = false ∧ (t.lane l).lrun.lost = false
      ∧ (t.lane l).lrun.txq = []
      ∧ (t.lane l).lrun.lastEnd = some { aborted := true, cause := 17, code := 0xA035 + laneOff l }

/-- Frames on the forward strands, each with its type, the sequence number and CRC of R340: the heartbeat's STATUS with
the lane's mode and the state of run and link (R354, Table 12.13); a DATA frame, which uses one credit (R356); and
SCAN_END with the run's end and counts (Table 12.7) once nothing of the run is left to send (R129, R344). -/
def Obligations.ForwardFrames : Prop :=
  (∀ (l : Lane) (x : LaneSt) (b : List Nat) (s : State), s.Settled → s.linkLive l = true → x = s.lane l →
    b = [0x08 + 256 * (x.lrun.seqNo % 256),
         modeCode x.mode.mode + flag x.lrun.opened 4 + flag x.link.resync 5 + flag x.mode.halted 6 + flag x.mode.ending 7,
         s.sys.epochs.getD (tillUnit l) 0, x.link.scanId]
      ++ leWords 2 (x.link.sent.getD 0xFFFFFFFF)
      ++ [if x.lrun.opened then 0
            else (x.lrun.lastEnd.map (fun e => (if e.aborted then 2 else 1) + 256 * e.cause)).getD 0,
          s.tillFill l / 1024 % 65536, x.link.held] →
    ∃ t, exec (.engineStatusHeartbeat l) s = .next t ∧ (t.lane l).lrun.tx.head? = some (b ++ [crcLink b])
      ∧ Frame [.lane l] s t)
  ∧ (∀ (l : Lane) (f b : List Nat) (q : List TxItem) (s : State), s.Settled → s.linkRuns l = true →
    (s.lane l).lrun.statusDue = false → (s.lane l).lrun.txq = .data f :: q → (s.lane l).link.held ≠ 0 →
    b = (0x04 + 256 * ((s.lane l).lrun.seqNo % 256)) :: f → ∃ t, exec (.dataFrameSend l) s = .next t
      ∧ (t.lane l).link.used = ((s.lane l).link.used + 1) % 65536
      ∧ (t.lane l).lrun.tx.head? = some (b ++ [crcLink b]) ∧ Frame [.lane l] s t)
  ∧ ∀ (l : Lane) (e : RunEnd) (x : LaneSt) (b : List Nat) (s : State), s.Settled → x = s.lane l →
    x.lrun.ending = some e → x.lrun.opened = true → x.mode.ending = true → x.lrun.statusDue = false →
    s.linkRuns l = true → s.drained l = true → s.gangSent e = true →
    b = [0x02 + 256 * (x.lrun.seqNo % 256), x.link.scanId, (if e.aborted then 2 else 1) + flag e.pfw 2 + 256 * e.cause]
      ++ leWords 2 ((s.lastSent l e).getD 0xFFFFFFFF) ++ leWords 2 x.lrun.complete
      ++ [x.lrun.seamN % 65536, x.lrun.abandonN % 65536, e.code] ++ leWords 3 s.tmr.tsc →
    ∃ t, exec (.scanEnd l) s = .next t ∧ (t.lane l).lrun.opened = false ∧ (t.lane l).lrun.lastEnd = some e
      ∧ (t.lane l).lrun.tx.head? = some (b ++ [crcLink b]) ∧ Frame [.lane l] s t

/-! ### The carriage (13) -/

/-- A microstep moves the position by one in the motion's direction and counts towards its end, where the axis comes
to rest (R385, R387); the run current is on from the first step, and 20 ms after the last one the holding current
(R383). An index pulse latches the encoder's count (R391), and ENC_5V off with the windings, nothing does (R577); which way an edge counts, A leading B upwards, is the model's
choice (log 106), and flag [2] inverts it. -/
def Obligations.StepsAndRest : Prop :=
  (∀ (l : Lane) (es : List EncEdge) (lat : Nat) (m : Motion) (s : State), s.Settled →
    (s.lane l).arun.motion = some m → (s.lane l).arun.energised = true → m.steady = false → m.done + 1 < m.total →
    s.clk.interval = false → (s.lane l).axis.phase ≠ .approach → (m.done = 0 → s.profileFence l m.prof = s) →
    ∃ t, exec (.stepIssue l es lat) s = .next t
      ∧ (t.lane l).arun.motion = some { m with done := m.done + 1 }
      ∧ (t.lane l).arun.why = (s.lane l).arun.why ∧ (t.lane l).arun.energised = true
      ∧ (t.lane l).axis = { ((s.countEdges l es).lane l).axis with pos := (s.lane l).axis.pos + m.dir, atHold := false }
      ∧ t.mem = { s.mem with c1Worst := max s.mem.c1Worst (min 127 lat) } ∧ Frame [.lane l, .mem] s t)
  ∧ (∀ (l : Lane) (es : List EncEdge) (lat : Nat) (m : Motion) (s : State), s.Settled →
    (s.lane l).arun.motion = some m → (s.lane l).arun.energised = true → m.steady = false → m.done + 1 = m.total →
    s.clk.interval = false → (s.lane l).arun.why = .move → (s.lane l).axis.phase ≠ .approach →
    (m.done = 0 → s.profileFence l m.prof = s) → s.sys.haltReq = false →
    ∃ t, exec (.stepIssue l es lat) s = .next t ∧ (t.lane l).arun.motion = none
      ∧ (t.lane l).axis.pos = (s.lane l).axis.pos + m.dir ∧ Frame [.lane l, .mem] s t)
  ∧ (∀ (l : Lane) (s : State), s.Settled → (s.lane l).arun.energised = true → (s.lane l).arun.motion = none →
    ∃ t, exec (.runCurrentTimeout l) s = .next t
      ∧ (t.lane l).bare = { s.lane l with axis := { (s.lane l).axis with atHold := true } }.bare ∧ Frame [.lane l] s t)
  ∧ (∀ (l : Lane) (s : State), s.Settled → (s.img l).axis.encoder = true → (s.lane l).arun.energised = true →
    ∃ t, exec (.encoderIndex l []) s = .next t
      ∧ (t.lane l).bare = { s.lane l with axis := { (s.lane l).axis with index := (s.lane l).axis.enc } }.bare
      ∧ Frame [.lane l] s t)
  ∧ (∀ (l : Lane) (es : List EncEdge) (s : State), s.Settled → (s.lane l).arun.energised = false →
    ∃ t, exec (.encoderIndex l es) s = .next t ∧ Frame [] s t)
  ∧ ∀ (l : Lane) (ab ns : Nat) (d : Int) (s : State), s.Settled → (s.img l).axis.encoder = true →
    (s.lane l).arun.energised = true → 25 ≤ ns → d = (if (s.img l).axis.encInv then -1 else 1) → ((s.lane l).axis.ab, ab) ∈ [(0, 1), (1, 3), (3, 2), (2, 0)] →
    ∃ t, exec (.encoderIndex l [{ ab := ab, ns := ns }]) s = .next t
      ∧ (t.lane l).axis = { (s.lane l).axis with
          ab := ab, enc := signed 32 (unsigned 32 ((s.lane l).axis.enc + d))
          index := signed 32 (unsigned 32 ((s.lane l).axis.enc + d)) }
      ∧ Frame [.lane l] s t

/-- A seam's carriage (R398 to R403): with every condition of R398 met the axis backs off to the run-up point before
the seam's line, a move of exactly that many steps; the end of the dwell fixes the rung (R410, R411): as it is after a
retry or an abandoned approach (log 82), one down at a ladder seam, one up at the program's count of seams with the Till's stop alone; the approach then climbs the
ramp of that rung into steady motion. -/
def Obligations.SeamMovesTheCarriage : Prop :=
  (∀ (l : Lane) (p : Program) (d : Int) (s : State), s.Settled → (s.lane l).mode.prog = some p →
    (s.lane l).mode.mode = .smoulder → s.moves l p = true → s.carriage l = l → (s.lane l).axis.phase = .rest →
    (s.lane l).arun.motion = none → s.seamReady l = true → s.clk.interval = false →
    ((s.profile l p.profile).map (fun q => s.fenced l q.window)).getD false = false →
    d = s.lineX l p ((s.lane l).lineIndex p) - p.dir * ((s.img l).axis.runUp : Int) - (s.lane l).axis.pos →
    ∃ t, exec (.seamBackoffStart l) s = .next t
      ∧ (t.lane l).axis.phase = (if d = 0 then .dwell else .backoff) ∧ (t.lane l).axis.trim = 0
      ∧ (t.lane l).arun.motion = someMotion
          (moveOf (s.fetched l p.profile) p.profile (p.interval 0) d.natAbs (if d < 0 then -1 else 1))
      ∧ Frame [.lane l] s t)
  ∧ (∀ (es : List Nat) (prof i n : Nat) (dir : Int), (moveOf es prof i n dir).total = n)
  ∧ (∀ (l : Lane) (p : Program) (s : State), s.Settled → (s.lane l).mode.prog = some p →
    (s.lane l).axis.phase = .dwell → s.clk.interval = false → ∃ t, exec (.seamDwellEnd l) s = .next t
      ∧ (t.lane l).axis = { (s.lane l).axis with phase := .align }
      ∧ (t.lane l).arun = { (s.lane l).arun with
          newRung :=
            if (s.lane l).arun.stepped then (s.lane l).axis.rung
            else if (s.lane l).arun.ladderSeam then (s.lane l).axis.rung - 1
            else if (bit (s.lane l).arun.mask 0 && !bit (s.lane l).arun.mask 1 && !bit (s.lane l).arun.mask 4
                && !bit (s.lane l).arun.mask 5) = true ∧ p.seamsDn ≤ (s.lane l).axis.seams + 1
                ∧ (s.lane l).axis.rung + 1 < p.rungs then (s.lane l).axis.rung + 1
            else (s.lane l).axis.rung }
      ∧ Frame [.lane l, .lux] s t)
  ∧ ∀ (l : Lane) (p : Program) (s : State), s.Settled → (s.lane l).mode.prog = some p →
    (s.lane l).axis.phase = .align → s.clk.interval = false → s.clk.hold = false →
    ((s.profile l p.profile).map (fun q => s.fenced l q.window)).getD false = false →
    ∃ t, exec (.approachStart l) s = .next t
      ∧ (t.lane l).axis = { (s.lane l).axis with
          phase := .approach, retry := decide (0 < (s.lane l).arun.tries) }
      ∧ (t.lane l).arun.motion = some {
          up := rampLen (s.fetched l p.profile) (p.interval (s.lane l).arun.newRung)
          cruise := 0, down := 0, steady := true, top := p.interval (s.lane l).arun.newRung
          dir := p.dir, prof := p.profile }
      ∧ Frame [.lane l] s t

/-- A carriage move by the host (R412) is a move of |STEPS| in its direction at the profile's last interval; STOP makes
it decelerate from where it stands on the ramp (R413). -/
def Obligations.HostMovesTheCarriage : Prop :=
  (∀ (l : Lane) (d : Int) (n e : Nat) (s : State), s.Settled → -2147483648 ≤ d → d ≤ 2147483647 → d ≠ 0 →
    s.Accepts (hostWrite (axisUnit l) 0x015 (leWords 2 (unsigned 32 d) ++ [n % 8 + 8]) e) →
    ((s.profile l (n % 8)).map (fun q => s.fenced l q.window)).getD false = false →
    ∃ t, exec (.axisMoveGo l d n e) s = .next t
      ∧ t.Replied (hostWrite (axisUnit l) 0x015 (leWords 2 (unsigned 32 d) ++ [n % 8 + 8]) e) []
      ∧ (t.lane l).arun.motion = someMotion (moveOf (s.fetched l (n % 8)) (n % 8) ((s.fetched l (n % 8)).getLastD 0) d.natAbs
          (if d < 0 then -1 else 1))
      ∧ (t.lane l).arun.why = .move ∧ (t.lane l).axis.pos = (s.lane l).axis.pos
      ∧ (t.lane l).axis.atHold = (s.lane l).axis.atHold ∧ Frame [.lane l] s t)
  ∧ ∀ (l : Lane) (e : Nat) (m : Motion) (s : State), s.Settled → (s.lane l).arun.motion = some m →
    (s.lane l).arun.why = .move → s.Accepts (hostWrite (axisUnit l) 0x017 [(s.lane l).axis.moveProf % 8 + 16] e) →
    ∃ t, exec (.axisMoveStop l e) s = .next t
      ∧ t.Replied (hostWrite (axisUnit l) 0x017 [(s.lane l).axis.moveProf % 8 + 16] e) []
      ∧ (t.lane l).arun = { (s.lane l).arun with motion := someMotion (m.brake 0) }
      ∧ (t.lane l).axis.pos = (s.lane l).axis.pos ∧ Frame [.lane l] s t

/-! ### Light (14) -/

/-- A party's light commit (R434, R437, R439): its COMMIT frame, once its heads are staged, carries the number after the
party's counter and the reachable heads' mask; at the commit point the channels that it names take its codes, each driven
at q scaled by its derate factor where it may be driven (R420, R421, R439), its heads take its settings, the counter takes
that number (at the commit point: log 50), the wait is over, and entry phase C goes on to the four settle lines of phase D
(Table 4.4a). -/
def Obligations.LightCommitIsSentAndTakesEffect : Prop :=
  (∀ (p : Nat) (c : Commit) (hs : List Nat) (s : State), s.Settled → s.lux.planned = [c] → c.party = p →
    c.staged = some hs → c.sent = none → (s.lux.reb.getD p {}).due = false → s.clk.interval = false →
    s.pwr.busShort = false → ∃ t, exec (.lightCommitSend p) s = .next t
      ∧ t.lux = { s.lux with
          planned := [{ c with
            sent := some (nextCommit (s.comOf p), s.reachOf p)
            vals := (s.reachOf p).map (fun a => (a, (s.lux.head.getD a {}).staged)) }]
          bus := [commitFrame p (nextCommit (s.comOf p)) 0 (s.reachOf p)] }
      ∧ Frame [.lux] s t)
  ∧ (∀ (p n : Nat) (hs : List Nat) (c : Commit) (s : State), s.lux.planned = [c] → c.party = p →
    c.sent = some (n, hs) → c.ends = false → p < s.lux.reb.length → ∃ t, exec (.lightCommitPoint p) s = .next t
      ∧ t.comOf p = n ∧ t.lux.planned = []
      ∧ t.lux.reb.getD p {} = { num := n, point := s.tmr.tsc, mask := hs, vals := c.vals }
      ∧ (c.group = none → c.phaseC = false → s.lux.ch.length = 8 → ∀ m, m ∈ s.chansOf p →
        (t.lux.ch.getD m {}).set
            = ((c.chans.find? (fun q => q.1 == m)).map Prod.snd).getD (s.lux.ch.getD m {}).set
          ∧ (t.lux.ch.getD m {}).q = (if s.chOn m then
              lightQ (t.lux.ch.getD m {}).set (s.groupG (s.chRec m).group) (s.chRec m).limit else 0)
          ∧ (t.lux.ch.getD m {}).drive = if s.chLive m then derated (t.lux.ch.getD m {}).q (s.chD m) else 0)
      ∧ (∀ q ∈ c.heads, q.1 < s.lux.head.length → (∀ r ∈ c.heads, r.1 = q.1 → r = q) →
        (t.lux.head.getD q.1 {}).code = q.2)
      ∧ t.log = s.log ∧ t.tmr = s.tmr ∧ t.bank = s.bank ∧ t.clk = s.clk)
  ∧ ∀ (p n : Nat) (l : Lane) (hs : List Nat) (c : Commit) (s : State), s.lux.planned = [c] → c.party = p →
    l ∈ partyLanes p → c.sent = some (n, hs) → c.phaseC = true → (s.lane l).mode.entry = some .c →
    ∃ t, exec (.lightCommitPoint p) s = .next t ∧ (t.lane l).mode.entry = some (.d 4)

/-- What a light head answers, byte for byte (R427 to R433, Tables 14.1 and 14.2): a STATUS shows its temperature
and makes it reachable; with the number and the value of the commit that names it, it is acknowledged and its setting
shown, and with another it is in mismatch (R441), but where the head latched at that commit point; a frame that fails CRC, type or length is counted and its request missed (the second
is log 55); an IDENT
as expected ends the check, any other bars the head with record 0x6011; a request without reply is missed; the poll
sends a reachable head one STATUS_REQ. -/
def Obligations.LightHeadReplies : Prop :=
  (∀ (a st ap v tc k p : Nat) (f : List Nat) (r : Rebcast) (s : State), a < 32 → st < 256 → ap < 65536 → v < 65536 → tc < 65536 →
    a < s.lux.head.length → s.headUsed a = true → s.busLive = true →
    f = lightFrame (a + 32) 0x81 ([st] ++ leBytes 2 ap ++ leBytes 2 v ++ leBytes 2 tc) →
    p = (s.lux.head.getD a {}).acking.getD (s.lastParty a) → r = s.lux.reb.getD p {} →
    ∃ t, exec (.lightStatusReply a (f.take k) (f.drop k)) s = .next t
      ∧ (t.lux.head.getD a {}).reach = true
      ∧ (t.lux.head.getD a {}).temp = signed 16 tc
      ∧ (t.lux.head.getD a {}).latest = some (signed 16 tc, s.tmr.tsc) ∧ (t.lux.head.getD a {}).missed = 0
      ∧ (s.excused a p = true → (t.lux.head.getD a {}).set = v)
      ∧ (s.excused a p = false → r.num = 0 → (t.lux.head.getD a {}).set = (s.lux.head.getD a {}).set)
      ∧ (r.num ≠ 0 → a ∈ r.mask → (s.lux.head.getD a {}).acking.isSome = true → ap = r.num → v = valOf r.vals a →
        (t.lux.head.getD a {}).set = v ∧ (t.lux.head.getD a {}).mismatch = false)
      ∧ (s.excused a p = false → r.point ≠ s.tmr.tsc → r.num ≠ 0 → a ∈ r.mask →
        (s.lux.head.getD a {}).acking.isSome = true → ap ≠ r.num ∨ v ≠ valOf r.vals a →
        (t.lux.head.getD a {}).mismatch = true ∧ (t.lux.head.getD a {}).set = (s.lux.head.getD a {}).set))
  ∧ (∀ (a : Nat) (f g : List Nat) (s : State), a < s.lux.head.length → s.headUsed a = true → s.busLive = true →
    (s.lux.head.getD a {}).identing = false → intactFrame (f ++ g) = false → ∃ t, exec (.lightStatusReply a f g) s = .next t
      ∧ t.lux.crcErr = satInc 255 s.lux.crcErr ∧ (t.lux.head.getD a {}).missed = (s.lux.head.getD a {}).missed + 1)
  ∧ (∀ (a i v j k : Nat) (f : List Nat) (s : State), s.Settled → a < 32 → i < 2 ^ 32 → v < 256 → a < s.lux.head.length →
    (s.lux.head.getD a {}).identing = true → s.busLive = true → s.identGood a i v = true →
    f = lightFrame (a + 32) 0x82 (leBytes 4 i ++ [v]) →
    ∃ t, exec (.lightIdentReply a (f.take j) ((f.drop j).take k) ((f.drop j).drop k)) s = .next t
      ∧ t.lux.head.getD a {} = { s.lux.head.getD a {} with reach := true, identing := false, missed := 0 }
      ∧ Frame [.lux] s t)
  ∧ (∀ (a i v j k : Nat) (f : List Nat) (s : State), s.Settled → s.LogRoom → a < 32 → i < 2 ^ 32 → v < 256 → a < s.lux.head.length →
    (s.lux.head.getD a {}).identing = true → s.busLive = true → s.identGood a i v = false →
    f = lightFrame (a + 32) 0x82 (leBytes 4 i ++ [v]) →
    ∃ t, exec (.lightIdentReply a (f.take j) ((f.drop j).take k) ((f.drop j).drop k)) s = .next t
      ∧ t.lux.head.getD a {} = { s.lux.head.getD a {} with reach := false, barred := true, identing := false, acking := none }
      ∧ t.log = s.log.plus (s.mkRec 0x6011 0 (s.partyBits (s.headOwner a)) []) ∧ Frame [.lux, .log] s t)
  ∧ (∀ (a : Nat) (s : State), s.Settled → a < s.lux.head.length → s.headUsed a = true → s.busLive = true →
    (s.lux.head.getD a {}).identing = false → (s.lux.head.getD a {}).acking = none →
    (s.lux.head.getD a {}).missed < 2 → ∃ t, exec (.lightReplyMissed a) s = .next t
      ∧ t.lux.head.getD a {} = { s.lux.head.getD a {} with missed := (s.lux.head.getD a {}).missed + 1 }
      ∧ Frame [.lux] s t)
  ∧ ∀ (a : Nat) (s : State), s.Settled → s.headUsed a = true → s.busLive = true → s.sys.safe = false →
    (s.lux.head.getD a {}).reach = true → s.clk.interval = false → s.pwr.busShort = false →
    ∃ t, exec (.lightPoll a) s = .next t ∧ t.lux = { s.lux with bus := [statusReq a] } ∧ Frame [.lux] s t

/-- A re-broadcast to heads in mismatch is counted and sends the same COMMIT number again (R442). A scan-lit head silent
for 1 s in its lane's guarded span is recorded as 0x6001 and ends the run as an Ember shutdown does (R433, R457); the
record's class LANE-ABORT, and that the head is not latched, are log 55.
Management light by the host: GO decides one commit of every staged management value (R419); REARM lets the management
party's latches release (R456) and, as log 54 reads it, releases none of itself. -/
def Obligations.RebroadcastSilenceAndManagementLight : Prop :=
  ((∀ (p : Nat) (s : State), s.Settled → p < s.lux.reb.length → (∃ a ∈ (s.lux.reb.getD p {}).heads, (s.lightHead a).barred = false) →
    (s.lux.reb.getD p {}).due = true → s.clk.interval = false → s.pwr.busShort = false →
    ∃ t, exec (.lightRebroadcast p) s = .next t ∧ t.lux.rebcast = satInc 255 s.lux.rebcast
      ∧ t.lux.reb.getD p {} = { s.lux.reb.getD p {} with tries := (s.lux.reb.getD p {}).tries + 1, due := false }
      ∧ commitFrame p (s.lux.reb.getD p {}).num ((s.lux.reb.getD p {}).tries + 1) (s.lux.reb.getD p {}).mask ∈ t.lux.bus
      ∧ Frame [.lux] s t)
  ∧ (∀ (a : Nat) (s : State), s.Settled → s.LogRoom → ((s.headRec a).map LightHeadRec.scanLit).getD false = true →
    s.guarded (s.headOwner a) = true → (s.lux.head.getD a {}).reach = false →
    (s.capturesRun .a = false ∧ s.capturesRun .b = false ∧ s.acquiring .a = false ∧ s.acquiring .b = false
      ∧ s.closing .a = false ∧ s.closing .b = false) →
    ∃ t, exec (.headSilentTimeout a) s = .next t
      ∧ t.log = s.log.plus (s.mkRec 0x6001 2 (s.partyBits (s.headOwner a)) [emberHeadDetail a]) ∧ Frame [.log] s t)
  ∧ ∀ (a : Nat) (l : Lane) (s : State), ((s.headRec a).map LightHeadRec.scanLit).getD false = true →
    s.guarded (s.headOwner a) = true → (s.lux.head.getD a {}).reach = false → s.headOwner a = laneParty l →
    s.sys.gang = false → s.capturesRun l = true → (s.lane l).lrun.ending = none →
    ∃ t, exec (.headSilentTimeout a) s = .next t
      ∧ (t.lane l).lrun.ending = some { aborted := true, cause := 3, code := 0x6001 }
      ∧ (t.lane l).exposing = none)
  ∧ ((∀ (e : Nat) (s : State), s.Settled → s.Accepts (hostWrite 6 0x128 [1] e) → ∃ t, exec (.luxMctrlGo e) s = .next t
    ∧ t.Replied (hostWrite 6 0x128 [1] e) []
    ∧ (∃ c ∈ t.lux.planned, c.party = 0 ∧ c.sent = none ∧ c.chans = (s.chansOf 0).map (fun n => (n, s.lux.mstageCh.getD n 0))
        ∧ c.heads = (s.headsOf 0).map (fun a => (a, s.lux.mstageHd.getD a 0)))
    ∧ Frame [.lux] s t)
  ∧ ∀ (e : Nat) (s : State), s.Settled → s.Accepts (hostWrite 6 0x128 [2] e) → ∃ t, exec (.luxMctrlRearm e) s = .next t
    ∧ t.Replied (hostWrite 6 0x128 [2] e) []
    ∧ (∀ n, n < s.lux.ch.length → t.lux.ch.getD n {} = { s.lux.ch.getD n {} with
        rearm := (s.lux.ch.getD n {}).rearm || ((s.lux.ch.getD n {}).latch && decide (s.chOwner n = 0)) })
    ∧ (∀ a, a < s.lux.head.length → t.lux.head.getD a {} = { s.lux.head.getD a {} with
        rearm := (s.lux.head.getD a {}).rearm || ((s.lux.head.getD a {}).latch && decide (s.headOwner a = 0)) })
    ∧ t.lux.planned = s.lux.planned ∧ Frame [.lux] s t)

/-- What measurements do to the light. An intact result of a photometric group's reference, once the update interval has
passed since the last step, decides the step of R448: the group's factor moves towards reference over measurement within
the step limit and 0x6000 to 0xA000, committed where it changes (R440). A result of a channel's heatsink, and a head's
temperature in its STATUS, give the item the derate factor of R454; at the shutdown temperature the item latches, a
channel's drive at 0 at once and OFF sent to a head, with record 0x6001 (R455); a latched item stays so until it is
re-armed and below shutdown by its hysteresis (R456). The model's choices in it: PINNED set and cleared at each decision
(log 52), d set within a guarded span and in SHUTDOWN-ONLY too (log 53), and a latch looked at when the item's next result
arrives (log 54). -/
def Obligations.LightFollowsItsMeasurements : Prop :=
  (∀ (b : Bool) (pos n k g : Nat) (m ref lim d g' : Int) (z : Option Nat) (s : State), (s.conv b).running = true →
    (s.conv b).failed = false → (s.conv b).passCh = none → (s.conv b).doomed = false →
    (s.slotList b).getD (s.conv b).slot 255 = n → n < s.hk.ch.length → (s.hkRec n).arr ≠ 3 → (s.hkRec n).arr ≠ 4 →
    (s.hkRec n).impCheck = false → hkOpen (hkKind n) (s.hkRec n).openTest (hkRaw pos (s.conv b).tw) = false →
    (s.hkChan n).fault = false → s.consumer n = 2 → s.groupsRef n = [k] → k < s.lux.grp.length →
    s.groupRuns k = true → s.preLight = false → s.lux.planned = [] →
    (s.shadow.photo.getD k {}).interval ≤ (s.lux.grp.getD k {}).since → (s.lux.grp.getD k {}).atTsc ≤ (s.conv b).start →
    m = s.linear n (hkRaw pos (s.conv b).tw) → ref = s.groupRef k → g = (s.lux.grp.getD k {}).g →
    lim = max 1 ((g : Int) * s.photoLimit k / 10000) →
    d = max (-lim) (min lim ((2 * g * (ref - m) + ref) / (2 * ref))) → g' = max 0x6000 (min 0xA000 (g + d)) →
    ∃ t, exec (.hkConversionEnd b pos z) s = .next t ∧ (t.lux.grp.getD k {}).pinned = decide (g' ≠ g + d)
      ∧ (t.lux.grp.getD k {}).g = g ∧ (g' = g → t.lux.planned = [])
      ∧ (g' ≠ g → ∃ c, t.lux.planned = [c] ∧ c.group = some (k, g'.toNat, g' - g)
          ∧ c.party = if s.sys.gang = true ∧ s.groupParty k ≠ 0 then 3 else s.groupParty k))
  ∧ (∀ (b : Bool) (pos n k : Nat) (T : Int) (z : Option Nat) (s : State), (s.conv b).running = true →
    (s.conv b).failed = false → (s.conv b).passCh = none → (s.conv b).doomed = false →
    (s.slotList b).getD (s.conv b).slot 255 = n → n < s.hk.ch.length → (s.hkRec n).arr ≠ 3 → (s.hkRec n).arr ≠ 4 →
    (s.hkRec n).impCheck = false → hkOpen (hkKind n) (s.hkRec n).openTest (hkRaw pos (s.conv b).tw) = false →
    (s.hkChan n).fault = false → s.consumer n = 1 → s.servedBy n = [k] → k < s.lux.ch.length → s.chOn k = true →
    (s.chRec k).hkChan = n → n < 24 → (s.chRec k).outMode = 0 → s.log.store.length < 500 →
    T = s.linear n (hkRaw pos (s.conv b).tw) → ∃ t, exec (.hkConversionEnd b pos z) s = .next t
      ∧ ((t.lux.ch.getD k {}).d : Int)
        = min 256 (max 0 (256 * (10 * (s.chRec k).zero - T) / (10 * (s.chRec k).zero - 10 * (s.chRec k).knee)))
      ∧ ((s.lux.ch.getD k {}).latch = false → ((t.lux.ch.getD k {}).latch = true ↔ 10 * (s.chRec k).shut ≤ T))
      ∧ ((s.lux.ch.getD k {}).latch = false → 10 * (s.chRec k).shut ≤ T → (t.lux.ch.getD k {}).drive = 0
        ∧ ∃ r ∈ t.log.store, r.code = 0x6001 ∧ r.detail.headD 99 = k)
      ∧ ((s.lux.ch.getD k {}).latch = true → ((t.lux.ch.getD k {}).latch = false ↔
        T < 10 * ((s.chRec k).shut - (s.chRec k).hyst) ∧ (s.lux.ch.getD k {}).rearm = true)))
  ∧ ∀ (a st ap v tc : Nat) (h : LightHeadRec) (T : Int) (f : List Nat) (s : State), a < 32 → st < 256 → ap < 65536 →
    v < 65536 → tc < 65536 → a < s.lux.head.length → s.headRec a = some h → s.headUsed a = true → s.busLive = true →
    s.log.store.length < 500 → T = signed 16 tc →
    f = lightFrame (a + 32) 0x81 ([st] ++ leBytes 2 ap ++ leBytes 2 v ++ leBytes 2 tc) →
    ∃ t, exec (.lightStatusReply a f []) s = .next t
      ∧ ((t.lux.head.getD a {}).d : Int) = min 256 (max 0 (256 * (h.zero - T) / (h.zero - h.knee)))
      ∧ ((s.lux.head.getD a {}).latch = false → ((t.lux.head.getD a {}).latch = true ↔ h.shut ≤ T))
      ∧ ((s.lux.head.getD a {}).latch = false → h.shut ≤ T →
        (s.clk.interval = false → s.pwr.busShort = false → offFrame a ∈ t.lux.bus)
        ∧ ((t.lux.head.getD a {}).offDue = s.clk.interval)
        ∧ ∃ r ∈ t.log.store, r.code = 0x6001 ∧ r.detail.headD 0 = 16 + a)
      ∧ ((s.lux.head.getD a {}).latch = true → ((t.lux.head.getD a {}).latch = false ↔
        T < h.shut - h.hyst ∧ (s.lux.head.getD a {}).rearm = true))

/-! ### Housekeeping and timers (15, 16) -/

/-- A conversion that passes its checks, for a host channel in no fault after READY (R468, R476 to R480): the channel shows
raw code and linearised result, and the converter's result register is full with it. One that a holdover or a reference
interval has overlapped is discarded and counted, and no channel changes (R475, R141). A self-check that passes starts the
next conversion (R469), for a paired HKB half a window after HKA's start of the slot (R471, log 118), unless PFW has come
(R475); one that fails puts the converter out with record 0x5001 and every channel that it alone serves in fault with cause
4 (R470, R486), and its retry checks it again; a retry that fails writes no second record (R554). That the record's detail
is 0 for HKA and 1 for HKB is the model's choice (log 61): Table 15.6 gives no numbers. -/
def Obligations.ConversionsAndSelfChecks : Prop :=
  (∀ (b : Bool) (pos n : Nat) (z : Option Nat) (s : State), (s.conv b).running = true → (s.conv b).failed = false →
    (s.conv b).passCh = none → (s.conv b).doomed = false → (s.slotList b).getD (s.conv b).slot 255 = n →
    n < s.hk.ch.length → (s.hkRec n).arr ≠ 3 → (s.hkRec n).arr ≠ 4 → (s.hkRec n).impCheck = false →
    hkOpen (hkKind n) (s.hkRec n).openTest (hkRaw pos (s.conv b).tw) = false → (s.hkChan n).fault = false →
    s.consumer n = 0 → s.starting = false → ∃ t, exec (.hkConversionEnd b pos z) s = .next t
      ∧ (t.hkChan n).raw = hkRaw pos (s.conv b).tw ∧ (t.hkChan n).last = s.linear n (hkRaw pos (s.conv b).tw)
      ∧ (t.hkChan n).good = true ∧ (t.hkChan n).goodTsc = s.tmr.tsc
      ∧ (t.conv b).res.full = true ∧ (t.conv b).res.ch = n
      ∧ (t.conv b).res.val = s.linear n (hkRaw pos (s.conv b).tw)
      ∧ (t.conv b).res.seq = ((s.conv b).res.seq + 1) % 64
      ∧ (t.conv b).res.overrun = ((s.conv b).res.overrun || (s.conv b).res.full))
  ∧ (∀ (b : Bool) (pos n : Nat) (z : Option Nat) (s : State), s.Settled → (s.conv b).running = true →
    (s.conv b).failed = false → (s.conv b).passCh = none → (s.conv b).doomed = true → s.pwr.pfw = true →
    s.twin = false → n = (s.slotList b).length → ∃ t, exec (.hkConversionEnd b pos z) s = .next t
      ∧ t.hk.discards = satInc 255 s.hk.discards ∧ (t.conv b).running = false ∧ (t.conv b).res = (s.conv b).res
      ∧ (t.conv b).slot = (if n = 0 then 0 else ((s.conv b).slot + 1) % n)
      ∧ (∀ m, (t.hkChan m).raw = (s.hkChan m).raw ∧ (t.hkChan m).last = (s.hkChan m).last
        ∧ (t.hkChan m).goodTsc = (s.hkChan m).goodTsc ∧ (t.hkChan m).fault = (s.hkChan m).fault)
      ∧ Frame [.hk] s t)
  ∧ (∀ (b : Bool) (z r : Int) (s : State), s.Settled → (s.conv b).checking = true → (s.conv b).failed = false →
    (s.conv b).doomed = false → (s.conv b).atCross = false → (b = false ∨ s.hkPaired = false) → checkPass z r = true →
    s.pwr.pfw = false → ∃ t, exec (.hkSelfcheckEnd b z r) s = .next t
      ∧ (t.conv b).checking = false ∧ (t.conv b).since = 0 ∧ (t.conv b).running = true
      ∧ (t.conv b).start = s.tmr.tsc ∧ t.conv (!b) = s.conv (!b) ∧ t.hk.ch = s.hk.ch ∧ Frame [.hk] s t)
  ∧ (∀ (z r : Int) (s : State), s.Settled → s.hk.b.checking = true → s.hk.b.doomed = false → s.twin = true →
    s.hk.lag = none → checkPass z r = true → ∃ t, exec (.hkSelfcheckEnd true z r) s = .next t
      ∧ t.hk.b = { s.hk.b with checking := false, since := 0, running := false, passCh := none }
      ∧ t.hk.a = s.hk.a ∧ t.hk.ch = s.hk.ch ∧ Frame [.hk] s t)
  ∧ (∀ (b : Bool) (z r : Int) (s : State), (s.conv b).checking = true → (s.conv b).doomed = false →
    checkPass z r = false → ∃ t, exec (.hkSelfcheckEnd b z r) s = .next t
      ∧ (t.conv b).failed = true ∧ (t.conv b).running = false ∧ (t.conv b).checking = false ∧ (t.conv b).passes = 0
      ∧ ∀ n, n < 24 → n < s.hk.ch.length → ((s.hkRec n).arr = (if b then 2 else 1)
          ∨ ((s.conv (!b)).failed = true ∧ ((s.hkRec n).arr = 3 ∨ (s.hkRec n).arr = 4))) →
        (t.hkChan n).fault = true ∧ (t.hkChan n).cause = 4)
  ∧ (∀ (b : Bool) (z r : Int) (s : State), s.Settled → s.LogRoom → (s.conv b).checking = true →
    (s.conv b).doomed = false → (s.conv b).failed = false → checkPass z r = false → (∀ n, n < 24 → s.consumer n ≠ 1) →
    ∃ t, exec (.hkSelfcheckEnd b z r) s = .next t
      ∧ t.log = s.log.plus (s.mkRec 0x5001 0 0 [if b then 1 else 0, if -8 ≤ z ∧ z ≤ 8 then 2 else 1])
      ∧ t.conv (!b) = s.conv (!b) ∧ Frame [.hk, .log] s t)
  ∧ (∀ (b : Bool) (z r : Int) (s : State), s.Settled → (s.conv b).checking = true → (s.conv b).doomed = false →
    (s.conv b).failed = true → checkPass z r = false → ∃ t, exec (.hkSelfcheckEnd b z r) s = .next t
      ∧ t.conv b = { s.conv b with checking := false, passes := 0 } ∧ t.conv (!b) = s.conv (!b) ∧ t.hk.ch = s.hk.ch
      ∧ Frame [.hk] s t)
  ∧ ∀ (b : Bool) (s : State), s.Settled → (s.conv b).failed = true → (s.conv b).passes < 2 → s.pwr.pfw = false →
    ∃ t, exec (.hkSelfcheckRetry b) s = .next t
    ∧ t.conv b = { s.conv b with
        checking := true, running := false, passCh := none, doomed := s.clk.hold || s.clk.interval } ∧ t.conv (!b) = s.conv (!b) ∧ t.hk.ch = s.hk.ch ∧ Frame [.hk] s t

/-- Counting (R492 to R495): a tick of a timer that runs, a cascaded pair as one of 32 bits (R500), reloads it at 0 and
counts down otherwise, setting ZERO and MATCH where the new count is 0 or the compare value, and OVR where that flag
already stood; every other timer and the TSC stay as they are. -/
def Obligations.TimerTickCounts : Prop :=
  ∀ (n : Nat) (s : State), s.Settled → s.timerRuns n = true → s.tmr.ts.length = 16 →
    ¬(s.tmr.lf = true ∧ s.tmr.lfCause = 1) → ∃ t, exec (.timerTick n) s = .next t
      ∧ (t.timer n).cnt = (if (s.timer n).cnt = 0 then (s.timer n).rld else (s.timer n).cnt - 1)
      ∧ (t.timer n).rld = (s.timer n).rld ∧ (t.timer n).cmp = (s.timer n).cmp
      ∧ (t.timer n).zero = ((s.timer n).zero || decide ((t.timer n).cnt = 0))
      ∧ (t.timer n).hit = ((s.timer n).hit || decide ((t.timer n).cnt = (s.timer n).cmp))
      ∧ (t.timer n).ovr = ((s.timer n).ovr || (decide ((t.timer n).cnt = 0) && (s.timer n).zero)
          || (decide ((t.timer n).cnt = (s.timer n).cmp) && (s.timer n).hit))
      ∧ (∀ m, m ≠ n → (s.cascaded n = true → m ≠ n + 1) → t.tmr.ts.getD m {} = s.tmr.ts.getD m {})
      ∧ t.tmr.tsc = s.tmr.tsc ∧ Frame [.tmr] s t

/-- The host's timer commands (R497, R498, R502): a compare value, a load from the reload buffer with the prescale
counter restarted, enabling and stopping with the count kept, and the group start, which loads each enabled timer of the
management party's group with its phase offset; a cascaded pair as one timer of 32 bits (R500). -/
def Obligations.HostTimerCommands : Prop :=
  (∀ (n v e : Nat) (s : State), s.Settled → n < 16 → n < s.tmr.ts.length →
    s.Accepts (hostWrite 4 (8 * n + 2) [v % 65536] e) → ∃ t, exec (.tmrCmpWrite n v e) s = .next t
      ∧ t.Replied (hostWrite 4 (8 * n + 2) [v % 65536] e) []
      ∧ t.tmr = { s.tmr with ts := s.tmr.ts.set n { s.tmr.ts.getD n {} with cmp := v % 65536 } } ∧ Frame [.tmr] s t)
  ∧ (∀ (n e : Nat) (s : State), s.Settled → n < 16 → s.tmr.ts.length = 16 → s.oddHalf n = false →
    s.Accepts (hostWrite 4 (8 * n + 5) [2 + b2n (s.tmr.ts.getD n {}).en] e) → ∃ t, exec (.tmrCtrlLoad n e) s = .next t
      ∧ t.Replied (hostWrite 4 (8 * n + 5) [2 + b2n (s.tmr.ts.getD n {}).en] e) []
      ∧ (t.timer n).cnt = (s.timer n).rld ∧ (t.timer n).pre = 0 ∧ (t.timer n).en = (s.timer n).en
      ∧ (∀ m, m ≠ n → (s.cascaded n = true → m ≠ n + 1) → t.tmr.ts.getD m {} = s.tmr.ts.getD m {})
      ∧ t.tmr.tsc = s.tmr.tsc ∧ Frame [.tmr] s t)
  ∧ (∀ (n e : Nat) (on : Bool) (s : State), s.Settled → n < 16 → n < s.tmr.ts.length → s.oddHalf n = false →
    s.unused (s.shadow.party.tmrOwner.getD n 0) = false → (s.tmr.ts.getD n {}).en ≠ on →
    s.Accepts (hostWrite 4 (8 * n + 5) [b2n on] e) → ∃ t, exec (.tmrCtrlEn n on e) s = .next t
      ∧ t.Replied (hostWrite 4 (8 * n + 5) [b2n on] e) []
      ∧ t.tmr = { s.tmr with ts := s.tmr.ts.set n { s.tmr.ts.getD n {} with
          en := on, pre := if on then 0 else (s.tmr.ts.getD n {}).pre, born := s.tmr.tsc } } ∧ Frame [.tmr] s t)
  ∧ ∀ (e : Nat) (s : State), s.Settled → s.tmr.ts.length = 16 → s.Accepts (hostWrite 4 0x080 [1] e) →
    ∃ t, exec (.tmrGstartGo e) s = .next t ∧ t.Replied (hostWrite 4 0x080 [1] e) []
      ∧ (∀ n, n < 16 → s.oddHalf n = false → (t.timer n).cnt =
          if (s.timerRec n).group = true ∧ (s.timer n).en = true ∧ s.tmrOwner n = 0
            then (s.timerRec n).phase + (if s.cascaded n then 65536 * (s.timerRec (n + 1)).phase else 0)
            else (s.timer n).cnt)
      ∧ t.tmr.tsc = s.tmr.tsc ∧ Frame [.tmr] s t

/-- The LF oscillator (R508 to R517): its tick completes an owed handover, advances the TSC by the increment over 2^22 in
an LF span, and completes an owed handback, advancing the TSC first (log 64); a span that stands still after the
oscillator's failure stays so (log 64); 60 s of ticks give a new increment; a silence that begins clears LF_OK with record
0x4001, whether or not it was clear before (R516). -/
def Obligations.LfOscillatorAdvancesTheTsc : Prop :=
  (∀ s : State, s.Settled → s.tmr.lfPend = true → s.tmr.lfBack = false → ∃ t, exec .lfTick s = .next t
    ∧ t.tmr.lf = true ∧ t.tmr.lfPend = false ∧ t.tmr.counting = false ∧ t.tmr.frac = 0
    ∧ t.tmr.tsc = s.tmr.tsc ∧ t.tmr.curEntry = s.tmr.tsc ∧ Frame [.tmr] s t)
  ∧ (∀ s : State, s.Settled → s.tmr.lf = true → s.tmr.lfPend = false → s.tmr.lfCause ≠ 1 → s.tmr.gapSpan = false →
    s.tmr.lfBack = false → ∃ t, exec .lfTick s = .next t
      ∧ t.tmr = { s.tmr with tsc := (s.tmr.tsc + (s.tmr.frac + s.tmr.inc) / 2 ^ 22) % 2 ^ 48,
                             frac := (s.tmr.frac + s.tmr.inc) % 2 ^ 22, curSpan := s.tmr.curSpan + 1,
                             silent := false }
      ∧ Frame [.tmr] s t)
  ∧ (∀ s : State, s.Settled → s.tmr.lf = true → s.tmr.lfPend = false → s.tmr.lfCause ≠ 1 → s.tmr.gapSpan = false →
    s.tmr.lfBack = true → ∃ t, exec .lfTick s = .next t
      ∧ t.tmr.lf = false ∧ t.tmr.counting = true ∧ t.tmr.span = s.tmr.curSpan + 1 ∧ t.tmr.entry = s.tmr.curEntry
      ∧ t.tmr.cause = s.tmr.lfCause ∧ t.tmr.lfSpan = true
      ∧ t.tmr.tsc = (s.tmr.tsc + (s.tmr.frac + s.tmr.inc) / 2 ^ 22) % 2 ^ 48 ∧ Frame [.tmr] s t)
  ∧ (∀ s : State, s.tmr.lf = true → s.tmr.lfPend = false → s.tmr.lfCause = 1 → s.tmr.gapSpan = false →
    s.tmr.lfBack = false → s.power.phase = .sleep → s.watchWake = none → ∃ t, exec .lfTick s = .next t
      ∧ t.tmr.tsc = (s.tmr.tsc + (s.tmr.frac + s.tmr.inc) / 2 ^ 22) % 2 ^ 48
      ∧ t.tmr.frac = (s.tmr.frac + s.tmr.inc) % 2 ^ 22 ∧ t.tmr.curSpan = s.tmr.curSpan + 1 ∧ t.power = s.power)
  ∧ (∀ s : State, s.Settled → s.tmr.lf = true → s.tmr.lfPend = false → s.tmr.gapSpan = true → s.tmr.lfBack = false →
    ∃ t, exec .lfTick s = .next t ∧ t.tmr = { s.tmr with silent := false } ∧ Frame [.tmr] s t)
  ∧ (∀ (n : Nat) (s : State), s.Settled → s.tmr.counting = true → s.tmr.lfOk = true →
    offPpm (incOf n % 2 ^ 32) s.tmr.inc 20 = false → offPpm (incOf n % 2 ^ 32) incNominal 200 = false →
    ∃ t, exec (.incMeasureEnd n) s = .next t
      ∧ t.tmr = { s.tmr with
          inc := (n * 2 ^ 22 + 983040) / 1966080 % 2 ^ 32, meas := true, incBad := false } ∧ Frame [.tmr] s t)
  ∧ ∀ s : State, s.Settled → s.LogRoom → s.power.phase = .run → s.tmr.lf = false → s.tmr.lfPend = false →
    s.tmr.lfBack = false → s.tmr.silent = false → ∃ t, exec .lfTimeout s = .next t
      ∧ t.tmr = { s.tmr with lfOk := false, silent := true }
      ∧ t.log = s.log.plus (s.mkRec 0x4001 0 0 [1]) ∧ Frame [.tmr, .log] s t

/-! ### The management port (17, 18) -/

/-- The words of a request (Table 17.1) spell that request and no other: with every field in range the port reads back
the request they were made from, and with another word in place of its CRC it finds the CRC bad. -/
def Obligations.RequestWordsSpellTheRequest : Prop :=
  ∀ r : Req, r.unit < 16 → r.off < 2048 → r.n < 128 → r.epoch < 256 →
    (r.write = true → r.data.length = r.n) → (r.write = false → r.data = [] ∧ r.epoch = 0) →
    arrival r.words = .good r ∧ ∀ c, c ≠ crcMgt r.body → arrival (r.body ++ [c]) = .badCrc r.unit

/-- A read answered OK (R527) returns the words of the registers it addresses under its unit's epoch, abandoned after k
words those alone (log 117), and changes nothing but what the words returned whole clear or consume (R529): the counts,
worst grants and peaks that their tables clear, the result registers, and the selector of the fault log. The registers stand where the field tables have them: EVENTS, ATTN_MASK and the acknowledged sequence of SYS, the
mains voltage and the bus of PWR, CLK.STATUS, the window selector and offset of MEM, the TSC and the timers' counts,
housekeeping results, light settings, the copy in force, HEAD.MODE and HEAD.REFUSE, PIX.LINES, the Till's pointers,
LINK.STATE and the scan id, and the axis' position and encoder count (R530). -/
def Obligations.ReadReturnsTheRegisters : Prop :=
  (∀ (r : Req) (k : Nat) (s : State), s.Settled → arrival r.words = .good r → s.Accepts r → r.write = false →
    r.aperture = false → ∃ t, exec (.mgtRead r.words k) s = .next t
      ∧ t.sys.response = (answer 0 r.unit (s.sys.epochs.getD r.unit 0) (r.offsets.map (fun o =>
          (s.regWord r.unit o).getD 0))).take (if r.n ≤ k then r.n + 2 else k + 1)
      ∧ t.sys.epochs = s.sys.epochs
      ∧ ((∀ o ∈ r.offsets.take k, (r.unit, o) ∉ [(0, 0x03A), (0, 0x03B), (0, 0x11F), (3, 0x001), (3, 0x002), (3, 0x003),
          (5, 0x009), (5, 0x00B), (6, 0x129), (10, 0x00D), (10, 0x04F), (14, 0x00D), (14, 0x04F)]) → Frame [] s t))
  ∧ (∀ s : State, s.regWord 0 0x038 = some (s.sys.events % 65536) ∧ s.regWord 0 0x039 = some (s.sys.mask % 65536)
    ∧ s.regWord 0 0x106 = some (s.log.ack % 65536) ∧ s.regWord 0 0x107 = some (s.log.ack / 65536 % 65536)
    ∧ s.regWord 1 0x001 = some (s.pwr.vrms % 65536) ∧ s.regWord 1 0x008 = some (s.pwr.busV % 65536)
    ∧ s.regWord 2 0x000 = some (flag s.clk.locked 0 + flag s.clk.hold 1 + flag s.clk.onRef 2 + flag s.clk.pause 3
        + 16 * (s.clk.pattern % 4) + 64 * (s.clk.fcode % 4) + 256 * (s.clk.spread % 8) + flag s.clk.refLost 11)
    ∧ s.regWord 2 0x006 = some (s.clk.holds % 256 + 256 * (s.clk.tries % 8))
    ∧ s.regWord 3 0x004 = some (s.mem.hwin % 16) ∧ s.regWord 3 0x005 = some (s.mem.hoff % 65536)
    ∧ s.regWord 4 0x0B0 = some (s.tmr.tsc / 2 ^ 32 % 65536) ∧ s.regWord 4 0x0B1 = some (s.tmr.tsc / 65536 % 65536)
    ∧ s.regWord 4 0x0B2 = some (s.tmr.tsc % 65536)
    ∧ s.regWord 7 0x001 = some (s.ledger.seq % 65536) ∧ s.regWord 7 0x002 = some (s.ledger.seq / 65536 % 65536))
  ∧ (∀ (n : Nat) (s : State), n < 16 → s.regWord 4 (8 * n) = some ((s.tmr.ts.getD n {}).cnt % 65536)
    ∧ s.regWord 4 (8 * n + 1) = some ((s.tmr.ts.getD n {}).rld % 65536)
    ∧ s.regWord 4 (8 * n + 2) = some ((s.tmr.ts.getD n {}).cmp % 65536))
  ∧ (∀ (n : Nat) (s : State), n < 24 → s.regWord 5 (0x040 + 8 * n) = some (unsigned 16 (s.hkChan n).last)
    ∧ s.regWord 5 (0x041 + 8 * n) = some (unsigned 16 (s.hkChan n).raw))
  ∧ (∀ (n : Nat) (s : State), n < 8 → s.regWord 6 (8 * n + 1) = some ((s.lux.ch.getD n {}).set % 4096)
    ∧ s.regWord 6 (8 * n + 3) = some ((s.lux.ch.getD n {}).q % 65536))
  ∧ ∀ (l : Lane) (x : LaneSt) (s : State), x = s.lane l →
    s.regWord (headUnit l) 0x000 = some (modeCode x.mode.mode + 16 * modeCode x.mode.origin
        + 256 * (((x.mode.prog.map Program.num).getD 0) % 16) + flag x.mode.entering 12 + flag x.mode.ending 13
        + flag x.mode.trip 14 + flag x.mode.halted 15)
    ∧ s.regWord (headUnit l) 0x002 = some (x.mode.reason % 16 + 16 * (x.mode.source % 2) + 32 * (x.mode.refProg % 16)
        + 512 * (x.mode.refCount % 128))
    ∧ s.regWord (pixUnit l) 0x00C = some (x.pix.lines % 65536)
    ∧ s.regWord (tillUnit l) 0x008 = some (x.till.wptr % 65536) ∧ s.regWord (tillUnit l) 0x00A = some (x.till.rptr % 65536)
    ∧ s.regWord (tillUnit l) 0x040 = some (linkCode x.link.st + flag x.link.resync 3 + 16 * (x.link.mag % 8)
        + flag x.link.dual 7)
    ∧ s.regWord (tillUnit l) 0x045 = some (x.link.scanId % 65536)
    ∧ s.regWord (axisUnit l) 0x007 = some (unsigned 32 x.axis.pos % 65536)
    ∧ s.regWord (axisUnit l) 0x008 = some (unsigned 32 x.axis.pos / 65536 % 65536)
    ∧ s.regWord (axisUnit l) 0x009 = some (unsigned 32 x.axis.enc % 65536)

/-- A request that is not answered OK (R526, R528) changes nothing but its count in SYS (Table 17.15), and its response
names why: so for a read and for a write; a frame with a bad CRC and one cut short (R529) only count. How much of the
response a host that keeps the select low past a write's CRC shifts out is the model's choice (log 117). -/
def Obligations.RefusedFrameOnlyCounts : Prop :=
  (∀ (r : Req) (k : Nat) (s : State), s.Settled → arrival r.words = .good r → s.portLive = true → s.status r ≠ 0 →
    (∃ t, exec (.mgtRead r.words k) s = .next t
      ∧ t.sys.response = answer (s.status r) r.unit (s.sys.epochs.getD r.unit 0) (s.frameData r (s.status r))
      ∧ t.sys.bare = { s.sys with
          stale := if s.status r = 2 then satInc 255 s.sys.stale else s.sys.stale
          denied := if s.status r = 3 then satInc 255 s.sys.denied else s.sys.denied }.bare ∧ Frame [.sys] s t)
    ∧ ∃ t, exec (.mgtWrite r.words) s = .next t
      ∧ t.sys.response = answer (s.status r) r.unit (s.sys.epochs.getD r.unit 0) (s.frameData r (s.status r))
      ∧ t.sys.bare = { s.sys with
          stale := if s.status r = 2 then satInc 255 s.sys.stale else s.sys.stale
          denied := if s.status r = 3 then satInc 255 s.sys.denied else s.sys.denied }.bare ∧ Frame [.sys] s t)
  ∧ (∀ (ws : List Nat) (u : Nat) (s : State), s.Settled → arrival ws = .badCrc u → s.portLive = true →
    ∃ t, exec (.mgtWrite ws) s = .next t
      ∧ t.sys.response = lateRise (pastWords ws) (answer 4 u (s.sys.epochs.getD u 0) [])
      ∧ t.sys.bare = { s.sys with badCrc := satInc 255 s.sys.badCrc }.bare ∧ Frame [.sys] s t)
  ∧ ∀ s : State, s.Settled → s.portLive = true → ∃ t, exec .mgtFrameAbort s = .next t ∧ t.sys.response = []
    ∧ t.sys.bare = { s.sys with aborts := satInc 255 s.sys.aborts }.bare ∧ Frame [.sys] s t

/-- A write answered OK, with at least one word that counts for R531, advances its unit's epoch by exactly one step, 0xFF
going to 0x01, unless a full start holds the epochs; whatever else the write changes. -/
def Obligations.WriteAdvancesItsEpochOnce : Prop :=
  ∀ (r : Req) (s t : State), s.Settled → arrival r.words = .good r → s.Accepts r → r.write = true →
    r.items.all (fun q => quietWord r.unit q.1) = false → exec (.mgtWrite r.words) s = .next t →
    epochsHeld s t = false →
    t.sys.epochs.getD r.unit 0 = nextEpoch (s.sys.epochs.getD r.unit 0)

/-- A read of a register that its table clears, returned whole, clears it and answers the value before: the port's
counts, the worst grants of C0, C1 and C2, the bus's discards, TILL.PEAK (to the present fill: log 68) and LINK's error
counts;
so does the read of a housekeeping result, alone or with its tag (R478). Nothing else changes. -/
def Obligations.ClearingReads : Prop :=
  (∀ s : State, s.Settled → s.Accepts (hostRead 0 0x03A 1) → ∃ t, exec (.clearOnRead 0 0x03A) s = .next t
    ∧ t.Replied (hostRead 0 0x03A 1) [(s.regWord 0 0x03A).getD 0]
    ∧ t.sys.bare = { s.sys with badCrc := 0, aborts := 0 }.bare ∧ Frame [.sys] s t)
  ∧ (∀ s : State, s.Settled → s.Accepts (hostRead 0 0x03B 1) → ∃ t, exec (.clearOnRead 0 0x03B) s = .next t
    ∧ t.Replied (hostRead 0 0x03B 1) [(s.regWord 0 0x03B).getD 0]
    ∧ t.sys.bare = { s.sys with stale := 0, denied := 0 }.bare ∧ Frame [.sys] s t)
  ∧ (∀ (o : Nat) (s : State), s.Settled → s.Accepts (hostRead 3 o 1) → (o = 1 ∨ o = 2 ∨ o = 3) →
    ∃ t, exec (.clearOnRead 3 o) s = .next t ∧ t.Replied (hostRead 3 o 1) [(s.regWord 3 o).getD 0]
      ∧ t.mem = { s.mem with
          c0Worst := if o = 1 then 0 else s.mem.c0Worst, c0Port := if o = 1 then 0 else s.mem.c0Port
          c1Worst := if o = 2 then 0 else s.mem.c1Worst, c2Worst := if o = 3 then 0 else s.mem.c2Worst }
      ∧ Frame [.mem] s t)
  ∧ (∀ s : State, s.Settled → s.Accepts (hostRead 6 0x129 1) → ∃ t, exec (.clearOnRead 6 0x129) s = .next t
    ∧ t.Replied (hostRead 6 0x129 1) [(s.regWord 6 0x129).getD 0]
    ∧ t.lux = { s.lux with crcErr := 0, bus := [] } ∧ Frame [.lux] s t)
  ∧ (∀ (l : Lane) (s : State), s.Settled → s.Accepts (hostRead (tillUnit l) 0x00D 1) →
    ∃ t, exec (.clearOnRead (tillUnit l) 0x00D) s = .next t
      ∧ t.Replied (hostRead (tillUnit l) 0x00D 1) [(s.regWord (tillUnit l) 0x00D).getD 0]
      ∧ (t.lane l).till = { (s.lane l).till with peak := s.tillFill l / 64 } ∧ Frame [.lane l] s t)
  ∧ (∀ (l : Lane) (s : State), s.Settled → s.Accepts (hostRead (tillUnit l) 0x04F 1) →
    ∃ t, exec (.clearOnRead (tillUnit l) 0x04F) s = .next t
      ∧ t.Replied (hostRead (tillUnit l) 0x04F 1) [(s.regWord (tillUnit l) 0x04F).getD 0]
      ∧ (t.lane l).link = { (s.lane l).link with errCode := 0, errDisc := 0 } ∧ Frame [.lane l] s t)
  ∧ (∀ (b : Bool) (k : Nat) (s : State), s.Settled → s.Accepts (hostRead 5 (if b then 0x00B else 0x009) 1) → 1 ≤ k →
    ∃ t, exec (.hkResultRead b false k) s = .next t
      ∧ t.Replied (hostRead 5 (if b then 0x00B else 0x009) 1) [word16 (s.conv b).res.val]
      ∧ t.conv b = { s.conv b with res := { (s.conv b).res with full := false } } ∧ Frame [.hk] s t)
  ∧ ∀ (b : Bool) (k : Nat) (s : State), s.Settled → s.Accepts (hostRead 5 (if b then 0x00A else 0x008) 2) → 2 ≤ k →
    ∃ t, exec (.hkResultRead b true k) s = .next t
      ∧ t.Replied (hostRead 5 (if b then 0x00A else 0x008) 2) [(s.conv b).res.tag, word16 (s.conv b).res.val]
      ∧ t.conv b = { s.conv b with res := { (s.conv b).res with full := false } } ∧ Frame [.hk] s t

/-- SYS on the port. A write answered OK: ATTN_MASK takes the word; bits written 1 to EVENTS clear and the others stand
(R542), and that write alone advances no epoch (R531). The fault log: the selected record read whole is answered as the
sixteen words of Table 18.3, and in whatever frame its word 15 is returned the selector goes to the sequence after it, no
epoch advancing (R569); an acknowledgement in range sets the
acknowledged sequence and changes no record (R570). -/
def Obligations.AttentionAndFaultLogOnThePort : Prop :=
  (∀ (w e : Nat) (s : State), s.Settled → s.Accepts (hostWrite 0 0x039 [w] e) → w < 65536 →
    ∃ t, exec (.mgtWrite (hostWrite 0 0x039 [w] e).words) s = .next t ∧ t.Replied (hostWrite 0 0x039 [w] e) []
      ∧ t.sys.bare = { s.sys with mask := w }.bare ∧ t.sys.events = s.sys.events ∧ Frame [.sys] s t)
  ∧ (∀ (w e : Nat) (s : State), s.Settled → s.Accepts (hostWrite 0 0x038 [w] e) → w < 65536 →
    ∃ t, exec (.mgtWrite (hostWrite 0 0x038 [w] e).words) s = .next t ∧ t.Replied (hostWrite 0 0x038 [w] e) []
      ∧ (∀ i, t.sys.events.testBit i = (s.sys.events.testBit i && !w.testBit i)) ∧ t.sys.epochs = s.sys.epochs
      ∧ Frame [] s t)
  ∧ (∀ (r : FaultRec) (s : State), s.Settled → s.Accepts (hostRead 0 0x110 16) → s.selected = some r →
    ∃ t, exec .flogSelectedRead s = .next t ∧ t.Replied (hostRead 0 0x110 16) r.words
      ∧ t.log = { s.log with sel := (r.seq + 1) % 2 ^ 32 } ∧ t.sys.epochs = s.sys.epochs ∧ Frame [.log] s t)
  ∧ (∀ (q : Req) (r : FaultRec) (k : Nat) (s : State), s.Settled → arrival q.words = .good q → s.Accepts q →
    q.write = false → q.unit = 0 → 0x11F ∈ q.offsets.take k → s.selected = some r →
    ∃ t, exec (.mgtRead q.words k) s = .next t
      ∧ t.log = { s.log with sel := (r.seq + 1) % 2 ^ 32 } ∧ t.sys.epochs = s.sys.epochs ∧ Frame [.log, .sys] s t)
  ∧ ∀ (q e : Nat) (s : State), s.Settled → q < 2 ^ 32 → s.Accepts (hostWrite 0 0x106 [lo16 q, hi16 q] e) →
    ∃ t, exec (.flogAck q e) s = .next t ∧ t.Replied (hostWrite 0 0x106 [lo16 q, hi16 q] e) []
      ∧ t.log = { s.log with ack := q } ∧ Frame [.log] s t
end

