-- ==== Sys2Proof/Laws/State.lean ====
section
/-!
SUPPORT. One lemma per field per update of `State` and of a lane, each true by unfolding that one update.
-/

namespace Sys2Proof.Machine

variable (s : State)

/-! ### `modPower` -/

@[simp] theorem State.modPower_twoLanes (f : PowerSt → PowerSt) : (s.modPower f).twoLanes = s.twoLanes := rfl
@[simp] theorem State.modPower_pins (f : PowerSt → PowerSt) : (s.modPower f).pins = s.pins := rfl
@[simp] theorem State.modPower_power (f : PowerSt → PowerSt) : (s.modPower f).power = f s.power := rfl
@[simp] theorem State.modPower_sys (f : PowerSt → PowerSt) : (s.modPower f).sys = s.sys := rfl
@[simp] theorem State.modPower_log (f : PowerSt → PowerSt) : (s.modPower f).log = s.log := rfl
@[simp] theorem State.modPower_flash (f : PowerSt → PowerSt) : (s.modPower f).flash = s.flash := rfl
@[simp] theorem State.modPower_ledger (f : PowerSt → PowerSt) : (s.modPower f).ledger = s.ledger := rfl
@[simp] theorem State.modPower_shadow (f : PowerSt → PowerSt) : (s.modPower f).shadow = s.shadow := rfl
@[simp] theorem State.modPower_clk (f : PowerSt → PowerSt) : (s.modPower f).clk = s.clk := rfl
@[simp] theorem State.modPower_pwr (f : PowerSt → PowerSt) : (s.modPower f).pwr = s.pwr := rfl
@[simp] theorem State.modPower_hist (f : PowerSt → PowerSt) : (s.modPower f).hist = s.hist := rfl
@[simp] theorem State.modPower_mem (f : PowerSt → PowerSt) : (s.modPower f).mem = s.mem := rfl
@[simp] theorem State.modPower_bank (f : PowerSt → PowerSt) : (s.modPower f).bank = s.bank := rfl
@[simp] theorem State.modPower_tmr (f : PowerSt → PowerSt) : (s.modPower f).tmr = s.tmr := rfl
@[simp] theorem State.modPower_hk (f : PowerSt → PowerSt) : (s.modPower f).hk = s.hk := rfl
@[simp] theorem State.modPower_lux (f : PowerSt → PowerSt) : (s.modPower f).lux = s.lux := rfl
@[simp] theorem State.modPower_laneA (f : PowerSt → PowerSt) : (s.modPower f).laneA = s.laneA := rfl
@[simp] theorem State.modPower_laneB (f : PowerSt → PowerSt) : (s.modPower f).laneB = s.laneB := rfl
@[simp] theorem State.modPower_free (f : PowerSt → PowerSt) : (s.modPower f).free = s.free := rfl
@[simp] theorem State.modPower_pending (f : PowerSt → PowerSt) : (s.modPower f).pending = s.pending := rfl
@[simp] theorem State.modPower_lane (f : PowerSt → PowerSt) (l : Lane) : (s.modPower f).lane l = s.lane l := by cases l <;> rfl

/-! ### `modSys` -/

@[simp] theorem State.modSys_twoLanes (f : SysSt → SysSt) : (s.modSys f).twoLanes = s.twoLanes := rfl
@[simp] theorem State.modSys_pins (f : SysSt → SysSt) : (s.modSys f).pins = s.pins := rfl
@[simp] theorem State.modSys_power (f : SysSt → SysSt) : (s.modSys f).power = s.power := rfl
@[simp] theorem State.modSys_sys (f : SysSt → SysSt) : (s.modSys f).sys = f s.sys := rfl
@[simp] theorem State.modSys_log (f : SysSt → SysSt) : (s.modSys f).log = s.log := rfl
@[simp] theorem State.modSys_flash (f : SysSt → SysSt) : (s.modSys f).flash = s.flash := rfl
@[simp] theorem State.modSys_ledger (f : SysSt → SysSt) : (s.modSys f).ledger = s.ledger := rfl
@[simp] theorem State.modSys_shadow (f : SysSt → SysSt) : (s.modSys f).shadow = s.shadow := rfl
@[simp] theorem State.modSys_clk (f : SysSt → SysSt) : (s.modSys f).clk = s.clk := rfl
@[simp] theorem State.modSys_pwr (f : SysSt → SysSt) : (s.modSys f).pwr = s.pwr := rfl
@[simp] theorem State.modSys_hist (f : SysSt → SysSt) : (s.modSys f).hist = s.hist := rfl
@[simp] theorem State.modSys_mem (f : SysSt → SysSt) : (s.modSys f).mem = s.mem := rfl
@[simp] theorem State.modSys_bank (f : SysSt → SysSt) : (s.modSys f).bank = s.bank := rfl
@[simp] theorem State.modSys_tmr (f : SysSt → SysSt) : (s.modSys f).tmr = s.tmr := rfl
@[simp] theorem State.modSys_hk (f : SysSt → SysSt) : (s.modSys f).hk = s.hk := rfl
@[simp] theorem State.modSys_lux (f : SysSt → SysSt) : (s.modSys f).lux = s.lux := rfl
@[simp] theorem State.modSys_laneA (f : SysSt → SysSt) : (s.modSys f).laneA = s.laneA := rfl
@[simp] theorem State.modSys_laneB (f : SysSt → SysSt) : (s.modSys f).laneB = s.laneB := rfl
@[simp] theorem State.modSys_free (f : SysSt → SysSt) : (s.modSys f).free = s.free := rfl
@[simp] theorem State.modSys_pending (f : SysSt → SysSt) : (s.modSys f).pending = s.pending := rfl
@[simp] theorem State.modSys_lane (f : SysSt → SysSt) (l : Lane) : (s.modSys f).lane l = s.lane l := by cases l <;> rfl

/-! ### `modLog` -/

@[simp] theorem State.modLog_twoLanes (f : LogSt → LogSt) : (s.modLog f).twoLanes = s.twoLanes := rfl
@[simp] theorem State.modLog_pins (f : LogSt → LogSt) : (s.modLog f).pins = s.pins := rfl
@[simp] theorem State.modLog_power (f : LogSt → LogSt) : (s.modLog f).power = s.power := rfl
@[simp] theorem State.modLog_sys (f : LogSt → LogSt) : (s.modLog f).sys = s.sys := rfl
@[simp] theorem State.modLog_log (f : LogSt → LogSt) : (s.modLog f).log = f s.log := rfl
@[simp] theorem State.modLog_flash (f : LogSt → LogSt) : (s.modLog f).flash = s.flash := rfl
@[simp] theorem State.modLog_ledger (f : LogSt → LogSt) : (s.modLog f).ledger = s.ledger := rfl
@[simp] theorem State.modLog_shadow (f : LogSt → LogSt) : (s.modLog f).shadow = s.shadow := rfl
@[simp] theorem State.modLog_clk (f : LogSt → LogSt) : (s.modLog f).clk = s.clk := rfl
@[simp] theorem State.modLog_pwr (f : LogSt → LogSt) : (s.modLog f).pwr = s.pwr := rfl
@[simp] theorem State.modLog_hist (f : LogSt → LogSt) : (s.modLog f).hist = s.hist := rfl
@[simp] theorem State.modLog_mem (f : LogSt → LogSt) : (s.modLog f).mem = s.mem := rfl
@[simp] theorem State.modLog_bank (f : LogSt → LogSt) : (s.modLog f).bank = s.bank := rfl
@[simp] theorem State.modLog_tmr (f : LogSt → LogSt) : (s.modLog f).tmr = s.tmr := rfl
@[simp] theorem State.modLog_hk (f : LogSt → LogSt) : (s.modLog f).hk = s.hk := rfl
@[simp] theorem State.modLog_lux (f : LogSt → LogSt) : (s.modLog f).lux = s.lux := rfl
@[simp] theorem State.modLog_laneA (f : LogSt → LogSt) : (s.modLog f).laneA = s.laneA := rfl
@[simp] theorem State.modLog_laneB (f : LogSt → LogSt) : (s.modLog f).laneB = s.laneB := rfl
@[simp] theorem State.modLog_free (f : LogSt → LogSt) : (s.modLog f).free = s.free := rfl
@[simp] theorem State.modLog_pending (f : LogSt → LogSt) : (s.modLog f).pending = s.pending := rfl
@[simp] theorem State.modLog_lane (f : LogSt → LogSt) (l : Lane) : (s.modLog f).lane l = s.lane l := by cases l <;> rfl

/-! ### `modClk` -/

@[simp] theorem State.modClk_twoLanes (f : ClkSt → ClkSt) : (s.modClk f).twoLanes = s.twoLanes := rfl
@[simp] theorem State.modClk_pins (f : ClkSt → ClkSt) : (s.modClk f).pins = s.pins := rfl
@[simp] theorem State.modClk_power (f : ClkSt → ClkSt) : (s.modClk f).power = s.power := rfl
@[simp] theorem State.modClk_sys (f : ClkSt → ClkSt) : (s.modClk f).sys = s.sys := rfl
@[simp] theorem State.modClk_log (f : ClkSt → ClkSt) : (s.modClk f).log = s.log := rfl
@[simp] theorem State.modClk_flash (f : ClkSt → ClkSt) : (s.modClk f).flash = s.flash := rfl
@[simp] theorem State.modClk_ledger (f : ClkSt → ClkSt) : (s.modClk f).ledger = s.ledger := rfl
@[simp] theorem State.modClk_shadow (f : ClkSt → ClkSt) : (s.modClk f).shadow = s.shadow := rfl
@[simp] theorem State.modClk_clk (f : ClkSt → ClkSt) : (s.modClk f).clk = f s.clk := rfl
@[simp] theorem State.modClk_pwr (f : ClkSt → ClkSt) : (s.modClk f).pwr = s.pwr := rfl
@[simp] theorem State.modClk_hist (f : ClkSt → ClkSt) : (s.modClk f).hist = s.hist := rfl
@[simp] theorem State.modClk_mem (f : ClkSt → ClkSt) : (s.modClk f).mem = s.mem := rfl
@[simp] theorem State.modClk_bank (f : ClkSt → ClkSt) : (s.modClk f).bank = s.bank := rfl
@[simp] theorem State.modClk_tmr (f : ClkSt → ClkSt) : (s.modClk f).tmr = s.tmr := rfl
@[simp] theorem State.modClk_hk (f : ClkSt → ClkSt) : (s.modClk f).hk = s.hk := rfl
@[simp] theorem State.modClk_lux (f : ClkSt → ClkSt) : (s.modClk f).lux = s.lux := rfl
@[simp] theorem State.modClk_laneA (f : ClkSt → ClkSt) : (s.modClk f).laneA = s.laneA := rfl
@[simp] theorem State.modClk_laneB (f : ClkSt → ClkSt) : (s.modClk f).laneB = s.laneB := rfl
@[simp] theorem State.modClk_free (f : ClkSt → ClkSt) : (s.modClk f).free = s.free := rfl
@[simp] theorem State.modClk_pending (f : ClkSt → ClkSt) : (s.modClk f).pending = s.pending := rfl
@[simp] theorem State.modClk_lane (f : ClkSt → ClkSt) (l : Lane) : (s.modClk f).lane l = s.lane l := by cases l <;> rfl

/-! ### `modPwr` -/

@[simp] theorem State.modPwr_twoLanes (f : PwrSt → PwrSt) : (s.modPwr f).twoLanes = s.twoLanes := rfl
@[simp] theorem State.modPwr_pins (f : PwrSt → PwrSt) : (s.modPwr f).pins = s.pins := rfl
@[simp] theorem State.modPwr_power (f : PwrSt → PwrSt) : (s.modPwr f).power = s.power := rfl
@[simp] theorem State.modPwr_sys (f : PwrSt → PwrSt) : (s.modPwr f).sys = s.sys := rfl
@[simp] theorem State.modPwr_log (f : PwrSt → PwrSt) : (s.modPwr f).log = s.log := rfl
@[simp] theorem State.modPwr_flash (f : PwrSt → PwrSt) : (s.modPwr f).flash = s.flash := rfl
@[simp] theorem State.modPwr_ledger (f : PwrSt → PwrSt) : (s.modPwr f).ledger = s.ledger := rfl
@[simp] theorem State.modPwr_shadow (f : PwrSt → PwrSt) : (s.modPwr f).shadow = s.shadow := rfl
@[simp] theorem State.modPwr_clk (f : PwrSt → PwrSt) : (s.modPwr f).clk = s.clk := rfl
@[simp] theorem State.modPwr_pwr (f : PwrSt → PwrSt) : (s.modPwr f).pwr = f s.pwr := rfl
@[simp] theorem State.modPwr_hist (f : PwrSt → PwrSt) : (s.modPwr f).hist = s.hist := rfl
@[simp] theorem State.modPwr_mem (f : PwrSt → PwrSt) : (s.modPwr f).mem = s.mem := rfl
@[simp] theorem State.modPwr_bank (f : PwrSt → PwrSt) : (s.modPwr f).bank = s.bank := rfl
@[simp] theorem State.modPwr_tmr (f : PwrSt → PwrSt) : (s.modPwr f).tmr = s.tmr := rfl
@[simp] theorem State.modPwr_hk (f : PwrSt → PwrSt) : (s.modPwr f).hk = s.hk := rfl
@[simp] theorem State.modPwr_lux (f : PwrSt → PwrSt) : (s.modPwr f).lux = s.lux := rfl
@[simp] theorem State.modPwr_laneA (f : PwrSt → PwrSt) : (s.modPwr f).laneA = s.laneA := rfl
@[simp] theorem State.modPwr_laneB (f : PwrSt → PwrSt) : (s.modPwr f).laneB = s.laneB := rfl
@[simp] theorem State.modPwr_free (f : PwrSt → PwrSt) : (s.modPwr f).free = s.free := rfl
@[simp] theorem State.modPwr_pending (f : PwrSt → PwrSt) : (s.modPwr f).pending = s.pending := rfl
@[simp] theorem State.modPwr_lane (f : PwrSt → PwrSt) (l : Lane) : (s.modPwr f).lane l = s.lane l := by cases l <;> rfl

/-! ### `modHist` -/

@[simp] theorem State.modHist_twoLanes (f : PwrHist → PwrHist) : (s.modHist f).twoLanes = s.twoLanes := rfl
@[simp] theorem State.modHist_pins (f : PwrHist → PwrHist) : (s.modHist f).pins = s.pins := rfl
@[simp] theorem State.modHist_power (f : PwrHist → PwrHist) : (s.modHist f).power = s.power := rfl
@[simp] theorem State.modHist_sys (f : PwrHist → PwrHist) : (s.modHist f).sys = s.sys := rfl
@[simp] theorem State.modHist_log (f : PwrHist → PwrHist) : (s.modHist f).log = s.log := rfl
@[simp] theorem State.modHist_flash (f : PwrHist → PwrHist) : (s.modHist f).flash = s.flash := rfl
@[simp] theorem State.modHist_ledger (f : PwrHist → PwrHist) : (s.modHist f).ledger = s.ledger := rfl
@[simp] theorem State.modHist_shadow (f : PwrHist → PwrHist) : (s.modHist f).shadow = s.shadow := rfl
@[simp] theorem State.modHist_clk (f : PwrHist → PwrHist) : (s.modHist f).clk = s.clk := rfl
@[simp] theorem State.modHist_pwr (f : PwrHist → PwrHist) : (s.modHist f).pwr = s.pwr := rfl
@[simp] theorem State.modHist_hist (f : PwrHist → PwrHist) : (s.modHist f).hist = f s.hist := rfl
@[simp] theorem State.modHist_mem (f : PwrHist → PwrHist) : (s.modHist f).mem = s.mem := rfl
@[simp] theorem State.modHist_bank (f : PwrHist → PwrHist) : (s.modHist f).bank = s.bank := rfl
@[simp] theorem State.modHist_tmr (f : PwrHist → PwrHist) : (s.modHist f).tmr = s.tmr := rfl
@[simp] theorem State.modHist_hk (f : PwrHist → PwrHist) : (s.modHist f).hk = s.hk := rfl
@[simp] theorem State.modHist_lux (f : PwrHist → PwrHist) : (s.modHist f).lux = s.lux := rfl
@[simp] theorem State.modHist_laneA (f : PwrHist → PwrHist) : (s.modHist f).laneA = s.laneA := rfl
@[simp] theorem State.modHist_laneB (f : PwrHist → PwrHist) : (s.modHist f).laneB = s.laneB := rfl
@[simp] theorem State.modHist_free (f : PwrHist → PwrHist) : (s.modHist f).free = s.free := rfl
@[simp] theorem State.modHist_pending (f : PwrHist → PwrHist) : (s.modHist f).pending = s.pending := rfl
@[simp] theorem State.modHist_lane (f : PwrHist → PwrHist) (l : Lane) : (s.modHist f).lane l = s.lane l := by cases l <;> rfl

/-! ### `modMem` -/

@[simp] theorem State.modMem_twoLanes (f : MemSt → MemSt) : (s.modMem f).twoLanes = s.twoLanes := rfl
@[simp] theorem State.modMem_pins (f : MemSt → MemSt) : (s.modMem f).pins = s.pins := rfl
@[simp] theorem State.modMem_power (f : MemSt → MemSt) : (s.modMem f).power = s.power := rfl
@[simp] theorem State.modMem_sys (f : MemSt → MemSt) : (s.modMem f).sys = s.sys := rfl
@[simp] theorem State.modMem_log (f : MemSt → MemSt) : (s.modMem f).log = s.log := rfl
@[simp] theorem State.modMem_flash (f : MemSt → MemSt) : (s.modMem f).flash = s.flash := rfl
@[simp] theorem State.modMem_ledger (f : MemSt → MemSt) : (s.modMem f).ledger = s.ledger := rfl
@[simp] theorem State.modMem_shadow (f : MemSt → MemSt) : (s.modMem f).shadow = s.shadow := rfl
@[simp] theorem State.modMem_clk (f : MemSt → MemSt) : (s.modMem f).clk = s.clk := rfl
@[simp] theorem State.modMem_pwr (f : MemSt → MemSt) : (s.modMem f).pwr = s.pwr := rfl
@[simp] theorem State.modMem_hist (f : MemSt → MemSt) : (s.modMem f).hist = s.hist := rfl
@[simp] theorem State.modMem_mem (f : MemSt → MemSt) : (s.modMem f).mem = f s.mem := rfl
@[simp] theorem State.modMem_bank (f : MemSt → MemSt) : (s.modMem f).bank = s.bank := rfl
@[simp] theorem State.modMem_tmr (f : MemSt → MemSt) : (s.modMem f).tmr = s.tmr := rfl
@[simp] theorem State.modMem_hk (f : MemSt → MemSt) : (s.modMem f).hk = s.hk := rfl
@[simp] theorem State.modMem_lux (f : MemSt → MemSt) : (s.modMem f).lux = s.lux := rfl
@[simp] theorem State.modMem_laneA (f : MemSt → MemSt) : (s.modMem f).laneA = s.laneA := rfl
@[simp] theorem State.modMem_laneB (f : MemSt → MemSt) : (s.modMem f).laneB = s.laneB := rfl
@[simp] theorem State.modMem_free (f : MemSt → MemSt) : (s.modMem f).free = s.free := rfl
@[simp] theorem State.modMem_pending (f : MemSt → MemSt) : (s.modMem f).pending = s.pending := rfl
@[simp] theorem State.modMem_lane (f : MemSt → MemSt) (l : Lane) : (s.modMem f).lane l = s.lane l := by cases l <;> rfl

/-! ### `modTmr` -/

@[simp] theorem State.modTmr_twoLanes (f : TmrSt → TmrSt) : (s.modTmr f).twoLanes = s.twoLanes := rfl
@[simp] theorem State.modTmr_pins (f : TmrSt → TmrSt) : (s.modTmr f).pins = s.pins := rfl
@[simp] theorem State.modTmr_power (f : TmrSt → TmrSt) : (s.modTmr f).power = s.power := rfl
@[simp] theorem State.modTmr_sys (f : TmrSt → TmrSt) : (s.modTmr f).sys = s.sys := rfl
@[simp] theorem State.modTmr_log (f : TmrSt → TmrSt) : (s.modTmr f).log = s.log := rfl
@[simp] theorem State.modTmr_flash (f : TmrSt → TmrSt) : (s.modTmr f).flash = s.flash := rfl
@[simp] theorem State.modTmr_ledger (f : TmrSt → TmrSt) : (s.modTmr f).ledger = s.ledger := rfl
@[simp] theorem State.modTmr_shadow (f : TmrSt → TmrSt) : (s.modTmr f).shadow = s.shadow := rfl
@[simp] theorem State.modTmr_clk (f : TmrSt → TmrSt) : (s.modTmr f).clk = s.clk := rfl
@[simp] theorem State.modTmr_pwr (f : TmrSt → TmrSt) : (s.modTmr f).pwr = s.pwr := rfl
@[simp] theorem State.modTmr_hist (f : TmrSt → TmrSt) : (s.modTmr f).hist = s.hist := rfl
@[simp] theorem State.modTmr_mem (f : TmrSt → TmrSt) : (s.modTmr f).mem = s.mem := rfl
@[simp] theorem State.modTmr_bank (f : TmrSt → TmrSt) : (s.modTmr f).bank = s.bank := rfl
@[simp] theorem State.modTmr_tmr (f : TmrSt → TmrSt) : (s.modTmr f).tmr = f s.tmr := rfl
@[simp] theorem State.modTmr_hk (f : TmrSt → TmrSt) : (s.modTmr f).hk = s.hk := rfl
@[simp] theorem State.modTmr_lux (f : TmrSt → TmrSt) : (s.modTmr f).lux = s.lux := rfl
@[simp] theorem State.modTmr_laneA (f : TmrSt → TmrSt) : (s.modTmr f).laneA = s.laneA := rfl
@[simp] theorem State.modTmr_laneB (f : TmrSt → TmrSt) : (s.modTmr f).laneB = s.laneB := rfl
@[simp] theorem State.modTmr_free (f : TmrSt → TmrSt) : (s.modTmr f).free = s.free := rfl
@[simp] theorem State.modTmr_pending (f : TmrSt → TmrSt) : (s.modTmr f).pending = s.pending := rfl
@[simp] theorem State.modTmr_lane (f : TmrSt → TmrSt) (l : Lane) : (s.modTmr f).lane l = s.lane l := by cases l <;> rfl

/-! ### `modHk` -/

@[simp] theorem State.modHk_twoLanes (f : HkSt → HkSt) : (s.modHk f).twoLanes = s.twoLanes := rfl
@[simp] theorem State.modHk_pins (f : HkSt → HkSt) : (s.modHk f).pins = s.pins := rfl
@[simp] theorem State.modHk_power (f : HkSt → HkSt) : (s.modHk f).power = s.power := rfl
@[simp] theorem State.modHk_sys (f : HkSt → HkSt) : (s.modHk f).sys = s.sys := rfl
@[simp] theorem State.modHk_log (f : HkSt → HkSt) : (s.modHk f).log = s.log := rfl
@[simp] theorem State.modHk_flash (f : HkSt → HkSt) : (s.modHk f).flash = s.flash := rfl
@[simp] theorem State.modHk_ledger (f : HkSt → HkSt) : (s.modHk f).ledger = s.ledger := rfl
@[simp] theorem State.modHk_shadow (f : HkSt → HkSt) : (s.modHk f).shadow = s.shadow := rfl
@[simp] theorem State.modHk_clk (f : HkSt → HkSt) : (s.modHk f).clk = s.clk := rfl
@[simp] theorem State.modHk_pwr (f : HkSt → HkSt) : (s.modHk f).pwr = s.pwr := rfl
@[simp] theorem State.modHk_hist (f : HkSt → HkSt) : (s.modHk f).hist = s.hist := rfl
@[simp] theorem State.modHk_mem (f : HkSt → HkSt) : (s.modHk f).mem = s.mem := rfl
@[simp] theorem State.modHk_bank (f : HkSt → HkSt) : (s.modHk f).bank = s.bank := rfl
@[simp] theorem State.modHk_tmr (f : HkSt → HkSt) : (s.modHk f).tmr = s.tmr := rfl
@[simp] theorem State.modHk_hk (f : HkSt → HkSt) : (s.modHk f).hk = f s.hk := rfl
@[simp] theorem State.modHk_lux (f : HkSt → HkSt) : (s.modHk f).lux = s.lux := rfl
@[simp] theorem State.modHk_laneA (f : HkSt → HkSt) : (s.modHk f).laneA = s.laneA := rfl
@[simp] theorem State.modHk_laneB (f : HkSt → HkSt) : (s.modHk f).laneB = s.laneB := rfl
@[simp] theorem State.modHk_free (f : HkSt → HkSt) : (s.modHk f).free = s.free := rfl
@[simp] theorem State.modHk_pending (f : HkSt → HkSt) : (s.modHk f).pending = s.pending := rfl
@[simp] theorem State.modHk_lane (f : HkSt → HkSt) (l : Lane) : (s.modHk f).lane l = s.lane l := by cases l <;> rfl

/-! ### `modLux` -/

@[simp] theorem State.modLux_twoLanes (f : LuxSt → LuxSt) : (s.modLux f).twoLanes = s.twoLanes := rfl
@[simp] theorem State.modLux_pins (f : LuxSt → LuxSt) : (s.modLux f).pins = s.pins := rfl
@[simp] theorem State.modLux_power (f : LuxSt → LuxSt) : (s.modLux f).power = s.power := rfl
@[simp] theorem State.modLux_sys (f : LuxSt → LuxSt) : (s.modLux f).sys = s.sys := rfl
@[simp] theorem State.modLux_log (f : LuxSt → LuxSt) : (s.modLux f).log = s.log := rfl
@[simp] theorem State.modLux_flash (f : LuxSt → LuxSt) : (s.modLux f).flash = s.flash := rfl
@[simp] theorem State.modLux_ledger (f : LuxSt → LuxSt) : (s.modLux f).ledger = s.ledger := rfl
@[simp] theorem State.modLux_shadow (f : LuxSt → LuxSt) : (s.modLux f).shadow = s.shadow := rfl
@[simp] theorem State.modLux_clk (f : LuxSt → LuxSt) : (s.modLux f).clk = s.clk := rfl
@[simp] theorem State.modLux_pwr (f : LuxSt → LuxSt) : (s.modLux f).pwr = s.pwr := rfl
@[simp] theorem State.modLux_hist (f : LuxSt → LuxSt) : (s.modLux f).hist = s.hist := rfl
@[simp] theorem State.modLux_mem (f : LuxSt → LuxSt) : (s.modLux f).mem = s.mem := rfl
@[simp] theorem State.modLux_bank (f : LuxSt → LuxSt) : (s.modLux f).bank = s.bank := rfl
@[simp] theorem State.modLux_tmr (f : LuxSt → LuxSt) : (s.modLux f).tmr = s.tmr := rfl
@[simp] theorem State.modLux_hk (f : LuxSt → LuxSt) : (s.modLux f).hk = s.hk := rfl
@[simp] theorem State.modLux_lux (f : LuxSt → LuxSt) : (s.modLux f).lux = f s.lux := rfl
@[simp] theorem State.modLux_laneA (f : LuxSt → LuxSt) : (s.modLux f).laneA = s.laneA := rfl
@[simp] theorem State.modLux_laneB (f : LuxSt → LuxSt) : (s.modLux f).laneB = s.laneB := rfl
@[simp] theorem State.modLux_free (f : LuxSt → LuxSt) : (s.modLux f).free = s.free := rfl
@[simp] theorem State.modLux_pending (f : LuxSt → LuxSt) : (s.modLux f).pending = s.pending := rfl
@[simp] theorem State.modLux_lane (f : LuxSt → LuxSt) (l : Lane) : (s.modLux f).lane l = s.lane l := by cases l <;> rfl

/-! ### `modFlash` -/

@[simp] theorem State.modFlash_twoLanes (f : FlashSt → FlashSt) : (s.modFlash f).twoLanes = s.twoLanes := rfl
@[simp] theorem State.modFlash_pins (f : FlashSt → FlashSt) : (s.modFlash f).pins = s.pins := rfl
@[simp] theorem State.modFlash_power (f : FlashSt → FlashSt) : (s.modFlash f).power = s.power := rfl
@[simp] theorem State.modFlash_sys (f : FlashSt → FlashSt) : (s.modFlash f).sys = s.sys := rfl
@[simp] theorem State.modFlash_log (f : FlashSt → FlashSt) : (s.modFlash f).log = s.log := rfl
@[simp] theorem State.modFlash_flash (f : FlashSt → FlashSt) : (s.modFlash f).flash = f s.flash := rfl
@[simp] theorem State.modFlash_ledger (f : FlashSt → FlashSt) : (s.modFlash f).ledger = s.ledger := rfl
@[simp] theorem State.modFlash_shadow (f : FlashSt → FlashSt) : (s.modFlash f).shadow = s.shadow := rfl
@[simp] theorem State.modFlash_clk (f : FlashSt → FlashSt) : (s.modFlash f).clk = s.clk := rfl
@[simp] theorem State.modFlash_pwr (f : FlashSt → FlashSt) : (s.modFlash f).pwr = s.pwr := rfl
@[simp] theorem State.modFlash_hist (f : FlashSt → FlashSt) : (s.modFlash f).hist = s.hist := rfl
@[simp] theorem State.modFlash_mem (f : FlashSt → FlashSt) : (s.modFlash f).mem = s.mem := rfl
@[simp] theorem State.modFlash_bank (f : FlashSt → FlashSt) : (s.modFlash f).bank = s.bank := rfl
@[simp] theorem State.modFlash_tmr (f : FlashSt → FlashSt) : (s.modFlash f).tmr = s.tmr := rfl
@[simp] theorem State.modFlash_hk (f : FlashSt → FlashSt) : (s.modFlash f).hk = s.hk := rfl
@[simp] theorem State.modFlash_lux (f : FlashSt → FlashSt) : (s.modFlash f).lux = s.lux := rfl
@[simp] theorem State.modFlash_laneA (f : FlashSt → FlashSt) : (s.modFlash f).laneA = s.laneA := rfl
@[simp] theorem State.modFlash_laneB (f : FlashSt → FlashSt) : (s.modFlash f).laneB = s.laneB := rfl
@[simp] theorem State.modFlash_free (f : FlashSt → FlashSt) : (s.modFlash f).free = s.free := rfl
@[simp] theorem State.modFlash_pending (f : FlashSt → FlashSt) : (s.modFlash f).pending = s.pending := rfl
@[simp] theorem State.modFlash_lane (f : FlashSt → FlashSt) (l : Lane) : (s.modFlash f).lane l = s.lane l := by cases l <;> rfl

/-! ### Lanes -/

@[simp] theorem State.lane_a : s.lane .a = s.laneA := rfl
@[simp] theorem State.lane_b : s.lane .b = s.laneB := rfl

/-! ### `setLane` -/

@[simp] theorem State.setLane_twoLanes (l : Lane) (x : LaneSt) : (s.setLane l x).twoLanes = s.twoLanes := by cases l <;> rfl
@[simp] theorem State.setLane_pins (l : Lane) (x : LaneSt) : (s.setLane l x).pins = s.pins := by cases l <;> rfl
@[simp] theorem State.setLane_power (l : Lane) (x : LaneSt) : (s.setLane l x).power = s.power := by cases l <;> rfl
@[simp] theorem State.setLane_sys (l : Lane) (x : LaneSt) : (s.setLane l x).sys = s.sys := by cases l <;> rfl
@[simp] theorem State.setLane_log (l : Lane) (x : LaneSt) : (s.setLane l x).log = s.log := by cases l <;> rfl
@[simp] theorem State.setLane_flash (l : Lane) (x : LaneSt) : (s.setLane l x).flash = s.flash := by cases l <;> rfl
@[simp] theorem State.setLane_ledger (l : Lane) (x : LaneSt) : (s.setLane l x).ledger = s.ledger := by cases l <;> rfl
@[simp] theorem State.setLane_shadow (l : Lane) (x : LaneSt) : (s.setLane l x).shadow = s.shadow := by cases l <;> rfl
@[simp] theorem State.setLane_clk (l : Lane) (x : LaneSt) : (s.setLane l x).clk = s.clk := by cases l <;> rfl
@[simp] theorem State.setLane_pwr (l : Lane) (x : LaneSt) : (s.setLane l x).pwr = s.pwr := by cases l <;> rfl
@[simp] theorem State.setLane_hist (l : Lane) (x : LaneSt) : (s.setLane l x).hist = s.hist := by cases l <;> rfl
@[simp] theorem State.setLane_mem (l : Lane) (x : LaneSt) : (s.setLane l x).mem = s.mem := by cases l <;> rfl
@[simp] theorem State.setLane_bank (l : Lane) (x : LaneSt) : (s.setLane l x).bank = s.bank := by cases l <;> rfl
@[simp] theorem State.setLane_tmr (l : Lane) (x : LaneSt) : (s.setLane l x).tmr = s.tmr := by cases l <;> rfl
@[simp] theorem State.setLane_hk (l : Lane) (x : LaneSt) : (s.setLane l x).hk = s.hk := by cases l <;> rfl
@[simp] theorem State.setLane_lux (l : Lane) (x : LaneSt) : (s.setLane l x).lux = s.lux := by cases l <;> rfl
@[simp] theorem State.setLane_free (l : Lane) (x : LaneSt) : (s.setLane l x).free = s.free := by cases l <;> rfl
@[simp] theorem State.setLane_pending (l : Lane) (x : LaneSt) : (s.setLane l x).pending = s.pending := by cases l <;> rfl
@[simp] theorem State.setLane_lane (l : Lane) (x : LaneSt) : (s.setLane l x).lane l = x := by cases l <;> rfl
@[simp] theorem State.setLane_a_laneA (x : LaneSt) : (s.setLane .a x).laneA = x := rfl
@[simp] theorem State.setLane_a_laneB (x : LaneSt) : (s.setLane .a x).laneB = s.laneB := rfl
@[simp] theorem State.setLane_b_laneB (x : LaneSt) : (s.setLane .b x).laneB = x := rfl
@[simp] theorem State.setLane_b_laneA (x : LaneSt) : (s.setLane .b x).laneA = s.laneA := rfl
@[simp] theorem State.setLane_other (l : Lane) (x : LaneSt) : (s.setLane l x).lane (otherLane l) = s.lane (otherLane l) := by
  cases l <;> rfl

/-! ### `modLane` -/

@[simp] theorem State.modLane_twoLanes (l : Lane) (f : LaneSt → LaneSt) : (s.modLane l f).twoLanes = s.twoLanes := by cases l <;> rfl
@[simp] theorem State.modLane_pins (l : Lane) (f : LaneSt → LaneSt) : (s.modLane l f).pins = s.pins := by cases l <;> rfl
@[simp] theorem State.modLane_power (l : Lane) (f : LaneSt → LaneSt) : (s.modLane l f).power = s.power := by cases l <;> rfl
@[simp] theorem State.modLane_sys (l : Lane) (f : LaneSt → LaneSt) : (s.modLane l f).sys = s.sys := by cases l <;> rfl
@[simp] theorem State.modLane_log (l : Lane) (f : LaneSt → LaneSt) : (s.modLane l f).log = s.log := by cases l <;> rfl
@[simp] theorem State.modLane_flash (l : Lane) (f : LaneSt → LaneSt) : (s.modLane l f).flash = s.flash := by cases l <;> rfl
@[simp] theorem State.modLane_ledger (l : Lane) (f : LaneSt → LaneSt) : (s.modLane l f).ledger = s.ledger := by cases l <;> rfl
@[simp] theorem State.modLane_shadow (l : Lane) (f : LaneSt → LaneSt) : (s.modLane l f).shadow = s.shadow := by cases l <;> rfl
@[simp] theorem State.modLane_clk (l : Lane) (f : LaneSt → LaneSt) : (s.modLane l f).clk = s.clk := by cases l <;> rfl
@[simp] theorem State.modLane_pwr (l : Lane) (f : LaneSt → LaneSt) : (s.modLane l f).pwr = s.pwr := by cases l <;> rfl
@[simp] theorem State.modLane_hist (l : Lane) (f : LaneSt → LaneSt) : (s.modLane l f).hist = s.hist := by cases l <;> rfl
@[simp] theorem State.modLane_mem (l : Lane) (f : LaneSt → LaneSt) : (s.modLane l f).mem = s.mem := by cases l <;> rfl
@[simp] theorem State.modLane_bank (l : Lane) (f : LaneSt → LaneSt) : (s.modLane l f).bank = s.bank := by cases l <;> rfl
@[simp] theorem State.modLane_tmr (l : Lane) (f : LaneSt → LaneSt) : (s.modLane l f).tmr = s.tmr := by cases l <;> rfl
@[simp] theorem State.modLane_hk (l : Lane) (f : LaneSt → LaneSt) : (s.modLane l f).hk = s.hk := by cases l <;> rfl
@[simp] theorem State.modLane_lux (l : Lane) (f : LaneSt → LaneSt) : (s.modLane l f).lux = s.lux := by cases l <;> rfl
@[simp] theorem State.modLane_free (l : Lane) (f : LaneSt → LaneSt) : (s.modLane l f).free = s.free := by cases l <;> rfl
@[simp] theorem State.modLane_pending (l : Lane) (f : LaneSt → LaneSt) : (s.modLane l f).pending = s.pending := by cases l <;> rfl
@[simp] theorem State.modLane_lane (l : Lane) (f : LaneSt → LaneSt) : (s.modLane l f).lane l = f (s.lane l) := by cases l <;> rfl
@[simp] theorem State.modLane_a_laneA (f : LaneSt → LaneSt) : (s.modLane .a f).laneA = f s.laneA := rfl
@[simp] theorem State.modLane_a_laneB (f : LaneSt → LaneSt) : (s.modLane .a f).laneB = s.laneB := rfl
@[simp] theorem State.modLane_b_laneB (f : LaneSt → LaneSt) : (s.modLane .b f).laneB = f s.laneB := rfl
@[simp] theorem State.modLane_b_laneA (f : LaneSt → LaneSt) : (s.modLane .b f).laneA = s.laneA := rfl
@[simp] theorem State.modLane_other (l : Lane) (f : LaneSt → LaneSt) : (s.modLane l f).lane (otherLane l) = s.lane (otherLane l) := by
  cases l <;> rfl

/-! ### `modMode` -/

@[simp] theorem State.modMode_twoLanes (l : Lane) (f : ModeSt → ModeSt) : (s.modMode l f).twoLanes = s.twoLanes := by cases l <;> rfl
@[simp] theorem State.modMode_pins (l : Lane) (f : ModeSt → ModeSt) : (s.modMode l f).pins = s.pins := by cases l <;> rfl
@[simp] theorem State.modMode_power (l : Lane) (f : ModeSt → ModeSt) : (s.modMode l f).power = s.power := by cases l <;> rfl
@[simp] theorem State.modMode_sys (l : Lane) (f : ModeSt → ModeSt) : (s.modMode l f).sys = s.sys := by cases l <;> rfl
@[simp] theorem State.modMode_log (l : Lane) (f : ModeSt → ModeSt) : (s.modMode l f).log = s.log := by cases l <;> rfl
@[simp] theorem State.modMode_flash (l : Lane) (f : ModeSt → ModeSt) : (s.modMode l f).flash = s.flash := by cases l <;> rfl
@[simp] theorem State.modMode_ledger (l : Lane) (f : ModeSt → ModeSt) : (s.modMode l f).ledger = s.ledger := by cases l <;> rfl
@[simp] theorem State.modMode_shadow (l : Lane) (f : ModeSt → ModeSt) : (s.modMode l f).shadow = s.shadow := by cases l <;> rfl
@[simp] theorem State.modMode_clk (l : Lane) (f : ModeSt → ModeSt) : (s.modMode l f).clk = s.clk := by cases l <;> rfl
@[simp] theorem State.modMode_pwr (l : Lane) (f : ModeSt → ModeSt) : (s.modMode l f).pwr = s.pwr := by cases l <;> rfl
@[simp] theorem State.modMode_hist (l : Lane) (f : ModeSt → ModeSt) : (s.modMode l f).hist = s.hist := by cases l <;> rfl
@[simp] theorem State.modMode_mem (l : Lane) (f : ModeSt → ModeSt) : (s.modMode l f).mem = s.mem := by cases l <;> rfl
@[simp] theorem State.modMode_bank (l : Lane) (f : ModeSt → ModeSt) : (s.modMode l f).bank = s.bank := by cases l <;> rfl
@[simp] theorem State.modMode_tmr (l : Lane) (f : ModeSt → ModeSt) : (s.modMode l f).tmr = s.tmr := by cases l <;> rfl
@[simp] theorem State.modMode_hk (l : Lane) (f : ModeSt → ModeSt) : (s.modMode l f).hk = s.hk := by cases l <;> rfl
@[simp] theorem State.modMode_lux (l : Lane) (f : ModeSt → ModeSt) : (s.modMode l f).lux = s.lux := by cases l <;> rfl
@[simp] theorem State.modMode_free (l : Lane) (f : ModeSt → ModeSt) : (s.modMode l f).free = s.free := by cases l <;> rfl
@[simp] theorem State.modMode_pending (l : Lane) (f : ModeSt → ModeSt) : (s.modMode l f).pending = s.pending := by cases l <;> rfl
@[simp] theorem State.modMode_lane (l : Lane) (f : ModeSt → ModeSt) :
    (s.modMode l f).lane l = { s.lane l with mode := f (s.lane l).mode } := by cases l <;> rfl
@[simp] theorem State.modMode_a_laneA (f : ModeSt → ModeSt) : (s.modMode .a f).laneA = { s.laneA with mode := f s.laneA.mode } := rfl
@[simp] theorem State.modMode_a_laneB (f : ModeSt → ModeSt) : (s.modMode .a f).laneB = s.laneB := rfl
@[simp] theorem State.modMode_b_laneB (f : ModeSt → ModeSt) : (s.modMode .b f).laneB = { s.laneB with mode := f s.laneB.mode } := rfl
@[simp] theorem State.modMode_b_laneA (f : ModeSt → ModeSt) : (s.modMode .b f).laneA = s.laneA := rfl
@[simp] theorem State.modMode_other (l : Lane) (f : ModeSt → ModeSt) : (s.modMode l f).lane (otherLane l) = s.lane (otherLane l) := by
  cases l <;> rfl

/-! ### `modHead` -/

@[simp] theorem State.modHead_twoLanes (l : Lane) (f : HeadSt → HeadSt) : (s.modHead l f).twoLanes = s.twoLanes := by cases l <;> rfl
@[simp] theorem State.modHead_pins (l : Lane) (f : HeadSt → HeadSt) : (s.modHead l f).pins = s.pins := by cases l <;> rfl
@[simp] theorem State.modHead_power (l : Lane) (f : HeadSt → HeadSt) : (s.modHead l f).power = s.power := by cases l <;> rfl
@[simp] theorem State.modHead_sys (l : Lane) (f : HeadSt → HeadSt) : (s.modHead l f).sys = s.sys := by cases l <;> rfl
@[simp] theorem State.modHead_log (l : Lane) (f : HeadSt → HeadSt) : (s.modHead l f).log = s.log := by cases l <;> rfl
@[simp] theorem State.modHead_flash (l : Lane) (f : HeadSt → HeadSt) : (s.modHead l f).flash = s.flash := by cases l <;> rfl
@[simp] theorem State.modHead_ledger (l : Lane) (f : HeadSt → HeadSt) : (s.modHead l f).ledger = s.ledger := by cases l <;> rfl
@[simp] theorem State.modHead_shadow (l : Lane) (f : HeadSt → HeadSt) : (s.modHead l f).shadow = s.shadow := by cases l <;> rfl
@[simp] theorem State.modHead_clk (l : Lane) (f : HeadSt → HeadSt) : (s.modHead l f).clk = s.clk := by cases l <;> rfl
@[simp] theorem State.modHead_pwr (l : Lane) (f : HeadSt → HeadSt) : (s.modHead l f).pwr = s.pwr := by cases l <;> rfl
@[simp] theorem State.modHead_hist (l : Lane) (f : HeadSt → HeadSt) : (s.modHead l f).hist = s.hist := by cases l <;> rfl
@[simp] theorem State.modHead_mem (l : Lane) (f : HeadSt → HeadSt) : (s.modHead l f).mem = s.mem := by cases l <;> rfl
@[simp] theorem State.modHead_bank (l : Lane) (f : HeadSt → HeadSt) : (s.modHead l f).bank = s.bank := by cases l <;> rfl
@[simp] theorem State.modHead_tmr (l : Lane) (f : HeadSt → HeadSt) : (s.modHead l f).tmr = s.tmr := by cases l <;> rfl
@[simp] theorem State.modHead_hk (l : Lane) (f : HeadSt → HeadSt) : (s.modHead l f).hk = s.hk := by cases l <;> rfl
@[simp] theorem State.modHead_lux (l : Lane) (f : HeadSt → HeadSt) : (s.modHead l f).lux = s.lux := by cases l <;> rfl
@[simp] theorem State.modHead_free (l : Lane) (f : HeadSt → HeadSt) : (s.modHead l f).free = s.free := by cases l <;> rfl
@[simp] theorem State.modHead_pending (l : Lane) (f : HeadSt → HeadSt) : (s.modHead l f).pending = s.pending := by cases l <;> rfl
@[simp] theorem State.modHead_lane (l : Lane) (f : HeadSt → HeadSt) :
    (s.modHead l f).lane l = { s.lane l with head := f (s.lane l).head } := by cases l <;> rfl
@[simp] theorem State.modHead_a_laneA (f : HeadSt → HeadSt) : (s.modHead .a f).laneA = { s.laneA with head := f s.laneA.head } := rfl
@[simp] theorem State.modHead_a_laneB (f : HeadSt → HeadSt) : (s.modHead .a f).laneB = s.laneB := rfl
@[simp] theorem State.modHead_b_laneB (f : HeadSt → HeadSt) : (s.modHead .b f).laneB = { s.laneB with head := f s.laneB.head } := rfl
@[simp] theorem State.modHead_b_laneA (f : HeadSt → HeadSt) : (s.modHead .b f).laneA = s.laneA := rfl
@[simp] theorem State.modHead_other (l : Lane) (f : HeadSt → HeadSt) : (s.modHead l f).lane (otherLane l) = s.lane (otherLane l) := by
  cases l <;> rfl

/-! ### `modPix` -/

@[simp] theorem State.modPix_twoLanes (l : Lane) (f : PixSt → PixSt) : (s.modPix l f).twoLanes = s.twoLanes := by cases l <;> rfl
@[simp] theorem State.modPix_pins (l : Lane) (f : PixSt → PixSt) : (s.modPix l f).pins = s.pins := by cases l <;> rfl
@[simp] theorem State.modPix_power (l : Lane) (f : PixSt → PixSt) : (s.modPix l f).power = s.power := by cases l <;> rfl
@[simp] theorem State.modPix_sys (l : Lane) (f : PixSt → PixSt) : (s.modPix l f).sys = s.sys := by cases l <;> rfl
@[simp] theorem State.modPix_log (l : Lane) (f : PixSt → PixSt) : (s.modPix l f).log = s.log := by cases l <;> rfl
@[simp] theorem State.modPix_flash (l : Lane) (f : PixSt → PixSt) : (s.modPix l f).flash = s.flash := by cases l <;> rfl
@[simp] theorem State.modPix_ledger (l : Lane) (f : PixSt → PixSt) : (s.modPix l f).ledger = s.ledger := by cases l <;> rfl
@[simp] theorem State.modPix_shadow (l : Lane) (f : PixSt → PixSt) : (s.modPix l f).shadow = s.shadow := by cases l <;> rfl
@[simp] theorem State.modPix_clk (l : Lane) (f : PixSt → PixSt) : (s.modPix l f).clk = s.clk := by cases l <;> rfl
@[simp] theorem State.modPix_pwr (l : Lane) (f : PixSt → PixSt) : (s.modPix l f).pwr = s.pwr := by cases l <;> rfl
@[simp] theorem State.modPix_hist (l : Lane) (f : PixSt → PixSt) : (s.modPix l f).hist = s.hist := by cases l <;> rfl
@[simp] theorem State.modPix_mem (l : Lane) (f : PixSt → PixSt) : (s.modPix l f).mem = s.mem := by cases l <;> rfl
@[simp] theorem State.modPix_bank (l : Lane) (f : PixSt → PixSt) : (s.modPix l f).bank = s.bank := by cases l <;> rfl
@[simp] theorem State.modPix_tmr (l : Lane) (f : PixSt → PixSt) : (s.modPix l f).tmr = s.tmr := by cases l <;> rfl
@[simp] theorem State.modPix_hk (l : Lane) (f : PixSt → PixSt) : (s.modPix l f).hk = s.hk := by cases l <;> rfl
@[simp] theorem State.modPix_lux (l : Lane) (f : PixSt → PixSt) : (s.modPix l f).lux = s.lux := by cases l <;> rfl
@[simp] theorem State.modPix_free (l : Lane) (f : PixSt → PixSt) : (s.modPix l f).free = s.free := by cases l <;> rfl
@[simp] theorem State.modPix_pending (l : Lane) (f : PixSt → PixSt) : (s.modPix l f).pending = s.pending := by cases l <;> rfl
@[simp] theorem State.modPix_lane (l : Lane) (f : PixSt → PixSt) :
    (s.modPix l f).lane l = { s.lane l with pix := f (s.lane l).pix } := by cases l <;> rfl
@[simp] theorem State.modPix_a_laneA (f : PixSt → PixSt) : (s.modPix .a f).laneA = { s.laneA with pix := f s.laneA.pix } := rfl
@[simp] theorem State.modPix_a_laneB (f : PixSt → PixSt) : (s.modPix .a f).laneB = s.laneB := rfl
@[simp] theorem State.modPix_b_laneB (f : PixSt → PixSt) : (s.modPix .b f).laneB = { s.laneB with pix := f s.laneB.pix } := rfl
@[simp] theorem State.modPix_b_laneA (f : PixSt → PixSt) : (s.modPix .b f).laneA = s.laneA := rfl
@[simp] theorem State.modPix_other (l : Lane) (f : PixSt → PixSt) : (s.modPix l f).lane (otherLane l) = s.lane (otherLane l) := by
  cases l <;> rfl

/-! ### `modCal` -/

@[simp] theorem State.modCal_twoLanes (l : Lane) (f : CalSt → CalSt) : (s.modCal l f).twoLanes = s.twoLanes := by cases l <;> rfl
@[simp] theorem State.modCal_pins (l : Lane) (f : CalSt → CalSt) : (s.modCal l f).pins = s.pins := by cases l <;> rfl
@[simp] theorem State.modCal_power (l : Lane) (f : CalSt → CalSt) : (s.modCal l f).power = s.power := by cases l <;> rfl
@[simp] theorem State.modCal_sys (l : Lane) (f : CalSt → CalSt) : (s.modCal l f).sys = s.sys := by cases l <;> rfl
@[simp] theorem State.modCal_log (l : Lane) (f : CalSt → CalSt) : (s.modCal l f).log = s.log := by cases l <;> rfl
@[simp] theorem State.modCal_flash (l : Lane) (f : CalSt → CalSt) : (s.modCal l f).flash = s.flash := by cases l <;> rfl
@[simp] theorem State.modCal_ledger (l : Lane) (f : CalSt → CalSt) : (s.modCal l f).ledger = s.ledger := by cases l <;> rfl
@[simp] theorem State.modCal_shadow (l : Lane) (f : CalSt → CalSt) : (s.modCal l f).shadow = s.shadow := by cases l <;> rfl
@[simp] theorem State.modCal_clk (l : Lane) (f : CalSt → CalSt) : (s.modCal l f).clk = s.clk := by cases l <;> rfl
@[simp] theorem State.modCal_pwr (l : Lane) (f : CalSt → CalSt) : (s.modCal l f).pwr = s.pwr := by cases l <;> rfl
@[simp] theorem State.modCal_hist (l : Lane) (f : CalSt → CalSt) : (s.modCal l f).hist = s.hist := by cases l <;> rfl
@[simp] theorem State.modCal_mem (l : Lane) (f : CalSt → CalSt) : (s.modCal l f).mem = s.mem := by cases l <;> rfl
@[simp] theorem State.modCal_bank (l : Lane) (f : CalSt → CalSt) : (s.modCal l f).bank = s.bank := by cases l <;> rfl
@[simp] theorem State.modCal_tmr (l : Lane) (f : CalSt → CalSt) : (s.modCal l f).tmr = s.tmr := by cases l <;> rfl
@[simp] theorem State.modCal_hk (l : Lane) (f : CalSt → CalSt) : (s.modCal l f).hk = s.hk := by cases l <;> rfl
@[simp] theorem State.modCal_lux (l : Lane) (f : CalSt → CalSt) : (s.modCal l f).lux = s.lux := by cases l <;> rfl
@[simp] theorem State.modCal_free (l : Lane) (f : CalSt → CalSt) : (s.modCal l f).free = s.free := by cases l <;> rfl
@[simp] theorem State.modCal_pending (l : Lane) (f : CalSt → CalSt) : (s.modCal l f).pending = s.pending := by cases l <;> rfl
@[simp] theorem State.modCal_lane (l : Lane) (f : CalSt → CalSt) :
    (s.modCal l f).lane l = { s.lane l with cal := f (s.lane l).cal } := by cases l <;> rfl
@[simp] theorem State.modCal_a_laneA (f : CalSt → CalSt) : (s.modCal .a f).laneA = { s.laneA with cal := f s.laneA.cal } := rfl
@[simp] theorem State.modCal_a_laneB (f : CalSt → CalSt) : (s.modCal .a f).laneB = s.laneB := rfl
@[simp] theorem State.modCal_b_laneB (f : CalSt → CalSt) : (s.modCal .b f).laneB = { s.laneB with cal := f s.laneB.cal } := rfl
@[simp] theorem State.modCal_b_laneA (f : CalSt → CalSt) : (s.modCal .b f).laneA = s.laneA := rfl
@[simp] theorem State.modCal_other (l : Lane) (f : CalSt → CalSt) : (s.modCal l f).lane (otherLane l) = s.lane (otherLane l) := by
  cases l <;> rfl

/-! ### `modTill` -/

@[simp] theorem State.modTill_twoLanes (l : Lane) (f : TillSt → TillSt) : (s.modTill l f).twoLanes = s.twoLanes := by cases l <;> rfl
@[simp] theorem State.modTill_pins (l : Lane) (f : TillSt → TillSt) : (s.modTill l f).pins = s.pins := by cases l <;> rfl
@[simp] theorem State.modTill_power (l : Lane) (f : TillSt → TillSt) : (s.modTill l f).power = s.power := by cases l <;> rfl
@[simp] theorem State.modTill_sys (l : Lane) (f : TillSt → TillSt) : (s.modTill l f).sys = s.sys := by cases l <;> rfl
@[simp] theorem State.modTill_log (l : Lane) (f : TillSt → TillSt) : (s.modTill l f).log = s.log := by cases l <;> rfl
@[simp] theorem State.modTill_flash (l : Lane) (f : TillSt → TillSt) : (s.modTill l f).flash = s.flash := by cases l <;> rfl
@[simp] theorem State.modTill_ledger (l : Lane) (f : TillSt → TillSt) : (s.modTill l f).ledger = s.ledger := by cases l <;> rfl
@[simp] theorem State.modTill_shadow (l : Lane) (f : TillSt → TillSt) : (s.modTill l f).shadow = s.shadow := by cases l <;> rfl
@[simp] theorem State.modTill_clk (l : Lane) (f : TillSt → TillSt) : (s.modTill l f).clk = s.clk := by cases l <;> rfl
@[simp] theorem State.modTill_pwr (l : Lane) (f : TillSt → TillSt) : (s.modTill l f).pwr = s.pwr := by cases l <;> rfl
@[simp] theorem State.modTill_hist (l : Lane) (f : TillSt → TillSt) : (s.modTill l f).hist = s.hist := by cases l <;> rfl
@[simp] theorem State.modTill_mem (l : Lane) (f : TillSt → TillSt) : (s.modTill l f).mem = s.mem := by cases l <;> rfl
@[simp] theorem State.modTill_bank (l : Lane) (f : TillSt → TillSt) : (s.modTill l f).bank = s.bank := by cases l <;> rfl
@[simp] theorem State.modTill_tmr (l : Lane) (f : TillSt → TillSt) : (s.modTill l f).tmr = s.tmr := by cases l <;> rfl
@[simp] theorem State.modTill_hk (l : Lane) (f : TillSt → TillSt) : (s.modTill l f).hk = s.hk := by cases l <;> rfl
@[simp] theorem State.modTill_lux (l : Lane) (f : TillSt → TillSt) : (s.modTill l f).lux = s.lux := by cases l <;> rfl
@[simp] theorem State.modTill_free (l : Lane) (f : TillSt → TillSt) : (s.modTill l f).free = s.free := by cases l <;> rfl
@[simp] theorem State.modTill_pending (l : Lane) (f : TillSt → TillSt) : (s.modTill l f).pending = s.pending := by cases l <;> rfl
@[simp] theorem State.modTill_lane (l : Lane) (f : TillSt → TillSt) :
    (s.modTill l f).lane l = { s.lane l with till := f (s.lane l).till } := by cases l <;> rfl
@[simp] theorem State.modTill_a_laneA (f : TillSt → TillSt) : (s.modTill .a f).laneA = { s.laneA with till := f s.laneA.till } := rfl
@[simp] theorem State.modTill_a_laneB (f : TillSt → TillSt) : (s.modTill .a f).laneB = s.laneB := rfl
@[simp] theorem State.modTill_b_laneB (f : TillSt → TillSt) : (s.modTill .b f).laneB = { s.laneB with till := f s.laneB.till } := rfl
@[simp] theorem State.modTill_b_laneA (f : TillSt → TillSt) : (s.modTill .b f).laneA = s.laneA := rfl
@[simp] theorem State.modTill_other (l : Lane) (f : TillSt → TillSt) : (s.modTill l f).lane (otherLane l) = s.lane (otherLane l) := by
  cases l <;> rfl

/-! ### `modLink` -/

@[simp] theorem State.modLink_twoLanes (l : Lane) (f : LinkSt → LinkSt) : (s.modLink l f).twoLanes = s.twoLanes := by cases l <;> rfl
@[simp] theorem State.modLink_pins (l : Lane) (f : LinkSt → LinkSt) : (s.modLink l f).pins = s.pins := by cases l <;> rfl
@[simp] theorem State.modLink_power (l : Lane) (f : LinkSt → LinkSt) : (s.modLink l f).power = s.power := by cases l <;> rfl
@[simp] theorem State.modLink_sys (l : Lane) (f : LinkSt → LinkSt) : (s.modLink l f).sys = s.sys := by cases l <;> rfl
@[simp] theorem State.modLink_log (l : Lane) (f : LinkSt → LinkSt) : (s.modLink l f).log = s.log := by cases l <;> rfl
@[simp] theorem State.modLink_flash (l : Lane) (f : LinkSt → LinkSt) : (s.modLink l f).flash = s.flash := by cases l <;> rfl
@[simp] theorem State.modLink_ledger (l : Lane) (f : LinkSt → LinkSt) : (s.modLink l f).ledger = s.ledger := by cases l <;> rfl
@[simp] theorem State.modLink_shadow (l : Lane) (f : LinkSt → LinkSt) : (s.modLink l f).shadow = s.shadow := by cases l <;> rfl
@[simp] theorem State.modLink_clk (l : Lane) (f : LinkSt → LinkSt) : (s.modLink l f).clk = s.clk := by cases l <;> rfl
@[simp] theorem State.modLink_pwr (l : Lane) (f : LinkSt → LinkSt) : (s.modLink l f).pwr = s.pwr := by cases l <;> rfl
@[simp] theorem State.modLink_hist (l : Lane) (f : LinkSt → LinkSt) : (s.modLink l f).hist = s.hist := by cases l <;> rfl
@[simp] theorem State.modLink_mem (l : Lane) (f : LinkSt → LinkSt) : (s.modLink l f).mem = s.mem := by cases l <;> rfl
@[simp] theorem State.modLink_bank (l : Lane) (f : LinkSt → LinkSt) : (s.modLink l f).bank = s.bank := by cases l <;> rfl
@[simp] theorem State.modLink_tmr (l : Lane) (f : LinkSt → LinkSt) : (s.modLink l f).tmr = s.tmr := by cases l <;> rfl
@[simp] theorem State.modLink_hk (l : Lane) (f : LinkSt → LinkSt) : (s.modLink l f).hk = s.hk := by cases l <;> rfl
@[simp] theorem State.modLink_lux (l : Lane) (f : LinkSt → LinkSt) : (s.modLink l f).lux = s.lux := by cases l <;> rfl
@[simp] theorem State.modLink_free (l : Lane) (f : LinkSt → LinkSt) : (s.modLink l f).free = s.free := by cases l <;> rfl
@[simp] theorem State.modLink_pending (l : Lane) (f : LinkSt → LinkSt) : (s.modLink l f).pending = s.pending := by cases l <;> rfl
@[simp] theorem State.modLink_lane (l : Lane) (f : LinkSt → LinkSt) :
    (s.modLink l f).lane l = { s.lane l with link := f (s.lane l).link } := by cases l <;> rfl
@[simp] theorem State.modLink_a_laneA (f : LinkSt → LinkSt) : (s.modLink .a f).laneA = { s.laneA with link := f s.laneA.link } := rfl
@[simp] theorem State.modLink_a_laneB (f : LinkSt → LinkSt) : (s.modLink .a f).laneB = s.laneB := rfl
@[simp] theorem State.modLink_b_laneB (f : LinkSt → LinkSt) : (s.modLink .b f).laneB = { s.laneB with link := f s.laneB.link } := rfl
@[simp] theorem State.modLink_b_laneA (f : LinkSt → LinkSt) : (s.modLink .b f).laneA = s.laneA := rfl
@[simp] theorem State.modLink_other (l : Lane) (f : LinkSt → LinkSt) : (s.modLink l f).lane (otherLane l) = s.lane (otherLane l) := by
  cases l <;> rfl

/-! ### `modLrun` -/

@[simp] theorem State.modLrun_twoLanes (l : Lane) (f : LinkRun → LinkRun) : (s.modLrun l f).twoLanes = s.twoLanes := by cases l <;> rfl
@[simp] theorem State.modLrun_pins (l : Lane) (f : LinkRun → LinkRun) : (s.modLrun l f).pins = s.pins := by cases l <;> rfl
@[simp] theorem State.modLrun_power (l : Lane) (f : LinkRun → LinkRun) : (s.modLrun l f).power = s.power := by cases l <;> rfl
@[simp] theorem State.modLrun_sys (l : Lane) (f : LinkRun → LinkRun) : (s.modLrun l f).sys = s.sys := by cases l <;> rfl
@[simp] theorem State.modLrun_log (l : Lane) (f : LinkRun → LinkRun) : (s.modLrun l f).log = s.log := by cases l <;> rfl
@[simp] theorem State.modLrun_flash (l : Lane) (f : LinkRun → LinkRun) : (s.modLrun l f).flash = s.flash := by cases l <;> rfl
@[simp] theorem State.modLrun_ledger (l : Lane) (f : LinkRun → LinkRun) : (s.modLrun l f).ledger = s.ledger := by cases l <;> rfl
@[simp] theorem State.modLrun_shadow (l : Lane) (f : LinkRun → LinkRun) : (s.modLrun l f).shadow = s.shadow := by cases l <;> rfl
@[simp] theorem State.modLrun_clk (l : Lane) (f : LinkRun → LinkRun) : (s.modLrun l f).clk = s.clk := by cases l <;> rfl
@[simp] theorem State.modLrun_pwr (l : Lane) (f : LinkRun → LinkRun) : (s.modLrun l f).pwr = s.pwr := by cases l <;> rfl
@[simp] theorem State.modLrun_hist (l : Lane) (f : LinkRun → LinkRun) : (s.modLrun l f).hist = s.hist := by cases l <;> rfl
@[simp] theorem State.modLrun_mem (l : Lane) (f : LinkRun → LinkRun) : (s.modLrun l f).mem = s.mem := by cases l <;> rfl
@[simp] theorem State.modLrun_bank (l : Lane) (f : LinkRun → LinkRun) : (s.modLrun l f).bank = s.bank := by cases l <;> rfl
@[simp] theorem State.modLrun_tmr (l : Lane) (f : LinkRun → LinkRun) : (s.modLrun l f).tmr = s.tmr := by cases l <;> rfl
@[simp] theorem State.modLrun_hk (l : Lane) (f : LinkRun → LinkRun) : (s.modLrun l f).hk = s.hk := by cases l <;> rfl
@[simp] theorem State.modLrun_lux (l : Lane) (f : LinkRun → LinkRun) : (s.modLrun l f).lux = s.lux := by cases l <;> rfl
@[simp] theorem State.modLrun_free (l : Lane) (f : LinkRun → LinkRun) : (s.modLrun l f).free = s.free := by cases l <;> rfl
@[simp] theorem State.modLrun_pending (l : Lane) (f : LinkRun → LinkRun) : (s.modLrun l f).pending = s.pending := by cases l <;> rfl
@[simp] theorem State.modLrun_lane (l : Lane) (f : LinkRun → LinkRun) :
    (s.modLrun l f).lane l = { s.lane l with lrun := f (s.lane l).lrun } := by cases l <;> rfl
@[simp] theorem State.modLrun_a_laneA (f : LinkRun → LinkRun) : (s.modLrun .a f).laneA = { s.laneA with lrun := f s.laneA.lrun } := rfl
@[simp] theorem State.modLrun_a_laneB (f : LinkRun → LinkRun) : (s.modLrun .a f).laneB = s.laneB := rfl
@[simp] theorem State.modLrun_b_laneB (f : LinkRun → LinkRun) : (s.modLrun .b f).laneB = { s.laneB with lrun := f s.laneB.lrun } := rfl
@[simp] theorem State.modLrun_b_laneA (f : LinkRun → LinkRun) : (s.modLrun .b f).laneA = s.laneA := rfl
@[simp] theorem State.modLrun_other (l : Lane) (f : LinkRun → LinkRun) : (s.modLrun l f).lane (otherLane l) = s.lane (otherLane l) := by
  cases l <;> rfl

/-! ### `modAxis` -/

@[simp] theorem State.modAxis_twoLanes (l : Lane) (f : AxisSt → AxisSt) : (s.modAxis l f).twoLanes = s.twoLanes := by cases l <;> rfl
@[simp] theorem State.modAxis_pins (l : Lane) (f : AxisSt → AxisSt) : (s.modAxis l f).pins = s.pins := by cases l <;> rfl
@[simp] theorem State.modAxis_power (l : Lane) (f : AxisSt → AxisSt) : (s.modAxis l f).power = s.power := by cases l <;> rfl
@[simp] theorem State.modAxis_sys (l : Lane) (f : AxisSt → AxisSt) : (s.modAxis l f).sys = s.sys := by cases l <;> rfl
@[simp] theorem State.modAxis_log (l : Lane) (f : AxisSt → AxisSt) : (s.modAxis l f).log = s.log := by cases l <;> rfl
@[simp] theorem State.modAxis_flash (l : Lane) (f : AxisSt → AxisSt) : (s.modAxis l f).flash = s.flash := by cases l <;> rfl
@[simp] theorem State.modAxis_ledger (l : Lane) (f : AxisSt → AxisSt) : (s.modAxis l f).ledger = s.ledger := by cases l <;> rfl
@[simp] theorem State.modAxis_shadow (l : Lane) (f : AxisSt → AxisSt) : (s.modAxis l f).shadow = s.shadow := by cases l <;> rfl
@[simp] theorem State.modAxis_clk (l : Lane) (f : AxisSt → AxisSt) : (s.modAxis l f).clk = s.clk := by cases l <;> rfl
@[simp] theorem State.modAxis_pwr (l : Lane) (f : AxisSt → AxisSt) : (s.modAxis l f).pwr = s.pwr := by cases l <;> rfl
@[simp] theorem State.modAxis_hist (l : Lane) (f : AxisSt → AxisSt) : (s.modAxis l f).hist = s.hist := by cases l <;> rfl
@[simp] theorem State.modAxis_mem (l : Lane) (f : AxisSt → AxisSt) : (s.modAxis l f).mem = s.mem := by cases l <;> rfl
@[simp] theorem State.modAxis_bank (l : Lane) (f : AxisSt → AxisSt) : (s.modAxis l f).bank = s.bank := by cases l <;> rfl
@[simp] theorem State.modAxis_tmr (l : Lane) (f : AxisSt → AxisSt) : (s.modAxis l f).tmr = s.tmr := by cases l <;> rfl
@[simp] theorem State.modAxis_hk (l : Lane) (f : AxisSt → AxisSt) : (s.modAxis l f).hk = s.hk := by cases l <;> rfl
@[simp] theorem State.modAxis_lux (l : Lane) (f : AxisSt → AxisSt) : (s.modAxis l f).lux = s.lux := by cases l <;> rfl
@[simp] theorem State.modAxis_free (l : Lane) (f : AxisSt → AxisSt) : (s.modAxis l f).free = s.free := by cases l <;> rfl
@[simp] theorem State.modAxis_pending (l : Lane) (f : AxisSt → AxisSt) : (s.modAxis l f).pending = s.pending := by cases l <;> rfl
@[simp] theorem State.modAxis_lane (l : Lane) (f : AxisSt → AxisSt) :
    (s.modAxis l f).lane l = { s.lane l with axis := f (s.lane l).axis } := by cases l <;> rfl
@[simp] theorem State.modAxis_a_laneA (f : AxisSt → AxisSt) : (s.modAxis .a f).laneA = { s.laneA with axis := f s.laneA.axis } := rfl
@[simp] theorem State.modAxis_a_laneB (f : AxisSt → AxisSt) : (s.modAxis .a f).laneB = s.laneB := rfl
@[simp] theorem State.modAxis_b_laneB (f : AxisSt → AxisSt) : (s.modAxis .b f).laneB = { s.laneB with axis := f s.laneB.axis } := rfl
@[simp] theorem State.modAxis_b_laneA (f : AxisSt → AxisSt) : (s.modAxis .b f).laneA = s.laneA := rfl
@[simp] theorem State.modAxis_other (l : Lane) (f : AxisSt → AxisSt) : (s.modAxis l f).lane (otherLane l) = s.lane (otherLane l) := by
  cases l <;> rfl

/-! ### `modArun` -/

@[simp] theorem State.modArun_twoLanes (l : Lane) (f : AxisRun → AxisRun) : (s.modArun l f).twoLanes = s.twoLanes := by cases l <;> rfl
@[simp] theorem State.modArun_pins (l : Lane) (f : AxisRun → AxisRun) : (s.modArun l f).pins = s.pins := by cases l <;> rfl
@[simp] theorem State.modArun_power (l : Lane) (f : AxisRun → AxisRun) : (s.modArun l f).power = s.power := by cases l <;> rfl
@[simp] theorem State.modArun_sys (l : Lane) (f : AxisRun → AxisRun) : (s.modArun l f).sys = s.sys := by cases l <;> rfl
@[simp] theorem State.modArun_log (l : Lane) (f : AxisRun → AxisRun) : (s.modArun l f).log = s.log := by cases l <;> rfl
@[simp] theorem State.modArun_flash (l : Lane) (f : AxisRun → AxisRun) : (s.modArun l f).flash = s.flash := by cases l <;> rfl
@[simp] theorem State.modArun_ledger (l : Lane) (f : AxisRun → AxisRun) : (s.modArun l f).ledger = s.ledger := by cases l <;> rfl
@[simp] theorem State.modArun_shadow (l : Lane) (f : AxisRun → AxisRun) : (s.modArun l f).shadow = s.shadow := by cases l <;> rfl
@[simp] theorem State.modArun_clk (l : Lane) (f : AxisRun → AxisRun) : (s.modArun l f).clk = s.clk := by cases l <;> rfl
@[simp] theorem State.modArun_pwr (l : Lane) (f : AxisRun → AxisRun) : (s.modArun l f).pwr = s.pwr := by cases l <;> rfl
@[simp] theorem State.modArun_hist (l : Lane) (f : AxisRun → AxisRun) : (s.modArun l f).hist = s.hist := by cases l <;> rfl
@[simp] theorem State.modArun_mem (l : Lane) (f : AxisRun → AxisRun) : (s.modArun l f).mem = s.mem := by cases l <;> rfl
@[simp] theorem State.modArun_bank (l : Lane) (f : AxisRun → AxisRun) : (s.modArun l f).bank = s.bank := by cases l <;> rfl
@[simp] theorem State.modArun_tmr (l : Lane) (f : AxisRun → AxisRun) : (s.modArun l f).tmr = s.tmr := by cases l <;> rfl
@[simp] theorem State.modArun_hk (l : Lane) (f : AxisRun → AxisRun) : (s.modArun l f).hk = s.hk := by cases l <;> rfl
@[simp] theorem State.modArun_lux (l : Lane) (f : AxisRun → AxisRun) : (s.modArun l f).lux = s.lux := by cases l <;> rfl
@[simp] theorem State.modArun_free (l : Lane) (f : AxisRun → AxisRun) : (s.modArun l f).free = s.free := by cases l <;> rfl
@[simp] theorem State.modArun_pending (l : Lane) (f : AxisRun → AxisRun) : (s.modArun l f).pending = s.pending := by cases l <;> rfl
@[simp] theorem State.modArun_lane (l : Lane) (f : AxisRun → AxisRun) :
    (s.modArun l f).lane l = { s.lane l with arun := f (s.lane l).arun } := by cases l <;> rfl
@[simp] theorem State.modArun_a_laneA (f : AxisRun → AxisRun) : (s.modArun .a f).laneA = { s.laneA with arun := f s.laneA.arun } := rfl
@[simp] theorem State.modArun_a_laneB (f : AxisRun → AxisRun) : (s.modArun .a f).laneB = s.laneB := rfl
@[simp] theorem State.modArun_b_laneB (f : AxisRun → AxisRun) : (s.modArun .b f).laneB = { s.laneB with arun := f s.laneB.arun } := rfl
@[simp] theorem State.modArun_b_laneA (f : AxisRun → AxisRun) : (s.modArun .b f).laneA = s.laneA := rfl
@[simp] theorem State.modArun_other (l : Lane) (f : AxisRun → AxisRun) : (s.modArun l f).lane (otherLane l) = s.lane (otherLane l) := by
  cases l <;> rfl

/-! ### `setAbort` -/

@[simp] theorem State.setAbort_twoLanes (l : Lane) (h : Bool) : (s.setAbort l h).twoLanes = s.twoLanes := by cases l <;> rfl
@[simp] theorem State.setAbort_power (l : Lane) (h : Bool) : (s.setAbort l h).power = s.power := by cases l <;> rfl
@[simp] theorem State.setAbort_sys (l : Lane) (h : Bool) : (s.setAbort l h).sys = s.sys := by cases l <;> rfl
@[simp] theorem State.setAbort_log (l : Lane) (h : Bool) : (s.setAbort l h).log = s.log := by cases l <;> rfl
@[simp] theorem State.setAbort_flash (l : Lane) (h : Bool) : (s.setAbort l h).flash = s.flash := by cases l <;> rfl
@[simp] theorem State.setAbort_ledger (l : Lane) (h : Bool) : (s.setAbort l h).ledger = s.ledger := by cases l <;> rfl
@[simp] theorem State.setAbort_shadow (l : Lane) (h : Bool) : (s.setAbort l h).shadow = s.shadow := by cases l <;> rfl
@[simp] theorem State.setAbort_clk (l : Lane) (h : Bool) : (s.setAbort l h).clk = s.clk := by cases l <;> rfl
@[simp] theorem State.setAbort_pwr (l : Lane) (h : Bool) : (s.setAbort l h).pwr = s.pwr := by cases l <;> rfl
@[simp] theorem State.setAbort_hist (l : Lane) (h : Bool) : (s.setAbort l h).hist = s.hist := by cases l <;> rfl
@[simp] theorem State.setAbort_mem (l : Lane) (h : Bool) : (s.setAbort l h).mem = s.mem := by cases l <;> rfl
@[simp] theorem State.setAbort_bank (l : Lane) (h : Bool) : (s.setAbort l h).bank = s.bank := by cases l <;> rfl
@[simp] theorem State.setAbort_tmr (l : Lane) (h : Bool) : (s.setAbort l h).tmr = s.tmr := by cases l <;> rfl
@[simp] theorem State.setAbort_hk (l : Lane) (h : Bool) : (s.setAbort l h).hk = s.hk := by cases l <;> rfl
@[simp] theorem State.setAbort_lux (l : Lane) (h : Bool) : (s.setAbort l h).lux = s.lux := by cases l <;> rfl
@[simp] theorem State.setAbort_laneA (l : Lane) (h : Bool) : (s.setAbort l h).laneA = s.laneA := by cases l <;> rfl
@[simp] theorem State.setAbort_laneB (l : Lane) (h : Bool) : (s.setAbort l h).laneB = s.laneB := by cases l <;> rfl
@[simp] theorem State.setAbort_free (l : Lane) (h : Bool) : (s.setAbort l h).free = s.free := by cases l <;> rfl
@[simp] theorem State.setAbort_pending (l : Lane) (h : Bool) : (s.setAbort l h).pending = s.pending := by cases l <;> rfl
@[simp] theorem State.setAbort_lane (k : Lane) (h : Bool) (l : Lane) : (s.setAbort k h).lane l = s.lane l := by cases k <;> cases l <;> rfl
@[simp] theorem State.setAbort_abortHigh (l : Lane) (h : Bool) : (s.setAbort l h).abortHigh l = h := by cases l <;> rfl

end Sys2Proof.Machine
end

