-- ==== Sys2Proof/Laws/Settle.lean ====
section
/-!
SUPPORT. What an event bit, a fault record and the settling after a command can change: every other field reads
through them.
-/

namespace Sys2Proof.Machine

variable (s : State)

/-! ### Marks, event bits, free values -/

@[simp] theorem State.mark_twoLanes (u : Nat) : (s.mark u).twoLanes = s.twoLanes := by rfl
@[simp] theorem State.mark_pins (u : Nat) : (s.mark u).pins = s.pins := by rfl
@[simp] theorem State.mark_power (u : Nat) : (s.mark u).power = s.power := by rfl
@[simp] theorem State.mark_flash (u : Nat) : (s.mark u).flash = s.flash := by rfl
@[simp] theorem State.mark_ledger (u : Nat) : (s.mark u).ledger = s.ledger := by rfl
@[simp] theorem State.mark_shadow (u : Nat) : (s.mark u).shadow = s.shadow := by rfl
@[simp] theorem State.mark_clk (u : Nat) : (s.mark u).clk = s.clk := by rfl
@[simp] theorem State.mark_pwr (u : Nat) : (s.mark u).pwr = s.pwr := by rfl
@[simp] theorem State.mark_hist (u : Nat) : (s.mark u).hist = s.hist := by rfl
@[simp] theorem State.mark_mem (u : Nat) : (s.mark u).mem = s.mem := by rfl
@[simp] theorem State.mark_bank (u : Nat) : (s.mark u).bank = s.bank := by rfl
@[simp] theorem State.mark_tmr (u : Nat) : (s.mark u).tmr = s.tmr := by rfl
@[simp] theorem State.mark_hk (u : Nat) : (s.mark u).hk = s.hk := by rfl
@[simp] theorem State.mark_lux (u : Nat) : (s.mark u).lux = s.lux := by rfl
@[simp] theorem State.mark_free (u : Nat) : (s.mark u).free = s.free := by rfl
@[simp] theorem State.mark_pending (u : Nat) : (s.mark u).pending = s.pending := by rfl
@[simp] theorem State.mark_laneA (u : Nat) : (s.mark u).laneA = s.laneA := by rfl
@[simp] theorem State.mark_laneB (u : Nat) : (s.mark u).laneB = s.laneB := by rfl
@[simp] theorem State.mark_lane (u : Nat) (l : Lane) : (s.mark u).lane l = s.lane l := by cases l <;> simp
@[simp] theorem State.mark_log (u : Nat) : (s.mark u).log = s.log := by rfl

@[simp] theorem State.event_twoLanes (b : Nat) : (s.event b).twoLanes = s.twoLanes := by unfold State.event; split <;> rfl
@[simp] theorem State.event_pins (b : Nat) : (s.event b).pins = s.pins := by unfold State.event; split <;> rfl
@[simp] theorem State.event_power (b : Nat) : (s.event b).power = s.power := by unfold State.event; split <;> rfl
@[simp] theorem State.event_flash (b : Nat) : (s.event b).flash = s.flash := by unfold State.event; split <;> rfl
@[simp] theorem State.event_ledger (b : Nat) : (s.event b).ledger = s.ledger := by unfold State.event; split <;> rfl
@[simp] theorem State.event_shadow (b : Nat) : (s.event b).shadow = s.shadow := by unfold State.event; split <;> rfl
@[simp] theorem State.event_clk (b : Nat) : (s.event b).clk = s.clk := by unfold State.event; split <;> rfl
@[simp] theorem State.event_pwr (b : Nat) : (s.event b).pwr = s.pwr := by unfold State.event; split <;> rfl
@[simp] theorem State.event_hist (b : Nat) : (s.event b).hist = s.hist := by unfold State.event; split <;> rfl
@[simp] theorem State.event_mem (b : Nat) : (s.event b).mem = s.mem := by unfold State.event; split <;> rfl
@[simp] theorem State.event_bank (b : Nat) : (s.event b).bank = s.bank := by unfold State.event; split <;> rfl
@[simp] theorem State.event_tmr (b : Nat) : (s.event b).tmr = s.tmr := by unfold State.event; split <;> rfl
@[simp] theorem State.event_hk (b : Nat) : (s.event b).hk = s.hk := by unfold State.event; split <;> rfl
@[simp] theorem State.event_lux (b : Nat) : (s.event b).lux = s.lux := by unfold State.event; split <;> rfl
@[simp] theorem State.event_free (b : Nat) : (s.event b).free = s.free := by unfold State.event; split <;> rfl
@[simp] theorem State.event_pending (b : Nat) : (s.event b).pending = s.pending := by unfold State.event; split <;> rfl
@[simp] theorem State.event_laneA (b : Nat) : (s.event b).laneA = s.laneA := by unfold State.event; split <;> rfl
@[simp] theorem State.event_laneB (b : Nat) : (s.event b).laneB = s.laneB := by unfold State.event; split <;> rfl
@[simp] theorem State.event_lane (b : Nat) (l : Lane) : (s.event b).lane l = s.lane l := by cases l <;> simp
@[simp] theorem State.event_log (b : Nat) : (s.event b).log = s.log := by unfold State.event; split <;> rfl

@[simp] theorem State.event_sys_safe (b : Nat) : (s.event b).sys.safe = s.sys.safe := by unfold State.event; split <;> rfl
@[simp] theorem State.event_sys_service (b : Nat) : (s.event b).sys.service = s.sys.service := by unfold State.event; split <;> rfl
@[simp] theorem State.event_sys_serviceEnd (b : Nat) : (s.event b).sys.serviceEnd = s.sys.serviceEnd := by unfold State.event; split <;> rfl
@[simp] theorem State.event_sys_haltReq (b : Nat) : (s.event b).sys.haltReq = s.sys.haltReq := by unfold State.event; split <;> rfl
@[simp] theorem State.event_sys_haltPend (b : Nat) : (s.event b).sys.haltPend = s.sys.haltPend := by unfold State.event; split <;> rfl
@[simp] theorem State.event_sys_haltActive (b : Nat) : (s.event b).sys.haltActive = s.sys.haltActive := by unfold State.event; split <;> rfl
@[simp] theorem State.event_sys_mask (b : Nat) : (s.event b).sys.mask = s.sys.mask := by unfold State.event; split <;> rfl
@[simp] theorem State.event_sys_badCrc (b : Nat) : (s.event b).sys.badCrc = s.sys.badCrc := by unfold State.event; split <;> rfl
@[simp] theorem State.event_sys_aborts (b : Nat) : (s.event b).sys.aborts = s.sys.aborts := by unfold State.event; split <;> rfl
@[simp] theorem State.event_sys_stale (b : Nat) : (s.event b).sys.stale = s.sys.stale := by unfold State.event; split <;> rfl
@[simp] theorem State.event_sys_denied (b : Nat) : (s.event b).sys.denied = s.sys.denied := by unfold State.event; split <;> rfl
@[simp] theorem State.event_sys_ready (b : Nat) : (s.event b).sys.ready = s.sys.ready := by unfold State.event; split <;> rfl
@[simp] theorem State.event_sys_gang (b : Nat) : (s.event b).sys.gang = s.sys.gang := by unfold State.event; split <;> rfl
@[simp] theorem State.event_sys_epochs (b : Nat) : (s.event b).sys.epochs = s.sys.epochs := by unfold State.event; split <;> rfl
@[simp] theorem State.event_sys_marks (b : Nat) : (s.event b).sys.marks = s.sys.marks := by unfold State.event; split <;> rfl
@[simp] theorem State.event_sys_faultN (b : Nat) : (s.event b).sys.faultN = s.sys.faultN := by unfold State.event; split <;> rfl
@[simp] theorem State.event_sys_attnN (b : Nat) : (s.event b).sys.attnN = s.sys.attnN := by unfold State.event; split <;> rfl
@[simp] theorem State.event_sys_response (b : Nat) : (s.event b).sys.response = s.sys.response := by unfold State.event; split <;> rfl
@[simp] theorem State.event_sys_apert (b : Nat) : (s.event b).sys.apert = s.sys.apert := by unfold State.event; split <;> rfl

@[simp] theorem State.takeFree_twoLanes  : (s.takeFree).twoLanes = s.twoLanes := by rfl
@[simp] theorem State.takeFree_pins  : (s.takeFree).pins = s.pins := by rfl
@[simp] theorem State.takeFree_power  : (s.takeFree).power = s.power := by rfl
@[simp] theorem State.takeFree_flash  : (s.takeFree).flash = s.flash := by rfl
@[simp] theorem State.takeFree_ledger  : (s.takeFree).ledger = s.ledger := by rfl
@[simp] theorem State.takeFree_shadow  : (s.takeFree).shadow = s.shadow := by rfl
@[simp] theorem State.takeFree_clk  : (s.takeFree).clk = s.clk := by rfl
@[simp] theorem State.takeFree_pwr  : (s.takeFree).pwr = s.pwr := by rfl
@[simp] theorem State.takeFree_hist  : (s.takeFree).hist = s.hist := by rfl
@[simp] theorem State.takeFree_mem  : (s.takeFree).mem = s.mem := by rfl
@[simp] theorem State.takeFree_bank  : (s.takeFree).bank = s.bank := by rfl
@[simp] theorem State.takeFree_tmr  : (s.takeFree).tmr = s.tmr := by rfl
@[simp] theorem State.takeFree_hk  : (s.takeFree).hk = s.hk := by rfl
@[simp] theorem State.takeFree_lux  : (s.takeFree).lux = s.lux := by rfl
@[simp] theorem State.takeFree_pending  : (s.takeFree).pending = s.pending := by rfl
@[simp] theorem State.takeFree_laneA  : (s.takeFree).laneA = s.laneA := by rfl
@[simp] theorem State.takeFree_laneB  : (s.takeFree).laneB = s.laneB := by rfl
@[simp] theorem State.takeFree_lane  (l : Lane) : (s.takeFree).lane l = s.lane l := by cases l <;> simp
@[simp] theorem State.takeFree_log  : (s.takeFree).log = s.log := by rfl

@[simp] theorem State.takeFree_free : s.takeFree.free = s.free + 1 := rfl
@[simp] theorem State.takeFree_sys : s.takeFree.sys = s.sys := rfl

/-! ### Records: the log and the event bits change, nothing else -/

@[simp] theorem State.place_twoLanes (r : FaultRec) : ((s.place r).1).twoLanes = s.twoLanes := by simp [State.place]
@[simp] theorem State.place_pins (r : FaultRec) : ((s.place r).1).pins = s.pins := by simp [State.place]
@[simp] theorem State.place_power (r : FaultRec) : ((s.place r).1).power = s.power := by simp [State.place]
@[simp] theorem State.place_flash (r : FaultRec) : ((s.place r).1).flash = s.flash := by simp [State.place]
@[simp] theorem State.place_ledger (r : FaultRec) : ((s.place r).1).ledger = s.ledger := by simp [State.place]
@[simp] theorem State.place_shadow (r : FaultRec) : ((s.place r).1).shadow = s.shadow := by simp [State.place]
@[simp] theorem State.place_clk (r : FaultRec) : ((s.place r).1).clk = s.clk := by simp [State.place]
@[simp] theorem State.place_pwr (r : FaultRec) : ((s.place r).1).pwr = s.pwr := by simp [State.place]
@[simp] theorem State.place_hist (r : FaultRec) : ((s.place r).1).hist = s.hist := by simp [State.place]
@[simp] theorem State.place_mem (r : FaultRec) : ((s.place r).1).mem = s.mem := by simp [State.place]
@[simp] theorem State.place_bank (r : FaultRec) : ((s.place r).1).bank = s.bank := by simp [State.place]
@[simp] theorem State.place_tmr (r : FaultRec) : ((s.place r).1).tmr = s.tmr := by simp [State.place]
@[simp] theorem State.place_hk (r : FaultRec) : ((s.place r).1).hk = s.hk := by simp [State.place]
@[simp] theorem State.place_lux (r : FaultRec) : ((s.place r).1).lux = s.lux := by simp [State.place]
@[simp] theorem State.place_free (r : FaultRec) : ((s.place r).1).free = s.free := by simp [State.place]
@[simp] theorem State.place_pending (r : FaultRec) : ((s.place r).1).pending = s.pending := by simp [State.place]
@[simp] theorem State.place_laneA (r : FaultRec) : ((s.place r).1).laneA = s.laneA := by simp [State.place]
@[simp] theorem State.place_laneB (r : FaultRec) : ((s.place r).1).laneB = s.laneB := by simp [State.place]
@[simp] theorem State.place_lane (r : FaultRec) (l : Lane) : ((s.place r).1).lane l = s.lane l := by cases l <;> simp

@[simp] theorem State.place_sys_safe (r : FaultRec) : (s.place r).1.sys.safe = s.sys.safe := by simp [State.place]
@[simp] theorem State.place_sys_service (r : FaultRec) : (s.place r).1.sys.service = s.sys.service := by simp [State.place]
@[simp] theorem State.place_sys_serviceEnd (r : FaultRec) : (s.place r).1.sys.serviceEnd = s.sys.serviceEnd := by simp [State.place]
@[simp] theorem State.place_sys_haltReq (r : FaultRec) : (s.place r).1.sys.haltReq = s.sys.haltReq := by simp [State.place]
@[simp] theorem State.place_sys_haltPend (r : FaultRec) : (s.place r).1.sys.haltPend = s.sys.haltPend := by simp [State.place]
@[simp] theorem State.place_sys_haltActive (r : FaultRec) : (s.place r).1.sys.haltActive = s.sys.haltActive := by simp [State.place]
@[simp] theorem State.place_sys_mask (r : FaultRec) : (s.place r).1.sys.mask = s.sys.mask := by simp [State.place]
@[simp] theorem State.place_sys_badCrc (r : FaultRec) : (s.place r).1.sys.badCrc = s.sys.badCrc := by simp [State.place]
@[simp] theorem State.place_sys_aborts (r : FaultRec) : (s.place r).1.sys.aborts = s.sys.aborts := by simp [State.place]
@[simp] theorem State.place_sys_stale (r : FaultRec) : (s.place r).1.sys.stale = s.sys.stale := by simp [State.place]
@[simp] theorem State.place_sys_denied (r : FaultRec) : (s.place r).1.sys.denied = s.sys.denied := by simp [State.place]
@[simp] theorem State.place_sys_ready (r : FaultRec) : (s.place r).1.sys.ready = s.sys.ready := by simp [State.place]
@[simp] theorem State.place_sys_gang (r : FaultRec) : (s.place r).1.sys.gang = s.sys.gang := by simp [State.place]

@[simp] theorem State.reportDrops_twoLanes  : (s.reportDrops).twoLanes = s.twoLanes := by simp [State.reportDrops]
@[simp] theorem State.reportDrops_pins  : (s.reportDrops).pins = s.pins := by simp [State.reportDrops]
@[simp] theorem State.reportDrops_power  : (s.reportDrops).power = s.power := by simp [State.reportDrops]
@[simp] theorem State.reportDrops_flash  : (s.reportDrops).flash = s.flash := by simp [State.reportDrops]
@[simp] theorem State.reportDrops_ledger  : (s.reportDrops).ledger = s.ledger := by simp [State.reportDrops]
@[simp] theorem State.reportDrops_shadow  : (s.reportDrops).shadow = s.shadow := by simp [State.reportDrops]
@[simp] theorem State.reportDrops_clk  : (s.reportDrops).clk = s.clk := by simp [State.reportDrops]
@[simp] theorem State.reportDrops_pwr  : (s.reportDrops).pwr = s.pwr := by simp [State.reportDrops]
@[simp] theorem State.reportDrops_hist  : (s.reportDrops).hist = s.hist := by simp [State.reportDrops]
@[simp] theorem State.reportDrops_mem  : (s.reportDrops).mem = s.mem := by simp [State.reportDrops]
@[simp] theorem State.reportDrops_bank  : (s.reportDrops).bank = s.bank := by simp [State.reportDrops]
@[simp] theorem State.reportDrops_tmr  : (s.reportDrops).tmr = s.tmr := by simp [State.reportDrops]
@[simp] theorem State.reportDrops_hk  : (s.reportDrops).hk = s.hk := by simp [State.reportDrops]
@[simp] theorem State.reportDrops_lux  : (s.reportDrops).lux = s.lux := by simp [State.reportDrops]
@[simp] theorem State.reportDrops_free  : (s.reportDrops).free = s.free := by simp [State.reportDrops]
@[simp] theorem State.reportDrops_pending  : (s.reportDrops).pending = s.pending := by simp [State.reportDrops]
@[simp] theorem State.reportDrops_laneA  : (s.reportDrops).laneA = s.laneA := by simp [State.reportDrops]
@[simp] theorem State.reportDrops_laneB  : (s.reportDrops).laneB = s.laneB := by simp [State.reportDrops]
@[simp] theorem State.reportDrops_lane  (l : Lane) : (s.reportDrops).lane l = s.lane l := by cases l <;> simp

@[simp] theorem State.reportDrops_sys_safe : s.reportDrops.sys.safe = s.sys.safe := by simp [State.reportDrops]
@[simp] theorem State.reportDrops_sys_service : s.reportDrops.sys.service = s.sys.service := by simp [State.reportDrops]
@[simp] theorem State.reportDrops_sys_serviceEnd : s.reportDrops.sys.serviceEnd = s.sys.serviceEnd := by simp [State.reportDrops]
@[simp] theorem State.reportDrops_sys_haltReq : s.reportDrops.sys.haltReq = s.sys.haltReq := by simp [State.reportDrops]
@[simp] theorem State.reportDrops_sys_haltPend : s.reportDrops.sys.haltPend = s.sys.haltPend := by simp [State.reportDrops]
@[simp] theorem State.reportDrops_sys_haltActive : s.reportDrops.sys.haltActive = s.sys.haltActive := by simp [State.reportDrops]
@[simp] theorem State.reportDrops_sys_mask : s.reportDrops.sys.mask = s.sys.mask := by simp [State.reportDrops]
@[simp] theorem State.reportDrops_sys_badCrc : s.reportDrops.sys.badCrc = s.sys.badCrc := by simp [State.reportDrops]
@[simp] theorem State.reportDrops_sys_aborts : s.reportDrops.sys.aborts = s.sys.aborts := by simp [State.reportDrops]
@[simp] theorem State.reportDrops_sys_stale : s.reportDrops.sys.stale = s.sys.stale := by simp [State.reportDrops]
@[simp] theorem State.reportDrops_sys_denied : s.reportDrops.sys.denied = s.sys.denied := by simp [State.reportDrops]
@[simp] theorem State.reportDrops_sys_ready : s.reportDrops.sys.ready = s.sys.ready := by simp [State.reportDrops]
@[simp] theorem State.reportDrops_sys_gang : s.reportDrops.sys.gang = s.sys.gang := by simp [State.reportDrops]

@[simp] theorem State.record_twoLanes (c k p : Nat) (d : List Nat) : (s.record c k p d).twoLanes = s.twoLanes := by unfold State.record; dsimp only; split <;> simp
@[simp] theorem State.record_pins (c k p : Nat) (d : List Nat) : (s.record c k p d).pins = s.pins := by unfold State.record; dsimp only; split <;> simp
@[simp] theorem State.record_power (c k p : Nat) (d : List Nat) : (s.record c k p d).power = s.power := by unfold State.record; dsimp only; split <;> simp
@[simp] theorem State.record_flash (c k p : Nat) (d : List Nat) : (s.record c k p d).flash = s.flash := by unfold State.record; dsimp only; split <;> simp
@[simp] theorem State.record_ledger (c k p : Nat) (d : List Nat) : (s.record c k p d).ledger = s.ledger := by unfold State.record; dsimp only; split <;> simp
@[simp] theorem State.record_shadow (c k p : Nat) (d : List Nat) : (s.record c k p d).shadow = s.shadow := by unfold State.record; dsimp only; split <;> simp
@[simp] theorem State.record_clk (c k p : Nat) (d : List Nat) : (s.record c k p d).clk = s.clk := by unfold State.record; dsimp only; split <;> simp
@[simp] theorem State.record_pwr (c k p : Nat) (d : List Nat) : (s.record c k p d).pwr = s.pwr := by unfold State.record; dsimp only; split <;> simp
@[simp] theorem State.record_hist (c k p : Nat) (d : List Nat) : (s.record c k p d).hist = s.hist := by unfold State.record; dsimp only; split <;> simp
@[simp] theorem State.record_mem (c k p : Nat) (d : List Nat) : (s.record c k p d).mem = s.mem := by unfold State.record; dsimp only; split <;> simp
@[simp] theorem State.record_bank (c k p : Nat) (d : List Nat) : (s.record c k p d).bank = s.bank := by unfold State.record; dsimp only; split <;> simp
@[simp] theorem State.record_tmr (c k p : Nat) (d : List Nat) : (s.record c k p d).tmr = s.tmr := by unfold State.record; dsimp only; split <;> simp
@[simp] theorem State.record_hk (c k p : Nat) (d : List Nat) : (s.record c k p d).hk = s.hk := by unfold State.record; dsimp only; split <;> simp
@[simp] theorem State.record_lux (c k p : Nat) (d : List Nat) : (s.record c k p d).lux = s.lux := by unfold State.record; dsimp only; split <;> simp
@[simp] theorem State.record_free (c k p : Nat) (d : List Nat) : (s.record c k p d).free = s.free := by unfold State.record; dsimp only; split <;> simp
@[simp] theorem State.record_pending (c k p : Nat) (d : List Nat) : (s.record c k p d).pending = s.pending := by unfold State.record; dsimp only; split <;> simp
@[simp] theorem State.record_laneA (c k p : Nat) (d : List Nat) : (s.record c k p d).laneA = s.laneA := by unfold State.record; dsimp only; split <;> simp
@[simp] theorem State.record_laneB (c k p : Nat) (d : List Nat) : (s.record c k p d).laneB = s.laneB := by unfold State.record; dsimp only; split <;> simp
@[simp] theorem State.record_lane (c k p : Nat) (d : List Nat) (l : Lane) : (s.record c k p d).lane l = s.lane l := by cases l <;> simp

@[simp] theorem State.record_sys_safe (c k p : Nat) (d : List Nat) : (s.record c k p d).sys.safe = s.sys.safe := by unfold State.record; dsimp only; split <;> simp
@[simp] theorem State.record_sys_service (c k p : Nat) (d : List Nat) : (s.record c k p d).sys.service = s.sys.service := by unfold State.record; dsimp only; split <;> simp
@[simp] theorem State.record_sys_serviceEnd (c k p : Nat) (d : List Nat) : (s.record c k p d).sys.serviceEnd = s.sys.serviceEnd := by unfold State.record; dsimp only; split <;> simp
@[simp] theorem State.record_sys_haltReq (c k p : Nat) (d : List Nat) : (s.record c k p d).sys.haltReq = s.sys.haltReq := by unfold State.record; dsimp only; split <;> simp
@[simp] theorem State.record_sys_haltPend (c k p : Nat) (d : List Nat) : (s.record c k p d).sys.haltPend = s.sys.haltPend := by unfold State.record; dsimp only; split <;> simp
@[simp] theorem State.record_sys_haltActive (c k p : Nat) (d : List Nat) : (s.record c k p d).sys.haltActive = s.sys.haltActive := by unfold State.record; dsimp only; split <;> simp
@[simp] theorem State.record_sys_mask (c k p : Nat) (d : List Nat) : (s.record c k p d).sys.mask = s.sys.mask := by unfold State.record; dsimp only; split <;> simp
@[simp] theorem State.record_sys_badCrc (c k p : Nat) (d : List Nat) : (s.record c k p d).sys.badCrc = s.sys.badCrc := by unfold State.record; dsimp only; split <;> simp
@[simp] theorem State.record_sys_aborts (c k p : Nat) (d : List Nat) : (s.record c k p d).sys.aborts = s.sys.aborts := by unfold State.record; dsimp only; split <;> simp
@[simp] theorem State.record_sys_stale (c k p : Nat) (d : List Nat) : (s.record c k p d).sys.stale = s.sys.stale := by unfold State.record; dsimp only; split <;> simp
@[simp] theorem State.record_sys_denied (c k p : Nat) (d : List Nat) : (s.record c k p d).sys.denied = s.sys.denied := by unfold State.record; dsimp only; split <;> simp
@[simp] theorem State.record_sys_ready (c k p : Nat) (d : List Nat) : (s.record c k p d).sys.ready = s.sys.ready := by unfold State.record; dsimp only; split <;> simp
@[simp] theorem State.record_sys_gang (c k p : Nat) (d : List Nat) : (s.record c k p d).sys.gang = s.sys.gang := by unfold State.record; dsimp only; split <;> simp

@[simp] theorem State.note_twoLanes (c : Nat) (d : List Nat) : (s.note c d).twoLanes = s.twoLanes := by simp [State.note]
@[simp] theorem State.note_pins (c : Nat) (d : List Nat) : (s.note c d).pins = s.pins := by simp [State.note]
@[simp] theorem State.note_power (c : Nat) (d : List Nat) : (s.note c d).power = s.power := by simp [State.note]
@[simp] theorem State.note_flash (c : Nat) (d : List Nat) : (s.note c d).flash = s.flash := by simp [State.note]
@[simp] theorem State.note_ledger (c : Nat) (d : List Nat) : (s.note c d).ledger = s.ledger := by simp [State.note]
@[simp] theorem State.note_shadow (c : Nat) (d : List Nat) : (s.note c d).shadow = s.shadow := by simp [State.note]
@[simp] theorem State.note_clk (c : Nat) (d : List Nat) : (s.note c d).clk = s.clk := by simp [State.note]
@[simp] theorem State.note_pwr (c : Nat) (d : List Nat) : (s.note c d).pwr = s.pwr := by simp [State.note]
@[simp] theorem State.note_hist (c : Nat) (d : List Nat) : (s.note c d).hist = s.hist := by simp [State.note]
@[simp] theorem State.note_mem (c : Nat) (d : List Nat) : (s.note c d).mem = s.mem := by simp [State.note]
@[simp] theorem State.note_bank (c : Nat) (d : List Nat) : (s.note c d).bank = s.bank := by simp [State.note]
@[simp] theorem State.note_tmr (c : Nat) (d : List Nat) : (s.note c d).tmr = s.tmr := by simp [State.note]
@[simp] theorem State.note_hk (c : Nat) (d : List Nat) : (s.note c d).hk = s.hk := by simp [State.note]
@[simp] theorem State.note_lux (c : Nat) (d : List Nat) : (s.note c d).lux = s.lux := by simp [State.note]
@[simp] theorem State.note_free (c : Nat) (d : List Nat) : (s.note c d).free = s.free := by simp [State.note]
@[simp] theorem State.note_pending (c : Nat) (d : List Nat) : (s.note c d).pending = s.pending := by simp [State.note]
@[simp] theorem State.note_laneA (c : Nat) (d : List Nat) : (s.note c d).laneA = s.laneA := by simp [State.note]
@[simp] theorem State.note_laneB (c : Nat) (d : List Nat) : (s.note c d).laneB = s.laneB := by simp [State.note]
@[simp] theorem State.note_lane (c : Nat) (d : List Nat) (j : Lane) : (s.note c d).lane j = s.lane j := by simp [State.note]
@[simp] theorem State.note_sys_safe (c : Nat) (d : List Nat) : (s.note c d).sys.safe = s.sys.safe := by simp [State.note]
@[simp] theorem State.note_sys_service (c : Nat) (d : List Nat) : (s.note c d).sys.service = s.sys.service := by simp [State.note]
@[simp] theorem State.note_sys_serviceEnd (c : Nat) (d : List Nat) : (s.note c d).sys.serviceEnd = s.sys.serviceEnd := by simp [State.note]
@[simp] theorem State.note_sys_haltReq (c : Nat) (d : List Nat) : (s.note c d).sys.haltReq = s.sys.haltReq := by simp [State.note]
@[simp] theorem State.note_sys_haltPend (c : Nat) (d : List Nat) : (s.note c d).sys.haltPend = s.sys.haltPend := by simp [State.note]
@[simp] theorem State.note_sys_haltActive (c : Nat) (d : List Nat) : (s.note c d).sys.haltActive = s.sys.haltActive := by simp [State.note]
@[simp] theorem State.note_sys_mask (c : Nat) (d : List Nat) : (s.note c d).sys.mask = s.sys.mask := by simp [State.note]
@[simp] theorem State.note_sys_badCrc (c : Nat) (d : List Nat) : (s.note c d).sys.badCrc = s.sys.badCrc := by simp [State.note]
@[simp] theorem State.note_sys_aborts (c : Nat) (d : List Nat) : (s.note c d).sys.aborts = s.sys.aborts := by simp [State.note]
@[simp] theorem State.note_sys_stale (c : Nat) (d : List Nat) : (s.note c d).sys.stale = s.sys.stale := by simp [State.note]
@[simp] theorem State.note_sys_denied (c : Nat) (d : List Nat) : (s.note c d).sys.denied = s.sys.denied := by simp [State.note]
@[simp] theorem State.note_sys_ready (c : Nat) (d : List Nat) : (s.note c d).sys.ready = s.sys.ready := by simp [State.note]
@[simp] theorem State.note_sys_gang (c : Nat) (d : List Nat) : (s.note c d).sys.gang = s.sys.gang := by simp [State.note]

@[simp] theorem State.noteItem_twoLanes (c o : Nat) (d : List Nat) : (s.noteItem c o d).twoLanes = s.twoLanes := by simp [State.noteItem]
@[simp] theorem State.noteItem_pins (c o : Nat) (d : List Nat) : (s.noteItem c o d).pins = s.pins := by simp [State.noteItem]
@[simp] theorem State.noteItem_power (c o : Nat) (d : List Nat) : (s.noteItem c o d).power = s.power := by simp [State.noteItem]
@[simp] theorem State.noteItem_flash (c o : Nat) (d : List Nat) : (s.noteItem c o d).flash = s.flash := by simp [State.noteItem]
@[simp] theorem State.noteItem_ledger (c o : Nat) (d : List Nat) : (s.noteItem c o d).ledger = s.ledger := by simp [State.noteItem]
@[simp] theorem State.noteItem_shadow (c o : Nat) (d : List Nat) : (s.noteItem c o d).shadow = s.shadow := by simp [State.noteItem]
@[simp] theorem State.noteItem_clk (c o : Nat) (d : List Nat) : (s.noteItem c o d).clk = s.clk := by simp [State.noteItem]
@[simp] theorem State.noteItem_pwr (c o : Nat) (d : List Nat) : (s.noteItem c o d).pwr = s.pwr := by simp [State.noteItem]
@[simp] theorem State.noteItem_hist (c o : Nat) (d : List Nat) : (s.noteItem c o d).hist = s.hist := by simp [State.noteItem]
@[simp] theorem State.noteItem_mem (c o : Nat) (d : List Nat) : (s.noteItem c o d).mem = s.mem := by simp [State.noteItem]
@[simp] theorem State.noteItem_bank (c o : Nat) (d : List Nat) : (s.noteItem c o d).bank = s.bank := by simp [State.noteItem]
@[simp] theorem State.noteItem_tmr (c o : Nat) (d : List Nat) : (s.noteItem c o d).tmr = s.tmr := by simp [State.noteItem]
@[simp] theorem State.noteItem_hk (c o : Nat) (d : List Nat) : (s.noteItem c o d).hk = s.hk := by simp [State.noteItem]
@[simp] theorem State.noteItem_lux (c o : Nat) (d : List Nat) : (s.noteItem c o d).lux = s.lux := by simp [State.noteItem]
@[simp] theorem State.noteItem_free (c o : Nat) (d : List Nat) : (s.noteItem c o d).free = s.free := by simp [State.noteItem]
@[simp] theorem State.noteItem_pending (c o : Nat) (d : List Nat) : (s.noteItem c o d).pending = s.pending := by simp [State.noteItem]
@[simp] theorem State.noteItem_laneA (c o : Nat) (d : List Nat) : (s.noteItem c o d).laneA = s.laneA := by simp [State.noteItem]
@[simp] theorem State.noteItem_laneB (c o : Nat) (d : List Nat) : (s.noteItem c o d).laneB = s.laneB := by simp [State.noteItem]
@[simp] theorem State.noteItem_lane (c o : Nat) (d : List Nat) (j : Lane) : (s.noteItem c o d).lane j = s.lane j := by simp [State.noteItem]
@[simp] theorem State.noteItem_sys_safe (c o : Nat) (d : List Nat) : (s.noteItem c o d).sys.safe = s.sys.safe := by simp [State.noteItem]
@[simp] theorem State.noteItem_sys_service (c o : Nat) (d : List Nat) : (s.noteItem c o d).sys.service = s.sys.service := by simp [State.noteItem]
@[simp] theorem State.noteItem_sys_serviceEnd (c o : Nat) (d : List Nat) : (s.noteItem c o d).sys.serviceEnd = s.sys.serviceEnd := by simp [State.noteItem]
@[simp] theorem State.noteItem_sys_haltReq (c o : Nat) (d : List Nat) : (s.noteItem c o d).sys.haltReq = s.sys.haltReq := by simp [State.noteItem]
@[simp] theorem State.noteItem_sys_haltPend (c o : Nat) (d : List Nat) : (s.noteItem c o d).sys.haltPend = s.sys.haltPend := by simp [State.noteItem]
@[simp] theorem State.noteItem_sys_haltActive (c o : Nat) (d : List Nat) : (s.noteItem c o d).sys.haltActive = s.sys.haltActive := by simp [State.noteItem]
@[simp] theorem State.noteItem_sys_mask (c o : Nat) (d : List Nat) : (s.noteItem c o d).sys.mask = s.sys.mask := by simp [State.noteItem]
@[simp] theorem State.noteItem_sys_badCrc (c o : Nat) (d : List Nat) : (s.noteItem c o d).sys.badCrc = s.sys.badCrc := by simp [State.noteItem]
@[simp] theorem State.noteItem_sys_aborts (c o : Nat) (d : List Nat) : (s.noteItem c o d).sys.aborts = s.sys.aborts := by simp [State.noteItem]
@[simp] theorem State.noteItem_sys_stale (c o : Nat) (d : List Nat) : (s.noteItem c o d).sys.stale = s.sys.stale := by simp [State.noteItem]
@[simp] theorem State.noteItem_sys_denied (c o : Nat) (d : List Nat) : (s.noteItem c o d).sys.denied = s.sys.denied := by simp [State.noteItem]
@[simp] theorem State.noteItem_sys_ready (c o : Nat) (d : List Nat) : (s.noteItem c o d).sys.ready = s.sys.ready := by simp [State.noteItem]
@[simp] theorem State.noteItem_sys_gang (c o : Nat) (d : List Nat) : (s.noteItem c o d).sys.gang = s.sys.gang := by simp [State.noteItem]

@[simp] theorem State.recordL_twoLanes (l : Lane) (c k : Nat) (d : List Nat) : (s.recordL l c k d).twoLanes = s.twoLanes := by simp [State.recordL]
@[simp] theorem State.recordL_pins (l : Lane) (c k : Nat) (d : List Nat) : (s.recordL l c k d).pins = s.pins := by simp [State.recordL]
@[simp] theorem State.recordL_power (l : Lane) (c k : Nat) (d : List Nat) : (s.recordL l c k d).power = s.power := by simp [State.recordL]
@[simp] theorem State.recordL_flash (l : Lane) (c k : Nat) (d : List Nat) : (s.recordL l c k d).flash = s.flash := by simp [State.recordL]
@[simp] theorem State.recordL_ledger (l : Lane) (c k : Nat) (d : List Nat) : (s.recordL l c k d).ledger = s.ledger := by simp [State.recordL]
@[simp] theorem State.recordL_shadow (l : Lane) (c k : Nat) (d : List Nat) : (s.recordL l c k d).shadow = s.shadow := by simp [State.recordL]
@[simp] theorem State.recordL_clk (l : Lane) (c k : Nat) (d : List Nat) : (s.recordL l c k d).clk = s.clk := by simp [State.recordL]
@[simp] theorem State.recordL_pwr (l : Lane) (c k : Nat) (d : List Nat) : (s.recordL l c k d).pwr = s.pwr := by simp [State.recordL]
@[simp] theorem State.recordL_hist (l : Lane) (c k : Nat) (d : List Nat) : (s.recordL l c k d).hist = s.hist := by simp [State.recordL]
@[simp] theorem State.recordL_mem (l : Lane) (c k : Nat) (d : List Nat) : (s.recordL l c k d).mem = s.mem := by simp [State.recordL]
@[simp] theorem State.recordL_bank (l : Lane) (c k : Nat) (d : List Nat) : (s.recordL l c k d).bank = s.bank := by simp [State.recordL]
@[simp] theorem State.recordL_tmr (l : Lane) (c k : Nat) (d : List Nat) : (s.recordL l c k d).tmr = s.tmr := by simp [State.recordL]
@[simp] theorem State.recordL_hk (l : Lane) (c k : Nat) (d : List Nat) : (s.recordL l c k d).hk = s.hk := by simp [State.recordL]
@[simp] theorem State.recordL_lux (l : Lane) (c k : Nat) (d : List Nat) : (s.recordL l c k d).lux = s.lux := by simp [State.recordL]
@[simp] theorem State.recordL_free (l : Lane) (c k : Nat) (d : List Nat) : (s.recordL l c k d).free = s.free := by simp [State.recordL]
@[simp] theorem State.recordL_pending (l : Lane) (c k : Nat) (d : List Nat) : (s.recordL l c k d).pending = s.pending := by simp [State.recordL]
@[simp] theorem State.recordL_laneA (l : Lane) (c k : Nat) (d : List Nat) : (s.recordL l c k d).laneA = s.laneA := by simp [State.recordL]
@[simp] theorem State.recordL_laneB (l : Lane) (c k : Nat) (d : List Nat) : (s.recordL l c k d).laneB = s.laneB := by simp [State.recordL]
@[simp] theorem State.recordL_lane (l : Lane) (c k : Nat) (d : List Nat) (j : Lane) : (s.recordL l c k d).lane j = s.lane j := by simp [State.recordL]
@[simp] theorem State.recordL_sys_safe (l : Lane) (c k : Nat) (d : List Nat) : (s.recordL l c k d).sys.safe = s.sys.safe := by simp [State.recordL]
@[simp] theorem State.recordL_sys_service (l : Lane) (c k : Nat) (d : List Nat) : (s.recordL l c k d).sys.service = s.sys.service := by simp [State.recordL]
@[simp] theorem State.recordL_sys_serviceEnd (l : Lane) (c k : Nat) (d : List Nat) : (s.recordL l c k d).sys.serviceEnd = s.sys.serviceEnd := by simp [State.recordL]
@[simp] theorem State.recordL_sys_haltReq (l : Lane) (c k : Nat) (d : List Nat) : (s.recordL l c k d).sys.haltReq = s.sys.haltReq := by simp [State.recordL]
@[simp] theorem State.recordL_sys_haltPend (l : Lane) (c k : Nat) (d : List Nat) : (s.recordL l c k d).sys.haltPend = s.sys.haltPend := by simp [State.recordL]
@[simp] theorem State.recordL_sys_haltActive (l : Lane) (c k : Nat) (d : List Nat) : (s.recordL l c k d).sys.haltActive = s.sys.haltActive := by simp [State.recordL]
@[simp] theorem State.recordL_sys_mask (l : Lane) (c k : Nat) (d : List Nat) : (s.recordL l c k d).sys.mask = s.sys.mask := by simp [State.recordL]
@[simp] theorem State.recordL_sys_badCrc (l : Lane) (c k : Nat) (d : List Nat) : (s.recordL l c k d).sys.badCrc = s.sys.badCrc := by simp [State.recordL]
@[simp] theorem State.recordL_sys_aborts (l : Lane) (c k : Nat) (d : List Nat) : (s.recordL l c k d).sys.aborts = s.sys.aborts := by simp [State.recordL]
@[simp] theorem State.recordL_sys_stale (l : Lane) (c k : Nat) (d : List Nat) : (s.recordL l c k d).sys.stale = s.sys.stale := by simp [State.recordL]
@[simp] theorem State.recordL_sys_denied (l : Lane) (c k : Nat) (d : List Nat) : (s.recordL l c k d).sys.denied = s.sys.denied := by simp [State.recordL]
@[simp] theorem State.recordL_sys_ready (l : Lane) (c k : Nat) (d : List Nat) : (s.recordL l c k d).sys.ready = s.sys.ready := by simp [State.recordL]
@[simp] theorem State.recordL_sys_gang (l : Lane) (c k : Nat) (d : List Nat) : (s.recordL l c k d).sys.gang = s.sys.gang := by simp [State.recordL]

@[simp] theorem State.noteL_twoLanes (l : Lane) (c : Nat) (d : List Nat) : (s.noteL l c d).twoLanes = s.twoLanes := by simp [State.noteL]
@[simp] theorem State.noteL_pins (l : Lane) (c : Nat) (d : List Nat) : (s.noteL l c d).pins = s.pins := by simp [State.noteL]
@[simp] theorem State.noteL_power (l : Lane) (c : Nat) (d : List Nat) : (s.noteL l c d).power = s.power := by simp [State.noteL]
@[simp] theorem State.noteL_flash (l : Lane) (c : Nat) (d : List Nat) : (s.noteL l c d).flash = s.flash := by simp [State.noteL]
@[simp] theorem State.noteL_ledger (l : Lane) (c : Nat) (d : List Nat) : (s.noteL l c d).ledger = s.ledger := by simp [State.noteL]
@[simp] theorem State.noteL_shadow (l : Lane) (c : Nat) (d : List Nat) : (s.noteL l c d).shadow = s.shadow := by simp [State.noteL]
@[simp] theorem State.noteL_clk (l : Lane) (c : Nat) (d : List Nat) : (s.noteL l c d).clk = s.clk := by simp [State.noteL]
@[simp] theorem State.noteL_pwr (l : Lane) (c : Nat) (d : List Nat) : (s.noteL l c d).pwr = s.pwr := by simp [State.noteL]
@[simp] theorem State.noteL_hist (l : Lane) (c : Nat) (d : List Nat) : (s.noteL l c d).hist = s.hist := by simp [State.noteL]
@[simp] theorem State.noteL_mem (l : Lane) (c : Nat) (d : List Nat) : (s.noteL l c d).mem = s.mem := by simp [State.noteL]
@[simp] theorem State.noteL_bank (l : Lane) (c : Nat) (d : List Nat) : (s.noteL l c d).bank = s.bank := by simp [State.noteL]
@[simp] theorem State.noteL_tmr (l : Lane) (c : Nat) (d : List Nat) : (s.noteL l c d).tmr = s.tmr := by simp [State.noteL]
@[simp] theorem State.noteL_hk (l : Lane) (c : Nat) (d : List Nat) : (s.noteL l c d).hk = s.hk := by simp [State.noteL]
@[simp] theorem State.noteL_lux (l : Lane) (c : Nat) (d : List Nat) : (s.noteL l c d).lux = s.lux := by simp [State.noteL]
@[simp] theorem State.noteL_free (l : Lane) (c : Nat) (d : List Nat) : (s.noteL l c d).free = s.free := by simp [State.noteL]
@[simp] theorem State.noteL_pending (l : Lane) (c : Nat) (d : List Nat) : (s.noteL l c d).pending = s.pending := by simp [State.noteL]
@[simp] theorem State.noteL_laneA (l : Lane) (c : Nat) (d : List Nat) : (s.noteL l c d).laneA = s.laneA := by simp [State.noteL]
@[simp] theorem State.noteL_laneB (l : Lane) (c : Nat) (d : List Nat) : (s.noteL l c d).laneB = s.laneB := by simp [State.noteL]
@[simp] theorem State.noteL_lane (l : Lane) (c : Nat) (d : List Nat) (j : Lane) : (s.noteL l c d).lane j = s.lane j := by simp [State.noteL]
@[simp] theorem State.noteL_sys_safe (l : Lane) (c : Nat) (d : List Nat) : (s.noteL l c d).sys.safe = s.sys.safe := by simp [State.noteL]
@[simp] theorem State.noteL_sys_service (l : Lane) (c : Nat) (d : List Nat) : (s.noteL l c d).sys.service = s.sys.service := by simp [State.noteL]
@[simp] theorem State.noteL_sys_serviceEnd (l : Lane) (c : Nat) (d : List Nat) : (s.noteL l c d).sys.serviceEnd = s.sys.serviceEnd := by simp [State.noteL]
@[simp] theorem State.noteL_sys_haltReq (l : Lane) (c : Nat) (d : List Nat) : (s.noteL l c d).sys.haltReq = s.sys.haltReq := by simp [State.noteL]
@[simp] theorem State.noteL_sys_haltPend (l : Lane) (c : Nat) (d : List Nat) : (s.noteL l c d).sys.haltPend = s.sys.haltPend := by simp [State.noteL]
@[simp] theorem State.noteL_sys_haltActive (l : Lane) (c : Nat) (d : List Nat) : (s.noteL l c d).sys.haltActive = s.sys.haltActive := by simp [State.noteL]
@[simp] theorem State.noteL_sys_mask (l : Lane) (c : Nat) (d : List Nat) : (s.noteL l c d).sys.mask = s.sys.mask := by simp [State.noteL]
@[simp] theorem State.noteL_sys_badCrc (l : Lane) (c : Nat) (d : List Nat) : (s.noteL l c d).sys.badCrc = s.sys.badCrc := by simp [State.noteL]
@[simp] theorem State.noteL_sys_aborts (l : Lane) (c : Nat) (d : List Nat) : (s.noteL l c d).sys.aborts = s.sys.aborts := by simp [State.noteL]
@[simp] theorem State.noteL_sys_stale (l : Lane) (c : Nat) (d : List Nat) : (s.noteL l c d).sys.stale = s.sys.stale := by simp [State.noteL]
@[simp] theorem State.noteL_sys_denied (l : Lane) (c : Nat) (d : List Nat) : (s.noteL l c d).sys.denied = s.sys.denied := by simp [State.noteL]
@[simp] theorem State.noteL_sys_ready (l : Lane) (c : Nat) (d : List Nat) : (s.noteL l c d).sys.ready = s.sys.ready := by simp [State.noteL]
@[simp] theorem State.noteL_sys_gang (l : Lane) (c : Nat) (d : List Nat) : (s.noteL l c d).sys.gang = s.sys.gang := by simp [State.noteL]

/-! ### Settling -/

theorem foldl_event_eq {α : Type} (g : State → α) (hg : ∀ (s : State) (b : Nat), g (s.event b) = g s) (bs : List Nat) (s : State) :
    g (bs.foldl State.event s) = g s := by
  induction bs generalizing s with
  | nil => rfl
  | cons b bs ih => rw [List.foldl_cons, ih, hg]

theorem settleEvents_eq {α : Type} (g : State → α) (hg : ∀ (s : State) (b : Nat), g (s.event b) = g s) (s0 s1 : State) :
    g (settleEvents s0 s1) = g s1 := by
  unfold settleEvents
  split
  · rfl
  · exact foldl_event_eq g hg _ _

theorem settleStatus_eq {α : Type} (g : State → α) (l : Lane) (s : State) (hg : g (s.sendStatus l) = g s) :
    g (settleStatus s l) = g s := by
  unfold settleStatus
  split
  · exact hg
  · rfl

theorem settleRead_eq {α : Type} (g : State → α) (hg : ∀ (s : State) (f : SysSt → SysSt), g (s.modSys f) = g s) (s0 s1 : State) :
    g (settleRead s0 s1) = g s1 := by
  unfold settleRead
  split
  · rfl
  · split
    · exact hg _ _
    · rfl

/-- A reading of the state that the settling leaves alone: neither SYS, nor the log, nor a lane's link frames. -/
theorem settle_eq {α : Type} (g : State → α) (hsys : ∀ (s : State) (f : SysSt → SysSt), g (s.modSys f) = g s)
    (hev : ∀ (s : State) (b : Nat), g (s.event b) = g s)
    (hlog : ∀ (s : State) (f : LogSt → LogSt), g (s.modLog f) = g s)
    (hrun : ∀ (s : State) (l : Lane) (f : LinkRun → LinkRun), g (s.modLrun l f) = g s)
    (hst : ∀ (s : State) (l : Lane), g (s.sendStatus l) = g s) (s0 s1 : State) : g (settle s0 s1) = g s1 := by
  show g (settlePins (settleEvents s0 (settleStatus (settleStatus (settleEpochs s0 (settleRead s0 (s1.modLog LogSt.settle))) .a) .b))) = g s1
  unfold settlePins
  rw [hsys, settleEvents_eq g hev, settleStatus_eq g .b _ (hst _ _), settleStatus_eq g .a _ (hst _ _)]
  unfold settleEpochs
  rw [hrun, hrun, hsys, settleRead_eq g hsys, hlog]

@[simp] theorem sendStatus_twoLanes (l : Lane) : (s.sendStatus l).twoLanes = s.twoLanes := by cases l <;> rfl
@[simp] theorem sendStatus_pins (l : Lane) : (s.sendStatus l).pins = s.pins := by cases l <;> rfl
@[simp] theorem sendStatus_power (l : Lane) : (s.sendStatus l).power = s.power := by cases l <;> rfl
@[simp] theorem sendStatus_flash (l : Lane) : (s.sendStatus l).flash = s.flash := by cases l <;> rfl
@[simp] theorem sendStatus_ledger (l : Lane) : (s.sendStatus l).ledger = s.ledger := by cases l <;> rfl
@[simp] theorem sendStatus_shadow (l : Lane) : (s.sendStatus l).shadow = s.shadow := by cases l <;> rfl
@[simp] theorem sendStatus_clk (l : Lane) : (s.sendStatus l).clk = s.clk := by cases l <;> rfl
@[simp] theorem sendStatus_pwr (l : Lane) : (s.sendStatus l).pwr = s.pwr := by cases l <;> rfl
@[simp] theorem sendStatus_hist (l : Lane) : (s.sendStatus l).hist = s.hist := by cases l <;> rfl
@[simp] theorem sendStatus_mem (l : Lane) : (s.sendStatus l).mem = s.mem := by cases l <;> rfl
@[simp] theorem sendStatus_bank (l : Lane) : (s.sendStatus l).bank = s.bank := by cases l <;> rfl
@[simp] theorem sendStatus_tmr (l : Lane) : (s.sendStatus l).tmr = s.tmr := by cases l <;> rfl
@[simp] theorem sendStatus_hk (l : Lane) : (s.sendStatus l).hk = s.hk := by cases l <;> rfl
@[simp] theorem sendStatus_lux (l : Lane) : (s.sendStatus l).lux = s.lux := by cases l <;> rfl
@[simp] theorem sendStatus_free (l : Lane) : (s.sendStatus l).free = s.free := by cases l <;> rfl
@[simp] theorem sendStatus_pending (l : Lane) : (s.sendStatus l).pending = s.pending := by cases l <;> rfl
@[simp] theorem sendStatus_log (l : Lane) : (s.sendStatus l).log = s.log := by cases l <;> rfl
@[simp] theorem sendStatus_sys (l : Lane) : (s.sendStatus l).sys = s.sys := by cases l <;> rfl
@[simp] theorem sendStatus_laneA_mode (l : Lane) : (s.sendStatus l).laneA.mode = s.laneA.mode := by cases l <;> rfl
@[simp] theorem sendStatus_laneB_mode (l : Lane) : (s.sendStatus l).laneB.mode = s.laneB.mode := by cases l <;> rfl
@[simp] theorem sendStatus_laneA_head (l : Lane) : (s.sendStatus l).laneA.head = s.laneA.head := by cases l <;> rfl
@[simp] theorem sendStatus_laneB_head (l : Lane) : (s.sendStatus l).laneB.head = s.laneB.head := by cases l <;> rfl
@[simp] theorem sendStatus_laneA_pix (l : Lane) : (s.sendStatus l).laneA.pix = s.laneA.pix := by cases l <;> rfl
@[simp] theorem sendStatus_laneB_pix (l : Lane) : (s.sendStatus l).laneB.pix = s.laneB.pix := by cases l <;> rfl
@[simp] theorem sendStatus_laneA_cal (l : Lane) : (s.sendStatus l).laneA.cal = s.laneA.cal := by cases l <;> rfl
@[simp] theorem sendStatus_laneB_cal (l : Lane) : (s.sendStatus l).laneB.cal = s.laneB.cal := by cases l <;> rfl
@[simp] theorem sendStatus_laneA_till (l : Lane) : (s.sendStatus l).laneA.till = s.laneA.till := by cases l <;> rfl
@[simp] theorem sendStatus_laneB_till (l : Lane) : (s.sendStatus l).laneB.till = s.laneB.till := by cases l <;> rfl
@[simp] theorem sendStatus_laneA_link (l : Lane) : (s.sendStatus l).laneA.link = s.laneA.link := by cases l <;> rfl
@[simp] theorem sendStatus_laneB_link (l : Lane) : (s.sendStatus l).laneB.link = s.laneB.link := by cases l <;> rfl
@[simp] theorem sendStatus_laneA_axis (l : Lane) : (s.sendStatus l).laneA.axis = s.laneA.axis := by cases l <;> rfl
@[simp] theorem sendStatus_laneB_axis (l : Lane) : (s.sendStatus l).laneB.axis = s.laneB.axis := by cases l <;> rfl
@[simp] theorem sendStatus_laneA_arun (l : Lane) : (s.sendStatus l).laneA.arun = s.laneA.arun := by cases l <;> rfl
@[simp] theorem sendStatus_laneB_arun (l : Lane) : (s.sendStatus l).laneB.arun = s.laneB.arun := by cases l <;> rfl
@[simp] theorem sendStatus_laneA_sets (l : Lane) : (s.sendStatus l).laneA.sets = s.laneA.sets := by cases l <;> rfl
@[simp] theorem sendStatus_laneB_sets (l : Lane) : (s.sendStatus l).laneB.sets = s.laneB.sets := by cases l <;> rfl
@[simp] theorem sendStatus_laneA_next (l : Lane) : (s.sendStatus l).laneA.next = s.laneA.next := by cases l <;> rfl
@[simp] theorem sendStatus_laneB_next (l : Lane) : (s.sendStatus l).laneB.next = s.laneB.next := by cases l <;> rfl
@[simp] theorem sendStatus_laneA_exposing (l : Lane) : (s.sendStatus l).laneA.exposing = s.laneA.exposing := by cases l <;> rfl
@[simp] theorem sendStatus_laneB_exposing (l : Lane) : (s.sendStatus l).laneB.exposing = s.laneB.exposing := by cases l <;> rfl
@[simp] theorem sendStatus_laneA_reading (l : Lane) : (s.sendStatus l).laneA.reading = s.laneA.reading := by cases l <;> rfl
@[simp] theorem sendStatus_laneB_reading (l : Lane) : (s.sendStatus l).laneB.reading = s.laneB.reading := by cases l <;> rfl
@[simp] theorem sendStatus_laneA_nextLine (l : Lane) : (s.sendStatus l).laneA.nextLine = s.laneA.nextLine := by cases l <;> rfl
@[simp] theorem sendStatus_laneB_nextLine (l : Lane) : (s.sendStatus l).laneB.nextLine = s.laneB.nextLine := by cases l <;> rfl
@[simp] theorem sendStatus_laneA_sub (l : Lane) : (s.sendStatus l).laneA.sub = s.laneA.sub := by cases l <;> rfl
@[simp] theorem sendStatus_laneB_sub (l : Lane) : (s.sendStatus l).laneB.sub = s.laneB.sub := by cases l <;> rfl
@[simp] theorem sendStatus_laneA_capture (l : Lane) : (s.sendStatus l).laneA.capture = s.laneA.capture := by cases l <;> rfl
@[simp] theorem sendStatus_laneB_capture (l : Lane) : (s.sendStatus l).laneB.capture = s.laneB.capture := by cases l <;> rfl
@[simp] theorem sendStatus_laneA_afterSeam (l : Lane) : (s.sendStatus l).laneA.afterSeam = s.laneA.afterSeam := by cases l <;> rfl
@[simp] theorem sendStatus_laneB_afterSeam (l : Lane) : (s.sendStatus l).laneB.afterSeam = s.laneB.afterSeam := by cases l <;> rfl
@[simp] theorem sendStatus_laneA_afterGap (l : Lane) : (s.sendStatus l).laneA.afterGap = s.laneA.afterGap := by cases l <;> rfl
@[simp] theorem sendStatus_laneB_afterGap (l : Lane) : (s.sendStatus l).laneB.afterGap = s.laneB.afterGap := by cases l <;> rfl
@[simp] theorem sendStatus_laneA_resumed (l : Lane) : (s.sendStatus l).laneA.resumed = s.laneA.resumed := by cases l <;> rfl
@[simp] theorem sendStatus_laneB_resumed (l : Lane) : (s.sendStatus l).laneB.resumed = s.laneB.resumed := by cases l <;> rfl
@[simp] theorem sendStatus_laneA_stopMask (l : Lane) : (s.sendStatus l).laneA.stopMask = s.laneA.stopMask := by cases l <;> rfl
@[simp] theorem sendStatus_laneB_stopMask (l : Lane) : (s.sendStatus l).laneB.stopMask = s.laneB.stopMask := by cases l <;> rfl
@[simp] theorem sendStatus_laneA_group (l : Lane) : (s.sendStatus l).laneA.group = s.laneA.group := by cases l <;> rfl
@[simp] theorem sendStatus_laneB_group (l : Lane) : (s.sendStatus l).laneB.group = s.laneB.group := by cases l <;> rfl
@[simp] theorem sendStatus_laneA_owedSeams (l : Lane) : (s.sendStatus l).laneA.owedSeams = s.laneA.owedSeams := by cases l <;> rfl
@[simp] theorem sendStatus_laneB_owedSeams (l : Lane) : (s.sendStatus l).laneB.owedSeams = s.laneB.owedSeams := by cases l <;> rfl
@[simp] theorem sendStatus_laneA_lastNum (l : Lane) : (s.sendStatus l).laneA.lastNum = s.laneA.lastNum := by cases l <;> rfl
@[simp] theorem sendStatus_laneB_lastNum (l : Lane) : (s.sendStatus l).laneB.lastNum = s.laneB.lastNum := by cases l <;> rfl

@[simp] theorem settle_twoLanes (s0 s1 : State) : (settle s0 s1).twoLanes = s1.twoLanes :=
  settle_eq State.twoLanes (by simp) (by simp) (by simp) (by simp) (by simp) s0 s1
@[simp] theorem settle_pins (s0 s1 : State) : (settle s0 s1).pins = s1.pins :=
  settle_eq State.pins (by simp) (by simp) (by simp) (by simp) (by simp) s0 s1
@[simp] theorem settle_power (s0 s1 : State) : (settle s0 s1).power = s1.power :=
  settle_eq State.power (by simp) (by simp) (by simp) (by simp) (by simp) s0 s1
@[simp] theorem settle_flash (s0 s1 : State) : (settle s0 s1).flash = s1.flash :=
  settle_eq State.flash (by simp) (by simp) (by simp) (by simp) (by simp) s0 s1
@[simp] theorem settle_ledger (s0 s1 : State) : (settle s0 s1).ledger = s1.ledger :=
  settle_eq State.ledger (by simp) (by simp) (by simp) (by simp) (by simp) s0 s1
@[simp] theorem settle_shadow (s0 s1 : State) : (settle s0 s1).shadow = s1.shadow :=
  settle_eq State.shadow (by simp) (by simp) (by simp) (by simp) (by simp) s0 s1
@[simp] theorem settle_clk (s0 s1 : State) : (settle s0 s1).clk = s1.clk :=
  settle_eq State.clk (by simp) (by simp) (by simp) (by simp) (by simp) s0 s1
@[simp] theorem settle_pwr (s0 s1 : State) : (settle s0 s1).pwr = s1.pwr :=
  settle_eq State.pwr (by simp) (by simp) (by simp) (by simp) (by simp) s0 s1
@[simp] theorem settle_hist (s0 s1 : State) : (settle s0 s1).hist = s1.hist :=
  settle_eq State.hist (by simp) (by simp) (by simp) (by simp) (by simp) s0 s1
@[simp] theorem settle_mem (s0 s1 : State) : (settle s0 s1).mem = s1.mem :=
  settle_eq State.mem (by simp) (by simp) (by simp) (by simp) (by simp) s0 s1
@[simp] theorem settle_bank (s0 s1 : State) : (settle s0 s1).bank = s1.bank :=
  settle_eq State.bank (by simp) (by simp) (by simp) (by simp) (by simp) s0 s1
@[simp] theorem settle_tmr (s0 s1 : State) : (settle s0 s1).tmr = s1.tmr :=
  settle_eq State.tmr (by simp) (by simp) (by simp) (by simp) (by simp) s0 s1
@[simp] theorem settle_hk (s0 s1 : State) : (settle s0 s1).hk = s1.hk :=
  settle_eq State.hk (by simp) (by simp) (by simp) (by simp) (by simp) s0 s1
@[simp] theorem settle_lux (s0 s1 : State) : (settle s0 s1).lux = s1.lux :=
  settle_eq State.lux (by simp) (by simp) (by simp) (by simp) (by simp) s0 s1
@[simp] theorem settle_free (s0 s1 : State) : (settle s0 s1).free = s1.free :=
  settle_eq State.free (by simp) (by simp) (by simp) (by simp) (by simp) s0 s1
@[simp] theorem settle_pending (s0 s1 : State) : (settle s0 s1).pending = s1.pending :=
  settle_eq State.pending (by simp) (by simp) (by simp) (by simp) (by simp) s0 s1
@[simp] theorem settle_laneA_mode (s0 s1 : State) : (settle s0 s1).laneA.mode = s1.laneA.mode :=
  settle_eq (fun s => s.laneA.mode) (by simp) (by simp) (by simp) (by intro s l f; cases l <;> rfl) (by simp) s0 s1
@[simp] theorem settle_laneB_mode (s0 s1 : State) : (settle s0 s1).laneB.mode = s1.laneB.mode :=
  settle_eq (fun s => s.laneB.mode) (by simp) (by simp) (by simp) (by intro s l f; cases l <;> rfl) (by simp) s0 s1
@[simp] theorem settle_laneA_head (s0 s1 : State) : (settle s0 s1).laneA.head = s1.laneA.head :=
  settle_eq (fun s => s.laneA.head) (by simp) (by simp) (by simp) (by intro s l f; cases l <;> rfl) (by simp) s0 s1
@[simp] theorem settle_laneB_head (s0 s1 : State) : (settle s0 s1).laneB.head = s1.laneB.head :=
  settle_eq (fun s => s.laneB.head) (by simp) (by simp) (by simp) (by intro s l f; cases l <;> rfl) (by simp) s0 s1
@[simp] theorem settle_laneA_pix (s0 s1 : State) : (settle s0 s1).laneA.pix = s1.laneA.pix :=
  settle_eq (fun s => s.laneA.pix) (by simp) (by simp) (by simp) (by intro s l f; cases l <;> rfl) (by simp) s0 s1
@[simp] theorem settle_laneB_pix (s0 s1 : State) : (settle s0 s1).laneB.pix = s1.laneB.pix :=
  settle_eq (fun s => s.laneB.pix) (by simp) (by simp) (by simp) (by intro s l f; cases l <;> rfl) (by simp) s0 s1
@[simp] theorem settle_laneA_cal (s0 s1 : State) : (settle s0 s1).laneA.cal = s1.laneA.cal :=
  settle_eq (fun s => s.laneA.cal) (by simp) (by simp) (by simp) (by intro s l f; cases l <;> rfl) (by simp) s0 s1
@[simp] theorem settle_laneB_cal (s0 s1 : State) : (settle s0 s1).laneB.cal = s1.laneB.cal :=
  settle_eq (fun s => s.laneB.cal) (by simp) (by simp) (by simp) (by intro s l f; cases l <;> rfl) (by simp) s0 s1
@[simp] theorem settle_laneA_till (s0 s1 : State) : (settle s0 s1).laneA.till = s1.laneA.till :=
  settle_eq (fun s => s.laneA.till) (by simp) (by simp) (by simp) (by intro s l f; cases l <;> rfl) (by simp) s0 s1
@[simp] theorem settle_laneB_till (s0 s1 : State) : (settle s0 s1).laneB.till = s1.laneB.till :=
  settle_eq (fun s => s.laneB.till) (by simp) (by simp) (by simp) (by intro s l f; cases l <;> rfl) (by simp) s0 s1
@[simp] theorem settle_laneA_link (s0 s1 : State) : (settle s0 s1).laneA.link = s1.laneA.link :=
  settle_eq (fun s => s.laneA.link) (by simp) (by simp) (by simp) (by intro s l f; cases l <;> rfl) (by simp) s0 s1
@[simp] theorem settle_laneB_link (s0 s1 : State) : (settle s0 s1).laneB.link = s1.laneB.link :=
  settle_eq (fun s => s.laneB.link) (by simp) (by simp) (by simp) (by intro s l f; cases l <;> rfl) (by simp) s0 s1
@[simp] theorem settle_laneA_axis (s0 s1 : State) : (settle s0 s1).laneA.axis = s1.laneA.axis :=
  settle_eq (fun s => s.laneA.axis) (by simp) (by simp) (by simp) (by intro s l f; cases l <;> rfl) (by simp) s0 s1
@[simp] theorem settle_laneB_axis (s0 s1 : State) : (settle s0 s1).laneB.axis = s1.laneB.axis :=
  settle_eq (fun s => s.laneB.axis) (by simp) (by simp) (by simp) (by intro s l f; cases l <;> rfl) (by simp) s0 s1
@[simp] theorem settle_laneA_arun (s0 s1 : State) : (settle s0 s1).laneA.arun = s1.laneA.arun :=
  settle_eq (fun s => s.laneA.arun) (by simp) (by simp) (by simp) (by intro s l f; cases l <;> rfl) (by simp) s0 s1
@[simp] theorem settle_laneB_arun (s0 s1 : State) : (settle s0 s1).laneB.arun = s1.laneB.arun :=
  settle_eq (fun s => s.laneB.arun) (by simp) (by simp) (by simp) (by intro s l f; cases l <;> rfl) (by simp) s0 s1
@[simp] theorem settle_laneA_sets (s0 s1 : State) : (settle s0 s1).laneA.sets = s1.laneA.sets :=
  settle_eq (fun s => s.laneA.sets) (by simp) (by simp) (by simp) (by intro s l f; cases l <;> rfl) (by simp) s0 s1
@[simp] theorem settle_laneB_sets (s0 s1 : State) : (settle s0 s1).laneB.sets = s1.laneB.sets :=
  settle_eq (fun s => s.laneB.sets) (by simp) (by simp) (by simp) (by intro s l f; cases l <;> rfl) (by simp) s0 s1
@[simp] theorem settle_laneA_next (s0 s1 : State) : (settle s0 s1).laneA.next = s1.laneA.next :=
  settle_eq (fun s => s.laneA.next) (by simp) (by simp) (by simp) (by intro s l f; cases l <;> rfl) (by simp) s0 s1
@[simp] theorem settle_laneB_next (s0 s1 : State) : (settle s0 s1).laneB.next = s1.laneB.next :=
  settle_eq (fun s => s.laneB.next) (by simp) (by simp) (by simp) (by intro s l f; cases l <;> rfl) (by simp) s0 s1
@[simp] theorem settle_laneA_exposing (s0 s1 : State) : (settle s0 s1).laneA.exposing = s1.laneA.exposing :=
  settle_eq (fun s => s.laneA.exposing) (by simp) (by simp) (by simp) (by intro s l f; cases l <;> rfl) (by simp) s0 s1
@[simp] theorem settle_laneB_exposing (s0 s1 : State) : (settle s0 s1).laneB.exposing = s1.laneB.exposing :=
  settle_eq (fun s => s.laneB.exposing) (by simp) (by simp) (by simp) (by intro s l f; cases l <;> rfl) (by simp) s0 s1
@[simp] theorem settle_laneA_reading (s0 s1 : State) : (settle s0 s1).laneA.reading = s1.laneA.reading :=
  settle_eq (fun s => s.laneA.reading) (by simp) (by simp) (by simp) (by intro s l f; cases l <;> rfl) (by simp) s0 s1
@[simp] theorem settle_laneB_reading (s0 s1 : State) : (settle s0 s1).laneB.reading = s1.laneB.reading :=
  settle_eq (fun s => s.laneB.reading) (by simp) (by simp) (by simp) (by intro s l f; cases l <;> rfl) (by simp) s0 s1
@[simp] theorem settle_laneA_nextLine (s0 s1 : State) : (settle s0 s1).laneA.nextLine = s1.laneA.nextLine :=
  settle_eq (fun s => s.laneA.nextLine) (by simp) (by simp) (by simp) (by intro s l f; cases l <;> rfl) (by simp) s0 s1
@[simp] theorem settle_laneB_nextLine (s0 s1 : State) : (settle s0 s1).laneB.nextLine = s1.laneB.nextLine :=
  settle_eq (fun s => s.laneB.nextLine) (by simp) (by simp) (by simp) (by intro s l f; cases l <;> rfl) (by simp) s0 s1
@[simp] theorem settle_laneA_sub (s0 s1 : State) : (settle s0 s1).laneA.sub = s1.laneA.sub :=
  settle_eq (fun s => s.laneA.sub) (by simp) (by simp) (by simp) (by intro s l f; cases l <;> rfl) (by simp) s0 s1
@[simp] theorem settle_laneB_sub (s0 s1 : State) : (settle s0 s1).laneB.sub = s1.laneB.sub :=
  settle_eq (fun s => s.laneB.sub) (by simp) (by simp) (by simp) (by intro s l f; cases l <;> rfl) (by simp) s0 s1
@[simp] theorem settle_laneA_capture (s0 s1 : State) : (settle s0 s1).laneA.capture = s1.laneA.capture :=
  settle_eq (fun s => s.laneA.capture) (by simp) (by simp) (by simp) (by intro s l f; cases l <;> rfl) (by simp) s0 s1
@[simp] theorem settle_laneB_capture (s0 s1 : State) : (settle s0 s1).laneB.capture = s1.laneB.capture :=
  settle_eq (fun s => s.laneB.capture) (by simp) (by simp) (by simp) (by intro s l f; cases l <;> rfl) (by simp) s0 s1
@[simp] theorem settle_laneA_afterSeam (s0 s1 : State) : (settle s0 s1).laneA.afterSeam = s1.laneA.afterSeam :=
  settle_eq (fun s => s.laneA.afterSeam) (by simp) (by simp) (by simp) (by intro s l f; cases l <;> rfl) (by simp) s0 s1
@[simp] theorem settle_laneB_afterSeam (s0 s1 : State) : (settle s0 s1).laneB.afterSeam = s1.laneB.afterSeam :=
  settle_eq (fun s => s.laneB.afterSeam) (by simp) (by simp) (by simp) (by intro s l f; cases l <;> rfl) (by simp) s0 s1
@[simp] theorem settle_laneA_afterGap (s0 s1 : State) : (settle s0 s1).laneA.afterGap = s1.laneA.afterGap :=
  settle_eq (fun s => s.laneA.afterGap) (by simp) (by simp) (by simp) (by intro s l f; cases l <;> rfl) (by simp) s0 s1
@[simp] theorem settle_laneB_afterGap (s0 s1 : State) : (settle s0 s1).laneB.afterGap = s1.laneB.afterGap :=
  settle_eq (fun s => s.laneB.afterGap) (by simp) (by simp) (by simp) (by intro s l f; cases l <;> rfl) (by simp) s0 s1
@[simp] theorem settle_laneA_resumed (s0 s1 : State) : (settle s0 s1).laneA.resumed = s1.laneA.resumed :=
  settle_eq (fun s => s.laneA.resumed) (by simp) (by simp) (by simp) (by intro s l f; cases l <;> rfl) (by simp) s0 s1
@[simp] theorem settle_laneB_resumed (s0 s1 : State) : (settle s0 s1).laneB.resumed = s1.laneB.resumed :=
  settle_eq (fun s => s.laneB.resumed) (by simp) (by simp) (by simp) (by intro s l f; cases l <;> rfl) (by simp) s0 s1
@[simp] theorem settle_laneA_stopMask (s0 s1 : State) : (settle s0 s1).laneA.stopMask = s1.laneA.stopMask :=
  settle_eq (fun s => s.laneA.stopMask) (by simp) (by simp) (by simp) (by intro s l f; cases l <;> rfl) (by simp) s0 s1
@[simp] theorem settle_laneB_stopMask (s0 s1 : State) : (settle s0 s1).laneB.stopMask = s1.laneB.stopMask :=
  settle_eq (fun s => s.laneB.stopMask) (by simp) (by simp) (by simp) (by intro s l f; cases l <;> rfl) (by simp) s0 s1
@[simp] theorem settle_laneA_group (s0 s1 : State) : (settle s0 s1).laneA.group = s1.laneA.group :=
  settle_eq (fun s => s.laneA.group) (by simp) (by simp) (by simp) (by intro s l f; cases l <;> rfl) (by simp) s0 s1
@[simp] theorem settle_laneB_group (s0 s1 : State) : (settle s0 s1).laneB.group = s1.laneB.group :=
  settle_eq (fun s => s.laneB.group) (by simp) (by simp) (by simp) (by intro s l f; cases l <;> rfl) (by simp) s0 s1
@[simp] theorem settle_laneA_owedSeams (s0 s1 : State) : (settle s0 s1).laneA.owedSeams = s1.laneA.owedSeams :=
  settle_eq (fun s => s.laneA.owedSeams) (by simp) (by simp) (by simp) (by intro s l f; cases l <;> rfl) (by simp) s0 s1
@[simp] theorem settle_laneB_owedSeams (s0 s1 : State) : (settle s0 s1).laneB.owedSeams = s1.laneB.owedSeams :=
  settle_eq (fun s => s.laneB.owedSeams) (by simp) (by simp) (by simp) (by intro s l f; cases l <;> rfl) (by simp) s0 s1
@[simp] theorem settle_laneA_lastNum (s0 s1 : State) : (settle s0 s1).laneA.lastNum = s1.laneA.lastNum :=
  settle_eq (fun s => s.laneA.lastNum) (by simp) (by simp) (by simp) (by intro s l f; cases l <;> rfl) (by simp) s0 s1
@[simp] theorem settle_laneB_lastNum (s0 s1 : State) : (settle s0 s1).laneB.lastNum = s1.laneB.lastNum :=
  settle_eq (fun s => s.laneB.lastNum) (by simp) (by simp) (by simp) (by intro s l f; cases l <;> rfl) (by simp) s0 s1

/-- The settling leaves every lane field but the link's frames. -/
@[simp] theorem settle_log (s0 s1 : State) : (settle s0 s1).log = s1.log.settle := by
  show (settlePins (settleEvents s0 (settleStatus (settleStatus (settleEpochs s0 (settleRead s0 (s1.modLog LogSt.settle))) .a) .b))).log = _
  unfold settlePins
  rw [State.modSys_log, settleEvents_eq State.log (by simp), settleStatus_eq State.log .b _ (by simp),
    settleStatus_eq State.log .a _ (by simp)]
  unfold settleEpochs
  rw [State.modLrun_log, State.modLrun_log, State.modSys_log, settleRead_eq State.log (by simp)]
  rfl

/-- A SYS field that no part of the settling sets. -/
theorem settle_sys_eq {α : Type} (g : SysSt → α)
    (hp : ∀ (y : SysSt) (a b : Bool), g { y with faultN := a, attnN := b } = g y)
    (he : ∀ (s : State) (b : Nat), g (s.event b).sys = g s.sys)
    (hm : ∀ (y : SysSt) (e : List Nat), g { y with epochs := e, marks := [] } = g y)
    (hr : ∀ (y : SysSt) (r : List Nat), g { y with response := r, apert := none } = g y) (s0 s1 : State) :
    g (settle s0 s1).sys = g s1.sys := by
  show g (settlePins (settleEvents s0 (settleStatus (settleStatus (settleEpochs s0 (settleRead s0 (s1.modLog LogSt.settle))) .a) .b))).sys = _
  unfold settlePins
  rw [State.modSys_sys, hp, settleEvents_eq (fun s => g s.sys) he, settleStatus_eq (fun s => g s.sys) .b _ (by simp),
    settleStatus_eq (fun s => g s.sys) .a _ (by simp)]
  unfold settleEpochs
  rw [State.modLrun_sys, State.modLrun_sys, State.modSys_sys, hm]
  unfold settleRead
  split
  · rfl
  · split
    · rw [State.modSys_sys, hr]; rfl
    · rfl

@[simp] theorem settle_sys_safe (s0 s1 : State) : (settle s0 s1).sys.safe = s1.sys.safe :=
  settle_sys_eq SysSt.safe (fun _ _ _ => rfl) (by simp) (fun _ _ => rfl) (fun _ _ => rfl) s0 s1
@[simp] theorem settle_sys_service (s0 s1 : State) : (settle s0 s1).sys.service = s1.sys.service :=
  settle_sys_eq SysSt.service (fun _ _ _ => rfl) (by simp) (fun _ _ => rfl) (fun _ _ => rfl) s0 s1
@[simp] theorem settle_sys_serviceEnd (s0 s1 : State) : (settle s0 s1).sys.serviceEnd = s1.sys.serviceEnd :=
  settle_sys_eq SysSt.serviceEnd (fun _ _ _ => rfl) (by simp) (fun _ _ => rfl) (fun _ _ => rfl) s0 s1
@[simp] theorem settle_sys_haltReq (s0 s1 : State) : (settle s0 s1).sys.haltReq = s1.sys.haltReq :=
  settle_sys_eq SysSt.haltReq (fun _ _ _ => rfl) (by simp) (fun _ _ => rfl) (fun _ _ => rfl) s0 s1
@[simp] theorem settle_sys_haltPend (s0 s1 : State) : (settle s0 s1).sys.haltPend = s1.sys.haltPend :=
  settle_sys_eq SysSt.haltPend (fun _ _ _ => rfl) (by simp) (fun _ _ => rfl) (fun _ _ => rfl) s0 s1
@[simp] theorem settle_sys_haltActive (s0 s1 : State) : (settle s0 s1).sys.haltActive = s1.sys.haltActive :=
  settle_sys_eq SysSt.haltActive (fun _ _ _ => rfl) (by simp) (fun _ _ => rfl) (fun _ _ => rfl) s0 s1
@[simp] theorem settle_sys_mask (s0 s1 : State) : (settle s0 s1).sys.mask = s1.sys.mask :=
  settle_sys_eq SysSt.mask (fun _ _ _ => rfl) (by simp) (fun _ _ => rfl) (fun _ _ => rfl) s0 s1
@[simp] theorem settle_sys_badCrc (s0 s1 : State) : (settle s0 s1).sys.badCrc = s1.sys.badCrc :=
  settle_sys_eq SysSt.badCrc (fun _ _ _ => rfl) (by simp) (fun _ _ => rfl) (fun _ _ => rfl) s0 s1
@[simp] theorem settle_sys_aborts (s0 s1 : State) : (settle s0 s1).sys.aborts = s1.sys.aborts :=
  settle_sys_eq SysSt.aborts (fun _ _ _ => rfl) (by simp) (fun _ _ => rfl) (fun _ _ => rfl) s0 s1
@[simp] theorem settle_sys_stale (s0 s1 : State) : (settle s0 s1).sys.stale = s1.sys.stale :=
  settle_sys_eq SysSt.stale (fun _ _ _ => rfl) (by simp) (fun _ _ => rfl) (fun _ _ => rfl) s0 s1
@[simp] theorem settle_sys_denied (s0 s1 : State) : (settle s0 s1).sys.denied = s1.sys.denied :=
  settle_sys_eq SysSt.denied (fun _ _ _ => rfl) (by simp) (fun _ _ => rfl) (fun _ _ => rfl) s0 s1
@[simp] theorem settle_sys_ready (s0 s1 : State) : (settle s0 s1).sys.ready = s1.sys.ready :=
  settle_sys_eq SysSt.ready (fun _ _ _ => rfl) (by simp) (fun _ _ => rfl) (fun _ _ => rfl) s0 s1
@[simp] theorem settle_sys_gang (s0 s1 : State) : (settle s0 s1).sys.gang = s1.sys.gang :=
  settle_sys_eq SysSt.gang (fun _ _ _ => rfl) (by simp) (fun _ _ => rfl) (fun _ _ => rfl) s0 s1

/-- With no record waiting to be numbered the log stands as it is. -/
theorem LogSt.settle_of_fresh {g : LogSt} (h : g.fresh = 0) : g.settle = g := by
  cases g
  simp only at h
  subst h
  simp [LogSt.settle, inOrder]

/-! ### The form of every meaning -/

@[simp] theorem State.clearOut_twoLanes : s.clearOut.twoLanes = s.twoLanes := rfl
@[simp] theorem State.clearOut_pins : s.clearOut.pins = s.pins := rfl
@[simp] theorem State.clearOut_power : s.clearOut.power = s.power := rfl
@[simp] theorem State.clearOut_flash : s.clearOut.flash = s.flash := rfl
@[simp] theorem State.clearOut_ledger : s.clearOut.ledger = s.ledger := rfl
@[simp] theorem State.clearOut_shadow : s.clearOut.shadow = s.shadow := rfl
@[simp] theorem State.clearOut_clk : s.clearOut.clk = s.clk := rfl
@[simp] theorem State.clearOut_pwr : s.clearOut.pwr = s.pwr := rfl
@[simp] theorem State.clearOut_hist : s.clearOut.hist = s.hist := rfl
@[simp] theorem State.clearOut_mem : s.clearOut.mem = s.mem := rfl
@[simp] theorem State.clearOut_bank : s.clearOut.bank = s.bank := rfl
@[simp] theorem State.clearOut_tmr : s.clearOut.tmr = s.tmr := rfl
@[simp] theorem State.clearOut_hk : s.clearOut.hk = s.hk := rfl
@[simp] theorem State.clearOut_free : s.clearOut.free = s.free := rfl
@[simp] theorem State.clearOut_pending : s.clearOut.pending = s.pending := rfl
@[simp] theorem State.clearOut_sys : s.clearOut.sys = s.sys := rfl
@[simp] theorem State.clearOut_log : s.clearOut.log = s.log := rfl
@[simp] theorem State.clearOut_lux : s.clearOut.lux = { s.lux with bus := [] } := rfl
@[simp] theorem State.clearOut_laneA_mode : s.clearOut.laneA.mode = s.laneA.mode := rfl
@[simp] theorem State.clearOut_laneA_head : s.clearOut.laneA.head = s.laneA.head := rfl
@[simp] theorem State.clearOut_laneA_pix : s.clearOut.laneA.pix = s.laneA.pix := rfl
@[simp] theorem State.clearOut_laneA_cal : s.clearOut.laneA.cal = s.laneA.cal := rfl
@[simp] theorem State.clearOut_laneA_till : s.clearOut.laneA.till = s.laneA.till := rfl
@[simp] theorem State.clearOut_laneA_link : s.clearOut.laneA.link = s.laneA.link := rfl
@[simp] theorem State.clearOut_laneA_axis : s.clearOut.laneA.axis = s.laneA.axis := rfl
@[simp] theorem State.clearOut_laneA_arun : s.clearOut.laneA.arun = s.laneA.arun := rfl
@[simp] theorem State.clearOut_laneA_sets : s.clearOut.laneA.sets = s.laneA.sets := rfl
@[simp] theorem State.clearOut_laneA_next : s.clearOut.laneA.next = s.laneA.next := rfl
@[simp] theorem State.clearOut_laneA_exposing : s.clearOut.laneA.exposing = s.laneA.exposing := rfl
@[simp] theorem State.clearOut_laneA_reading : s.clearOut.laneA.reading = s.laneA.reading := rfl
@[simp] theorem State.clearOut_laneA_nextLine : s.clearOut.laneA.nextLine = s.laneA.nextLine := rfl
@[simp] theorem State.clearOut_laneA_sub : s.clearOut.laneA.sub = s.laneA.sub := rfl
@[simp] theorem State.clearOut_laneA_capture : s.clearOut.laneA.capture = s.laneA.capture := rfl
@[simp] theorem State.clearOut_laneA_afterSeam : s.clearOut.laneA.afterSeam = s.laneA.afterSeam := rfl
@[simp] theorem State.clearOut_laneA_afterGap : s.clearOut.laneA.afterGap = s.laneA.afterGap := rfl
@[simp] theorem State.clearOut_laneA_resumed : s.clearOut.laneA.resumed = s.laneA.resumed := rfl
@[simp] theorem State.clearOut_laneA_stopMask : s.clearOut.laneA.stopMask = s.laneA.stopMask := rfl
@[simp] theorem State.clearOut_laneA_group : s.clearOut.laneA.group = s.laneA.group := rfl
@[simp] theorem State.clearOut_laneA_owedSeams : s.clearOut.laneA.owedSeams = s.laneA.owedSeams := rfl
@[simp] theorem State.clearOut_laneA_lastNum : s.clearOut.laneA.lastNum = s.laneA.lastNum := rfl
@[simp] theorem State.clearOut_laneA_lrun : s.clearOut.laneA.lrun = { s.laneA.lrun with tx := [] } := rfl
@[simp] theorem State.clearOut_laneB_mode : s.clearOut.laneB.mode = s.laneB.mode := rfl
@[simp] theorem State.clearOut_laneB_head : s.clearOut.laneB.head = s.laneB.head := rfl
@[simp] theorem State.clearOut_laneB_pix : s.clearOut.laneB.pix = s.laneB.pix := rfl
@[simp] theorem State.clearOut_laneB_cal : s.clearOut.laneB.cal = s.laneB.cal := rfl
@[simp] theorem State.clearOut_laneB_till : s.clearOut.laneB.till = s.laneB.till := rfl
@[simp] theorem State.clearOut_laneB_link : s.clearOut.laneB.link = s.laneB.link := rfl
@[simp] theorem State.clearOut_laneB_axis : s.clearOut.laneB.axis = s.laneB.axis := rfl
@[simp] theorem State.clearOut_laneB_arun : s.clearOut.laneB.arun = s.laneB.arun := rfl
@[simp] theorem State.clearOut_laneB_sets : s.clearOut.laneB.sets = s.laneB.sets := rfl
@[simp] theorem State.clearOut_laneB_next : s.clearOut.laneB.next = s.laneB.next := rfl
@[simp] theorem State.clearOut_laneB_exposing : s.clearOut.laneB.exposing = s.laneB.exposing := rfl
@[simp] theorem State.clearOut_laneB_reading : s.clearOut.laneB.reading = s.laneB.reading := rfl
@[simp] theorem State.clearOut_laneB_nextLine : s.clearOut.laneB.nextLine = s.laneB.nextLine := rfl
@[simp] theorem State.clearOut_laneB_sub : s.clearOut.laneB.sub = s.laneB.sub := rfl
@[simp] theorem State.clearOut_laneB_capture : s.clearOut.laneB.capture = s.laneB.capture := rfl
@[simp] theorem State.clearOut_laneB_afterSeam : s.clearOut.laneB.afterSeam = s.laneB.afterSeam := rfl
@[simp] theorem State.clearOut_laneB_afterGap : s.clearOut.laneB.afterGap = s.laneB.afterGap := rfl
@[simp] theorem State.clearOut_laneB_resumed : s.clearOut.laneB.resumed = s.laneB.resumed := rfl
@[simp] theorem State.clearOut_laneB_stopMask : s.clearOut.laneB.stopMask = s.laneB.stopMask := rfl
@[simp] theorem State.clearOut_laneB_group : s.clearOut.laneB.group = s.laneB.group := rfl
@[simp] theorem State.clearOut_laneB_owedSeams : s.clearOut.laneB.owedSeams = s.laneB.owedSeams := rfl
@[simp] theorem State.clearOut_laneB_lastNum : s.clearOut.laneB.lastNum = s.laneB.lastNum := rfl
@[simp] theorem State.clearOut_laneB_lrun : s.clearOut.laneB.lrun = { s.laneB.lrun with tx := [] } := rfl

end Sys2Proof.Machine
end

