-- ==== Sys2Proof/Laws/Frame.lean ====
section
/-!
SUPPORT. The settling after a command within the frames of Safety.lean: a lane but for its link's frames, SYS
but for what every cycle settles.
-/

namespace Sys2Proof.Machine

theorem settleStatus_bare (l : Lane) (s : State) :
    (settleStatus s l).laneA.bare = s.laneA.bare ∧ (settleStatus s l).laneB.bare = s.laneB.bare :=
  ⟨settleStatus_eq (fun s => s.laneA.bare) l s (by cases l <;> rfl),
    settleStatus_eq (fun s => s.laneB.bare) l s (by cases l <;> rfl)⟩

theorem settleEpochs_bare (s0 s1 : State) :
    (settleEpochs s0 s1).laneA.bare = s1.laneA.bare ∧ (settleEpochs s0 s1).laneB.bare = s1.laneB.bare := by
  constructor <;> simp only [settleEpochs, State.modLrun_b_laneA, State.modLrun_b_laneB, State.modLrun_a_laneA,
    State.modLrun_a_laneB, State.modSys_laneA, State.modSys_laneB] <;> split <;> rfl

/-- The settling leaves a lane as the command left it, but for its link's frames. -/
@[simp] theorem settle_laneA_bare (s0 s1 : State) : (settle s0 s1).laneA.bare = s1.laneA.bare := by
  show (settlePins (settleEvents s0 (settleStatus (settleStatus (settleEpochs s0 (settleRead s0 (s1.modLog LogSt.settle))) .a) .b))).laneA.bare = _
  unfold settlePins
  rw [State.modSys_laneA, settleEvents_eq (fun s => s.laneA.bare) (by simp), (settleStatus_bare .b _).1,
    (settleStatus_bare .a _).1, (settleEpochs_bare _ _).1, settleRead_eq (fun s => s.laneA.bare) (by simp)]
  simp

@[simp] theorem settle_laneB_bare (s0 s1 : State) : (settle s0 s1).laneB.bare = s1.laneB.bare := by
  show (settlePins (settleEvents s0 (settleStatus (settleStatus (settleEpochs s0 (settleRead s0 (s1.modLog LogSt.settle))) .a) .b))).laneB.bare = _
  unfold settlePins
  rw [State.modSys_laneB, settleEvents_eq (fun s => s.laneB.bare) (by simp), (settleStatus_bare .b _).2,
    (settleStatus_bare .a _).2, (settleEpochs_bare _ _).2, settleRead_eq (fun s => s.laneB.bare) (by simp)]
  simp

theorem State.event_bare (s : State) (b : Nat) : (s.event b).sys.bare = s.sys.bare := by
  unfold State.event; split <;> rfl

/-- The settling leaves SYS as the command left it, but for what every cycle settles. -/
@[simp] theorem settle_sys_bare (s0 s1 : State) : (settle s0 s1).sys.bare = s1.sys.bare :=
  settle_sys_eq SysSt.bare (fun _ _ _ => rfl) State.event_bare (fun _ _ => rfl) (fun _ _ => rfl) s0 s1

end Sys2Proof.Machine
end

