-- ==== Sys2Proof/Laws/After.lean ====
section
/-!
SUPPORT. What a command leaves: the state after its effect, field by field, and its frame.
-/

namespace Sys2Proof.Machine

variable (s s1 : State)

theorem perform_after (f : State → State) : perform s f = .next (s.after (f s.clearOut)) := rfl

@[simp] theorem after_twoLanes : (s.after s1).twoLanes = s.twoLanes := by simp only [State.after]
@[simp] theorem after_pins : (s.after s1).pins = s1.pins := by unfold State.after; exact settle_pins _ _
@[simp] theorem after_pending : (s.after s1).pending = s.pending := by simp only [State.after]
@[simp] theorem after_power : (s.after s1).power = s1.power := by unfold State.after; exact settle_power _ _
@[simp] theorem after_flash : (s.after s1).flash = s1.flash := by unfold State.after; exact settle_flash _ _
@[simp] theorem after_ledger : (s.after s1).ledger = s1.ledger := by unfold State.after; exact settle_ledger _ _
@[simp] theorem after_shadow : (s.after s1).shadow = s1.shadow := by unfold State.after; exact settle_shadow _ _
@[simp] theorem after_clk : (s.after s1).clk = s1.clk := by unfold State.after; exact settle_clk _ _
@[simp] theorem after_pwr : (s.after s1).pwr = s1.pwr := by unfold State.after; exact settle_pwr _ _
@[simp] theorem after_hist : (s.after s1).hist = s1.hist := by unfold State.after; exact settle_hist _ _
@[simp] theorem after_mem : (s.after s1).mem = s1.mem := by unfold State.after; exact settle_mem _ _
@[simp] theorem after_bank : (s.after s1).bank = s1.bank := by unfold State.after; exact settle_bank _ _
@[simp] theorem after_tmr : (s.after s1).tmr = s1.tmr := by unfold State.after; exact settle_tmr _ _
@[simp] theorem after_hk : (s.after s1).hk = s1.hk := by unfold State.after; exact settle_hk _ _
@[simp] theorem after_lux : (s.after s1).lux = s1.lux := by unfold State.after; exact settle_lux _ _
@[simp] theorem after_free : (s.after s1).free = s1.free := by unfold State.after; exact settle_free _ _
@[simp] theorem after_log : (s.after s1).log = s1.log.settle := by unfold State.after; exact settle_log _ _
@[simp] theorem after_sys_bare : (s.after s1).sys.bare = s1.sys.bare := by unfold State.after; exact settle_sys_bare _ _
@[simp] theorem after_sys_safe : (s.after s1).sys.safe = s1.sys.safe := by have h := congrArg SysSt.safe (after_sys_bare s s1); exact h
@[simp] theorem after_sys_service : (s.after s1).sys.service = s1.sys.service := by have h := congrArg SysSt.service (after_sys_bare s s1); exact h
@[simp] theorem after_sys_serviceEnd : (s.after s1).sys.serviceEnd = s1.sys.serviceEnd := by have h := congrArg SysSt.serviceEnd (after_sys_bare s s1); exact h
@[simp] theorem after_sys_haltReq : (s.after s1).sys.haltReq = s1.sys.haltReq := by have h := congrArg SysSt.haltReq (after_sys_bare s s1); exact h
@[simp] theorem after_sys_haltPend : (s.after s1).sys.haltPend = s1.sys.haltPend := by have h := congrArg SysSt.haltPend (after_sys_bare s s1); exact h
@[simp] theorem after_sys_haltActive : (s.after s1).sys.haltActive = s1.sys.haltActive := by have h := congrArg SysSt.haltActive (after_sys_bare s s1); exact h
@[simp] theorem after_sys_mask : (s.after s1).sys.mask = s1.sys.mask := by have h := congrArg SysSt.mask (after_sys_bare s s1); exact h
@[simp] theorem after_sys_badCrc : (s.after s1).sys.badCrc = s1.sys.badCrc := by have h := congrArg SysSt.badCrc (after_sys_bare s s1); exact h
@[simp] theorem after_sys_aborts : (s.after s1).sys.aborts = s1.sys.aborts := by have h := congrArg SysSt.aborts (after_sys_bare s s1); exact h
@[simp] theorem after_sys_stale : (s.after s1).sys.stale = s1.sys.stale := by have h := congrArg SysSt.stale (after_sys_bare s s1); exact h
@[simp] theorem after_sys_denied : (s.after s1).sys.denied = s1.sys.denied := by have h := congrArg SysSt.denied (after_sys_bare s s1); exact h
@[simp] theorem after_sys_ready : (s.after s1).sys.ready = s1.sys.ready := by have h := congrArg SysSt.ready (after_sys_bare s s1); exact h
@[simp] theorem after_sys_gang : (s.after s1).sys.gang = s1.sys.gang := by have h := congrArg SysSt.gang (after_sys_bare s s1); exact h
@[simp] theorem after_laneA_bare : (s.after s1).laneA.bare = s1.laneA.bare := by unfold State.after; exact settle_laneA_bare _ _
@[simp] theorem after_laneB_bare : (s.after s1).laneB.bare = s1.laneB.bare := by unfold State.after; exact settle_laneB_bare _ _
@[simp] theorem after_lane_bare (l : Lane) : ((s.after s1).lane l).bare = (s1.lane l).bare := by cases l <;> simp [State.lane]
@[simp] theorem after_lane_mode (l : Lane) : ((s.after s1).lane l).mode = (s1.lane l).mode := by have h := congrArg LaneSt.mode (after_lane_bare s s1 l); exact h
@[simp] theorem after_laneA_mode : (s.after s1).laneA.mode = s1.laneA.mode := by have h := congrArg LaneSt.mode (after_laneA_bare s s1); exact h
@[simp] theorem after_laneB_mode : (s.after s1).laneB.mode = s1.laneB.mode := by have h := congrArg LaneSt.mode (after_laneB_bare s s1); exact h
@[simp] theorem after_lane_head (l : Lane) : ((s.after s1).lane l).head = (s1.lane l).head := by have h := congrArg LaneSt.head (after_lane_bare s s1 l); exact h
@[simp] theorem after_laneA_head : (s.after s1).laneA.head = s1.laneA.head := by have h := congrArg LaneSt.head (after_laneA_bare s s1); exact h
@[simp] theorem after_laneB_head : (s.after s1).laneB.head = s1.laneB.head := by have h := congrArg LaneSt.head (after_laneB_bare s s1); exact h
@[simp] theorem after_lane_pix (l : Lane) : ((s.after s1).lane l).pix = (s1.lane l).pix := by have h := congrArg LaneSt.pix (after_lane_bare s s1 l); exact h
@[simp] theorem after_laneA_pix : (s.after s1).laneA.pix = s1.laneA.pix := by have h := congrArg LaneSt.pix (after_laneA_bare s s1); exact h
@[simp] theorem after_laneB_pix : (s.after s1).laneB.pix = s1.laneB.pix := by have h := congrArg LaneSt.pix (after_laneB_bare s s1); exact h
@[simp] theorem after_lane_cal (l : Lane) : ((s.after s1).lane l).cal = (s1.lane l).cal := by have h := congrArg LaneSt.cal (after_lane_bare s s1 l); exact h
@[simp] theorem after_laneA_cal : (s.after s1).laneA.cal = s1.laneA.cal := by have h := congrArg LaneSt.cal (after_laneA_bare s s1); exact h
@[simp] theorem after_laneB_cal : (s.after s1).laneB.cal = s1.laneB.cal := by have h := congrArg LaneSt.cal (after_laneB_bare s s1); exact h
@[simp] theorem after_lane_till (l : Lane) : ((s.after s1).lane l).till = (s1.lane l).till := by have h := congrArg LaneSt.till (after_lane_bare s s1 l); exact h
@[simp] theorem after_laneA_till : (s.after s1).laneA.till = s1.laneA.till := by have h := congrArg LaneSt.till (after_laneA_bare s s1); exact h
@[simp] theorem after_laneB_till : (s.after s1).laneB.till = s1.laneB.till := by have h := congrArg LaneSt.till (after_laneB_bare s s1); exact h
@[simp] theorem after_lane_link (l : Lane) : ((s.after s1).lane l).link = (s1.lane l).link := by have h := congrArg LaneSt.link (after_lane_bare s s1 l); exact h
@[simp] theorem after_laneA_link : (s.after s1).laneA.link = s1.laneA.link := by have h := congrArg LaneSt.link (after_laneA_bare s s1); exact h
@[simp] theorem after_laneB_link : (s.after s1).laneB.link = s1.laneB.link := by have h := congrArg LaneSt.link (after_laneB_bare s s1); exact h
@[simp] theorem after_lane_axis (l : Lane) : ((s.after s1).lane l).axis = (s1.lane l).axis := by have h := congrArg LaneSt.axis (after_lane_bare s s1 l); exact h
@[simp] theorem after_laneA_axis : (s.after s1).laneA.axis = s1.laneA.axis := by have h := congrArg LaneSt.axis (after_laneA_bare s s1); exact h
@[simp] theorem after_laneB_axis : (s.after s1).laneB.axis = s1.laneB.axis := by have h := congrArg LaneSt.axis (after_laneB_bare s s1); exact h
@[simp] theorem after_lane_arun (l : Lane) : ((s.after s1).lane l).arun = (s1.lane l).arun := by have h := congrArg LaneSt.arun (after_lane_bare s s1 l); exact h
@[simp] theorem after_laneA_arun : (s.after s1).laneA.arun = s1.laneA.arun := by have h := congrArg LaneSt.arun (after_laneA_bare s s1); exact h
@[simp] theorem after_laneB_arun : (s.after s1).laneB.arun = s1.laneB.arun := by have h := congrArg LaneSt.arun (after_laneB_bare s s1); exact h
@[simp] theorem after_lane_sets (l : Lane) : ((s.after s1).lane l).sets = (s1.lane l).sets := by have h := congrArg LaneSt.sets (after_lane_bare s s1 l); exact h
@[simp] theorem after_laneA_sets : (s.after s1).laneA.sets = s1.laneA.sets := by have h := congrArg LaneSt.sets (after_laneA_bare s s1); exact h
@[simp] theorem after_laneB_sets : (s.after s1).laneB.sets = s1.laneB.sets := by have h := congrArg LaneSt.sets (after_laneB_bare s s1); exact h
@[simp] theorem after_lane_next (l : Lane) : ((s.after s1).lane l).next = (s1.lane l).next := by have h := congrArg LaneSt.next (after_lane_bare s s1 l); exact h
@[simp] theorem after_laneA_next : (s.after s1).laneA.next = s1.laneA.next := by have h := congrArg LaneSt.next (after_laneA_bare s s1); exact h
@[simp] theorem after_laneB_next : (s.after s1).laneB.next = s1.laneB.next := by have h := congrArg LaneSt.next (after_laneB_bare s s1); exact h
@[simp] theorem after_lane_exposing (l : Lane) : ((s.after s1).lane l).exposing = (s1.lane l).exposing := by have h := congrArg LaneSt.exposing (after_lane_bare s s1 l); exact h
@[simp] theorem after_laneA_exposing : (s.after s1).laneA.exposing = s1.laneA.exposing := by have h := congrArg LaneSt.exposing (after_laneA_bare s s1); exact h
@[simp] theorem after_laneB_exposing : (s.after s1).laneB.exposing = s1.laneB.exposing := by have h := congrArg LaneSt.exposing (after_laneB_bare s s1); exact h
@[simp] theorem after_lane_reading (l : Lane) : ((s.after s1).lane l).reading = (s1.lane l).reading := by have h := congrArg LaneSt.reading (after_lane_bare s s1 l); exact h
@[simp] theorem after_laneA_reading : (s.after s1).laneA.reading = s1.laneA.reading := by have h := congrArg LaneSt.reading (after_laneA_bare s s1); exact h
@[simp] theorem after_laneB_reading : (s.after s1).laneB.reading = s1.laneB.reading := by have h := congrArg LaneSt.reading (after_laneB_bare s s1); exact h
@[simp] theorem after_lane_nextLine (l : Lane) : ((s.after s1).lane l).nextLine = (s1.lane l).nextLine := by have h := congrArg LaneSt.nextLine (after_lane_bare s s1 l); exact h
@[simp] theorem after_laneA_nextLine : (s.after s1).laneA.nextLine = s1.laneA.nextLine := by have h := congrArg LaneSt.nextLine (after_laneA_bare s s1); exact h
@[simp] theorem after_laneB_nextLine : (s.after s1).laneB.nextLine = s1.laneB.nextLine := by have h := congrArg LaneSt.nextLine (after_laneB_bare s s1); exact h
@[simp] theorem after_lane_sub (l : Lane) : ((s.after s1).lane l).sub = (s1.lane l).sub := by have h := congrArg LaneSt.sub (after_lane_bare s s1 l); exact h
@[simp] theorem after_laneA_sub : (s.after s1).laneA.sub = s1.laneA.sub := by have h := congrArg LaneSt.sub (after_laneA_bare s s1); exact h
@[simp] theorem after_laneB_sub : (s.after s1).laneB.sub = s1.laneB.sub := by have h := congrArg LaneSt.sub (after_laneB_bare s s1); exact h
@[simp] theorem after_lane_capture (l : Lane) : ((s.after s1).lane l).capture = (s1.lane l).capture := by have h := congrArg LaneSt.capture (after_lane_bare s s1 l); exact h
@[simp] theorem after_laneA_capture : (s.after s1).laneA.capture = s1.laneA.capture := by have h := congrArg LaneSt.capture (after_laneA_bare s s1); exact h
@[simp] theorem after_laneB_capture : (s.after s1).laneB.capture = s1.laneB.capture := by have h := congrArg LaneSt.capture (after_laneB_bare s s1); exact h
@[simp] theorem after_lane_afterSeam (l : Lane) : ((s.after s1).lane l).afterSeam = (s1.lane l).afterSeam := by have h := congrArg LaneSt.afterSeam (after_lane_bare s s1 l); exact h
@[simp] theorem after_laneA_afterSeam : (s.after s1).laneA.afterSeam = s1.laneA.afterSeam := by have h := congrArg LaneSt.afterSeam (after_laneA_bare s s1); exact h
@[simp] theorem after_laneB_afterSeam : (s.after s1).laneB.afterSeam = s1.laneB.afterSeam := by have h := congrArg LaneSt.afterSeam (after_laneB_bare s s1); exact h
@[simp] theorem after_lane_afterGap (l : Lane) : ((s.after s1).lane l).afterGap = (s1.lane l).afterGap := by have h := congrArg LaneSt.afterGap (after_lane_bare s s1 l); exact h
@[simp] theorem after_laneA_afterGap : (s.after s1).laneA.afterGap = s1.laneA.afterGap := by have h := congrArg LaneSt.afterGap (after_laneA_bare s s1); exact h
@[simp] theorem after_laneB_afterGap : (s.after s1).laneB.afterGap = s1.laneB.afterGap := by have h := congrArg LaneSt.afterGap (after_laneB_bare s s1); exact h
@[simp] theorem after_lane_resumed (l : Lane) : ((s.after s1).lane l).resumed = (s1.lane l).resumed := by have h := congrArg LaneSt.resumed (after_lane_bare s s1 l); exact h
@[simp] theorem after_laneA_resumed : (s.after s1).laneA.resumed = s1.laneA.resumed := by have h := congrArg LaneSt.resumed (after_laneA_bare s s1); exact h
@[simp] theorem after_laneB_resumed : (s.after s1).laneB.resumed = s1.laneB.resumed := by have h := congrArg LaneSt.resumed (after_laneB_bare s s1); exact h
@[simp] theorem after_lane_stopMask (l : Lane) : ((s.after s1).lane l).stopMask = (s1.lane l).stopMask := by have h := congrArg LaneSt.stopMask (after_lane_bare s s1 l); exact h
@[simp] theorem after_laneA_stopMask : (s.after s1).laneA.stopMask = s1.laneA.stopMask := by have h := congrArg LaneSt.stopMask (after_laneA_bare s s1); exact h
@[simp] theorem after_laneB_stopMask : (s.after s1).laneB.stopMask = s1.laneB.stopMask := by have h := congrArg LaneSt.stopMask (after_laneB_bare s s1); exact h
@[simp] theorem after_lane_group (l : Lane) : ((s.after s1).lane l).group = (s1.lane l).group := by have h := congrArg LaneSt.group (after_lane_bare s s1 l); exact h
@[simp] theorem after_laneA_group : (s.after s1).laneA.group = s1.laneA.group := by have h := congrArg LaneSt.group (after_laneA_bare s s1); exact h
@[simp] theorem after_laneB_group : (s.after s1).laneB.group = s1.laneB.group := by have h := congrArg LaneSt.group (after_laneB_bare s s1); exact h
@[simp] theorem after_lane_owedSeams (l : Lane) : ((s.after s1).lane l).owedSeams = (s1.lane l).owedSeams := by have h := congrArg LaneSt.owedSeams (after_lane_bare s s1 l); exact h
@[simp] theorem after_laneA_owedSeams : (s.after s1).laneA.owedSeams = s1.laneA.owedSeams := by have h := congrArg LaneSt.owedSeams (after_laneA_bare s s1); exact h
@[simp] theorem after_laneB_owedSeams : (s.after s1).laneB.owedSeams = s1.laneB.owedSeams := by have h := congrArg LaneSt.owedSeams (after_laneB_bare s s1); exact h
@[simp] theorem after_lane_lastNum (l : Lane) : ((s.after s1).lane l).lastNum = (s1.lane l).lastNum := by have h := congrArg LaneSt.lastNum (after_lane_bare s s1 l); exact h
@[simp] theorem after_laneA_lastNum : (s.after s1).laneA.lastNum = s1.laneA.lastNum := by have h := congrArg LaneSt.lastNum (after_laneA_bare s s1); exact h
@[simp] theorem after_laneB_lastNum : (s.after s1).laneB.lastNum = s1.laneB.lastNum := by have h := congrArg LaneSt.lastNum (after_laneB_bare s s1); exact h
@[simp] theorem after_lane_lrun_opened (l : Lane) : ((s.after s1).lane l).lrun.opened = (s1.lane l).lrun.opened :=
  by have h := congrArg (fun x : LaneSt => x.lrun.opened) (after_lane_bare s s1 l); exact h
@[simp] theorem after_lane_lrun_txq (l : Lane) : ((s.after s1).lane l).lrun.txq = (s1.lane l).lrun.txq :=
  by have h := congrArg (fun x : LaneSt => x.lrun.txq) (after_lane_bare s s1 l); exact h
@[simp] theorem after_lane_lrun_openLine (l : Lane) : ((s.after s1).lane l).lrun.openLine = (s1.lane l).lrun.openLine :=
  by have h := congrArg (fun x : LaneSt => x.lrun.openLine) (after_lane_bare s s1 l); exact h
@[simp] theorem after_lane_lrun_complete (l : Lane) : ((s.after s1).lane l).lrun.complete = (s1.lane l).lrun.complete :=
  by have h := congrArg (fun x : LaneSt => x.lrun.complete) (after_lane_bare s s1 l); exact h
@[simp] theorem after_lane_lrun_lastEnd (l : Lane) : ((s.after s1).lane l).lrun.lastEnd = (s1.lane l).lrun.lastEnd :=
  by have h := congrArg (fun x : LaneSt => x.lrun.lastEnd) (after_lane_bare s s1 l); exact h
@[simp] theorem after_lane_lrun_badCount (l : Lane) : ((s.after s1).lane l).lrun.badCount = (s1.lane l).lrun.badCount :=
  by have h := congrArg (fun x : LaneSt => x.lrun.badCount) (after_lane_bare s s1 l); exact h
@[simp] theorem after_lane_lrun_discCount (l : Lane) : ((s.after s1).lane l).lrun.discCount = (s1.lane l).lrun.discCount :=
  by have h := congrArg (fun x : LaneSt => x.lrun.discCount) (after_lane_bare s s1 l); exact h
@[simp] theorem after_lane_lrun_magEpoch (l : Lane) : ((s.after s1).lane l).lrun.magEpoch = (s1.lane l).lrun.magEpoch :=
  by have h := congrArg (fun x : LaneSt => x.lrun.magEpoch) (after_lane_bare s s1 l); exact h
@[simp] theorem after_lane_lrun_gotStatus (l : Lane) : ((s.after s1).lane l).lrun.gotStatus = (s1.lane l).lrun.gotStatus :=
  by have h := congrArg (fun x : LaneSt => x.lrun.gotStatus) (after_lane_bare s s1 l); exact h
@[simp] theorem after_lane_lrun_ts1 (l : Lane) : ((s.after s1).lane l).lrun.ts1 = (s1.lane l).lrun.ts1 :=
  by have h := congrArg (fun x : LaneSt => x.lrun.ts1) (after_lane_bare s s1 l); exact h
@[simp] theorem after_lane_lrun_ts2 (l : Lane) : ((s.after s1).lane l).lrun.ts2 = (s1.lane l).lrun.ts2 :=
  by have h := congrArg (fun x : LaneSt => x.lrun.ts2) (after_lane_bare s s1 l); exact h
@[simp] theorem after_lane_lrun_lastTs2 (l : Lane) : ((s.after s1).lane l).lrun.lastTs2 = (s1.lane l).lrun.lastTs2 :=
  by have h := congrArg (fun x : LaneSt => x.lrun.lastTs2) (after_lane_bare s s1 l); exact h
@[simp] theorem after_lane_lrun_waiting (l : Lane) : ((s.after s1).lane l).lrun.waiting = (s1.lane l).lrun.waiting :=
  by have h := congrArg (fun x : LaneSt => x.lrun.waiting) (after_lane_bare s s1 l); exact h
@[simp] theorem after_lane_lrun_protoRec (l : Lane) : ((s.after s1).lane l).lrun.protoRec = (s1.lane l).lrun.protoRec :=
  by have h := congrArg (fun x : LaneSt => x.lrun.protoRec) (after_lane_bare s s1 l); exact h
@[simp] theorem after_lane_lrun_badRec (l : Lane) : ((s.after s1).lane l).lrun.badRec = (s1.lane l).lrun.badRec :=
  by have h := congrArg (fun x : LaneSt => x.lrun.badRec) (after_lane_bare s s1 l); exact h
@[simp] theorem after_lane_lrun_lost (l : Lane) : ((s.after s1).lane l).lrun.lost = (s1.lane l).lrun.lost :=
  by have h := congrArg (fun x : LaneSt => x.lrun.lost) (after_lane_bare s s1 l); exact h
@[simp] theorem after_lane_lrun_owed (l : Lane) : ((s.after s1).lane l).lrun.owed = (s1.lane l).lrun.owed :=
  by have h := congrArg (fun x : LaneSt => x.lrun.owed) (after_lane_bare s s1 l); exact h
@[simp] theorem after_lane_lrun_ending (l : Lane) : ((s.after s1).lane l).lrun.ending = (s1.lane l).lrun.ending :=
  by have h := congrArg (fun x : LaneSt => x.lrun.ending) (after_lane_bare s s1 l); exact h
@[simp] theorem after_lane_lrun_syncDue (l : Lane) : ((s.after s1).lane l).lrun.syncDue = (s1.lane l).lrun.syncDue :=
  by have h := congrArg (fun x : LaneSt => x.lrun.syncDue) (after_lane_bare s s1 l); exact h
@[simp] theorem after_lane_lrun_ptrDue (l : Lane) : ((s.after s1).lane l).lrun.ptrDue = (s1.lane l).lrun.ptrDue :=
  by have h := congrArg (fun x : LaneSt => x.lrun.ptrDue) (after_lane_bare s s1 l); exact h
@[simp] theorem after_lane_lrun_seamN (l : Lane) : ((s.after s1).lane l).lrun.seamN = (s1.lane l).lrun.seamN :=
  by have h := congrArg (fun x : LaneSt => x.lrun.seamN) (after_lane_bare s s1 l); exact h
@[simp] theorem after_lane_lrun_abandonN (l : Lane) : ((s.after s1).lane l).lrun.abandonN = (s1.lane l).lrun.abandonN :=
  by have h := congrArg (fun x : LaneSt => x.lrun.abandonN) (after_lane_bare s s1 l); exact h
@[simp] theorem after_lane_lrun_kLock (l : Lane) : ((s.after s1).lane l).lrun.kLock = (s1.lane l).lrun.kLock :=
  by have h := congrArg (fun x : LaneSt => x.lrun.kLock) (after_lane_bare s s1 l); exact h
@[simp] theorem after_lane_lrun_kBad (l : Lane) : ((s.after s1).lane l).lrun.kBad = (s1.lane l).lrun.kBad :=
  by have h := congrArg (fun x : LaneSt => x.lrun.kBad) (after_lane_bare s s1 l); exact h

/-- What the previous command left on the wires is all that a command's first state lacks. -/
@[simp] theorem clearOut_lane_bare (l : Lane) : (s.clearOut.lane l).bare = (s.lane l).bare := by cases l <;> rfl

@[simp] theorem clearOut_lane_mode (l : Lane) : (s.clearOut.lane l).mode = (s.lane l).mode := by cases l <;> rfl
@[simp] theorem clearOut_lane_head (l : Lane) : (s.clearOut.lane l).head = (s.lane l).head := by cases l <;> rfl
@[simp] theorem clearOut_lane_pix (l : Lane) : (s.clearOut.lane l).pix = (s.lane l).pix := by cases l <;> rfl
@[simp] theorem clearOut_lane_cal (l : Lane) : (s.clearOut.lane l).cal = (s.lane l).cal := by cases l <;> rfl
@[simp] theorem clearOut_lane_till (l : Lane) : (s.clearOut.lane l).till = (s.lane l).till := by cases l <;> rfl
@[simp] theorem clearOut_lane_link (l : Lane) : (s.clearOut.lane l).link = (s.lane l).link := by cases l <;> rfl
@[simp] theorem clearOut_lane_axis (l : Lane) : (s.clearOut.lane l).axis = (s.lane l).axis := by cases l <;> rfl
@[simp] theorem clearOut_lane_arun (l : Lane) : (s.clearOut.lane l).arun = (s.lane l).arun := by cases l <;> rfl
@[simp] theorem clearOut_lane_sets (l : Lane) : (s.clearOut.lane l).sets = (s.lane l).sets := by cases l <;> rfl
@[simp] theorem clearOut_lane_next (l : Lane) : (s.clearOut.lane l).next = (s.lane l).next := by cases l <;> rfl
@[simp] theorem clearOut_lane_exposing (l : Lane) : (s.clearOut.lane l).exposing = (s.lane l).exposing := by cases l <;> rfl
@[simp] theorem clearOut_lane_reading (l : Lane) : (s.clearOut.lane l).reading = (s.lane l).reading := by cases l <;> rfl
@[simp] theorem clearOut_lane_nextLine (l : Lane) : (s.clearOut.lane l).nextLine = (s.lane l).nextLine := by cases l <;> rfl
@[simp] theorem clearOut_lane_sub (l : Lane) : (s.clearOut.lane l).sub = (s.lane l).sub := by cases l <;> rfl
@[simp] theorem clearOut_lane_capture (l : Lane) : (s.clearOut.lane l).capture = (s.lane l).capture := by cases l <;> rfl
@[simp] theorem clearOut_lane_afterSeam (l : Lane) : (s.clearOut.lane l).afterSeam = (s.lane l).afterSeam := by cases l <;> rfl
@[simp] theorem clearOut_lane_afterGap (l : Lane) : (s.clearOut.lane l).afterGap = (s.lane l).afterGap := by cases l <;> rfl
@[simp] theorem clearOut_lane_resumed (l : Lane) : (s.clearOut.lane l).resumed = (s.lane l).resumed := by cases l <;> rfl
@[simp] theorem clearOut_lane_stopMask (l : Lane) : (s.clearOut.lane l).stopMask = (s.lane l).stopMask := by cases l <;> rfl
@[simp] theorem clearOut_lane_group (l : Lane) : (s.clearOut.lane l).group = (s.lane l).group := by cases l <;> rfl
@[simp] theorem clearOut_lane_owedSeams (l : Lane) : (s.clearOut.lane l).owedSeams = (s.lane l).owedSeams := by cases l <;> rfl
@[simp] theorem clearOut_lane_lastNum (l : Lane) : (s.clearOut.lane l).lastNum = (s.lane l).lastNum := by cases l <;> rfl
@[simp] theorem clearOut_lane_lrun_opened (l : Lane) : (s.clearOut.lane l).lrun.opened = (s.lane l).lrun.opened := by cases l <;> rfl
@[simp] theorem clearOut_lane_lrun_txq (l : Lane) : (s.clearOut.lane l).lrun.txq = (s.lane l).lrun.txq := by cases l <;> rfl
@[simp] theorem clearOut_lane_lrun_openLine (l : Lane) : (s.clearOut.lane l).lrun.openLine = (s.lane l).lrun.openLine := by cases l <;> rfl
@[simp] theorem clearOut_lane_lrun_complete (l : Lane) : (s.clearOut.lane l).lrun.complete = (s.lane l).lrun.complete := by cases l <;> rfl
@[simp] theorem clearOut_lane_lrun_lastEnd (l : Lane) : (s.clearOut.lane l).lrun.lastEnd = (s.lane l).lrun.lastEnd := by cases l <;> rfl
@[simp] theorem clearOut_lane_lrun_badCount (l : Lane) : (s.clearOut.lane l).lrun.badCount = (s.lane l).lrun.badCount := by cases l <;> rfl
@[simp] theorem clearOut_lane_lrun_discCount (l : Lane) : (s.clearOut.lane l).lrun.discCount = (s.lane l).lrun.discCount := by cases l <;> rfl
@[simp] theorem clearOut_lane_lrun_magEpoch (l : Lane) : (s.clearOut.lane l).lrun.magEpoch = (s.lane l).lrun.magEpoch := by cases l <;> rfl
@[simp] theorem clearOut_lane_lrun_gotStatus (l : Lane) : (s.clearOut.lane l).lrun.gotStatus = (s.lane l).lrun.gotStatus := by cases l <;> rfl
@[simp] theorem clearOut_lane_lrun_ts1 (l : Lane) : (s.clearOut.lane l).lrun.ts1 = (s.lane l).lrun.ts1 := by cases l <;> rfl
@[simp] theorem clearOut_lane_lrun_ts2 (l : Lane) : (s.clearOut.lane l).lrun.ts2 = (s.lane l).lrun.ts2 := by cases l <;> rfl
@[simp] theorem clearOut_lane_lrun_lastTs2 (l : Lane) : (s.clearOut.lane l).lrun.lastTs2 = (s.lane l).lrun.lastTs2 := by cases l <;> rfl
@[simp] theorem clearOut_lane_lrun_waiting (l : Lane) : (s.clearOut.lane l).lrun.waiting = (s.lane l).lrun.waiting := by cases l <;> rfl
@[simp] theorem clearOut_lane_lrun_protoRec (l : Lane) : (s.clearOut.lane l).lrun.protoRec = (s.lane l).lrun.protoRec := by cases l <;> rfl
@[simp] theorem clearOut_lane_lrun_badRec (l : Lane) : (s.clearOut.lane l).lrun.badRec = (s.lane l).lrun.badRec := by cases l <;> rfl
@[simp] theorem clearOut_lane_lrun_lost (l : Lane) : (s.clearOut.lane l).lrun.lost = (s.lane l).lrun.lost := by cases l <;> rfl
@[simp] theorem clearOut_lane_lrun_owed (l : Lane) : (s.clearOut.lane l).lrun.owed = (s.lane l).lrun.owed := by cases l <;> rfl
@[simp] theorem clearOut_lane_lrun_ending (l : Lane) : (s.clearOut.lane l).lrun.ending = (s.lane l).lrun.ending := by cases l <;> rfl
@[simp] theorem clearOut_lane_lrun_syncDue (l : Lane) : (s.clearOut.lane l).lrun.syncDue = (s.lane l).lrun.syncDue := by cases l <;> rfl
@[simp] theorem clearOut_lane_lrun_ptrDue (l : Lane) : (s.clearOut.lane l).lrun.ptrDue = (s.lane l).lrun.ptrDue := by cases l <;> rfl
@[simp] theorem clearOut_lane_lrun_seqNo (l : Lane) : (s.clearOut.lane l).lrun.seqNo = (s.lane l).lrun.seqNo := by cases l <;> rfl
@[simp] theorem clearOut_lane_lrun_statusDue (l : Lane) : (s.clearOut.lane l).lrun.statusDue = (s.lane l).lrun.statusDue := by cases l <;> rfl
@[simp] theorem clearOut_lane_lrun_told (l : Lane) : (s.clearOut.lane l).lrun.told = (s.lane l).lrun.told := by cases l <;> rfl
@[simp] theorem clearOut_lane_lrun_seamN (l : Lane) : (s.clearOut.lane l).lrun.seamN = (s.lane l).lrun.seamN := by cases l <;> rfl
@[simp] theorem clearOut_lane_lrun_abandonN (l : Lane) : (s.clearOut.lane l).lrun.abandonN = (s.lane l).lrun.abandonN := by cases l <;> rfl
@[simp] theorem clearOut_lane_lrun_kLock (l : Lane) : (s.clearOut.lane l).lrun.kLock = (s.lane l).lrun.kLock := by cases l <;> rfl
@[simp] theorem clearOut_lane_lrun_kBad (l : Lane) : (s.clearOut.lane l).lrun.kBad = (s.lane l).lrun.kBad := by cases l <;> rfl
@[simp] theorem clearOut_lane_lrun_statusTsc (l : Lane) : (s.clearOut.lane l).lrun.statusTsc = (s.lane l).lrun.statusTsc := by cases l <;> rfl
@[simp] theorem clearOut_lane_lrun_tx (l : Lane) : (s.clearOut.lane l).lrun.tx = [] := by cases l <;> rfl

/-- A part that a command's effect leaves alone reads after the command as before it. -/
theorem Part.same_after {s s1 : State} {p : Part} (hp : Part.same s.clearOut s1 p) (hl : p = .log → s.log.fresh = 0) :
    Part.same s (s.after s1) p := by
  cases p with
  | log =>
    have h : s1.log = s.log := hp
    have hf : s1.log.fresh = 0 := by rw [h]; exact hl rfl
    show (s.after s1).log = s.log
    rw [after_log, LogSt.settle_of_fresh hf, h]
  | lane l =>
    show ((s.after s1).lane l).bare = (s.lane l).bare
    rw [after_lane_bare, ← clearOut_lane_bare s l]
    exact hp
  | _ => simpa [Part.same] using hp

/-- The frame of a command is that of its effect. -/
theorem frame_after {s s1 : State} {ps : List Part} (hs : s.log.fresh = 0)
    (h : ∀ p, p ∉ ps → Part.same s.clearOut s1 p) : Frame ps s (s.after s1) :=
  ⟨rfl, rfl, fun p hp => Part.same_after (h p hp) (fun _ => hs)⟩

/-- One record, where the store has room: the log is the one before and this record. -/
theorem record_settles {s : State} (hs : s.log.fresh = 0) (hr : s.LogRoom) (c n p : Nat) (d : List Nat) :
    (s.record c n p d).log.settle = s.log.plus (s.mkRec c n p d) := by
  have hput : s.log.put (s.mkRec c n p d) = ({ s.log with
      newest := (s.mkRec c n p d).seq, fresh := s.log.fresh + 1, store := s.log.store ++ [s.mkRec c n p d] }, false) := by
    unfold LogSt.put
    simp only [State.LogRoom] at hr
    simp [hr]
  have hrec : (s.record c n p d).log = (s.log.put (s.mkRec c n p d)).1 := by
    unfold State.record State.place
    simp [hput]
  rw [hrec, hput]
  simp [LogSt.settle, hs, inOrder, insertRec, LogSt.plus]

@[simp] theorem record_sys_bare (c n p : Nat) (d : List Nat) : (s.record c n p d).sys.bare = s.sys.bare := by
  have hp : ∀ (s : State) (r : FaultRec), (s.place r).1.sys.bare = s.sys.bare := fun s r => State.event_bare _ _
  unfold State.record
  show (if (s.place (s.mkRec c n p d)).2 && (s.place (s.mkRec c n p d)).1.dropDue
    then (s.place (s.mkRec c n p d)).1.reportDrops else (s.place (s.mkRec c n p d)).1).sys.bare = _
  split
  · unfold State.reportDrops
    exact (hp _ _).trans ((hp _ _))
  · exact hp _ _

@[simp] theorem mark_sys_bare (u : Nat) : (s.mark u).sys.bare = s.sys.bare := rfl
@[simp] theorem event_sys_bare (b : Nat) : (s.event b).sys.bare = s.sys.bare := State.event_bare s b

/-! ### What a command's first state shares with the state before it -/

@[simp] theorem clearOut_mkRec (c n p : Nat) (d : List Nat) : s.clearOut.mkRec c n p d = s.mkRec c n p d := rfl
@[simp] theorem clearOut_safeBits : s.clearOut.safeBits = s.safeBits := rfl
@[simp] theorem clearOut_laneBits (l : Lane) : s.clearOut.laneBits l = s.laneBits l := rfl
@[simp] theorem clearOut_partyBits (o : Nat) : s.clearOut.partyBits o = s.partyBits o := rfl
@[simp] theorem clearOut_configured (l : Lane) : s.clearOut.configured l = s.configured l := by cases l <;> rfl
@[simp] theorem clearOut_cfgLanes : s.clearOut.cfgLanes = s.cfgLanes := by
  unfold State.cfgLanes; congr 1
@[simp] theorem clearOut_img (l : Lane) : s.clearOut.img l = s.img l := by cases l <;> rfl
@[simp] theorem clearOut_wiring (l : Lane) : s.clearOut.wiring l = s.wiring l := by cases l <;> rfl
@[simp] theorem clearOut_resetCounts : s.clearOut.resetCounts = s.resetCounts := rfl
@[simp] theorem clearOut_resettable : s.clearOut.resettable = s.resettable := rfl

/-! ### Management frames -/

@[simp] theorem mgtOpen_lane (l : Lane) : s.mgtOpen.lane l = s.lane l := by cases l <;> rfl

/-- The outcome of a request that the port answers OK. -/
theorem mgtRequest_ok {s : State} {r : Req} (h : s.Accepts r) (sh lat : Nat) : s.mgtRequest r sh lat =
    performMgt s r.words.length (fun s => s.frameEffect r 0 sh lat)
      (fun t => s.shiftedOut r 0 sh (answer 0 r.unit (t.sys.epochs.getD r.unit 0) (s.frameData r 0))) := by
  unfold State.mgtRequest
  simp only [h.1, h.2, if_true]

/-- All of a response that the host shifts out whole. -/
theorem shiftedOut_all {s : State} {r : Req} {code sh : Nat} {w : List Nat} (hr : r.write = false)
    (h : (s.frameData r code).length ≤ sh) : s.shiftedOut r code sh w = w := by
  simp [State.shiftedOut, hr, h]

theorem shiftedOut_write {s : State} {r : Req} {code : Nat} {w : List Nat} (h : r.write = true) :
    s.shiftedOut r code 0 w = w := by simp [State.shiftedOut, lateRise, h]

/-- A request that a frame spells has no word past its CRC. -/
theorem pastWords_good {r : Req} (h : arrival r.words = .good r) : pastWords r.words = 0 := by
  have hp : parseReq r.words = r := by
    unfold arrival at h
    dsimp only at h
    split at h
    · cases h
    · split at h
      · exact Arrival.good.inj h
      · cases h
  simp only [pastWords, hp]
  simp [Req.words, Req.body]
  omega

theorem performMgt_after (s : State) (k : Nat) (f : State → State) (resp : State → List Nat) : performMgt s k f resp =
    .next ((s.mgtOpen.after (f s.mgtOpen.clearOut)).modSys
      (fun y => { y with
        response := resp (s.mgtOpen.after (f s.mgtOpen.clearOut)), lead := List.replicate k 0xFFFF })) := by
  unfold performMgt
  rfl

/-- The frame of a management frame is that of its effect. -/
theorem frame_mgt {s s1 : State} {ps : List Part} {w x : List Nat} (hs : s.log.fresh = 0)
    (h : ∀ p, p ∉ ps → Part.same s.mgtOpen.clearOut s1 p) :
    Frame ps s ((s.mgtOpen.after s1).modSys (fun y => { y with response := w, lead := x })) := by
  have hf := frame_after (s := s.mgtOpen) (s1 := s1) (ps := ps) hs h
  refine ⟨(State.modSys_twoLanes _ _).trans hf.1, (State.modSys_pending _ _).trans hf.2.1, fun p hp => ?_⟩
  have hq := hf.2.2 p hp
  generalize s.mgtOpen.after s1 = t at hq
  cases p with
  | lane l => cases l <;> exact hq
  | _ => exact hq

end Sys2Proof.Machine
end

