-- ==== Sys2Proof/Laws/Exec.lean ====
section
/-!
SUPPORT. Each arm of `exec` as an equation, and the form of the outcomes of meanings.
-/

namespace Sys2Proof.Machine

variable (s : State)

@[simp] theorem exec_mainsApplied : exec .mainsApplied s = execMainsApplied s := rfl
@[simp] theorem exec_bringupStepComplete {r} : exec (.bringupStepComplete r) s = execBringupStepComplete r s := rfl
@[simp] theorem exec_xtalFail : exec .xtalFail s = execXtalFail s := rfl
@[simp] theorem exec_resetNFall : exec .resetNFall s = execResetNFall s := rfl
@[simp] theorem exec_resetNConfirm : exec .resetNConfirm s = execResetNConfirm s := rfl
@[simp] theorem exec_resetNRelease : exec .resetNRelease s = execResetNRelease s := rfl
@[simp] theorem exec_wakeEdge : exec .wakeEdge s = execWakeEdge s := rfl
@[simp] theorem exec_offReqEdge : exec .offReqEdge s = execOffReqEdge s := rfl
@[simp] theorem exec_sleepReqEdge : exec .sleepReqEdge s = execSleepReqEdge s := rfl
@[simp] theorem exec_sysPowerSleep {epoch} : exec (.sysPowerSleep epoch) s = execSysPowerSleep epoch s := rfl
@[simp] theorem exec_sysPowerOff {epoch} : exec (.sysPowerOff epoch) s = execSysPowerOff epoch s := rfl
@[simp] theorem exec_sysPowerEreset {epoch} : exec (.sysPowerEreset epoch) s = execSysPowerEreset epoch s := rfl
@[simp] theorem exec_sysPowerLreset {l epoch} : exec (.sysPowerLreset l epoch) s = execSysPowerLreset l epoch s := rfl
@[simp] theorem exec_sleepEntryStepDone {entryUs} : exec (.sleepEntryStepDone entryUs) s = execSleepEntryStepDone entryUs s := rfl
@[simp] theorem exec_wakeSequenceStepDone {r} : exec (.wakeSequenceStepDone r) s = execWakeSequenceStepDone r s := rfl
@[simp] theorem exec_wakeReady {padUs late} : exec (.wakeReady padUs late) s = execWakeReady padUs late s := rfl
@[simp] theorem exec_powerDownPhaseEnd : exec .powerDownPhaseEnd s = execPowerDownPhaseEnd s := rfl
@[simp] theorem exec_engineReset {r} : exec (.engineReset r) s = execEngineReset r s := rfl
@[simp] theorem exec_laneResetStepDone {l r} : exec (.laneResetStepDone l r) s = execLaneResetStepDone l r s := rfl
@[simp] theorem exec_seqWatchdog {machine} : exec (.seqWatchdog machine) s = execSeqWatchdog machine s := rfl
@[simp] theorem exec_sysModeService {on epoch} : exec (.sysModeService on epoch) s = execSysModeService on epoch s := rfl
@[simp] theorem exec_sysHaltReq {epoch} : exec (.sysHaltReq epoch) s = execSysHaltReq epoch s := rfl
@[simp] theorem exec_haltRelease {epoch} : exec (.haltRelease epoch) s = execHaltRelease epoch s := rfl
@[simp] theorem exec_scanReqPin {l prog stable abortHigh} : exec (.scanReqPin l prog stable abortHigh) s = execScanReqPin l prog stable abortHigh s := rfl
@[simp] theorem exec_headReqGo {l prog abort epoch} : exec (.headReqGo l prog abort epoch) s = execHeadReqGo l prog abort epoch s := rfl
@[simp] theorem exec_abortPin {p} : exec (.abortPin p) s = execAbortPin p s := rfl
@[simp] theorem exec_headReqAbort {l epoch} : exec (.headReqAbort l epoch) s = execHeadReqAbort l epoch s := rfl
@[simp] theorem exec_lineStart {l x} : exec (.lineStart l x) s = execLineStart l x s := rfl
@[simp] theorem exec_captureDecision {l} : exec (.captureDecision l) s = execCaptureDecision l s := rfl
@[simp] theorem exec_runEndIdleEntry {l} : exec (.runEndIdleEntry l) s = execRunEndIdleEntry l s := rfl
@[simp] theorem exec_clkCtrlCommit {epoch} : exec (.clkCtrlCommit epoch) s = execClkCtrlCommit epoch s := rfl
@[simp] theorem exec_pllLock {us} : exec (.pllLock us) s = execPllLock us s := rfl
@[simp] theorem exec_pllLockTimeout : exec .pllLockTimeout s = execPllLockTimeout s := rfl
@[simp] theorem exec_anchorEdge {alignUs residualPs driftPpm10} : exec (.anchorEdge alignUs residualPs driftPpm10) s = execAnchorEdge alignUs residualPs driftPpm10 s := rfl
@[simp] theorem exec_spreadPatternChange : exec .spreadPatternChange s = execSpreadPatternChange s := rfl
@[simp] theorem exec_holdoverTrip {driftPpm10} : exec (.holdoverTrip driftPpm10) s = execHoldoverTrip driftPpm10 s := rfl
@[simp] theorem exec_holdoverLineLimit {l} : exec (.holdoverLineLimit l) s = execHoldoverLineLimit l s := rfl
@[simp] theorem exec_holdoverSwitch : exec .holdoverSwitch s = execHoldoverSwitch s := rfl
@[simp] theorem exec_holdOverrun : exec .holdOverrun s = execHoldOverrun s := rfl
@[simp] theorem exec_refLoss : exec .refLoss s = execRefLoss s := rfl
@[simp] theorem exec_mainsPeriodEnd {m} : exec (.mainsPeriodEnd m) s = execMainsPeriodEnd m s := rfl
@[simp] theorem exec_pfw : exec .pfw s = execPfw s := rfl
@[simp] theorem exec_pfwStageDeadline : exec .pfwStageDeadline s = execPfwStageDeadline s := rfl
@[simp] theorem exec_outputFoldbackTimeout {o} : exec (.outputFoldbackTimeout o) s = execOutputFoldbackTimeout o s := rfl
@[simp] theorem exec_busLow : exec .busLow s = execBusLow s := rfl
@[simp] theorem exec_portFaultDetected {f} : exec (.portFaultDetected f) s = execPortFaultDetected f s := rfl
@[simp] theorem exec_lightBusCheck {shorted} : exec (.lightBusCheck shorted) s = execLightBusCheck shorted s := rfl
@[simp] theorem exec_identReadDone {l bytes thermOhm} : exec (.identReadDone l bytes thermOhm) s = execIdentReadDone l bytes thermOhm s := rfl
@[simp] theorem exec_flashOpDone {ok} : exec (.flashOpDone ok) s = execFlashOpDone ok s := rfl
@[simp] theorem exec_flashOpTimeout {ready} : exec (.flashOpTimeout ready) s = execFlashOpTimeout ready s := rfl
@[simp] theorem exec_calCommitStepDone {k} : exec (.calCommitStepDone k) s = execCalCommitStepDone k s := rfl
@[simp] theorem exec_pixCalcmdGo {l set epoch} : exec (.pixCalcmdGo l set epoch) s = execPixCalcmdGo l set epoch s := rfl
@[simp] theorem exec_memDataAccess {words shifted latency} : exec (.memDataAccess words shifted latency) s = execMemDataAccess words shifted latency s := rfl
@[simp] theorem exec_tallyDestructiveGo {march epoch} : exec (.tallyDestructiveGo march epoch) s = execTallyDestructiveGo march epoch s := rfl
@[simp] theorem exec_tallyPreservingGo {march epoch} : exec (.tallyPreservingGo march epoch) s = execTallyPreservingGo march epoch s := rfl
@[simp] theorem exec_tallyRowDone {reads retests decay latency} : exec (.tallyRowDone reads retests decay latency) s = execTallyRowDone reads retests decay latency s := rfl
@[simp] theorem exec_tallyRetentionPauseEnd : exec .tallyRetentionPauseEnd s = execTallyRetentionPauseEnd s := rfl
@[simp] theorem exec_tallyRunEnd {m c2} : exec (.tallyRunEnd m c2) s = execTallyRunEnd m c2 s := rfl
@[simp] theorem exec_tillLineDrainStart {l d} : exec (.tillLineDrainStart l d) s = execTillLineDrainStart l d s := rfl
@[simp] theorem exec_tillBurstFetch {l written own others} : exec (.tillBurstFetch l written own others) s = execTillBurstFetch l written own others s := rfl
@[simp] theorem exec_tillTailTimeout {l d} : exec (.tillTailTimeout l d) s = execTillTailTimeout l d s := rfl
@[simp] theorem exec_tillCtrlFlush {l epoch} : exec (.tillCtrlFlush l epoch) s = execTillCtrlFlush l epoch s := rfl
@[simp] theorem exec_tillEndDrainLimit {l} : exec (.tillEndDrainLimit l) s = execTillEndDrainLimit l s := rfl
@[simp] theorem exec_tillPtrMismatch {l rptr wptr} : exec (.tillPtrMismatch l rptr wptr) s = execTillPtrMismatch l rptr wptr s := rfl
@[simp] theorem exec_linkDetectPoll {l f0 f1 k} : exec (.linkDetectPoll l f0 f1 k) s = execLinkDetectPoll l f0 f1 k s := rfl
@[simp] theorem exec_orderedSetReceived {l o} : exec (.orderedSetReceived l o) s = execOrderedSetReceived l o s := rfl
@[simp] theorem exec_linkTrainingTimeout {l} : exec (.linkTrainingTimeout l) s = execLinkTrainingTimeout l s := rfl
@[simp] theorem exec_linkRetryTimer {l} : exec (.linkRetryTimer l) s = execLinkRetryTimer l s := rfl
@[simp] theorem exec_credit {l count free} : exec (.credit l count free) s = execCredit l count free s := rfl
@[simp] theorem exec_magazineStatus {l m} : exec (.magazineStatus l m) s = execMagazineStatus l m s := rfl
@[simp] theorem exec_resyncTimeout {l} : exec (.resyncTimeout l) s = execResyncTimeout l s := rfl
@[simp] theorem exec_kSyncLoss {l groups} : exec (.kSyncLoss l groups) s = execKSyncLoss l groups s := rfl
@[simp] theorem exec_creditTimeout {l} : exec (.creditTimeout l) s = execCreditTimeout l s := rfl
@[simp] theorem exec_statusTimeout {l} : exec (.statusTimeout l) s = execStatusTimeout l s := rfl
@[simp] theorem exec_returnFrameDiscarded {l} : exec (.returnFrameDiscarded l) s = execReturnFrameDiscarded l s := rfl
@[simp] theorem exec_linkAbort {l} : exec (.linkAbort l) s = execLinkAbort l s := rfl
@[simp] theorem exec_linkCtrlRetrain {l epoch} : exec (.linkCtrlRetrain l epoch) s = execLinkCtrlRetrain l epoch s := rfl
@[simp] theorem exec_engineStatusHeartbeat {l} : exec (.engineStatusHeartbeat l) s = execEngineStatusHeartbeat l s := rfl
@[simp] theorem exec_dataFrameSend {l} : exec (.dataFrameSend l) s = execDataFrameSend l s := rfl
@[simp] theorem exec_scanEnd {l} : exec (.scanEnd l) s = execScanEnd l s := rfl
@[simp] theorem exec_stepIssue {l edges latency} : exec (.stepIssue l edges latency) s = execStepIssue l edges latency s := rfl
@[simp] theorem exec_runCurrentTimeout {l} : exec (.runCurrentTimeout l) s = execRunCurrentTimeout l s := rfl
@[simp] theorem exec_encoderIndex {l edges} : exec (.encoderIndex l edges) s = execEncoderIndex l edges s := rfl
@[simp] theorem exec_seamBackoffStart {l} : exec (.seamBackoffStart l) s = execSeamBackoffStart l s := rfl
@[simp] theorem exec_seamDwellEnd {l} : exec (.seamDwellEnd l) s = execSeamDwellEnd l s := rfl
@[simp] theorem exec_approachStart {l} : exec (.approachStart l) s = execApproachStart l s := rfl
@[simp] theorem exec_axisMoveGo {l steps prof epoch} : exec (.axisMoveGo l steps prof epoch) s = execAxisMoveGo l steps prof epoch s := rfl
@[simp] theorem exec_axisMoveStop {l epoch} : exec (.axisMoveStop l epoch) s = execAxisMoveStop l epoch s := rfl
@[simp] theorem exec_lightCommitSend {party} : exec (.lightCommitSend party) s = execLightCommitSend party s := rfl
@[simp] theorem exec_lightCommitPoint {party} : exec (.lightCommitPoint party) s = execLightCommitPoint party s := rfl
@[simp] theorem exec_lightStatusReply {addr body crc} : exec (.lightStatusReply addr body crc) s = execLightStatusReply addr body crc s := rfl
@[simp] theorem exec_lightIdentReply {addr front payload crc} : exec (.lightIdentReply addr front payload crc) s = execLightIdentReply addr front payload crc s := rfl
@[simp] theorem exec_lightReplyMissed {addr} : exec (.lightReplyMissed addr) s = execLightReplyMissed addr s := rfl
@[simp] theorem exec_lightPoll {addr} : exec (.lightPoll addr) s = execLightPoll addr s := rfl
@[simp] theorem exec_lightRebroadcast {party} : exec (.lightRebroadcast party) s = execLightRebroadcast party s := rfl
@[simp] theorem exec_headSilentTimeout {addr} : exec (.headSilentTimeout addr) s = execHeadSilentTimeout addr s := rfl
@[simp] theorem exec_luxMctrlGo {epoch} : exec (.luxMctrlGo epoch) s = execLuxMctrlGo epoch s := rfl
@[simp] theorem exec_luxMctrlRearm {epoch} : exec (.luxMctrlRearm epoch) s = execLuxMctrlRearm epoch s := rfl
@[simp] theorem exec_hkConversionEnd {convB positive zMeas} : exec (.hkConversionEnd convB positive zMeas) s = execHkConversionEnd convB positive zMeas s := rfl
@[simp] theorem exec_hkSelfcheckEnd {convB zero reference} : exec (.hkSelfcheckEnd convB zero reference) s = execHkSelfcheckEnd convB zero reference s := rfl
@[simp] theorem exec_hkSelfcheckRetry {convB} : exec (.hkSelfcheckRetry convB) s = execHkSelfcheckRetry convB s := rfl
@[simp] theorem exec_hkResultRead {resB withTag shifted} : exec (.hkResultRead resB withTag shifted) s = execHkResultRead resB withTag shifted s := rfl
@[simp] theorem exec_timerTick {n} : exec (.timerTick n) s = execTimerTick n s := rfl
@[simp] theorem exec_tmrCmpWrite {n value epoch} : exec (.tmrCmpWrite n value epoch) s = execTmrCmpWrite n value epoch s := rfl
@[simp] theorem exec_tmrCtrlLoad {n epoch} : exec (.tmrCtrlLoad n epoch) s = execTmrCtrlLoad n epoch s := rfl
@[simp] theorem exec_tmrCtrlEn {n en epoch} : exec (.tmrCtrlEn n en epoch) s = execTmrCtrlEn n en epoch s := rfl
@[simp] theorem exec_tmrGstartGo {epoch} : exec (.tmrGstartGo epoch) s = execTmrGstartGo epoch s := rfl
@[simp] theorem exec_lfTick : exec .lfTick s = execLfTick s := rfl
@[simp] theorem exec_incMeasureEnd {edges} : exec (.incMeasureEnd edges) s = execIncMeasureEnd edges s := rfl
@[simp] theorem exec_lfTimeout : exec .lfTimeout s = execLfTimeout s := rfl
@[simp] theorem exec_mgtRead {words shifted} : exec (.mgtRead words shifted) s = execMgtRead words shifted s := rfl
@[simp] theorem exec_mgtWrite {words} : exec (.mgtWrite words) s = execMgtWrite words s := rfl
@[simp] theorem exec_mgtFrameAbort : exec .mgtFrameAbort s = execMgtFrameAbort s := rfl
@[simp] theorem exec_clearOnRead {unit offset} : exec (.clearOnRead unit offset) s = execClearOnRead unit offset s := rfl
@[simp] theorem exec_flogSelectedRead : exec .flogSelectedRead s = execFlogSelectedRead s := rfl
@[simp] theorem exec_flogAck {seq epoch} : exec (.flogAck seq epoch) s = execFlogAck seq epoch s := rfl
@[simp] theorem exec_ringProgramStart : exec .ringProgramStart s = execRingProgramStart s := rfl
@[simp] theorem exec_logDropped : exec .logDropped s = execLogDropped s := rfl
@[simp] theorem exec_mainsReturn : exec .mainsReturn s = execMainsReturn s := rfl
@[simp] theorem exec_uncontrolledSupplyLoss : exec .uncontrolledSupplyLoss s = execUncontrolledSupplyLoss s := rfl

end Sys2Proof.Machine
end

