-- ==== Sys2Proof/Laws/Keep.lean ====
section
/-!
SUPPORT. What the operations of a lane's run, of light, link and carriage and of fault containment can change: a
property that updates of the lanes, of light and of the log keep, with event bits, epoch marks and outputs that
go off, is kept by each of these operations.
-/

namespace Sys2Proof.Machine

/-- `P` is kept by the updates that the operations of a run are made of. -/
structure Kept (P : State → Prop) : Prop where
  lane  : ∀ {s l f}, P s → P (State.modLane s l f)
  lux   : ∀ {s f}, P s → P (State.modLux s f)
  log   : ∀ {s f}, P s → P (State.modLog s f)
  mark  : ∀ {s u}, P s → P (State.mark s u)
  event : ∀ {s b}, P s → P (State.event s b)
  gang  : ∀ {s b}, P s → P (State.modSys s (fun y => { y with gang := b }))
  out   : ∀ {s o}, P s → P (State.setOut s o false)

theorem foldl_keeps {α : Type} {P : State → Prop} {f : State → α → State} (hf : ∀ {s x}, P s → P (f s x))
    (xs : List α) : ∀ {s}, P s → P (xs.foldl f s) := by
  induction xs with
  | nil => intro s h; exact h
  | cons x xs ih => intro s h; exact ih (hf h)

namespace Kept

variable {P : State → Prop} (k : Kept P) {s : State} {l : Lane}
include k

/-! ### Updates of one unit -/

theorem mode {f} (h : P s) : P (s.modMode l f) := k.lane h
theorem head {f} (h : P s) : P (s.modHead l f) := k.lane h
theorem pix {f} (h : P s) : P (s.modPix l f) := k.lane h
theorem cal {f} (h : P s) : P (s.modCal l f) := k.lane h
theorem till {f} (h : P s) : P (s.modTill l f) := k.lane h
theorem link {f} (h : P s) : P (s.modLink l f) := k.lane h
theorem lrun {f} (h : P s) : P (s.modLrun l f) := k.lane h
theorem axis {f} (h : P s) : P (s.modAxis l f) := k.lane h
theorem arun {f} (h : P s) : P (s.modArun l f) := k.lane h

/-! ### Records -/

theorem place {r} (h : P s) : P (s.place r).1 := k.event (k.log (f := fun _ => (s.log.put r).1) h)

theorem reportDrops (h : P s) : P s.reportDrops := k.place (k.log h)

theorem record {c n p d} (h : P s) : P (s.record c n p d) := by
  have h1 := k.place (r := s.mkRec c n p d) h
  show P (if (s.place (s.mkRec c n p d)).2 && (s.place (s.mkRec c n p d)).1.dropDue
    then (s.place (s.mkRec c n p d)).1.reportDrops else (s.place (s.mkRec c n p d)).1)
  split
  · exact k.reportDrops h1
  · exact h1

theorem note {c d} (h : P s) : P (s.note c d) := k.record h
theorem noteItem {c o d} (h : P s) : P (s.noteItem c o d) := k.record h
theorem recordL {c n d} (h : P s) : P (s.recordL l c n d) := k.record h
theorem noteL {c d} (h : P s) : P (s.noteL l c d) := k.record h

/-! ### Light -/

theorem modCh {n f} (h : P s) : P (s.modCh n f) := k.lux h
theorem modLightHead {a f} (h : P s) : P (s.modLightHead a f) := k.lux h
theorem modGrp {n f} (h : P s) : P (s.modGrp n f) := k.lux h
theorem modReb {p f} (h : P s) : P (s.modReb p f) := k.lux h
theorem driveCh {n c} (h : P s) : P (s.driveCh n c) := by unfold State.driveCh; exact k.lux h
theorem setCom {p n} (h : P s) : P (s.setCom p n) := k.lux h
theorem setGuard {p b} (h : P s) : P (s.setGuard p b) := k.lux h
theorem lightsOff (h : P s) : P s.lightsOff := k.lux h
theorem rearmLane (h : P s) : P (s.rearmLane l) := by unfold State.rearmLane; exact k.lux h

theorem busSend {f} (h : P s) : P (s.busSend f) := by
  unfold State.busSend
  try dsimp only
  split
  · exact h
  · exact k.lux h

theorem stage {c} (h : P s) : P (s.stage c).1 :=
  foldl_keeps (fun h => k.modLightHead (k.busSend h)) _ h

theorem stageFirst {p} (h : P s) : P (s.stageFirst p) := by
  unfold State.stageFirst
  try dsimp only
  split
  · exact h
  · split
    · exact h
    · exact k.lux (k.stage h)

theorem dropHeads {hs} (h : P s) : P (s.dropHeads hs) := foldl_keeps (fun h => k.modLightHead h) _ h

theorem sendDrop {hs} (h : P s) : P (s.sendDrop hs) := by
  unfold State.sendDrop
  split
  · exact k.lux h
  · exact k.busSend h

theorem dropFor {c} (h : P s) : P (s.dropFor c) := by
  unfold State.dropFor
  split
  · exact k.dropHeads (k.sendDrop h)
  · exact h

theorem discard {f} (h : P s) : P (s.discard f) := by
  unfold State.discard
  exact k.lux (foldl_keeps (fun h => k.dropFor h) _ h)

theorem plan {c} (h : P s) : P (s.plan c) := by
  unfold State.plan
  refine k.stageFirst (k.lux ?_)
  split
  · exact k.discard h
  · exact h

theorem endSpan {p} (h : P s) : P (s.endSpan p) :=
  foldl_keeps (fun h => k.noteItem h) _ (foldl_keeps (fun h => k.noteItem h) _ (k.setGuard h))

theorem redrive {p cs} (h : P s) : P (s.redrive p cs) := foldl_keeps (fun h => k.driveCh h) _ h

theorem noteCom {p n} (h : P s) : P (s.noteCom p n) := by
  unfold State.noteCom
  refine foldl_keeps (fun {s l} h => ?_) _ h
  split
  · exact k.lane h
  · exact h

theorem applyCommit {c n hs} (h : P s) : P (s.applyCommit c n hs) := by
  unfold State.applyCommit
  have h1 : P ((s.setCom c.party n).noteCom c.party n) := k.noteCom (k.setCom h)
  generalize (s.setCom c.party n).noteCom c.party n = s1 at h1 ⊢
  extract_lets s0 s2 s3 s4 s5 s6 s7 s8
  have h2 : P s2 := by
    unfold s2
    split
    · exact k.setGuard h1
    · exact h1
  have h3 : P s3 := by
    unfold s3
    split
    · exact k.endSpan h2
    · exact h2
  have h4 : P s4 := by
    unfold s4
    split
    · exact h3
    · exact k.modGrp h3
  have h7 : P s7 := k.modReb (k.redrive (foldl_keeps (fun h => k.modLightHead h) _ h4))
  have h8 : P s8 := foldl_keeps (fun h => k.modLightHead (k.busSend h)) _ h7
  split
  · exact k.plan h8
  · exact h8

theorem settleSent {p} (h : P s) : P (s.settleSent p) := by
  unfold State.settleSent
  refine foldl_keeps (fun {s c} h => ?_) _ (k.lux h)
  cases c.sent with
  | none => exact h
  | some q => exact k.applyCommit h

theorem commitNow {c} (h : P s) : P (s.commitNow c) := k.applyCommit (k.busSend (k.stage (k.settleSent h)))

theorem commitPoint {p} (h : P s) : P (s.commitPoint p).1 := by
  unfold State.commitPoint
  try dsimp only
  split
  · exact h
  · split
    · exact h
    · exact k.stageFirst (k.applyCommit (k.lux h))

theorem sceneZeroAll (h : P s) : P s.sceneZeroAll := foldl_keeps (fun h => k.commitNow h) _ h
theorem zeroAll (h : P s) : P s.zeroAll := foldl_keeps (fun h => k.commitNow h) _ (k.discard h)

theorem identHeads {hs} (h : P s) : P (s.identHeads hs) :=
  foldl_keeps (fun h => k.modLightHead (k.busSend h)) _ h

/-! ### Till and link -/

theorem tillPeak (h : P s) : P (s.tillPeak l) := by unfold State.tillPeak; exact k.till h
theorem setWptr {n} (h : P s) : P (s.setWptr l n) := by unfold State.setWptr; exact k.till h
theorem advRptr {n} (h : P s) : P (s.advRptr l n) := by unfold State.advRptr; exact k.till h
theorem clearTill (h : P s) : P (s.clearTill l) := k.till h

theorem wire {t f} (h : P s) : P (s.wire l t f) := by
  unfold State.wire
  try dsimp only
  split
  · exact k.mark (k.lane (k.lrun h))
  · exact k.lane (k.lrun h)

theorem sendStatus (h : P s) : P (s.sendStatus l) := by unfold State.sendStatus; exact k.lrun (k.wire h)

theorem tellEpoch (h : P s) : P (s.tellEpoch l) := by
  unfold State.tellEpoch
  try dsimp only
  split
  · exact k.sendStatus h
  · exact h

theorem pumpN (n : Nat) : ∀ {s}, P s → P (State.pumpN n s l) := by
  induction n with
  | zero => intro s h; exact h
  | succ n ih =>
    intro s h; unfold State.pumpN; split
    · exact ih (k.tellEpoch (k.wire (k.lrun h)))
    · exact h

theorem sayEnd (h : P s) : P (s.sayEnd l) := by
  unfold State.sayEnd
  split
  · exact k.lrun (k.wire h)
  · exact h

theorem stopScan {e} (h : P s) : P (s.stopScan l e) := by
  unfold State.stopScan
  refine k.lrun ?_
  split
  · exact k.wire h
  · split
    · exact k.lrun h
    · exact h

theorem pump (h : P s) : P (s.pump l) := by
  unfold State.pump
  try dsimp only
  split
  · exact k.sayEnd (k.pumpN _ (k.tellEpoch h))
  · exact k.tellEpoch h

theorem sendFrame {t f} (h : P s) : P (s.sendFrame l t f) := k.pump (k.lrun h)
theorem frameFirst {t f} (h : P s) : P (s.frameFirst l t f) := k.pump (k.lrun h)

theorem drainQueue (n : Nat) : ∀ {s}, P s → P (State.drainQueue n s l) := by
  induction n with
  | zero => intro s h; exact h
  | succ n ih =>
    intro s h; unfold State.drainQueue; split
    · exact ih (k.wire (k.lrun h))
    · exact ih (k.wire (k.link (k.lrun h)))
    · exact h

theorem flushLink {c} (h : P s) : P (s.flushLink l c) := by
  unfold State.flushLink
  extract_lets x keep q s1
  have h1 : P s1 := k.lrun h
  split
  · exact k.drainQueue _ (k.tellEpoch h1)
  · exact h1

theorem holdGate (h : P s) : P (s.holdGate l) := k.lane h
theorem giveExposure (h : P s) : P (s.giveExposure l) := k.lane (k.holdGate h)
theorem recallLine (h : P s) : P (s.recallLine l) := by
  unfold State.recallLine
  try dsimp only
  split
  · exact k.lrun h
  · exact h

theorem flushTill {c} (h : P s) : P (s.flushTill l c) := k.flushLink (k.lane (k.giveExposure (k.clearTill h)))
theorem flushNoted {d c} (h : P s) : P (s.flushNoted l d c) := by unfold State.flushNoted; exact k.till (k.noteL (k.flushTill h))

theorem releaseFrom {n} (h : P s) : P (s.releaseFrom l n) := by
  unfold State.releaseFrom
  try dsimp only
  split
  · exact h
  · exact k.lane (k.till (k.setWptr h))

theorem abandonLine {n c b} (h : P s) : P (s.abandonLine l n c b) := by
  have h1 := k.releaseFrom (l := l) (n := n) h
  unfold State.abandonLine
  generalize s.releaseFrom l n = s1 at h1
  dsimp only
  split
  · exact k.lrun h1
  · split
    · exact k.sendFrame (k.lrun h1)
    · exact k.pump (k.lrun h1)

theorem linkDown (h : P s) : P (s.linkDown l) := by unfold State.linkDown; exact k.lrun (k.lane (k.link h))
theorem linkTrain (h : P s) : P (s.linkTrain l) := k.lrun (k.link h)
theorem startResync (h : P s) : P (s.startResync l) := k.mark (k.lrun (k.link h))

theorem linkWake (h : P s) : P (s.linkWake l) := by
  unfold State.linkWake
  try dsimp only
  split
  · exact k.link h
  · exact h

/-! ### Carriage -/

theorem setMotion {m w} (h : P s) : P (s.setMotion l m w) := k.arun h

theorem brakeNow (h : P s) : P (s.brakeNow l) := by
  unfold State.brakeNow
  try dsimp only
  split
  · exact h
  · exact k.setMotion h

theorem stopAfter {n} (h : P s) : P (s.stopAfter l n) := by
  unfold State.stopAfter
  refine k.arun (k.axis ?_)
  split
  · exact h
  · split
    · exact h
    · exact k.setMotion h

theorem stopAtBoundary (h : P s) : P (s.stopAtBoundary l) := k.stopAfter h
theorem stopAtNext (h : P s) : P (s.stopAtNext l) := k.stopAfter h
theorem stopSeam (h : P s) : P (s.stopSeam l) := by unfold State.stopSeam; exact k.axis (k.stopAtBoundary h)

theorem freezeAxis {b} (h : P s) : P (s.freezeAxis l b) := by unfold State.freezeAxis; exact k.axis (k.setMotion h)

theorem endMove (h : P s) : P (s.endMove l) := by
  unfold State.endMove
  try dsimp only
  split
  · exact k.freezeAxis (k.noteL h)
  · exact h

theorem energise (h : P s) : P (s.energise l) := k.axis (k.arun h)
theorem unpowerAxis (h : P s) : P (s.unpowerAxis l) := k.axis (k.arun (k.setMotion h))
theorem approach {p r w} (h : P s) : P (s.approach l p r w) := by unfold State.approach; exact k.setMotion h
theorem backoff {p} (h : P s) : P (s.backoff l p) := by unfold State.backoff; exact k.axis (k.setMotion h)

/-! ### A run -/

theorem toMode {m} (h : P s) : P (s.toMode l m) := by
  unfold State.toMode
  try dsimp only
  split
  · exact h
  · exact k.rearmLane (k.mode h)

theorem discardLane (h : P s) : P (s.discardLane l) := k.discard h

theorem beginEnding (h : P s) : P (s.beginEnding l) := by
  unfold State.beginEnding
  extract_lets s1 s2 s3 s4
  have h3 : P s3 := k.axis (k.lane (k.mode h))
  split
  · exact h3
  · refine k.plan ?_
    unfold s4
    split
    · exact k.discardLane h3
    · exact h3

theorem endCarriage (h : P s) : P (s.endCarriage l) := by
  unfold State.endCarriage
  try dsimp only
  split
  · exact h
  · split <;> first | exact h | exact k.brakeNow h

theorem rewind {n m} (h : P s) : P (s.rewind l n m) := k.lane h

theorem unexposeIf {b} (h : P s) : P (s.unexposeIf l b) := by
  unfold State.unexposeIf
  split
  · exact h
  · split
    · exact h
    · exact k.rewind (k.lane h)

theorem unexpose (h : P s) : P (s.unexpose l) := k.unexposeIf h

theorem stopRun {e} (h : P s) : P (s.stopRun l e) := by
  unfold State.stopRun
  extract_lets s1 s2
  have h2 : P s2 := k.beginEnding (k.pix (k.lrun h))
  split
  · exact h2
  · split
    · exact k.stopAtNext h2
    · exact k.brakeNow h2

theorem endRun {e} (h : P s) : P (s.endRun l e) := by
  unfold State.endRun
  refine foldl_keeps (fun {s x} h => ?_) _ h
  dsimp only
  split
  · split
    · split
      · exact k.discardLane (k.lrun h)
      · exact k.lrun h
    · exact h
  · split
    · exact h
    · split
      · exact k.endCarriage (k.beginEnding (k.lrun h))
      · split
        · exact k.discardLane (k.unexpose (k.lrun h))
        · exact k.unexpose (k.lrun h)

theorem voidCal {c} (h : P s) : P (s.voidCal l c) := by
  unfold State.voidCal
  try dsimp only
  split
  · exact k.brakeNow (k.lane (k.giveExposure (k.beginEnding (k.discardLane (k.pix (k.cal (k.noteL h)))))))
  · exact h

theorem flushEnd {e} (h : P s) : P (s.flushEnd l e) := by
  unfold State.flushEnd
  refine foldl_keeps (fun {s x} h => ?_) _ h
  split
  · exact k.stopRun (k.flushTill h)
  · split
    · exact k.lrun (k.flushTill h)
    · exact h

theorem dropFlight {c} (h : P s) : P (s.dropFlight c) := by
  unfold State.dropFlight
  split
  · exact h
  · rename_i n _
    refine foldl_keeps (fun h => k.sendFrame h) _ ?_
    have h1 : ∀ j f, P ((s.releaseFrom j n).modLrun j f) := fun j f => k.lrun (k.releaseFrom h)
    split <;> split <;> first | exact h1 _ _ | exact k.lrun (h1 _ _)

theorem gangAbort {c} (h : P s) : P (s.gangAbort l c) := by
  unfold State.gangAbort
  split
  · exact h
  · refine foldl_keeps (fun {s x} h => ?_) _ (k.dropFlight (by split; exacts [h, k.recordL h]))
    have h1 : P ((s.giveExposure x).modLane x (fun x => { x with reading := none })) := k.lane (k.giveExposure h)
    dsimp only
    split
    · exact k.stopRun h1
    · split
      · exact k.lrun (k.pix h1)
      · exact k.pix h1

theorem abortFault {a c} (h : P s) : P (s.abortFault l a c) := by
  unfold State.abortFault
  split
  · exact k.gangAbort h
  · split
    · exact k.voidCal h
    · exact k.endRun h

theorem headOff (h : P s) : P (s.headOff l) := k.head (k.lane (k.out h))
theorem darkLane (h : P s) : P (s.darkLane l) := foldl_keeps (fun h => k.driveCh h) _ h

theorem tripNow (h : P s) : P (s.tripNow l) := by
  unfold State.tripNow
  extract_lets s1 s2
  have h2 : P s2 := k.mode (k.darkLane (k.headOff h))
  split
  · exact k.plan h2
  · exact h2

theorem dropReading {c} (h : P s) : P (s.dropReading l c) := by
  unfold State.dropReading
  split
  · exact h
  · exact k.abandonLine (k.pix (k.lane h))

theorem parkHead (h : P s) : P (s.parkHead l) := by
  unfold State.parkHead
  refine k.headOff (k.lane ?_)
  split
  · exact h
  · exact k.dropReading h

theorem trip {c} (h : P s) : P (s.trip l c) := by
  have h1 := k.endMove (l := l) h
  have h2 : P ((s.endMove l).modMode l (fun y => { y with tripDue := true })) := k.mode h1
  unfold State.trip
  dsimp only
  split
  · exact k.tripNow (k.parkHead h1)
  · split
    · exact k.parkHead (k.gangAbort h2)
    · split
      · exact k.parkHead (k.voidCal h2)
      · split
        · exact k.stopRun (k.parkHead h2)
        · split
          · exact k.lrun (k.parkHead h2)
          · exact k.parkHead h2

theorem laneTrip {b d} (h : P s) : P (s.laneTrip l b d) := k.trip (k.recordL h)

theorem abandonSeam (h : P s) : P (s.abandonSeam l) := by
  have h1 : P (s.modArun l (fun a => { a with retryDue := false, offset := 0 })) := k.arun h
  unfold State.abandonSeam
  dsimp only
  split <;> first | exact k.axis (k.brakeNow h1) | exact k.axis h1 | exact h1

theorem reSmoulder {b} (h : P s) : P (s.reSmoulder l b) := by
  unfold State.reSmoulder
  exact k.axis (k.brakeNow (k.arun (foldl_keeps (fun h => k.toMode (k.mode (k.lane (k.unexposeIf h)))) _ h)))

theorem failSeam (h : P s) : P (s.failSeam l) := by
  unfold State.failSeam
  split
  · exact k.abandonSeam h
  · split
    · exact k.reSmoulder h
    · exact h

theorem seamDue {b} (h : P s) : P (s.seamDue l b) := by
  unfold State.seamDue
  split
  · exact k.reSmoulder h
  · refine foldl_keeps (fun {s x} h => ?_) _ h
    dsimp only
    split
    · exact h
    · split
      · split
        · exact k.arun h
        · exact k.abandonSeam (k.arun h)
      · exact k.lane h

theorem smoulder {m b} (h : P s) : P (s.smoulder l m b) := by
  have h1 := k.toMode (l := l) (m := .smoulder) (k.mode (l := l) (f := fun y =>
    { y with origin := y.mode, entering := false, entry := none }) h)
  unfold State.smoulder
  extract_lets y s1 s2 first s3 s4 mv
  have h3 : P s3 := by
    unfold s3
    split
    · exact k.lane h1
    · exact h1
  have h4 : P s4 := k.lane h3
  split
  · exact h4
  · exact k.stopSeam h4

/-- A committed version replaces a set: SRAM and the fence note change too. -/
theorem replaceSet (kb : ∀ {s m}, P s → P { s with bank := m }) (km : ∀ {s f}, P s → P (State.modMem s f))
    (h : P s) : P (s.replaceSet l) := by
  unfold State.replaceSet
  dsimp only
  split
  · exact h
  · refine k.cal (k.lane (foldl_keeps (fun {s q} h => ?_) _ h))
    have note : ∀ {s : State} {m w}, P s → P (s.fenceNote l m w) := fun {s m w} h => by
      unfold State.fenceNote
      split
      · exact k.record (km h)
      · exact h
    unfold State.putSet
    refine k.lane ?_
    have h1 := note (m := 5) (w := (s.img l).pix.window) (note (m := 8) (w := (s.img l).pix.window) h)
    generalize (s.fenceNote l 8 (s.img l).pix.window).fenceNote l 5 (s.img l).pix.window = s1 at h1 ⊢
    unfold State.masterWrite
    split
    · exact h1
    · unfold State.winWrite
      dsimp only
      split
      · exact h1
      · exact kb h1

theorem replaceUntimed (kb : ∀ {s m}, P s → P { s with bank := m }) (km : ∀ {s f}, P s → P (State.modMem s f))
    (kf : ∀ {s}, P s → P (State.takeFree s)) (h : P s) : P (s.replaceUntimed l) := by
  have h1 : P (s.replaceSet l) := k.replaceSet kb km h
  unfold State.replaceUntimed
  dsimp only
  split
  · exact h1
  · exact kf (km h1)

theorem stopLane {c d r} (kb : ∀ {s m}, P s → P { s with bank := m }) (km : ∀ {s f}, P s → P (State.modMem s f))
    (kf : ∀ {s}, P s → P (State.takeFree s)) {f : Nat} (h : P s) : P (s.stopLane l c d r f) := by
  unfold State.stopLane
  extract_lets s1 s2 s6
  have h1 : P s1 := by
    unfold s1
    split
    · exact k.voidCal h
    · exact h
  have h2 : P s2 := k.endMove h1
  have h6 : P s6 := by
    unfold s6
    split
    · exact k.stopScan (k.flushNoted (k.recallLine h2))
    · split
      · exact k.flushNoted h2
      · exact k.clearTill h2
  exact k.replaceUntimed kb km kf (k.toMode (k.mode (k.pix (k.lrun (k.lane (k.freezeAxis h6))))))

theorem stopBoth {c r} (kb : ∀ {s m}, P s → P { s with bank := m }) (km : ∀ {s f}, P s → P (State.modMem s f))
    (kf : ∀ {s}, P s → P (State.takeFree s)) {f : Nat} (h : P s) : P (s.stopBoth c r f) :=
  k.gang (k.stopLane kb km kf (k.stopLane kb km kf h))

theorem outputsOff (h : P s) : P s.outputsOff := foldl_keeps (fun h => k.linkDown (k.out (k.headOff h))) _ h
theorem portsOff (h : P s) : P s.portsOff := k.unpowerAxis (k.unpowerAxis (k.outputsOff h))

end Kept

end Sys2Proof.Machine
end

