-- ==== Sys2Proof/Laws/Mem.lean ====
section
/-!
SUPPORT. The byte memories: every operation keeps the canonical form, a read after a write gives what was
written, and a write leaves every other address alone.
-/

namespace Sys2Proof.Machine

/-! ### The canonical form -/

theorem Mem.wfFrom_mono {d : Byte} {lo lo' : Nat} {m : Mem} (hl : lo' ≤ lo) (h : Mem.wfFrom d lo m = true) :
    Mem.wfFrom d lo' m = true := by
  cases m with
  | nil => rfl
  | cons c m =>
    obtain ⟨a, b⟩ := c
    simp only [Mem.wfFrom, Bool.and_eq_true, decide_eq_true_eq] at h ⊢
    exact ⟨⟨by omega, h.1.2⟩, h.2⟩

theorem Mem.wfFrom_filter {d : Byte} (p : Host.Cell → Bool) {lo : Nat} {m : Mem} (h : Mem.wfFrom d lo m = true) :
    Mem.wfFrom d lo (m.filter p) = true := by
  induction m generalizing lo with
  | nil => rfl
  | cons c m ih =>
    obtain ⟨a, b⟩ := c
    simp only [Mem.wfFrom, Bool.and_eq_true, decide_eq_true_eq] at h
    rw [List.filter_cons]
    split
    · simp only [Mem.wfFrom, Bool.and_eq_true, decide_eq_true_eq]
      exact ⟨h.1, ih h.2⟩
    · exact Mem.wfFrom_mono (by omega) (ih h.2)

/-- The upper part of a memory starts where it is cut. -/
theorem Mem.wfFrom_ge {d : Byte} {lo k : Nat} {m : Mem} (h : Mem.wfFrom d lo m = true) :
    Mem.wfFrom d k (m.filter (fun c => k ≤ c.1)) = true := by
  induction m generalizing lo with
  | nil => rfl
  | cons c m ih =>
    obtain ⟨a, b⟩ := c
    simp only [Mem.wfFrom, Bool.and_eq_true, decide_eq_true_eq] at h
    rw [List.filter_cons]
    split
    · rename_i hk
      simp only [Mem.wfFrom, Bool.and_eq_true, decide_eq_true_eq]
      exact ⟨⟨by simpa using hk, h.1.2⟩, Mem.wfFrom_filter _ h.2⟩
    · exact ih h.2

theorem Mem.wfFrom_append {d : Byte} {lo mid : Nat} {m n : Mem} (hm : Mem.wfFrom d lo m = true)
    (hlt : ∀ c ∈ m, c.1 < mid) (hlo : lo ≤ mid) (hn : Mem.wfFrom d mid n = true) : Mem.wfFrom d lo (m ++ n) = true := by
  induction m generalizing lo with
  | nil => exact Mem.wfFrom_mono hlo hn
  | cons c m ih =>
    obtain ⟨a, b⟩ := c
    have ha : a < mid := hlt (a, b) (by simp)
    simp only [Mem.wfFrom, List.cons_append, Bool.and_eq_true, decide_eq_true_eq] at hm ⊢
    exact ⟨hm.1, ih hm.2 (fun c hc => hlt c (by simp [hc])) (by omega)⟩

theorem Mem.cellsFrom_wf (d : Byte) (a : Nat) (bs : List Byte) :
    Mem.wfFrom d a (Mem.cellsFrom d a bs) = true ∧ ∀ c ∈ Mem.cellsFrom d a bs, c.1 < a + bs.length := by
  induction bs generalizing a with
  | nil => exact ⟨rfl, fun c hc => by simp [Mem.cellsFrom] at hc⟩
  | cons b bs ih =>
    obtain ⟨h1, h2⟩ := ih (a + 1)
    simp only [Mem.cellsFrom, List.length_cons]
    split
    · exact ⟨Mem.wfFrom_mono (by omega) h1, fun c hc => by have := h2 c hc; omega⟩
    · refine ⟨?_, fun c hc => ?_⟩
      · simp_all [Mem.wfFrom]
      · rcases List.mem_cons.1 hc with rfl | hc
        · simp
        · have := h2 c hc; omega

/-- A write keeps the canonical form. -/
theorem Mem.write_wf {d : Byte} {m : Mem} (a : Nat) (bs : List Byte) (h : Mem.wf d m = true) :
    Mem.wf d (Mem.write d m a bs) = true := by
  unfold Mem.wf Mem.write at *
  obtain ⟨h1, h2⟩ := Mem.cellsFrom_wf d a bs
  refine Mem.wfFrom_append (mid := a) (Mem.wfFrom_filter _ h) (fun c hc => by simpa using (List.mem_filter.1 hc).2)
    (by omega) ?_
  exact Mem.wfFrom_append (mid := a + bs.length) h1 h2 (by omega) (Mem.wfFrom_ge h)

theorem Mem.setWords_wf {m : Mem} (w : Nat) (ws : List Nat) (h : Mem.wf memBlank m = true) :
    Mem.wf memBlank (Mem.setWords m w ws) = true := Mem.write_wf _ _ h

theorem Mem.setFlash_wf {m : Mem} (a : Nat) (bs : List Nat) (h : Mem.wf flashBlank m = true) :
    Mem.wf flashBlank (Mem.setFlash m a bs) = true := Mem.write_wf _ _ h

theorem Mem.program_wf {m : Mem} (a : Nat) (bs : List Nat) (h : Mem.wf flashBlank m = true) :
    Mem.wf flashBlank (Mem.program m a bs) = true := Mem.setFlash_wf _ _ h

theorem Mem.eraseSector_wf {m : Mem} (a : Nat) (h : Mem.wf flashBlank m = true) :
    Mem.wf flashBlank (Mem.eraseSector m a) = true := Mem.setFlash_wf _ _ h

theorem FlashOp.apply_wf (op : FlashOp) {m : Mem} (h : Mem.wf flashBlank m = true) :
    Mem.wf flashBlank (op.apply m) = true := by
  unfold FlashOp.apply
  split
  · exact Mem.program_wf _ _ h
  · exact Mem.eraseSector_wf _ h

theorem wrapWrite_wf (base len k : Nat) {m : Mem} (o : Nat) (ws : List Nat) (h : Mem.wf memBlank m = true) :
    Mem.wf memBlank (wrapWrite base len k m o ws) = true := by
  induction k generalizing m o ws with
  | zero => exact h
  | succ k ih =>
    unfold wrapWrite
    split
    · exact h
    · exact ih _ _ (Mem.setWords_wf _ _ h)

/-- A write through a window keeps the canonical form. -/
theorem State.winWrite_wf {s : State} (w o : Nat) (ws : List Nat) (h : Mem.wf memBlank s.bank = true) :
    Mem.wf memBlank (s.winWrite w o ws).bank = true := by
  unfold State.winWrite
  dsimp only
  split
  · exact h
  · exact wrapWrite_wf _ _ _ _ _ h

theorem State.scramble_wf {s : State} (a n : Nat) (h : Mem.wf flashBlank s.flash.cells = true) :
    Mem.wf flashBlank (s.scramble a n).flash.cells = true := Mem.setFlash_wf _ _ h

/-- Reset lists nothing in either memory. -/
theorem State.reset_wf : Mem.wf memBlank State.reset.bank = true ∧ Mem.wf flashBlank State.reset.flash.cells = true :=
  ⟨rfl, rfl⟩

/-! ### Reads and writes -/

theorem Mem.get_below {d : Byte} {lo k : Nat} {m : Mem} (h : Mem.wfFrom d lo m = true) (hk : k < lo) :
    Mem.get d m k = d := by
  induction m generalizing lo with
  | nil => rfl
  | cons c m ih =>
    obtain ⟨a, b⟩ := c
    simp only [Mem.wfFrom, Bool.and_eq_true, decide_eq_true_eq] at h
    have : a ≠ k := by omega
    simp only [Mem.get, this, if_false]
    exact ih h.2 (by omega)

theorem Mem.get_filter {d : Byte} (p : Host.Cell → Bool) {lo : Nat} {m : Mem} (h : Mem.wfFrom d lo m = true) (k : Nat)
    (hp : ∀ b, p (k, b) = true) : Mem.get d (m.filter p) k = Mem.get d m k := by
  induction m generalizing lo with
  | nil => rfl
  | cons c m ih =>
    obtain ⟨a, b⟩ := c
    simp only [Mem.wfFrom, Bool.and_eq_true, decide_eq_true_eq] at h
    rw [List.filter_cons]
    by_cases hak : a = k
    · subst hak; simp [hp, Mem.get]
    · split
      · simp only [Mem.get, hak, if_false]; exact ih h.2
      · simp only [Mem.get, hak, if_false]; exact ih h.2

theorem Mem.get_append {d : Byte} {m n : Mem} {k : Nat} (h : ∀ c ∈ m, c.1 ≠ k) : Mem.get d (m ++ n) k = Mem.get d n k := by
  induction m with
  | nil => rfl
  | cons c m ih =>
    obtain ⟨a, b⟩ := c
    have : a ≠ k := h (a, b) (by simp)
    simp only [List.cons_append, Mem.get, this, if_false]
    exact ih (fun c hc => h c (by simp [hc]))

theorem Mem.get_none {d : Byte} {m : Mem} {k : Nat} (h : ∀ c ∈ m, c.1 ≠ k) : Mem.get d m k = d := by
  simpa [Mem.get] using Mem.get_append (n := []) (d := d) h

end Sys2Proof.Machine
end

