-- ==== Sys2Proof/Laws/Parts.lean ====
section
/-!
SUPPORT. Updates of one converter, channel, head, group or re-broadcast as updates of their unit, so that the
lemmas of Laws/State.lean say what each leaves unchanged.
-/

namespace Sys2Proof.Machine

variable (s : State)

/-! ### HK -/

@[simp] theorem State.modConv_eq_modHk (b : Bool) (f : HkConv → HkConv) :
    s.modConv b f = s.modHk (fun h => if b then { h with b := f h.b } else { h with a := f h.a }) := rfl
@[simp] theorem State.modHkChan_eq_modHk (n : Nat) (f : HkChan → HkChan) :
    s.modHkChan n f = s.modHk (fun h => { h with ch := updAt h.ch n f }) := rfl

/-! ### LUX -/

@[simp] theorem State.modCh_eq_modLux (n : Nat) (f : LightCh → LightCh) :
    s.modCh n f = s.modLux (fun x => { x with ch := updAt x.ch n f }) := rfl
@[simp] theorem State.modLightHead_eq_modLux (a : Nat) (f : LightHead → LightHead) :
    s.modLightHead a f = s.modLux (fun x => { x with head := updAt x.head a f }) := rfl
@[simp] theorem State.modGrp_eq_modLux (k : Nat) (f : Group → Group) :
    s.modGrp k f = s.modLux (fun x => { x with grp := updAt x.grp k f }) := rfl
@[simp] theorem State.modReb_eq_modLux (p : Nat) (f : Rebcast → Rebcast) :
    s.modReb p f = s.modLux (fun x => { x with reb := updAt x.reb p f }) := rfl

end Sys2Proof.Machine
end

