-- ==== Sys2Proof/Tests/Slice0.lean ====
section
/-!
SUPPORT. Tests: a term each well-formedness check refuses, and for every clause of every statement a state and
operands that meet its hypotheses. `run` is an engine in RUN with both lanes in IDLE; the other states start from it.
-/

namespace Sys2Proof.Tests

open Sys2Proof Sys2Proof.Machine

set_option Elab.async false

/-! ### A small engine -/

/-- A program on a lane: 0 PREVIEW at rest, 1 SCAN, 2 GANG-SCAN. -/
def prog (num mode party : Nat) : Program :=
  { num := num, mode := mode, party := party, pinOk := true, hostOk := true, encReq := false, period := 4096
    integ := 1024, lines := if mode = 1 then 0 else 8, waves := 0, calSet := 0, scene := 0, binning := 0, micro := 4
    reverse := false, profile := 0, focStart := 0, focLen := 0, overlap := 0, rungs := 2, seamsDn := 2, quietUp := 2
    rungPer := [8192, 8192, 8192, 8192, 8192, 8192, 8192], taps := 1 }

def profile : ProfileSec := { inst := 0, window := 2, offset := 0, entries := [4000, 3000, 2000, 1500, 1000] }

def laneImage (first : Nat) : LaneImage :=
  { till := { log2 := 12, window := first, cut := 256, stop := 1024, resume := 2048 }
    axis := { encoder := true, runUp := 16, cpp := 65536 }, profiles := [profile] }

/-- Light head 2, scan-lit. -/
def head2 : LightHeadRec :=
  { addr := 2, scanLit := true, group := 255, identity := 8, knee := 5000, zero := 6000, shut := 7000, hyst := 100 }

/-- A Ledger with both lanes, windows of both lanes and the host, one light channel and one head of each party. -/
def ledger : Ledger :=
  { party := { winOwner := [1, 1, 1, 2, 2, 2], chOwner := [0, 1, 2], headOwner := [0, 0, 1, 2] }
    sleepHon := true, wakeHon := true, serviceOk := true, haltOk := true, wakeMask := 3
    windows := (List.range 16).map (fun n => { base := 65536 * n, len := if n = 6 then 8 else 4096, enabled := true })
    timers := (List.range 16).map (fun n => { reload := 9, compare := 2, enabled := n < 2, group := n < 2, phase := 5 })
    hkchan := (List.range 24).map (fun n => { arr := if n = 0 then 1 else 0 })
    slotsA := [0]
    lightch := (List.range 8).map (fun n => { enabled := n < 3, scanLit := n = 1, limit := 65535 })
    lighthead := [
      { addr := 1, scanLit := false, group := 255, identity := 7, knee := 5000, zero := 6000, shut := 7000, hyst := 100 },
      head2]
    programs := [prog 0 1 1, prog 1 5 1, prog 2 6 1, prog 3 1 2]
    laneA := laneImage 1
    laneB := some (laneImage 4) }

/-- A lane in IDLE with calibration set 0 and its link up. -/
def idle (p : Program) : LaneSt :=
  { mode := { mode := .idle, prog := some p }
    head := { supply := true, drivers := true, idState := 1, thermOk := true, period := 4096, tInt := 1024 }
    sets := [{ present := true, valid := true }, {}, {}, {}]
    link := { st := .up, mag := 1, maxCred := 64, granted := 8 }
    lrun := { gotStatus := true, lastTs2 := some { ts2 := true, maxCredits := 64 } }
    axis := { encOk := true } }

/-- An engine in RUN. -/
def run : State :=
  { power := { phase := .run, stepDone := 12, mains := true, startCause := 1 }
    sys := { ready := true, mask := 1 }
    log := { start := 1, ringOk := true, ringOpen := true }
    ledger := { flashOk := true, laneACfg := true, laneBCfg := true, progOk := List.replicate 16 true }
    shadow := ledger
    clk := { locked := true }
    pwr := { busOk := true, peOk := true, on := List.replicate 5 true }
    tmr := { counting := true, tsc := 1000, ts := List.replicate 16 { cnt := 5, rld := 9, cmp := 2, en := true, held := false } }
    hk := { ch := List.replicate 24 { good := true } }
    laneA := idle (prog 0 1 1)
    laneB := idle (prog 3 1 2) }

/-- The state that an outcome leads to. -/
def after (o : Host.Outcome State Fault Refusal) : State :=
  match o with
  | .next t => t
  | _ => State.reset

/-- The same with the pins where the rest of the state has them. -/
def settle (s : State) : State := settlePins s

def service : State := { run with sys := { run.sys with service := true } }

/-- A state of another phase and stage. -/
def at_ (p : Phase) (k : Nat) : State := settle { run with power := { run.power with phase := p, stage := k } }

/-- Lane A's part replaced. -/
def withA (s : State) (f : LaneSt → LaneSt) : State := settle (s.modLane .a f)

/-- Lane A in a PREVIEW run at rest. -/
def preview : State :=
  withA run (fun x => { x with mode := { x.mode with mode := .preview }, lrun := { x.lrun with opened := true } })

theorem next_of_write (ws : List Nat) (s : State) : execMgtWrite ws s = .next (after (execMgtWrite ws s)) := by
  unfold execMgtWrite State.mgtFrame State.mgtRequest
  (repeat' split) <;> rfl

/-- The end of a run that nothing aborted, and lane A ending with it. -/
def runOver : RunEnd := { aborted := false, cause := 0 }
def ending : State :=
  withA preview (fun x => { x with
    mode := { x.mode with ending := true }
    lrun := { x.lrun with ending := some runOver } })

/-- Lane A in PREVIEW with program p, at line n. -/
def previewAt (p : Program) (n : Nat) : State :=
  withA preview (fun x => { x with mode := { x.mode with prog := some p }, nextLine := n })

/-- A DATA frame waits on lane A's link. -/
def waitingData : State :=
  withA preview (fun x => { x with lrun := { x.lrun with txq := [.data [4, 0, 0, 1, 77]] } })

/-- A PREVIEW program of eight lines. -/
def finite : Program := { prog 0 1 1 with lines := 8 }

/-- The PLL unlocked in bring-up step 3, after `k` failed attempts. -/
def locking (k : Nat) : State :=
  settle { run with power := { run.power with phase := .bringup, stage := 3 }, clk := { locked := false, attempts := k } }

/-- A holdover with every lane at rest, and one with line 4 of lane A in readout. -/
def held : State := { run with clk := { run.clk with hold := true, locked := false } }
def reading : State :=
  { preview with clk := held.clk, laneA := { preview.laneA with reading := some { num := 4, tsc := 900 } } }

/-- Lane A's line 4 read out, line 5 in exposure. -/
def readOut : State :=
  { reading with
    shadow := { ledger with laneA := { laneImage 1 with waves := [{ inst := 0, period := 8, waves := [] }] } }
    laneA := { reading.laneA with reading := some { num := 4, tsc := 10 }, exposing := some { num := 5, tsc := 990 } } }

/-- The PLL locked again on the reference after a holdover. -/
def relocked : State := { held with clk := { held.clk with locked := true, onRef := true, tripTsc := 500 } }

def spreading (s : State) : State := { s with clk := { s.clk with spread := 1 } }

def mains : MainsReport :=
  { ticks := 500000, vrms := 2300, input := 900, drawA := 10, drawB := 20, drawM := 30, peL := 0, peN := 0 }

/-- A mains period over P_cap, and an overload that has lasted, judged `k`. -/
def hot : MainsReport := { mains with input := 6000 }
def overloaded (k : Nat) : State :=
  { run with hist := { input := List.replicate 49 6000, capHot := true, persist := k, overd := [true, true, true] } }

/-- A head identity of Table 7.3 that agrees with the default HEAD section: its mark, version 1, one tap, one output
and one active pixel, and its CRC-32. -/
def idBody : List Nat := fit 0 60 [0x42, 0x4C, 0x58, 0x48, 1, 0, 0, 0, 0, 0, 0, 0, 0, 0, 0, 0, 1, 1, 1, 0]
def goodId : List Nat := idBody ++ (List.range 4).map (fun i => crc32 idBody / 256 ^ i % 256)

def ringOp : FlashOp := { program := true, addr := 4096, data := [1, 2, 3], use := .ringPage [1] }
def flashBusy : State := { run with flash := { op := some ringOp } }

/-- The log with one record. -/
def rec0 : FaultRec :=
  { code := 0x1031, cls := 0, parties := 4, seq := 1, tsc := 900, start := 1, detail := [0, 0, 0, 0], context := 0 }
def recorded : State := { run with log := { run.log with store := [rec0], newest := 1, sel := 1 } }

/-- The host's window selected, at its last word but one. -/
def host : State := { run with mem := { hwin := 6, hoff := 6 } }

/-- A Tally run in RUN. -/
def tally (k : TallyRun) (test finished : Bool) : State :=
  { service with mem := { tstat := k, ttest := test, tover := finished, march := 1, trow := 4 } }

/-- A read of M1 in the all-zeros pass that does not give what M0 wrote, in the row under test. -/
def badRead : MarchRead := { pass := 0, elem := 1, bank := 3, row := 4, col := 0, value := 1 }

/-- Lane A's Till with one slot of a PREVIEW run. -/
def line : Slot := { start := 0, num := 0, w := 1500 }
def midLine : Slot := { line with begun := true, fetched := 400 }
def endOfLine : Slot := { line with begun := true, closed := true, fetched := 1000, written := 1500 }
def filled (q : Slot) : State :=
  withA preview (fun x => { x with till := { x.till with slots := [q], wptr := 1520, wptr2 := 1520 } })

/-- Lane A's link in training, one ordered set short of its next state. -/
def linkIn (k : LinkState) : State :=
  withA run (fun x => { x with
    link := { st := k }
    lrun := { ts1 := 7, ts2 := 7, lastTs2 := some { ts2 := true, identity := 5, maxCredits := 1024 } } })

def magSays (k : Nat) : MagStatus := { state := k, epoch := 0, scanId := 0, last := 0xFFFFFFFF, began := 990 }

/-- Lane A moving by host command. -/
def motion : Motion := { up := 2, cruise := 10, down := 2, top := 1000, dir := -1 }
def lastStep : Motion := { motion with done := 13 }
def moving (m : Motion) : State :=
  withA run (fun x => { x with arun := { motion := some m, why := .move, energised := true } })

/-- Lane A in a seam of its SCAN run, before line 2. -/
def seam (p : SeamPhase) : State :=
  withA run (fun x => { x with
    mode := { x.mode with mode := .smoulder, origin := .scan, prog := some (prog 1 5 1) }
    lrun := { x.lrun with opened := true }
    axis := { x.axis with phase := p, pos := 16 }
    arun := { energised := true }
    nextLine := 2 })

/-- Lane A in a SCAN run whose carriage moves, its link not up; and both lanes in a gang's, a line decided. -/
def scanning : State :=
  withA run (fun x => { x with
    mode := { x.mode with mode := .scan, prog := some (prog 1 5 1) }
    lrun := { x.lrun with opened := true }
    link := { x.link with st := .train }
    axis := { x.axis with pos := 40, enc := 1 }
    arun := { energised := true, why := .run }
    nextLine := 2 })
def ganged : State :=
  let f := fun x : LaneSt => { x with
    mode := { x.mode with mode := .gangScan, prog := some (prog 2 6 1) }, capture := true, nextLine := 2, axis := { x.axis with enc := 1 } }
  settle { (run.modLane .a f).modLane .b f with sys := { run.sys with gang := true } }

/-- One light commit waiting, and head 1 under its identity check or reachable. -/
def planned (c : Commit) : State := { run with lux := { run.lux with planned := [c], comA := 3 } }
def identing : State := { run with lux := { run.lux with head := run.lux.head.set 1 { identing := true } } }
def reached : State := { run with lux := { run.lux with head := run.lux.head.set 1 { reach := true } } }

/-- The scene commit of lane A's entry phase C, sent. -/
def phaseC : Commit := { party := 1, sent := some (4, []), phaseC := true }
def entering : State :=
  withA (planned phaseC) (fun x => { x with
    mode := { x.mode with mode := .scan, entering := true, entry := some .c } })

/-- An LF-advanced span after a loss of the reference. -/
def lfSpan (back : Bool) : State :=
  { run with tmr := { run.tmr with counting := false, lf := true, lfCause := 2, lfBack := back } }

/-- Lane A's head under the identity check of bring-up step 10. -/
def checked : State :=
  { at_ .bringup 10 with shadow := { ledger with laneA := { laneImage 1 with head := { idCheck := true } } } }

/-- SLEEP, the TSC advanced by the LF oscillator. -/
def asleep : State :=
  { at_ .sleep 0 with tmr := { run.tmr with counting := false, lf := true, lfCause := 1, ts := List.replicate 16 {} } }

/-- A paired HKB one reference edge before it starts HKA's slot. -/
def lagging : State := { run with hk := { run.hk with a := { running := true, slot := 0 }, lag := some 1001 } }

/-- A paired schedule, and its HKB in a self-check. -/
def twins : State :=
  { run with
    shadow := { ledger with hkchan := (List.range 24).map (fun n => { arr := if n = 0 then 3 else 0 }), slotsB := [0] }
    hk := { run.hk with b := { checking := true } } }

/-- Line 0 of lane A's PREVIEW run in exposure, and in readout. -/
def line0 : LineCtx := { num := 0, tsc := 900 }
def exposing0 : State := withA preview (fun x => { x with exposing := some line0 })
def reading0 : State := withA (filled line) (fun x => { x with reading := some line0 })

/-- A DARK-CAL program of eight lines, its run with line 0 in exposure, and the commit of its candidate in step K1. -/
def darkProg : Program := { prog 0 1 1 with mode := 3, lines := 8 }
def wide : Ledger :=
  { ledger with windows := (List.range 16).map (fun n => { base := 524288 * (n % 8), len := 524288, enabled := true }) }
def darkRun : State :=
  { withA preview (fun x => { x with
      mode := { x.mode with mode := .darkCal, prog := some darkProg }
      cal := { state := 1, kind := 1, lines := 7, acqKind := 1 } }) with shadow := wide }
def darkK1 (k : Nat) : State :=
  { withA run (fun x => { x with cal := { state := 2, kind := k, total := 8, mask := 1 } }) with shadow := wide }

/-- A conversion of channel 0, which a consumer takes: 1 light channel 0's heatsink, 2 photometric group 0. -/
def consumed (k : Nat) : State :=
  { run with
    shadow := { ledger with
      hkchan := (List.range 24).map (fun n => { arr := if n = 0 then 1 else 0, consumer := k })
      lightch := (List.range 8).map (fun n =>
        { enabled := n < 3, limit := 65535, group := 0, knee := 500, zero := 600, shut := 700, hyst := 10
          hkChan := if n = 0 then 0 else 255 })
      photo := [{ refChan := 0, loopOn := true, limScan := 100, limOut := 500, interval := 0 }] }
    lux := { run.lux with mref := [1000] }
    hk := { run.hk with a := { running := true, start := 990 } } }

/-- Lane A's pixel path with neither dark nor gain. -/
def rawPath : State :=
  withA run (fun x => { x with pix := { x.pix with hasDark := false, hasGain := false, coefs := coefFill false 1 [] } })

/-- A march of code 0 at the step that `badRead` is of. -/
def inMarch : State := { service with mem := { tstat := .destructive, tpos := 520 } }


/-! ### Ill-formed commands are refused -/

theorem test_refuses_epoch : (Instr.sysPowerSleep 256).wf = false := by decide
theorem test_refuses_epoch_of_lane : (Instr.tillCtrlFlush .a 256).wf = false := by decide
theorem test_refuses_epoch_of_mode : (Instr.sysModeService true 300).wf = false := by decide
theorem test_refuses_program : (Instr.scanReqPin .a 16 true false).wf = false := by decide
theorem test_refuses_host_program : (Instr.headReqGo .a 16 false 0).wf = false := by decide
theorem test_refuses_report : (Instr.bringupStepComplete { holdupMs := 256 }).wf = false := by decide
theorem test_refuses_lane_report : (Instr.laneResetStepDone .a { decay := [(2 ^ 22, 0)] }).wf = false := by decide
theorem test_refuses_line : (Instr.lineStart .a { edges := [{ ab := 4 }] }).wf = false := by decide
theorem test_refuses_port : (Instr.portFaultDetected (.lightPort 8 .short)).wf = false := by decide
theorem test_refuses_identity_bytes : (Instr.identReadDone .a (some [256]) none).wf = false := by decide
theorem test_refuses_set : (Instr.pixCalcmdGo .a 4 0).wf = false := by decide
theorem test_refuses_short_frame : (Instr.mgtWrite []).wf = false := by decide
theorem test_refuses_word : (Instr.memDataAccess [65536, 0, 0] 0 0).wf = false := by decide
theorem test_refuses_march : (Instr.tallyDestructiveGo 2 0).wf = false := by decide
theorem test_refuses_failing_bank : (Instr.tallyRowDone [{ badRead with bank := 32 }] [] [] 0).wf = false := by decide
theorem test_refuses_failing_row : (Instr.tallyRunEnd { reads := [{ badRead with row := 516 }] } 0).wf = false := by decide
theorem test_refuses_grant : (Instr.tillBurstFetch .a 0 [] [{ master := 5, off := 0, cyc := 0 }]).wf = false := by decide
theorem test_refuses_ordered_set : (Instr.orderedSetReceived .a { ts2 := true, version := 256 }).wf = false := by decide
theorem test_refuses_credit : (Instr.credit .a 65536 0).wf = false := by decide
theorem test_refuses_magazine : (Instr.magazineStatus .a { state := 8, epoch := 0, scanId := 0, last := 0, began := 0 }).wf = false := by
  decide
theorem test_refuses_encoder : (Instr.stepIssue .a [{ ab := 4 }] 0).wf = false := by decide
theorem test_refuses_index : (Instr.encoderIndex .a [{ ab := 1 }, { ab := 4 }]).wf = false := by decide
theorem test_refuses_move : (Instr.axisMoveGo .a 5 8 0).wf = false := by decide
theorem test_refuses_party : (Instr.lightCommitSend 4).wf = false := by decide
theorem test_refuses_head : (Instr.lightPoll 32).wf = false := by decide
theorem test_refuses_head_zero : (Instr.headSilentTimeout 0).wf = false := by decide
theorem test_refuses_status : (Instr.lightStatusReply 1 [256] []).wf = false := by decide
theorem test_refuses_ident : (Instr.lightIdentReply 0 [] [] []).wf = false := by decide
theorem test_refuses_selfcheck : (Instr.hkSelfcheckEnd false 32768 0).wf = false := by decide
theorem test_refuses_timer : (Instr.timerTick 16).wf = false := by decide
theorem test_refuses_compare : (Instr.tmrCmpWrite 0 65536 0).wf = false := by decide
theorem test_refuses_load : (Instr.tmrCtrlLoad 16 0).wf = false := by decide
theorem test_refuses_unit : (Instr.clearOnRead 16 0).wf = false := by decide
theorem test_refuses_ack : (Instr.flogAck (2 ^ 32) 0).wf = false := by decide

/-- No row of the opcode table gives its command any bits. -/
theorem test_no_word_spells_a_command : decodeTableWord 16 0x1234 = none := by decide


/-! ### The manual's worked examples -/

/-- The window of HT-412 (07): t_TG 400, N 6 176, the window's end at cycle 49 808. -/
theorem test_window_of_worked_head :
    (let h : HeadSec := { taps := 4, outs := 2, active := 12288, dark := 64 }
     let w : WaveSet := { inst := 0, period := 8, waves := (List.range 4).map (fun t =>
       { out := t, idle := 0, nPix := 0, nLine := 2, pixEdges := [], lineEdges := [0, 400] }) }
     (h.winN, w.winStart 4, w.winEnd h, darkCount h 0) = (6176, 400, 49808, 32)) := by decide +kernel

/-- After R224 (07): a CDS swing of 0.400 V, offset code 532, gain code 12. -/
theorem test_worked_code : adcCode false 12 532 (400000000, 0) = 53612 := by decide +kernel

/-- Table 8.2: pixel 5 000 of tap 1 on line 4 096. -/
theorem test_worked_pixel :
    (shade 31200 1180 18941, tauOf 3140 3000 1000,
      linearise (linCoefs [0, 0, 0, 16777216, -33554, 0, -167772, 0, 0, 67109, 0, 0] 2348810) 34705)
      = ((34705, false), 2348810, (34550, false)) := by decide +kernel

/-- Table 15.3: the conversion of HK0 that line 4 096 latches. -/
theorem test_worked_conversion :
    (hkRaw 193489 500000, hkPoly [-12604625, 0, 0, 24800717, 0, 0, 2077491, 0, 0, 0, 0, 0] 0 17954) = (17954, 3140) := by
  decide +kernel

/-- The settings of commit 196 (14): the drive of L0 to L3 and the value of heads 5 and 6. -/
theorem test_worked_light : (lightQ 3276 32790 4095, lightH 40000 32790) = (52451, 40027) := by decide +kernel

/-- The checkpoint of the seam at line 4 100 (13): 2 880 cycles, 360 for each step. -/
theorem test_worked_trim : (trimOf 6 96000 (200 * 65536), trimOffset 2880 3 8) = (2880, 1080) := by decide +kernel

/-- Table 17.5: the read of TILL.LEVEL, request and response. -/
theorem test_worked_read :
    ((hostRead 0xA 0x00C 1).words, answer 0 0xA 0x57 [0x3305])
      = ([0x500C, 0x0001, 0x94BB], [0x0A57, 0x3305, 0x3756]) := by decide +kernel

/-- Table 18.4: record 2 417 up to its CRC-32. -/
theorem test_worked_record :
    (FaultRec.words { code := 0x8010, cls := 0, parties := 1, seq := 2417, tsc := 0x12DCAB479, start := 12
                      detail := [0x67, 0, 0, 0], context := 0x1011 }).take 14
      = [0x8010, 0x0100, 0x0971, 0, 0xB479, 0x2DCA, 1, 12, 0x67, 0, 0, 0, 0x1011, 0] := by decide +kernel

/-- Program 3 as stored (02), up to rung 2. -/
theorem test_worked_program :
    (let p := readProgram ([0x03, 0x05, 0x01, 0x07, 0x70, 0x6c, 0x61, 0x74, 0x65, 0, 0, 0, 0, 0, 0, 0, 0, 0, 0, 0, 0x00, 0x77,
       0x01, 0x00, 0x40, 0x19, 0x01, 0x00, 0x80, 0x25, 0x00, 0x00, 0x00, 0x00, 0x01, 0x00, 0x08, 0x00, 0x00, 0x00, 0, 0, 0, 0,
       0, 0, 0x03, 0x02, 0xd0, 0x07, 0x00, 0x00, 0x40, 0x96, 0x01, 0x00, 0xc0, 0xd4, 0x01, 0x00])
     ([p.num, p.mode, p.party, p.period, p.integ, p.lines, p.scene, p.micro, p.rungs, p.seamsDn, p.quietUp, p.rungP 1, p.rungP 2],
       p.pinOk && p.hostOk && p.encReq, p.reverse)
       = ([3, 5, 1, 96000, 72000, 9600, 1, 8, 3, 2, 2000, 104000, 120000], true, false)) := by decide +kernel

/-- The header of line 4 096 (12). -/
theorem test_worked_header :
    (let p : Program := { prog 3 5 1 with period := 96000, lines := 9600, micro := 8, taps := 15 }
     let s : State := { run with
       lux := { run.lux with comA := 196 }
       shadow := { ledger with laneA := { laneImage 1 with head := { taps := 4, outs := 2, active := 12288, dark := 64 } } }
       laneA := { idle p with link := { scanId := 21 } } }
     s.header .a p { num := 4096, tsc := 0x12F6A0C80, com := 196 } false
       = [0x0301, 0x0015, 0x1000, 0, 0x0C80, 0x2F6A, 1, 0, 0xC4, 0xC000, 0, 0x3000, 0x7700, 0x0201, 0x010F, 0]) := by
  decide +kernel

/-- The journal slot of set 0, slot X, that the worked flat commit writes (09). -/
theorem test_worked_slot : slotAddr .a 0 false = 0x210000 := by decide


/-! ### What meets each statement's hypotheses -/

theorem witness_StepRunsFrontCommand_a : ∃ (c : Instr) (cs : List Instr) (s : State), s.pending = c :: cs :=
  ⟨.busLow, [.pfw], { run with pending := [.busLow, .pfw] }, by decide +kernel⟩

theorem witness_IdleStepIsOneReferenceEdge_a : ∃ (s : State), s.pending = [] ∧ s.refTick.lagDue = false :=
  ⟨run, by decide +kernel⟩

theorem witness_IdleStepIsOneReferenceEdge_b : ∃ (s : State), s.Settled ∧ s.pending = [] ∧ s.tmr.counting = true
    ∧ s.refTick.lagDue = true ∧ s.hk.b.failed = false ∧ s.pwr.pfw = false ∧ (∀ n, n < 24 → (s.hkChan n).fault =
    false) :=
  ⟨lagging, by decide +kernel⟩

theorem witness_StepKeepsEngineSettled_a : ∃ (s : State) (t : State), s.Settled ∧ step s = .next t :=
  ⟨run, after (step run), by decide +kernel, rfl⟩

theorem witness_StepKeepsMemoriesCanonical_a : ∃ (s : State) (t : State), s.MemOk ∧ step s = .next t :=
  ⟨run, after (step run), by decide +kernel, rfl⟩

theorem witness_InterruptPinsFollowTheirCauses_a : ∃ (c : Instr) (s : State) (t : State), exec c s = .next t ∧
    (t.power.phase ≠ .off ∧ t.power.phase ≠ .sleep) :=
  ⟨.busLow, run, after (exec .busLow run), rfl, by decide +kernel⟩

theorem witness_InterruptPinsFollowTheirCauses_b : ∃ (c : Instr) (s : State) (t : State), exec c s = .next t :=
  ⟨.busLow, run, after (exec .busLow run), rfl⟩

theorem witness_MemoryReadsBackAndIsCanonical_a : ∃ (d : Byte) (m : Mem), Mem.wf d m = true :=
  ⟨0, [], by decide +kernel⟩

theorem witness_MemoryReadsBackAndIsCanonical_b : ∃ (d : Byte) (m : Mem) (n : Mem), (Mem.wf d m = true ∧ Mem.wf
    d n = true) ∧ (∀ k, Mem.get d m k = Mem.get d n k) :=
  ⟨0, [(5, 1)], [(5, 1)], by decide +kernel, fun _ => rfl⟩

theorem witness_MainsAppliedReturnedAndLost_a : ∃ (s : State), s.power.phase = .off ∧ s.power.mains = false :=
  ⟨State.reset, by decide +kernel⟩

theorem witness_MainsAppliedReturnedAndLost_b : ∃ (s : State), s.Settled ∧ s.power.phase = .mainsLoss :=
  ⟨at_ .mainsLoss 1, by decide +kernel⟩

theorem witness_MainsAppliedReturnedAndLost_c : ∃ (s : State), s.Settled ∧ s.power.phase ≠ .mainsLoss ∧
    s.power.phase ≠ .off :=
  ⟨run, by decide +kernel⟩

theorem witness_BringupStepsCrystalAndReady_a : ∃ (s : State), s.Settled ∧ s.power.phase = .bringup ∧
    s.power.stage = 1 ∧ s.clk.interval = false ∧ s.power.heldStep1 = false ∧ s.power.offLatched = false :=
  ⟨at_ .bringup 1, by decide +kernel⟩

theorem witness_BringupStepsCrystalAndReady_b : ∃ (s : State), s.Settled ∧ s.power.phase = .bringup ∧
    s.power.stage = 3 ∧ s.clk.interval = false ∧ s.power.offLatched = false :=
  ⟨at_ .bringup 3, by decide +kernel⟩

theorem witness_BringupStepsCrystalAndReady_c : ∃ (s : State), s.Settled ∧ s.LogRoom ∧ s.power.phase = .bringup
    ∧ s.power.stage = 2 ∧ s.power.xtalHeld = false :=
  ⟨at_ .bringup 2, by decide +kernel⟩

theorem witness_BringupStepsCrystalAndReady_d : ∃ (s : State), s.power.stage = 12 ∧ s.power.offLatched = false ∧
    s.clk.interval = false ∧ s.power.phase = .bringup :=
  ⟨at_ .bringup 12, by decide +kernel⟩

theorem witness_BringupStepsCrystalAndReady_e : ∃ (s : State), s.power.stage = 12 ∧ s.power.offLatched = false ∧
    s.clk.interval = false ∧ s.power.phase = .engineReset :=
  ⟨at_ .engineReset 12, by decide +kernel⟩

/-- A number evaluated before it is used. -/
def force {α : Type} (k : Nat → α) : Nat → α
  | 0 => k 0
  | n + 1 => k (n + 1)
theorem force_eq {α : Type} (k : Nat → α) (n : Nat) : force k n = k n := by cases n <;> rfl

def shifts : Nat → Nat → Nat
  | 0, c => c
  | n + 1, c => force crc32Shift (shifts n c)
theorem shifts_eq (n c : Nat) : shifts n c = Nat.repeat crc32Shift n c := by
  induction n with
  | zero => rfl
  | succ n ih => simp only [shifts, force_eq, ih, Nat.repeat]

def crcGo : List Nat → Nat → Nat
  | [], c => c ^^^ 0xffffffff
  | b :: bs, c => force (crcGo bs) (shifts 8 (c ^^^ (b % 256)))

/-- CRC-32, each step evaluated before the next. -/
def sum32 (bs : List Nat) : Nat := crcGo bs 0xffffffff

theorem crcGo_eq (bs : List Nat) (c : Nat) : crcGo bs c = bs.foldl crc32Byte c ^^^ 0xffffffff := by
  induction bs generalizing c with
  | nil => rfl
  | cons b bs ih => simp only [List.foldl_cons, crcGo, force_eq, shifts_eq, ih, crc32Byte]

theorem sum32_eq (bs : List Nat) : crc32 bs = sum32 bs := (crcGo_eq bs _).symm

/-! ### A copy of the Ledger in slot 0 (Tables 2.3, 2.4, 2.6) -/

/-- Sections laid out from byte `o` of a copy: directory entries and bodies. -/
def layOut : Nat → List (Nat × List Nat) → List Nat × List Nat
  | _, [] => ([], [])
  | o, (tag, b) :: ss =>
    let (d, bs) := layOut (o + b.length) ss
    (leBytes 2 tag ++ [0, 0] ++ leBytes 4 o ++ leBytes 4 b.length ++ leBytes 4 (sum32 b) ++ d, b ++ bs)

/-- A copy with sequence `seq`: header, directory and bodies. -/
def copyOf (seq : Nat) (ss : List (Nat × List Nat)) : List Nat :=
  let (d, bs) := layOut (64 + 16 * ss.length) ss
  let rest := d ++ bs
  let h := fit 0 60 ([0x42, 0x4C, 0x58, 0x4C, 1, 0, 0, 0] ++ leBytes 4 seq ++ leBytes 4 (64 + rest.length)
    ++ leBytes 2 ss.length ++ [0, 0] ++ leBytes 4 64 ++ leBytes 4 (sum32 rest))
  h ++ leBytes 4 (sum32 h) ++ rest

/-- The smallest lane A image: PREVIEW program 0, windows 0 to 2 of lane A, HK0 as its thermometer. -/
def sections : List (Nat × List Nat) := [
  (0x0001, fit 0 48 []),
  (0x0002, fit 0 32 ([0, 0, 10, 0, 0, 0, 10, 0, 0x15, 0, 0, 0, 0, 0, 0, 0, 1])),
  (0x2001, fit 0 12 [2, 0, 0, 0, 0x00, 0x08]),
  (0x3001, fit 0 192 ((leBytes 4 0 ++ leBytes 4 524288 ++ leBytes 4 1)
    ++ (leBytes 4 524288 ++ leBytes 4 65536 ++ leBytes 4 1) ++ (leBytes 4 589824 ++ leBytes 4 4096 ++ leBytes 4 1))),
  (0x3002, fit 0 4 []),
  (0x5001, fit 0 384 ([1, 3, 0, 0, 0, 0, 0, 0, 0, 0, 0, 0, 255])),
  (0x5002, fit 0 100 [1]),
  (0x6804, fit 0 24 [1]),
  (0x7001, [1, 0, 0, 0] ++ fit 0 96 ([0, 1, 1, 3] ++ fit 0 16 [] ++ leBytes 4 4096 ++ leBytes 4 1024 ++ leBytes 4 0
    ++ [0, 0, 0, 0, 1, 0, 0, 0, 0, 0, 0, 0, 0, 0, 1, 1, 1, 0] ++ fit 0 30 [] ++ [1])),
  (0x8001, fit 0 64 (fit 0 8 [] ++ [0, 0, 1, 1, 16, 0, 0, 0])),
  (0x8002, leBytes 2 64 ++ [3, 0, 0, 0, 0, 0]
    ++ fit 0 52 ([0, 0, 0, 2] ++ fit 0 16 [] ++ leBytes 4 8 ++ leBytes 4 16)
    ++ fit 0 52 [14, 0, 2, 0, 8, 0, 16, 0] ++ fit 0 52 [15, 0, 2, 0, 24, 0, 32, 0]),
  (0x9001, fit 0 16 [0, 0, 1, 0, 0]),
  (0xA001, fit 0 20 ([16, 1] ++ leBytes 2 10 ++ leBytes 4 256 ++ leBytes 4 1024 ++ leBytes 4 2048)),
  (0xA002, fit 0 16 ([0, 0, 0, 0] ++ leBytes 2 200 ++ leBytes 2 2000 ++ leBytes 2 10)),
  (0xB001, fit 0 16 [0]),
  (0xB002, [2, 0, 1, 0, 0, 0, 0, 0, 0, 0, 0, 0] ++ leBytes 4 1000)]

/-- U20 with that copy in slot 0 and nothing else. -/
def loaded : Mem := Mem.setFlash [] (copyBase 0) (copyOf 7 sections)

/-- The end of bring-up step 4 with U20 as given. -/
def atStep4 (m : Mem) : State := { at_ .bringup 4 with flash := { cells := m } }

/-- A copy of sequence `q` in slot `k` that no load check passes: one optional section, empty. -/
def scrap (m : Mem) (k q : Nat) : Mem := Mem.setFlash m (copyBase k) (copyOf q [(0x08F0, [])])
def small : Mem := scrap [] 0 7

/-- Two such copies, the later in slot 1; and the same with the later's directory spoilt. -/
def two : Mem := scrap small 1 8
def fallen : Mem := Mem.setFlash two (copyBase 1 + 64) [0]

theorem witness_LedgerCopyBecomesTheShadow_a : ∃ (s : State), s.power.phase = .bringup ∧ s.power.stage = 4 ∧
    s.power.offLatched = false ∧ s.clk.interval = false ∧ (s.flash.dev.sfdp && s.flash.dev.conforms) = false :=
  ⟨{ atStep4 [] with flash := { dev := { sfdp := false } } }, by decide +kernel⟩

theorem witness_LedgerCopyBecomesTheShadow_b : ∃ (s : State), s.power.phase = .bringup ∧ s.power.stage = 4 ∧
    s.power.offLatched = false ∧ s.clk.interval = false ∧ s.flash.dev.sfdp = true ∧ s.flash.dev.conforms = true ∧
    (pickCopy s.flash.cells (chooseDesc s.flash.cells).2.1 (chooseDesc s.flash.cells).2.2).slot = none :=
  ⟨atStep4 [], by decide +kernel⟩

theorem at_step4 (m : Mem) (k : Nat) (P : List Finding → Prop)
    (hp : (pickCopy m (chooseDesc m).2.1 (chooseDesc m).2.2).slot = some k)
    (hj : P (judge true (copySects m k) (readLedger true (u32 (Mem.flash m (copyBase k) 64) 8)
      (u32 (Mem.flash m (copyBase k) 64) 12) (copySects m k))).safes) :
    ∃ (k : Nat) (h : List Nat) (ss : List Sect) (s : State), s.power.phase = .bringup ∧ s.power.stage = 4 ∧ s.power.offLatched = false ∧ s.clk.interval = false ∧
    s.flash.dev.sfdp = true ∧ s.flash.dev.conforms = true ∧
    (pickCopy s.flash.cells (chooseDesc s.flash.cells).2.1 (chooseDesc s.flash.cells).2.2).slot = some k ∧
    h = Mem.flash s.flash.cells (copyBase k) 64 ∧ ss = copySects s.flash.cells k ∧
    P (judge s.twoLanes ss (readLedger s.twoLanes (u32 h 8) (u32 h 12) ss)).safes :=
  ⟨k, _, _, atStep4 m, rfl, rfl, rfl, rfl, rfl, rfl, hp, rfl, rfl, hj⟩

theorem loaded_picked : (pickCopy loaded (chooseDesc loaded).2.1 (chooseDesc loaded).2.2).slot = some 0 := by
  simp only [pickCopy, copyReason, headerOk, chooseDesc, descriptor, sum32_eq]
  decide +kernel

theorem loaded_judged : (judge true (copySects loaded 0) (readLedger true (u32 (Mem.flash loaded (copyBase 0) 64) 8)
    (u32 (Mem.flash loaded (copyBase 0) 64) 12) (copySects loaded 0))).safes = [] := by decide +kernel

theorem witness_LedgerCopyBecomesTheShadow_c : ∃ (k : Nat) (h : List Nat) (ss : List Sect) (s : State),
    s.power.phase = .bringup ∧ s.power.stage = 4 ∧ s.power.offLatched = false ∧ s.clk.interval = false ∧
    s.flash.dev.sfdp = true ∧ s.flash.dev.conforms = true ∧
    (pickCopy s.flash.cells (chooseDesc s.flash.cells).2.1 (chooseDesc s.flash.cells).2.2).slot = some k ∧
    h = Mem.flash s.flash.cells (copyBase k) 64 ∧ ss = copySects s.flash.cells k ∧
    (judge s.twoLanes ss (readLedger s.twoLanes (u32 h 8) (u32 h 12) ss)).safes = [] :=
  at_step4 loaded 0 (· = []) loaded_picked loaded_judged

theorem small_picked : (pickCopy small (chooseDesc small).2.1 (chooseDesc small).2.2).slot = some 0 := by
  simp only [pickCopy, copyReason, headerOk, chooseDesc, descriptor, sum32_eq]
  decide +kernel

theorem small_judged : (judge true (copySects small 0) (readLedger true (u32 (Mem.flash small (copyBase 0) 64) 8)
    (u32 (Mem.flash small (copyBase 0) 64) 12) (copySects small 0))).safes ≠ [] := by decide +kernel

theorem witness_LedgerCopyBecomesTheShadow_d : ∃ (k : Nat) (h : List Nat) (ss : List Sect) (s : State),
    s.power.phase = .bringup ∧ s.power.stage = 4 ∧ s.power.offLatched = false ∧ s.clk.interval = false ∧
    s.flash.dev.sfdp = true ∧ s.flash.dev.conforms = true ∧
    (pickCopy s.flash.cells (chooseDesc s.flash.cells).2.1 (chooseDesc s.flash.cells).2.2).slot = some k ∧
    h = Mem.flash s.flash.cells (copyBase k) 64 ∧ ss = copySects s.flash.cells k ∧
    (judge s.twoLanes ss (readLedger s.twoLanes (u32 h 8) (u32 h 12) ss)).safes ≠ [] :=
  at_step4 small 0 (· ≠ []) small_picked small_judged

theorem two_headers : headerOk (Mem.flash two (copyBase 0) 64) = true ∧ headerOk (Mem.flash two (copyBase 1) 64) = true
    ∧ copyReason two 1 = 0 := by
  simp only [copyReason, headerOk, sum32_eq]
  decide +kernel

theorem two_later : (chooseDesc two).2.2 = none ∧ copyBlank two 0 = false ∧ copyBlank two 1 = false ∧
    later (u32 (Mem.flash two (copyBase 1) 64) 8) (u32 (Mem.flash two (copyBase (1 - 1)) 64) 8) = true := by
  simp only [chooseDesc, descriptor, sum32_eq]
  decide +kernel

theorem at_copies_e (m : Mem) (hd : (chooseDesc m).2.2 = none) (h0 : headerOk (Mem.flash m (copyBase 0) 64) = true)
    (h1 : headerOk (Mem.flash m (copyBase 1) 64) = true) (b0 : copyBlank m 0 = false) (b1 : copyBlank m 1 = false)
    (hl : later (u32 (Mem.flash m (copyBase 1) 64) 8) (u32 (Mem.flash m (copyBase (1 - 1)) 64) 8) = true)
    (hr : copyReason m 1 = 0) :
    ∃ (k : Nat) (h : Nat → List Nat) (s : State), s.power.phase = .bringup ∧
    s.power.stage = 4 ∧ s.power.offLatched = false ∧ s.clk.interval = false ∧ s.flash.dev.sfdp = true ∧
    s.flash.dev.conforms = true ∧ k < 2 ∧ (chooseDesc s.flash.cells).2.2 = none ∧
    (∀ j, h j = Mem.flash s.flash.cells (copyBase j) 64) ∧ headerOk (h 0) = true ∧ headerOk (h 1) = true ∧
    copyBlank s.flash.cells 0 = false ∧ copyBlank s.flash.cells 1 = false ∧
    later (u32 (h k) 8) (u32 (h (1 - k)) 8) = true ∧ copyReason s.flash.cells k = 0 :=
  ⟨1, fun j => Mem.flash m (copyBase j) 64, atStep4 m, rfl, rfl, rfl, rfl, rfl, rfl, by decide, hd, fun _ => rfl, h0, h1,
    b0, b1, hl, hr⟩

theorem witness_LedgerCopyBecomesTheShadow_e : ∃ (k : Nat) (h : Nat → List Nat) (s : State), s.power.phase = .bringup ∧
    s.power.stage = 4 ∧ s.power.offLatched = false ∧ s.clk.interval = false ∧ s.flash.dev.sfdp = true ∧
    s.flash.dev.conforms = true ∧ k < 2 ∧ (chooseDesc s.flash.cells).2.2 = none ∧
    (∀ j, h j = Mem.flash s.flash.cells (copyBase j) 64) ∧ headerOk (h 0) = true ∧ headerOk (h 1) = true ∧
    copyBlank s.flash.cells 0 = false ∧ copyBlank s.flash.cells 1 = false ∧
    later (u32 (h k) 8) (u32 (h (1 - k)) 8) = true ∧ copyReason s.flash.cells k = 0 :=
  at_copies_e two two_later.1 two_headers.1 two_headers.2.1 two_later.2.1 two_later.2.2.1 two_later.2.2.2 two_headers.2.2

theorem fallen_headers : headerOk (Mem.flash fallen (copyBase 0) 64) = true ∧
    headerOk (Mem.flash fallen (copyBase 1) 64) = true ∧ copyReason fallen 1 ≠ 0 ∧ copyReason fallen 0 = 0 := by
  simp only [copyReason, headerOk, sum32_eq]
  decide +kernel

theorem fallen_later : (chooseDesc fallen).2 = (true, none) ∧ copyBlank fallen 0 = false ∧ copyBlank fallen 1 = false ∧
    later (u32 (Mem.flash fallen (copyBase 1) 64) 8) (u32 (Mem.flash fallen (copyBase (1 - 1)) 64) 8) = true := by
  simp only [chooseDesc, descriptor, sum32_eq]
  decide +kernel

theorem at_copies_f (m : Mem) (hd : (chooseDesc m).2 = (true, none)) (h0 : headerOk (Mem.flash m (copyBase 0) 64) = true)
    (h1 : headerOk (Mem.flash m (copyBase 1) 64) = true) (b0 : copyBlank m 0 = false) (b1 : copyBlank m 1 = false)
    (hl : later (u32 (Mem.flash m (copyBase 1) 64) 8) (u32 (Mem.flash m (copyBase (1 - 1)) 64) 8) = true)
    (hr : copyReason m 1 ≠ 0) (hq : copyReason m 0 = 0) :
    ∃ (k : Nat) (h : Nat → List Nat) (s : State), s.power.phase = .bringup ∧
    s.power.stage = 4 ∧ s.power.offLatched = false ∧ s.clk.interval = false ∧ s.flash.dev.sfdp = true ∧
    s.flash.dev.conforms = true ∧ k < 2 ∧ (chooseDesc s.flash.cells).2 = (true, none) ∧
    (∀ j, h j = Mem.flash s.flash.cells (copyBase j) 64) ∧ headerOk (h 0) = true ∧ headerOk (h 1) = true ∧
    copyBlank s.flash.cells 0 = false ∧ copyBlank s.flash.cells 1 = false ∧
    later (u32 (h k) 8) (u32 (h (1 - k)) 8) = true ∧ copyReason s.flash.cells k ≠ 0 ∧
    copyReason s.flash.cells (1 - k) = 0 :=
  ⟨1, fun j => Mem.flash m (copyBase j) 64, atStep4 m, rfl, rfl, rfl, rfl, rfl, rfl, by decide, hd, fun _ => rfl, h0, h1,
    b0, b1, hl, hr, hq⟩

theorem witness_LedgerCopyBecomesTheShadow_f : ∃ (k : Nat) (h : Nat → List Nat) (s : State), s.power.phase = .bringup ∧
    s.power.stage = 4 ∧ s.power.offLatched = false ∧ s.clk.interval = false ∧ s.flash.dev.sfdp = true ∧
    s.flash.dev.conforms = true ∧ k < 2 ∧ (chooseDesc s.flash.cells).2 = (true, none) ∧
    (∀ j, h j = Mem.flash s.flash.cells (copyBase j) 64) ∧ headerOk (h 0) = true ∧ headerOk (h 1) = true ∧
    copyBlank s.flash.cells 0 = false ∧ copyBlank s.flash.cells 1 = false ∧
    later (u32 (h k) 8) (u32 (h (1 - k)) 8) = true ∧ copyReason s.flash.cells k ≠ 0 ∧
    copyReason s.flash.cells (1 - k) = 0 :=
  at_copies_f fallen fallen_later.1 fallen_headers.1 fallen_headers.2.1 fallen_later.2.1 fallen_later.2.2.1
    fallen_later.2.2.2 fallen_headers.2.2.1 fallen_headers.2.2.2

theorem witness_LedgerCopyBecomesTheShadow_g : ∃ (s : State), s.power.phase = .bringup ∧ s.power.stage = 6 ∧
    s.power.offLatched = false ∧ s.clk.interval = false ∧ s.mem.unrep = [] ∧ s.tmr.ts.length = 16 ∧
    s.hk.ch.length = 24 := ⟨at_ .bringup 6, by decide +kernel⟩

theorem witness_ResetPinCountsConfirmsAndReleases_a : ∃ (s : State), s.Settled ∧ s.resetCounts = true ∧
    s.power.heldStep1 = false :=
  ⟨run, by decide +kernel⟩

theorem witness_ResetPinCountsConfirmsAndReleases_b : ∃ (s : State), s.Settled ∧ s.power.phase ≠ .resetLow ∧
    s.power.heldStep1 = false :=
  ⟨run, by decide +kernel⟩

theorem witness_ResetPinCountsConfirmsAndReleases_c : ∃ (s : State), s.Settled ∧ s.resetCounts = true ∧
    s.power.resetCount = true ∧ ¬(s.power.phase = .bringup ∧ s.power.stage = 1) :=
  ⟨{ run with power := { run.power with resetCount := true } }, by decide +kernel⟩

theorem witness_ResetPinCountsConfirmsAndReleases_d : ∃ (s : State), s.Settled ∧ s.power.phase = .resetLow :=
  ⟨at_ .resetLow 0, by decide +kernel⟩

theorem witness_WakeAndOffEdgesByPhase_a : ∃ (s : State), s.power.phase = .off ∧ s.power.mains = true :=
  ⟨{ State.reset with power := { mains := true } }, by decide +kernel⟩

theorem witness_WakeAndOffEdgesByPhase_b : ∃ (s : State), s.Settled ∧ s.power.phase = .sleep ∧ s.shadow.wakeHon
    = true :=
  ⟨at_ .sleep 0, by decide +kernel⟩

theorem witness_WakeAndOffEdgesByPhase_c : ∃ (s : State), (s.Settled ∧ s.power.phase = .powerDown ∧
    s.power.stage ≤ 3) ∧ (∀ l, s.configured l = true → s.sys.safe = true ∨ (s.lane l).mode.mode = .idle) :=
  ⟨at_ .powerDown 3, by decide +kernel, fun l => by cases l <;> decide +kernel⟩

theorem witness_WakeAndOffEdgesByPhase_d : ∃ (l : Lane) (s : State), s.Settled ∧ s.power.phase = .powerDown ∧
    s.power.stage ≤ 3 ∧ s.sys.safe = false ∧ s.configured l = true ∧ (s.lane l).mode.mode ≠ .idle :=
  ⟨.a, settle { preview with power := { run.power with phase := .powerDown, stage := 2 } }, by decide +kernel⟩

theorem witness_WakeAndOffEdgesByPhase_e : ∃ (s : State), s.Settled ∧ s.power.phase = .sleep :=
  ⟨at_ .sleep 0, by decide +kernel⟩

theorem witness_WakeAndOffEdgesByPhase_f : ∃ (s : State), s.Settled ∧ s.power.phase ∈ [Phase.bringup,
    .engineReset, .sleepEntry, .wake] :=
  ⟨at_ .wake 2, by decide +kernel⟩

theorem witness_WakeAndOffEdgesByPhase_g : ∃ (s : State), s.power.phase = .run :=
  ⟨run, by decide +kernel⟩

theorem witness_WakeAndOffEdgesByPhase_h : ∃ (s : State), s.Settled ∧ s.power.phase = .powerDown ∧
    s.power.offEdge = some s.tmr.tsc :=
  ⟨{ at_ .powerDown 1 with power := { (at_ .powerDown 1).power with offEdge := some 1000 } }, by decide +kernel⟩

theorem witness_SleepRequestEntersOrIsRefused_a : ∃ (s : State), (s.Settled ∧ s.shadow.sleepHon = true ∧
    s.power.phase = .run ∧ s.sleepReason = 0) ∧ (∀ l, (s.lane l).arun.motion = none) :=
  ⟨run, by decide +kernel, fun l => by cases l <;> decide +kernel⟩

theorem witness_SleepRequestEntersOrIsRefused_b : ∃ (e : Nat) (s : State), (s.Settled ∧ s.Accepts (hostWrite 0
    0x021 [1] e) ∧ s.power.phase = .run ∧ s.sleepReason = 0) ∧ (∀ l, (s.lane l).arun.motion = none) :=
  ⟨0, run, by decide +kernel, fun l => by cases l <;> decide +kernel⟩

theorem witness_SleepRequestEntersOrIsRefused_c : ∃ (s : State), s.Settled ∧ s.LogRoom ∧ s.shadow.sleepHon =
    true ∧ s.power.phase = .run ∧ s.sleepReason ≠ 0 :=
  ⟨service, by decide +kernel⟩

theorem witness_SleepRequestEntersOrIsRefused_d : ∃ (e : Nat) (s : State), s.Settled ∧ s.LogRoom ∧ s.Accepts
    (hostWrite 0 0x021 [1] e) ∧ s.sleepReason ≠ 0 :=
  ⟨0, service, by decide +kernel⟩

theorem witness_HostPowerCommands_a : ∃ (e : Nat) (s : State), s.Accepts (hostWrite 0 0x021 [2] e) ∧
    s.power.phase = .run :=
  ⟨0, run, by decide +kernel⟩

theorem witness_HostPowerCommands_b : ∃ (e : Nat) (s : State), s.Accepts (hostWrite 0 0x021 [4] e) :=
  ⟨0, run, by decide +kernel⟩

theorem witness_HostPowerCommands_c : ∃ (l : Lane) (e : Nat) (s : State), s.Accepts (hostWrite 0 0x021 [if l =
    .a then 8 else 16] e) ∧ s.resettable = true ∧ s.configured l = true ∧ (s.lane l).mode.reset = 0 ∧ s.sys.gang
    = false :=
  ⟨.b, 0, run, by decide +kernel⟩

theorem witness_SleepAndWakeStages_a : ∃ (s : State), s.Settled ∧ s.power.phase = .sleepEntry ∧ s.power.stage =
    3 ∧ s.clk.interval = false :=
  ⟨at_ .sleepEntry 3, by decide +kernel⟩

theorem witness_SleepAndWakeStages_b : ∃ (s : State), s.Settled ∧ s.power.phase = .sleepEntry ∧ 5 ≤
    s.power.stage ∧ s.clk.interval = false ∧ s.power.offLatched = false ∧ s.power.onLatched = false :=
  ⟨at_ .sleepEntry 5, by decide +kernel⟩

theorem witness_SleepAndWakeStages_c : ∃ (s : State), s.Settled ∧ s.power.phase = .wake ∧ s.power.stage = 3 ∧
    s.clk.interval = false :=
  ⟨at_ .wake 3, by decide +kernel⟩

theorem witness_SleepAndWakeStages_d : ∃ (s : State), s.power.phase = .wake ∧ s.power.stage = 1 ∧ s.clk.interval
    = false :=
  ⟨at_ .wake 1, by decide +kernel⟩

theorem witness_SleepAndWakeStages_e : ∃ (r : StepReport) (s : State), s.Settled ∧ s.LogRoom ∧ s.power.phase =
    .wake ∧ s.power.stage = 4 ∧ s.clk.interval = false ∧ r.shadowOk = false :=
  ⟨{ shadowOk := false }, at_ .wake 4, by decide +kernel⟩

theorem witness_SleepAndWakeStages_f : ∃ (s : State), s.power.phase = .wake ∧ s.power.stage = 8 ∧
    s.power.offLatched = false :=
  ⟨at_ .wake 8, by decide +kernel⟩

theorem witness_PowerDownPhases_a : ∃ (s : State), s.Settled ∧ s.power.phase = .powerDown ∧ s.power.stage = 1 ∧
    s.clk.interval = false ∧ s.power.offCancel = false :=
  ⟨at_ .powerDown 1, by decide +kernel⟩

theorem witness_PowerDownPhases_b : ∃ (s : State), s.power.phase = .powerDown ∧ 5 ≤ s.power.stage ∧
    s.clk.interval = false ∧ s.power.offCancel = false ∧ s.power.onLatched = false :=
  ⟨at_ .powerDown 5, by decide +kernel⟩

theorem witness_PowerDownPhases_c : ∃ (s : State), s.power.phase = .run :=
  ⟨run, by decide +kernel⟩

theorem witness_PowerDownPhases_d : ∃ (s : State), s.Settled ∧ s.power.phase = .mainsLoss ∧ s.power.stage = 2 ∧
    s.clk.interval = false :=
  ⟨at_ .mainsLoss 2, by decide +kernel⟩

theorem witness_PowerDownPhases_e : ∃ (s : State), s.power.phase = .mainsLoss ∧ s.power.stage = 3 ∧
    s.clk.interval = false :=
  ⟨at_ .mainsLoss 3, by decide +kernel⟩

theorem witness_PowerDownPhases_f : ∃ (s : State), s.power.phase = .mainsLoss ∧ 4 ≤ s.power.stage ∧
    s.clk.interval = false ∧ s.power.onLatched = false :=
  ⟨at_ .mainsLoss 4, by decide +kernel⟩

theorem witness_LaneResetStepsAndWatchdog_a : ∃ (l : Lane) (s : State), s.Settled ∧ (s.lane l).mode.reset = 1 ∧
    s.resettable = true ∧ s.clk.interval = false ∧ s.sys.safe = false ∧ s.sys.haltReq = false :=
  ⟨.a, withA run (fun x => { x with mode := { x.mode with mode := .none, reset := 1 } }), by decide +kernel⟩

theorem witness_LaneResetStepsAndWatchdog_b : ∃ (l : Lane) (s : State), (s.lane l).mode.reset = 9 ∧ s.resettable
    = true ∧ s.clk.interval = false ∧ s.sys.safe = false :=
  ⟨.a, withA run (fun x => { x with mode := { x.mode with mode := .none, reset := 9 } }), by decide +kernel⟩

theorem witness_LaneResetStepsAndWatchdog_c : ∃ (s : State), s.power.phase = .run ∧ s.sys.safe = false ∧
    s.sys.haltActive = false ∧ s.clk.interval = false ∧ s.power.fatals = [] :=
  ⟨run, by decide +kernel⟩

theorem witness_LaneResetStepsAndWatchdog_d : ∃ (x : Nat) (y : Nat) (s : State), s.power.phase = .run ∧
    s.sys.safe = false ∧ s.sys.haltActive = false ∧ s.clk.interval = false ∧ s.power.fatals = [x, y] ∧ x ≤
    s.tmr.tsc ∧ y ≤ s.tmr.tsc ∧ s.tmr.tsc < 2 ^ 48 ∧ s.tmr.tsc < x + 1500000000 ∧ s.tmr.tsc < y + 1500000000 :=
  ⟨900, 950, { run with power := { run.power with fatals := [900, 950] } }, by decide +kernel⟩

theorem witness_ServiceAndHalt_a : ∃ (on : Bool) (e : Nat) (s : State), s.Settled ∧ s.Accepts (hostWrite 0 0x026
    [flag on 3] e) ∧ s.mem.tstat = .none :=
  ⟨true, 0, run, by decide +kernel⟩

theorem witness_ServiceAndHalt_b : ∃ (e : Nat) (s : State), (s.Settled ∧ s.LogRoom ∧ s.Accepts (hostWrite 0
    0x027 [1] e) ∧ s.sys.haltReq = false ∧ s.mem.tstat = .none) ∧ (∀ l, s.configured l = true → (s.lane
    l).mode.mode = .idle) ∧ s.sys.gang = false :=
  ⟨0, run, by decide +kernel, fun l => by cases l <;> decide +kernel, by decide +kernel⟩

theorem witness_ServiceAndHalt_c : ∃ (e : Nat) (s : State), s.Settled ∧ s.LogRoom ∧ s.Accepts (hostWrite 0 0x027
    [0] e) ∧ s.sys.haltReq = true ∧ s.mem.tstat = .none :=
  ⟨0, { run with sys := { run.sys with haltReq := true, haltActive := true } }, by decide +kernel⟩

theorem witness_AcceptedRequestStartsEntry_a : ∃ (l : Lane) (n : Nat) (stable : Bool) (high : Bool) (p :
    Program) (s : State), s.pinsLive l = true ∧ s.decides = true ∧ (s.setAbort l high).refusal l (n % 16) false
    stable = 0 ∧ s.shadow.programs.find? (fun q => q.num == n % 16) = some p :=
  ⟨.a, 2, true, false, prog 2 6 1, run, by decide +kernel⟩

theorem witness_AcceptedRequestStartsEntry_b : ∃ (l : Lane) (n : Nat) (e : Nat) (p : Program) (s : State),
    s.Accepts (hostWrite (headUnit l) 1 [n % 16 + 16] e) ∧ s.refusal l (n % 16) true true = 0 ∧
    s.shadow.programs.find? (fun q => q.num == n % 16) = some p :=
  ⟨.b, 3, 0, prog 3 1 2, run, by decide +kernel⟩

theorem witness_AcceptedRequestStartsEntry_c : ∃ (l : Lane) (s : State), s.Settled ∧ s.pinsLive l = true ∧
    s.power.phase = .bringup :=
  ⟨.a, at_ .bringup 3, by decide +kernel⟩

theorem witness_RefusedRequestIsNoted_a : ∃ (l : Lane) (n : Nat) (stable : Bool) (high : Bool) (s : State),
    s.Settled ∧ s.LogRoom ∧ s.pinsLive l = true ∧ s.decides = true ∧ (s.setAbort l high).refusal l (n % 16)
    false stable ≠ 0 :=
  ⟨.a, 9, true, false, run, by decide +kernel⟩

theorem witness_RefusedRequestIsNoted_b : ∃ (l : Lane) (n : Nat) (e : Nat) (s : State), s.Settled ∧ s.LogRoom ∧
    s.Accepts (hostWrite (headUnit l) 1 [n % 16 + 16] e) ∧ s.refusal l (n % 16) true true ≠ 0 :=
  ⟨.a, 3, 0, run, by decide +kernel⟩

theorem witness_RefusedRequestIsNoted_c : ∃ (l : Lane) (n : Nat) (e : Nat) (s : State), s.Settled ∧ s.LogRoom ∧
    s.capturesRun l = false ∧ s.acquiring l = false ∧ s.Accepts (hostWrite (headUnit l) 1 [n % 16 + 48] e) :=
  ⟨.a, 0, 0, run, by decide +kernel⟩

theorem witness_AbortEndsTheRun_a : ∃ (l : Lane) (s : State), s.Settled ∧ s.LogRoom ∧ s.pinsLive l = true ∧
    s.decides = true ∧ s.capturesRun l = true ∧ (s.lane l).lrun.ending = none ∧ s.sys.gang = false :=
  ⟨.a, preview, by decide +kernel⟩

theorem witness_AbortEndsTheRun_b : ∃ (l : Lane) (s : State), s.Settled ∧ s.pinsLive l = true :=
  ⟨.b, run, by decide +kernel⟩

theorem witness_AbortEndsTheRun_c : ∃ (l : Lane) (e : Nat) (s : State), s.Settled ∧ s.LogRoom ∧ s.Accepts
    (hostWrite (headUnit l) 1 [0x20] e) ∧ s.capturesRun l = true ∧ (s.lane l).lrun.ending = none ∧ s.sys.gang =
    false :=
  ⟨.a, 0, preview, by decide +kernel⟩

theorem witness_LineCycleOfARun_a : ∃ (l : Lane) (p : Program) (s : State), s.Settled ∧ s.clk.interval = false ∧
    s.clk.hold = false ∧ s.sys.gang = false ∧ (s.lane l).mode.prog = some p ∧ s.moves l p = false ∧
    s.capturesRun l = true ∧ (s.lane l).mode.mode = .preview ∧ (s.lane l).mode.entering = false ∧ (s.lane
    l).lrun.ending = none ∧ (s.lane l).stopMask = none ∧ (s.lane l).sub = 0 ∧ (s.lane l).till.dropping = false ∧
    s.stopBits l = 0 ∧ (p.lines = 0 ∨ (s.lane l).nextLine < p.lines) :=
  ⟨.a, prog 0 1 1, preview, by decide +kernel⟩

theorem witness_LineCycleOfARun_b : ∃ (l : Lane) (p : Program) (s : State), s.Settled ∧ s.clk.interval = false ∧
    s.clk.hold = false ∧ s.sys.gang = false ∧ (s.lane l).mode.prog = some p ∧ s.capturesRun l = true ∧ (s.lane
    l).mode.mode ≠ .smoulder ∧ (s.lane l).mode.entering = false ∧ (s.lane l).lrun.ending = none ∧ p.lines ≠ 0 ∧
    p.lines ≤ (s.lane l).nextLine :=
  ⟨.a, finite, previewAt finite 8, by decide +kernel⟩

theorem witness_LineCycleOfARun_c : ∃ (l : Lane) (p : Program) (s : State), s.clk.interval = false ∧ s.sys.gang
    = false ∧ (s.lane l).mode.prog = some p ∧ p.mode = 1 ∧ p.lines = 0 ∧ p.binning = 0 ∧ (s.lane l).mode.mode =
    .preview ∧ (s.lane l).mode.entering = false ∧ (s.lane l).mode.ending = false ∧ (s.lane l).lrun.ending = none
    ∧ (s.lane l).stopMask = none ∧ (s.lane l).sub = 0 ∧ (s.lane l).capture = true ∧ (s.lane l).head.drivers =
    true ∧ (s.lane l).head.readout = none ∧ (s.lane l).exposing = none ∧ (s.lane l).reading = none :=
  ⟨.a, prog 0 1 1, withA preview (fun x => { x with capture := true }), by decide +kernel⟩

theorem witness_LineCycleOfARun_d : ∃ (l : Lane) (p : Program) (s : State), s.Settled ∧ s.clk.interval = false ∧
    s.clk.hold = false ∧ s.sys.gang = false ∧ (s.lane l).mode.prog = some p ∧ s.moves l p = true ∧ s.capturesRun
    l = true ∧ (s.lane l).mode.mode = .scan ∧ (s.lane l).mode.entering = false ∧ (s.lane l).lrun.ending = none ∧
    (p.lines = 0 ∨ (s.lane l).nextLine < p.lines) ∧ s.seamOpen l = false ∧ s.stopBits l ≠ 0 :=
  ⟨.a, prog 1 5 1, scanning, by decide +kernel⟩

theorem witness_LineCycleOfARun_e : ∃ (l : Lane) (x : LineInput) (p : Program) (m : Nat) (s : State),
    s.clk.interval = false ∧ s.sys.gang = false ∧ (s.lane l).mode.prog = some p ∧ p.mode = 5 ∧ (s.lane
    l).mode.mode = .scan ∧ (s.lane l).mode.entering = false ∧ (s.lane l).mode.ending = false ∧ (s.lane
    l).lrun.ending = none ∧ (s.lane l).sub = 0 ∧ (s.lane l).unexposed = none ∧ (s.lane l).stopMask = some m ∧ (∀
    n ∈ (s.lane l).head.railed, n < 63) ∧ ((s.lane l).exposing = none ∨ (s.fenced l (s.img l).pix.window = false
    ∧ s.fenced l (s.tillSec l).window = false)) ∧ ((s.lane l).axis.encOk = true → beyond (s.img l).axis.cpp
    (s.deviation l p ((s.lane l).arun.cycle + 1) ((s.countEdges l x.edges).lane l).axis.enc) 2 = false) :=
  ⟨.a, {}, prog 1 5 1, 1, withA scanning (fun x => { x with stopMask := some 1 }), by decide +kernel⟩

theorem witness_LineCycleOfARun_f : ∃ (l : Lane) (x : LineInput) (p : Program) (s : State), s.clk.interval =
    false ∧ s.sys.gang = false ∧ (s.lane l).mode.prog = some p ∧ p.mode = 5 ∧ p.binning = 0 ∧ (s.lane
    l).mode.mode = .scan ∧ (s.lane l).mode.entering = false ∧ (s.lane l).mode.ending = false ∧ (s.lane
    l).lrun.ending = none ∧ (s.lane l).sub = 0 ∧ (s.lane l).capture = true ∧ (s.lane l).stopMask = none ∧ (∀ n ∈
    (s.lane l).head.railed, n < 63) ∧ ((s.lane l).exposing = none ∨ (s.fenced l (s.img l).pix.window = false ∧
    s.fenced l (s.tillSec l).window = false)) ∧ ((s.lane l).axis.encOk = true → beyond (s.img l).axis.cpp
    (s.deviation l p ((s.lane l).arun.cycle + 1) ((s.countEdges l x.edges).lane l).axis.enc) 2 = false) :=
  ⟨.a, {}, prog 1 5 1, withA scanning (fun x => { x with capture := true }), by decide +kernel⟩

theorem witness_LineCycleOfARun_g : ∃ (x : LineInput) (p : Program) (s : State), s.clk.interval = false ∧
    s.sys.gang = true ∧ s.laneA.mode.prog = some p ∧ p.mode = 6 ∧ p.binning = 0 ∧ s.laneA.mode.mode = .gangScan
    ∧ s.laneA.mode.entering = false ∧ s.laneA.mode.ending = false ∧ s.laneA.lrun.ending = none ∧ s.laneA.sub = 0
    ∧ s.laneB.sub = 0 ∧ s.laneA.capture = true ∧ s.laneA.stopMask = none ∧ (∀ n ∈ s.laneA.head.railed, n < 63) ∧
    (s.laneA.exposing = none ∨ (s.fenced .a (s.img .a).pix.window = false ∧ s.fenced .a s.stitchWin = false ∧
    s.fenced .a (s.tillSec .a).window = false ∧ s.fenced .a (s.tillSec .b).window = false)) ∧
    (s.laneA.axis.encOk = true → beyond (s.img .a).axis.cpp (s.deviation .a p (s.laneA.arun.cycle + 1)
    (s.countEdges .a x.edges).laneA.axis.enc) 2 = false) :=
  ⟨{}, prog 2 6 1, ganged, by decide +kernel⟩

theorem witness_LineCycleOfARun_h : ∃ (l : Lane) (s : State), s.clk.interval = false ∧ s.sys.gang = false ∧
    s.idleDue l = true :=
  ⟨.a, withA preview (fun x => { x with mode := { x.mode with ending := true }, lrun := { x.lrun with opened :=
    false } }), by decide +kernel⟩

theorem witness_LineReadoutFillsAndClosesItsSlot_a : ∃ (l : Lane) (p : Program) (s : State), s.clk.interval =
    false ∧ s.clk.hold = false ∧ s.sys.gang = false ∧ (s.lane l).mode.prog = some p ∧ (s.lane l).mode.mode ≠
    .none ∧ (s.lane l).mode.mode ≠ .idle ∧ (s.lane l).mode.mode ≠ .smoulder ∧ (s.lane l).mode.ending = false ∧
    (s.lane l).mode.entering = true ∧ ((s.lane l).mode.entry = some .a ∨ (s.lane l).mode.entry = some .b) :=
  ⟨.a, prog 0 1 1, withA preview (fun x => { x with mode := { x.mode with entering := true, entry := some .a } }),
    by decide +kernel⟩

theorem witness_LineReadoutFillsAndClosesItsSlot_b : ∃ (l : Lane) (p : Program) (c : LineCtx) (s : State),
    s.MemOk ∧ s.marching = false ∧ s.clk.interval = false ∧ s.sys.gang = false ∧ (s.lane l).mode.prog = some p ∧
    p.mode = 1 ∧ p.lines = 0 ∧ p.binning = 0 ∧ (s.lane l).mode.mode = .preview ∧ (s.lane l).mode.entering =
    false ∧ (s.lane l).mode.ending = false ∧ (s.lane l).lrun.ending = none ∧ (s.lane l).stopMask = none ∧
    (s.lane l).head.nextTrim = none ∧ (s.lane l).head.reclock = false ∧ s.driving l = true ∧ (s.lane
    l).head.readout = none ∧ (s.lane l).reading = none ∧ (s.lane l).group = none ∧ (s.lane l).exposing = some c
    ∧ s.fenced l (s.img l).pix.window = false ∧ s.fenced l (s.tillSec l).window = false ∧ (s.shadow.windows.getD
    (s.tillSec l).window {}).len = s.tillSize l ∧ 16 + s.payloadW l p ≤ s.tillSize l :=
  ⟨.a, prog 0 1 1, line0, exposing0, by decide +kernel⟩

theorem witness_LineReadoutFillsAndClosesItsSlot_c : ∃ (l : Lane) (p : Program) (c : LineCtx) (q : Slot) (s :
    State), s.MemOk ∧ s.marching = false ∧ s.clk.interval = false ∧ s.sys.gang = false ∧ (s.lane l).mode.prog =
    some p ∧ p.mode = 1 ∧ p.lines = 0 ∧ p.binning = 0 ∧ (s.lane l).mode.mode = .preview ∧ (s.lane
    l).mode.entering = false ∧ (s.lane l).mode.ending = false ∧ (s.lane l).lrun.ending = none ∧ (s.lane
    l).stopMask = none ∧ (s.lane l).capture = false ∧ (s.lane l).exposing = none ∧ (s.lane l).reading = some c ∧
    (s.lane l).till.slots.find? (fun r => r.num == c.num && !r.closed) = some q ∧ s.fenced l (s.tillSec
    l).window = false ∧ (s.shadow.windows.getD (s.tillSec l).window {}).len = s.tillSize l ∧ q.w + 20 ≤
    s.tillSize l :=
  ⟨.a, prog 0 1 1, line0, line, reading0, by decide +kernel⟩

theorem witness_LineReadoutFillsAndClosesItsSlot_d : ∃ (l : Lane) (p : Program) (codes : List (List Nat)) (s :
    State), (p.mode = 1 ∧ (s.lane l).pix.hasDark = false ∧ (s.lane l).pix.hasGain = false ∧ (s.img l).head.taps
    ≤ 4 ∧ p.taps < 2 ^ (s.img l).head.taps ∧ (s.lane l).pix.coefs = coefFill false (s.img l).head.taps [] ∧ (∀
    xs ∈ codes, ∀ v ∈ xs, v < 65536)) :=
  ⟨.a, prog 0 1 1, [[3, 4]], rawPath, by decide +kernel⟩

theorem witness_LineReadoutFillsAndClosesItsSlot_e : ∃ (xs : List Nat) (dgs : List (Nat × Nat)) (i : Nat),
    dgs.length = xs.length ∧ i < xs.length ∧ (dgs.getD i (0, 0)).2 ≠ 0xFFFF :=
  ⟨[5, 6], [(1, 16384), (0, 16384)], 0, by decide +kernel⟩

theorem witness_LineReadoutFillsAndClosesItsSlot_f : ∃ (xs : List Nat) (dgs : List (Nat × Nat)) (i : Nat) (j :
    Nat) (k : Nat), dgs.length = xs.length ∧ j < i ∧ i < k ∧ k < xs.length ∧ (dgs.getD j (0, 0)).2 ≠ 0xFFFF ∧
    (dgs.getD k (0, 0)).2 ≠ 0xFFFF ∧ (∀ m, m < k → j < m → (dgs.getD m (0, 0)).2 = 0xFFFF) :=
  ⟨[5, 6, 7], [(0, 16384), (0, 0xFFFF), (0, 16384)], 1, 0, 2, by decide +kernel⟩

theorem witness_ClockCommitAndLock_a : ∃ (e : Nat) (s : State), s.Settled ∧ s.Accepts (hostWrite 2 2 [1] e) :=
  ⟨0, service, by decide +kernel⟩

theorem witness_ClockCommitAndLock_b : ∃ (s : State), s.Settled ∧ s.locking = true ∧ (s.clk.hold = false ∨
    s.clk.attempts = 0) :=
  ⟨locking 0, by decide +kernel⟩

theorem witness_ClockCommitAndLock_c : ∃ (s : State), s.Settled ∧ s.locking = true ∧ s.clk.attempts < 2 :=
  ⟨locking 1, by decide +kernel⟩

theorem witness_ClockCommitAndLock_d : ∃ (s : State), s.locking = true ∧ 2 ≤ s.clk.attempts ∧ s.sys.safe = false
    :=
  ⟨locking 2, by decide +kernel⟩

theorem witness_AnchorEdgeAndSpread_a : ∃ (s : State), s.Settled ∧ s.clk.locked = true ∧ s.clk.interval = false
    ∧ ((s.power.phase = .bringup ∧ s.power.stage = 3) ∨ (s.power.phase = .wake ∧ s.power.stage = 2)) :=
  ⟨at_ .bringup 3, by decide +kernel⟩

theorem witness_AnchorEdgeAndSpread_b : ∃ (s : State), s.clk.locked = true ∧ s.clk.interval = true ∧ s.clk.hold
    = false ∧ s.clk.pause = true :=
  ⟨{ run with clk := { run.clk with onRef := true, pause := true, nextF := 1 } }, by decide +kernel⟩

theorem witness_AnchorEdgeAndSpread_c : ∃ (s : State), s.clk.locked = true ∧ s.clk.interval = true ∧ s.clk.hold
    = true ∧ s.clk.pause = false ∧ s.clk.tripTsc ≤ s.tmr.tsc ∧ s.tmr.tsc < 2 ^ 48 :=
  ⟨relocked, by decide +kernel⟩

theorem witness_AnchorEdgeAndSpread_d : ∃ (s : State), s.Settled ∧ (s.clk.spread = 0 ∨ s.sys.safe = true ∨
    s.clk.hold = true ∨ s.clk.onRef = true ∨ s.clk.locked = false ∨ ((s.power.phase = .bringup ∨ s.power.phase =
    .engineReset) ∧ s.power.stepDone < 6)) :=
  ⟨run, by decide +kernel⟩

theorem witness_AnchorEdgeAndSpread_e : ∃ (s : State), (s.Settled ∧ s.clk.spread ≠ 0 ∧ s.sys.safe = false ∧
    s.clk.hold = false ∧ s.clk.onRef = false ∧ s.clk.locked = true ∧ s.power.phase ≠ .bringup ∧ s.power.phase ≠
    .engineReset) ∧ (∀ l, (s.lane l).mode.mode = .none ∨ (s.lane l).mode.mode = .idle) :=
  ⟨spreading run, by decide +kernel, fun l => by cases l <;> decide +kernel⟩

theorem witness_AnchorEdgeAndSpread_f : ∃ (l : Lane) (s : State), s.Settled ∧ s.clk.spread ≠ 0 ∧ s.sys.safe =
    false ∧ s.clk.hold = false ∧ s.clk.onRef = false ∧ s.clk.locked = true ∧ s.power.phase ≠ .bringup ∧
    s.power.phase ≠ .engineReset ∧ (s.lane l).mode.mode ≠ .none ∧ (s.lane l).mode.mode ≠ .idle :=
  ⟨.a, spreading preview, by decide +kernel⟩

theorem witness_HoldoverTripAndSwitch_a : ∃ (s : State), s.canTrip = true :=
  ⟨run, by decide +kernel⟩

theorem witness_HoldoverTripAndSwitch_b : ∃ (s : State), s.canTrip = true ∧ s.sys.gang = false :=
  ⟨reading0, by decide +kernel⟩

theorem witness_HoldoverTripAndSwitch_c : ∃ (l : Lane) (c : LineCtx) (s : State), s.clk.hold = true ∧
    s.clk.onRef = false ∧ s.capturesRun l = true ∧ s.sys.gang = false ∧ (s.lane l).reading = some c ∧
    s.pixelsOut l c = false :=
  ⟨.a, { num := 4, tsc := 900 }, reading, by decide +kernel⟩

theorem witness_HoldoverTripAndSwitch_d : ∃ (l : Lane) (c : LineCtx) (e : LineCtx) (s : State), s.clk.hold =
    true ∧ s.clk.onRef = false ∧ s.capturesRun l = true ∧ s.sys.gang = false ∧ (s.lane l).reading = some c ∧
    s.pixelsOut l c = true ∧ (s.lane l).exposing = some e ∧ c.num < e.num :=
  ⟨.a, { num := 4, tsc := 10 }, { num := 5, tsc := 990 }, readOut, by decide +kernel⟩

theorem witness_HoldoverTripAndSwitch_e : ∃ (l : Lane) (e : LineCtx) (s : State), s.clk.hold = true ∧
    s.clk.onRef = false ∧ s.capturesRun l = true ∧ s.sys.gang = false ∧ (s.lane l).reading = none ∧ (s.lane
    l).exposing = some e :=
  ⟨.a, { num := 5, tsc := 990 }, { preview with clk := held.clk, laneA := { preview.laneA with exposing := some {
    num := 5, tsc := 990 } } }, by decide +kernel⟩

theorem witness_HoldoverTripAndSwitch_f : ∃ (s : State), s.Settled ∧ s.clk.hold = true ∧ s.clk.onRef = false ∧
    s.sys.safe = false ∧ s.holdQuiet = true ∧ s.clk.refLost = false :=
  ⟨held, by decide +kernel⟩

theorem witness_HoldoverTripAndSwitch_g : ∃ (s : State), s.clk.hold = true ∧ s.clk.onRef = false ∧ s.sys.safe =
    false ∧ s.holdQuiet = true ∧ s.clk.refLost = true :=
  ⟨{ held with clk := { held.clk with refLost := true } }, by decide +kernel⟩

theorem witness_HoldOverrunAndReferenceLoss_a : ∃ (s : State), s.clk.hold = true ∧ s.clk.onRef = false ∧
    s.sys.safe = false ∧ s.clk.refLost = false :=
  ⟨reading, by decide +kernel⟩

theorem witness_HoldOverrunAndReferenceLoss_b : ∃ (s : State), s.power.phase = .run ∧ s.sys.safe = false ∧
    s.clk.onRef = false ∧ s.clk.refLost = false ∧ s.tmr.lf = false ∧ s.tmr.lfPend = false :=
  ⟨run, by decide +kernel⟩

theorem witness_MainsPeriodAndOutputs_a : ∃ (m : MainsReport) (s : State), s.Settled ∧ s.power.phase = .bringup
    ∧ s.power.stepDone < 6 ∧ 850 ≤ m.vrms ∧ freqBad m.ticks = false ∧ s.pwr.mainsLow = false ∧ s.pwr.freqOut =
    false ∧ s.hist.persist = 0 ∧ overCap (window50 m.input s.hist.input) m.vrms = false :=
  ⟨mains, { at_ .bringup 3 with power := { phase := .bringup, stage := 3, stepDone := 2 } }, by decide +kernel⟩

theorem witness_MainsPeriodAndOutputs_b : ∃ (s : State), s.power.phase = .run ∧ s.hist.persist = 0 :=
  ⟨run, by decide +kernel⟩

theorem witness_MainsPeriodAndOutputs_c : ∃ (s : State), s.power.phase = .run ∧ s.hist.persist = 0 ∧
    s.log.store.length < 480 :=
  ⟨{ run with hist := { lowCount := 49 } }, by decide +kernel⟩

theorem witness_MainsPeriodAndOutputs_d : ∃ (l : Lane) (m : MainsReport) (w : List Nat) (b : Nat) (s : State),
    s.power.phase = .run ∧ s.log.store.length < 480 ∧ s.sys.gang = false ∧ s.configured l = true ∧ w = (if l =
    .a then window50 m.drawA s.hist.drawA else window50 m.drawB s.hist.drawB) ∧ b = (if l = .a then
    s.shadow.party.budgetA else s.shadow.party.budgetB) ∧ overBudget w b = true ∧ s.hist.overd.getD (laneNo l)
    false = false :=
  ⟨.a, mains, List.replicate 50 10, 0, { preview with hist := { drawA := List.replicate 49 10 } },
    by decide +kernel⟩

theorem witness_MainsPeriodAndOutputs_e : ∃ (m : MainsReport) (s : State), s.power.phase = .run ∧
    s.log.store.length < 480 ∧ s.sys.gang = true ∧ overBudget ((window50 m.drawA s.hist.drawA).zipWith (· + ·)
    (window50 (if s.twoLanes then m.drawB else 0) s.hist.drawB)) (s.shadow.party.budgetA +
    s.shadow.party.budgetB) = true ∧ s.hist.overd.getD 0 false = false ∧ s.capturesRun .a = true ∧ s.capturesRun
    .b = true :=
  ⟨mains, { ganged with hist := { drawA := List.replicate 49 10, drawB := List.replicate 49 10 } },
    by decide +kernel⟩

theorem witness_MainsPeriodAndOutputs_f : ∃ (m : MainsReport) (s : State), s.power.phase = .run ∧
    s.log.store.length < 480 ∧ overBudget (window50 m.drawM s.hist.drawM) s.shadow.party.budgetM = true ∧
    s.hist.overd.getD 2 false = false :=
  ⟨mains, { run with hist := { drawM := List.replicate 49 30 } }, by decide +kernel⟩

theorem witness_MainsPeriodAndOutputs_g : ∃ (m : MainsReport) (s : State), s.power.phase = .run ∧
    s.log.store.length < 480 ∧ s.sys.gang = false ∧ overCap (window50 m.input s.hist.input) m.vrms = true ∧
    s.hist.capHot = false ∧ s.hist.skip ≤ 1 ∧ overBudget (window50 m.drawA s.hist.drawA) s.shadow.party.budgetA
    = false ∧ overBudget (window50 m.drawB s.hist.drawB) s.shadow.party.budgetB = false ∧ (s.capturesRun .a ||
    s.capturesRun .b) = true :=
  ⟨hot, { preview with hist := { input := List.replicate 49 6000 } }, by decide +kernel⟩

theorem witness_MainsPeriodAndOutputs_h : ∃ (m : MainsReport) (s : State), s.power.phase = .run ∧
    s.log.store.length < 480 ∧ s.sys.safe = false ∧ overCap (window50 m.input s.hist.input) m.vrms = true ∧
    s.hist.capHot = true ∧ s.hist.skip ≤ 1 ∧ (∀ n, n < 3 → s.hist.overd.getD n false = true) ∧ 51 ≤
    s.hist.persist :=
  ⟨hot, overloaded 51, by decide +kernel⟩

theorem witness_MainsPeriodAndOutputs_i : ∃ (s : State), s.power.phase = .run ∧ s.hist.persist = 1 ∧
    s.hist.capHot = true ∧ s.hist.skip ≤ 1 ∧ (∀ n, n < 3 → s.hist.overd.getD n false = true) ∧ s.allIdle = true
    :=
  ⟨overloaded 1, by decide +kernel⟩

theorem witness_MainsPeriodAndOutputs_k : ∃ (s : State), s.Settled ∧ s.LogRoom ∧ s.outOn .aux = true ∧
    s.power.phase = .run ∧ s.sys.safe = false ∧ s.pwr.auxShort = false :=
  ⟨run, by decide +kernel⟩

theorem witness_MainsPeriodAndOutputs_l : ∃ (s : State), s.power.phase = .run ∧ s.pwr.busOk = true ∧ s.sys.safe
    = false :=
  ⟨run, by decide +kernel⟩

theorem witness_PortFaultSetsItsFlag_a : ∃ (l : Lane) (k : LanePort) (s : State), s.portWatched (.lanePort l k)
    = true ∧ s.configured l = true :=
  ⟨.b, .clockShort 3, run, by decide +kernel⟩

theorem witness_PortFaultSetsItsFlag_b : ∃ (n : Nat) (k : LightPort) (s : State), s.portWatched (.lightPort n k)
    = true ∧ s.chOn n = true ∧ (s.lux.ch.getD n {}).faulted = false :=
  ⟨1, .short, run, by decide +kernel⟩

theorem witness_PortFaultSetsItsFlag_c : ∃ (s : State), s.portWatched .busSwap = true :=
  ⟨run, by decide +kernel⟩

theorem witness_PortFaultSetsItsFlag_d : ∃ (s : State), s.portWatched .auxShort = true ∧ s.pwr.auxShort = false
    :=
  ⟨run, by decide +kernel⟩

theorem witness_PortFaultSetsItsFlag_e : ∃ (s : State), s.portWatched .busShort = true :=
  ⟨run, by decide +kernel⟩

theorem witness_PortFaultSetsItsFlag_f : ∃ (s : State), s.Settled ∧ s.power.phase = .run ∧ s.sys.safe = false :=
  ⟨run, by decide +kernel⟩

theorem witness_IdentityReadShowsTheHead_a : ∃ (l : Lane) (b : List Nat) (ohm : Nat) (s : State), s.Settled ∧
    s.power.phase = .bringup ∧ s.power.stage = 10 ∧ s.configured l = true ∧ s.outOn (headOut l) = true ∧
    b.length = 64 ∧ idFinding (s.img l).head (some b) = [] ∧ 700 ≤ ohm ∧ ohm ≤ 1700 :=
  ⟨.a, goodId, 1000, at_ .bringup 10, by decide +kernel⟩

theorem witness_IdentityReadShowsTheHead_b : ∃ (l : Lane) (ohm : Nat) (s : State), s.power.phase = .bringup ∧
    s.power.stage = 10 ∧ s.configured l = true ∧ s.outOn (headOut l) = true ∧ (s.img l).head.idCheck = true ∧
    700 ≤ ohm ∧ ohm ≤ 1700 :=
  ⟨.a, 1000, checked, by decide +kernel⟩

theorem witness_FlashOperationsEnd_a : ∃ (op : FlashOp) (s : State), s.flash.op = some op ∧ op.due = false :=
  ⟨ringOp, flashBusy, by decide +kernel⟩

theorem witness_FlashOperationsEnd_b : ∃ (op : FlashOp) (s : State), s.flash.op = some op ∧ op.due = false :=
  ⟨ringOp, flashBusy, by decide +kernel⟩

theorem witness_FlashOperationsEnd_c : ∃ (op : FlashOp) (s : State), s.Settled ∧ s.LogRoom ∧ s.flash.op = some
    op ∧ op.due = false ∧ op.retried = false ∧ s.retryAllowed op = true :=
  ⟨ringOp, flashBusy, by decide +kernel⟩

theorem witness_FlashOperationsEnd_d : ∃ (op : FlashOp) (s : State), s.Settled ∧ s.LogRoom ∧ s.flash.op = some
    op ∧ op.due = false ∧ op.retried = false ∧ s.retryAllowed op = true :=
  ⟨ringOp, flashBusy, by decide +kernel⟩

theorem witness_RingProgramsPendingRecords_a : ∃ (s : State), s.Settled ∧ s.ringAllowed = true ∧ s.log.ringOpen
    = true ∧ s.log.ringPos < 127 ∧ s.pendingRecs ≠ [] :=
  ⟨recorded, by decide +kernel⟩

theorem witness_RingProgramsPendingRecords_b : ∃ (s : State), s.Settled ∧ s.LogRoom ∧ s.log.unreported ≠ 0 ∧
    s.dropDue = true :=
  ⟨{ run with log := { run.log with unreported := 3 } }, by decide +kernel⟩

theorem witness_CalibrationCommitSteps_a : ∃ (l : Lane) (k : Nat) (e : Nat) (s : State), s.Settled ∧ s.LogRoom ∧
    s.Accepts (hostWrite (pixUnit l) 0x026 [k % 4 + 4] e) :=
  ⟨.a, 2, 0, service, by decide +kernel⟩

theorem witness_CalibrationCommitSteps_b : ∃ (l : Lane) (s : State), s.Settled ∧ (s.lane l).cal.state = 3 ∧
    s.recSaved (0x9030 + laneOff l) = true ∧ s.flash.op = none ∧ s.clk.interval = false ∧ s.pwr.pfw = false ∧
    s.power.phase = .run :=
  ⟨.a, withA run (fun x => { x with cal := { state := 3, kind := 3 } }), by decide +kernel⟩

theorem witness_CalibrationCommitSteps_c : ∃ (l : Lane) (s : State), s.Settled ∧ (s.lane l).cal.state = 8 ∧
    s.recSaved (0x9031 + laneOff l) = true ∧ s.clk.interval = false ∧ (s.lane l).cal.acqKind = 0 ∧ (s.lane
    l).cal.acqWait = false ∧ (s.lane (otherLane l)).cal.state ≠ 9 ∧ ((s.flash.op.map (fun op => op.use.ofCal
    l)).getD false) = false ∧ s.power.phase = .run :=
  ⟨.a, withA run (fun x => { x with cal := { state := 8, kind := 3 } }), by decide +kernel⟩

theorem witness_CalibrationRunAcquires_a : ∃ (l : Lane) (p : Program) (c : LineCtx) (s : State), s.MemOk ∧
    s.marching = false ∧ s.clk.interval = false ∧ s.sys.gang = false ∧ (s.lane l).mode.prog = some p ∧ (p.mode =
    3 ∨ p.mode = 4) ∧ (s.lane l).mode.mode = progMode p ∧ s.moves l p = false ∧ (s.lane l).mode.entering = false
    ∧ (s.lane l).mode.ending = false ∧ (s.lane l).head.nextTrim = none ∧ (s.lane l).head.reclock = false ∧
    s.driving l = true ∧ (s.lane l).head.readout = none ∧ (s.lane l).reading = none ∧ (s.lane l).exposing = some
    c ∧ s.fenced l (s.tillSec l).window = false ∧ 131072 ≤ (s.shadow.windows.getD (s.tillSec l).window {}).len ∧
    (s.img l).head.active ≤ 16384 ∧ p.taps < 16 :=
  ⟨.a, darkProg, line0, withA darkRun (fun x => { x with exposing := some line0 }), by decide +kernel⟩

theorem witness_CalibrationRunAcquires_b : ∃ (l : Lane) (p : Program) (c : LineCtx) (s : State), s.clk.interval
    = false ∧ s.sys.gang = false ∧ (s.lane l).mode.prog = some p ∧ (p.mode = 3 ∨ p.mode = 4) ∧ (s.lane
    l).mode.mode = progMode p ∧ s.moves l p = false ∧ (s.lane l).mode.entering = false ∧ (s.lane l).mode.ending
    = false ∧ (s.lane l).reading = some c ∧ (s.lane l).exposing = none ∧ (s.lane l).cal.state = 1 ∧ (s.lane
    l).cal.lines + 1 = p.lines ∧ (s.lane l).cal.acqKind = p.mode - 2 ∧ committing (s.lane (otherLane l)).cal =
    false :=
  ⟨.a, darkProg, line0, withA darkRun (fun x => { x with reading := some line0 }), by decide +kernel⟩

theorem witness_CalibrationRunAcquires_c : ∃ (l : Lane) (s : State), s.Settled ∧ s.MemOk ∧ s.LogRoom ∧
    s.marching = false ∧ s.clk.interval = false ∧ s.power.phase = .run ∧ (s.lane l).cal.state = 2 ∧ s.calReject
    l = none ∧ s.fenced l (s.tillSec l).window = false ∧ s.fenced l (s.img l).pix.window = false ∧ candOffset +
    payloadLen / 2 ≤ (s.shadow.windows.getD (s.tillSec l).window {}).len :=
  ⟨.a, darkK1 1, by decide +kernel⟩

theorem witness_CalibrationRunAcquires_d : ∃ (l : Lane) (r : Nat) (x : Nat) (s : State), s.Settled ∧ s.LogRoom ∧
    s.clk.interval = false ∧ s.power.phase = .run ∧ (s.lane l).cal.state = 2 ∧ s.calReject l = some (r, x) ∧
    (s.lane l).cal.acqKind = 0 ∧ (s.lane l).cal.acqWait = false ∧ (s.lane (otherLane l)).cal.state ≠ 9 ∧
    s.fenced l (s.tillSec l).window = false ∧ s.fenced l (s.img l).pix.window = false ∧ s.flash.op = none :=
  ⟨.a, 2, 0, darkK1 2, by decide +kernel⟩

theorem witness_CalibrationRunAcquires_e : ∃ (l : Lane) (k : Nat) (n : Nat) (i : Nat) (s : State), (s.lane
    l).cal.kind = 1 ∧ k ∈ s.calTaps l ∧ 0 < (s.lane l).cal.total ∧ i < n :=
  ⟨.a, 0, 1, 0, darkK1 1, by decide +kernel⟩

theorem witness_ApertureReadsAndWritesTheWindow_a : ∃ (r : Req) (s : State), s.Settled ∧ arrival r.words = .good
    r ∧ s.Accepts r ∧ r.aperture = true ∧ r.write = true ∧ 0 < (s.shadow.windows.getD s.mem.hwin {}).len ∧
    r.data.length = r.n ∧ (∀ w ∈ r.data, w < 65536) ∧ Mem.wf memBlank s.bank = true :=
  ⟨hostWrite 3 0x100 [1, 2, 3, 0, 5, 6] 0, host, by decide +kernel⟩

theorem witness_ApertureReadsAndWritesTheWindow_b : ∃ (r : Req) (s : State), s.Settled ∧ arrival r.words = .good
    r ∧ s.Accepts r ∧ r.aperture = true ∧ r.write = false ∧ 0 < (s.shadow.windows.getD s.mem.hwin {}).len :=
  ⟨hostRead 3 0x100 20, host, by decide +kernel⟩

theorem witness_TallyRunsStartGoOnAndEnd_a : ∃ (m : Nat) (e : Nat) (s : State), s.Settled ∧ s.Accepts (hostWrite
    3 8 [1 + 4 * (m % 2)] e) :=
  ⟨1, 0, service, by decide +kernel⟩

theorem witness_TallyRunsStartGoOnAndEnd_b : ∃ (m : Nat) (e : Nat) (s : State), s.Settled ∧ s.Accepts (hostWrite
    3 8 [3 + 4 * (m % 2)] e) :=
  ⟨0, 0, service, by decide +kernel⟩

theorem witness_TallyRunsStartGoOnAndEnd_c : ∃ (s : State), s.Settled ∧ s.mem.tstat = .preserving ∧ s.mem.ttest
    = true ∧ s.marching = false ∧ s.clk.interval = false ∧ s.sys.haltReq = false ∧ s.mem.trow + 1 ≤ s.mem.tend ∧
    s.rowBusy (s.mem.trow + 1) = false :=
  ⟨tally .preserving true false, by decide +kernel⟩

theorem witness_TallyRunsStartGoOnAndEnd_d : ∃ (x : MarchRead) (s : State), s.mem.tstat = .preserving ∧
    s.mem.ttest = true ∧ s.marching = false ∧ s.clk.interval = false ∧ readBad x = true ∧ x.row = s.mem.trow ∧
    x.row < 512 ∧ s.mem.repair.length = 128 ∧ (∀ k, k < 4 → s.mem.repair.getD (4 * x.bank + k) {} = {}) :=
  ⟨badRead, tally .preserving true false, by decide +kernel⟩

theorem witness_TallyRunsStartGoOnAndEnd_e : ∃ (s : State), s.Settled ∧ s.mem.tstat = .destructive ∧ s.mem.march
    = 1 ∧ s.mem.pauses < 2 ∧ s.clk.interval = false :=
  ⟨tally .destructive false false, by decide +kernel⟩

theorem witness_TallyRunsStartGoOnAndEnd_f : ∃ (x : MarchRead) (s : State), s.Settled ∧ s.mem.tstat =
    .destructive ∧ (s.mem.march ≠ 1 ∨ marchPauses[s.mem.pauses]? ≠ some s.mem.tpos) ∧ s.clk.interval = false ∧
    s.mem.tpos < marchLen ∧ readBad x = true ∧ marchStepOf x.pass x.elem x.row = s.mem.tpos :=
  ⟨badRead, inMarch, by decide +kernel⟩

theorem witness_TallyRunsStartGoOnAndEnd_g : ∃ (s : State), s.Settled ∧ s.mem.tstat = .destructive ∧ s.mem.march
    = 1 ∧ s.mem.pauses < 2 :=
  ⟨tally .destructive false false, by decide +kernel⟩

theorem witness_TallyRunsStartGoOnAndEnd_h : ∃ (s : State), s.Settled ∧ s.mem.tstat = .destructive ∧
    s.clk.interval = false ∧ s.power.phase = .run ∧ (s.mem.march ≠ 1 ∨ 2 ≤ s.mem.pauses) :=
  ⟨{ tally .destructive false false with mem := { (tally .destructive false false).mem with pauses := 2 } },
    by decide +kernel⟩

theorem witness_TallyRunsStartGoOnAndEnd_i : ∃ (s : State), s.mem.tstat = .reload ∧ s.clk.interval = false ∧
    s.power.phase = .run :=
  ⟨tally .reload false false, by decide +kernel⟩

theorem witness_TallyRunsStartGoOnAndEnd_j : ∃ (s : State), s.Settled ∧ s.mem.tstat = .preserving ∧ s.mem.tover
    = true ∧ s.mem.tskip = 0 ∧ s.mem.unrep = [] ∧ s.clk.interval = false ∧ s.power.phase = .run ∧ s.sys.haltReq
    = false ∧ s.sys.serviceEnd = false :=
  ⟨tally .preserving false true, by decide +kernel⟩

theorem witness_DrainFetchesFromTheTill_a : ∃ (l : Lane) (w : Nat) (n : Nat) (q : Slot) (qs : List Slot) (s :
    State), s.Settled ∧ (s.lane l).till.slots = q :: qs ∧ q.begun = false ∧ q.fetched = 0 ∧ s.linkRuns l = true
    ∧ s.fenced l (s.tillSec l).window = false ∧ (q.closed = true ∨ min (s.tillSec l).cut q.w ≤ max q.written
    (min w q.w)) ∧ (s.lane l).burstRoom = true ∧ n = min 1024 (if q.closed then q.w else min q.w (max q.written
    (min w q.w))) :=
  ⟨.a, 300, 300, line, [], filled line, by decide +kernel⟩

theorem witness_DrainFetchesFromTheTill_b : ∃ (l : Lane) (w : Nat) (n : Nat) (q : Slot) (qs : List Slot) (s :
    State), s.Settled ∧ (s.lane l).till.slots = q :: qs ∧ q.begun = true ∧ s.linkRuns l = true ∧ s.fenced l
    (s.tillSec l).window = false ∧ (s.lane l).burstRoom = true ∧ n = min 1024 ((if q.closed then q.w else min
    q.w (max q.written (min w q.w))) - q.fetched) ∧ 0 < n ∧ (n = 1024 ∨ q.closed = true) :=
  ⟨.a, 2000, 500, endOfLine, [], filled endOfLine, by decide +kernel⟩

theorem witness_DrainFetchesFromTheTill_c : ∃ (l : Lane) (w : Nat) (n : Nat) (q : Slot) (qs : List Slot) (s :
    State), s.Settled ∧ (s.lane l).till.slots = q :: qs ∧ q.begun = true ∧ q.closed = false ∧ s.linkRuns l =
    true ∧ s.fenced l (s.tillSec l).window = false ∧ (s.lane l).burstRoom = true ∧ n = min q.w (max q.written
    (min w q.w)) - q.fetched ∧ 0 < n ∧ n < 1024 :=
  ⟨.a, 700, 300, midLine, [], filled midLine, by decide +kernel⟩

theorem witness_FlushesEmptyTheTill_a : ∃ (l : Lane) (e : Nat) (s : State), s.Accepts (hostWrite (tillUnit l)
    0x013 [1] e) :=
  ⟨.a, 0, service, by decide +kernel⟩

theorem witness_FlushesEmptyTheTill_b : ∃ (l : Lane) (s : State), s.Settled ∧ s.clk.interval = false ∧ (s.lane
    l).mode.ending = true ∧ (s.lane l).lrun.opened = true ∧ (s.lane l).till.slots ≠ [] :=
  ⟨.a, withA (filled line) (fun x => { x with mode := { x.mode with ending := true } }), by decide +kernel⟩

theorem witness_FlushesEmptyTheTill_c : ∃ (l : Lane) (rp : Bool) (wp : Bool) (s : State), s.clk.interval = false
    ∧ s.configured l = true ∧ s.serving = true ∧ s.sys.gang = false ∧ s.capturesRun l = true ∧ (rp = true ∨ wp =
    true) :=
  ⟨.a, true, false, filled line, by decide +kernel⟩

theorem witness_LinkTrainingGoesStepByStep_a : ∃ (l : Lane) (s : State), s.Settled ∧ (s.lane l).link.st =
    .detect ∧ (s.lane l).lrun.waiting = false :=
  ⟨.a, linkIn .detect, by decide +kernel⟩

theorem witness_LinkTrainingGoesStepByStep_b : ∃ (l : Lane) (o : OrderedSet) (s : State), s.Settled ∧ (s.lane
    l).link.st = .train ∧ (s.lane l).lrun.waiting = false ∧ o.ts2 = false ∧ o.lock = true ∧ (s.lane l).lrun.ts1
    = 7 :=
  ⟨.a, { ts2 := false }, linkIn .train, by decide +kernel⟩

theorem witness_LinkTrainingGoesStepByStep_c : ∃ (l : Lane) (o : OrderedSet) (s : State), s.Settled ∧ (s.lane
    l).link.st = .config ∧ (s.lane l).lrun.waiting = false ∧ o.ts2 = false :=
  ⟨.a, { ts2 := false }, linkIn .config, by decide +kernel⟩

theorem witness_LinkTrainingGoesStepByStep_d : ∃ (l : Lane) (o : OrderedSet) (s : State), s.Settled ∧ (s.lane
    l).link.st = .config ∧ (s.lane l).lrun.waiting = false ∧ o.ts2 = true ∧ (s.lane l).lrun.ts2 = 7 ∧ (s.lane
    l).lrun.lastTs2 = some { o with sentTs2 := 0 } ∧ 16 ≤ o.sentTs2 ∧ o.version = 1 ∧ 1 ≤ o.maxCredits ∧
    o.maxCredits ≤ 1024 ∧ (s.lane l).lrun.lost = false :=
  ⟨.a, { ts2 := true, identity := 5, maxCredits := 1024, sentTs2 := 16 }, linkIn .config, by decide +kernel⟩

theorem witness_LinkTrainingGoesStepByStep_e : ∃ (l : Lane) (s : State), s.Settled ∧ s.LogRoom ∧ ((s.lane
    l).link.st = .train ∨ (s.lane l).link.st = .config) ∧ (s.lane l).lrun.waiting = false :=
  ⟨.b, settle (run.modLink .b (fun k => { k with st := .config })), by decide +kernel⟩

theorem witness_LinkTrainingGoesStepByStep_f : ∃ (s : State), s.Settled :=
  ⟨linkIn .detect, by decide +kernel⟩

theorem witness_ReturnStrandFrames_a : ∃ (l : Lane) (n : Nat) (s : State), s.Settled ∧ (s.lane l).link.st = .up
    ∧ (n % 65536 + 65536 - (s.lane l).link.granted) % 65536 < 32768 ∧ (n % 65536 + 65536 - (s.lane l).link.used
    % 65536) % 65536 ≤ (s.lane l).lrun.bound :=
  ⟨.a, 64, run, by decide +kernel⟩

theorem witness_ReturnStrandFrames_b : ∃ (l : Lane) (n : Nat) (s : State), s.Settled ∧ (s.lane l).link.st = .up
    ∧ (s.lane l).lrun.discCount < 7 ∧ (32768 ≤ (n % 65536 + 65536 - (s.lane l).link.granted) % 65536 ∨ (s.lane
    l).lrun.bound < (n % 65536 + 65536 - (s.lane l).link.used % 65536) % 65536) :=
  ⟨.a, 65, run, by decide +kernel⟩

theorem witness_ReturnStrandFrames_c : ∃ (l : Lane) (s : State), s.Settled ∧ (s.lane l).link.st = .up ∧ (s.lane
    l).lrun.discCount < 7 :=
  ⟨.a, run, by decide +kernel⟩

theorem witness_ReturnStrandFrames_d : ∃ (l : Lane) (m : MagStatus) (s : State), s.Settled ∧ (s.lane l).link.st
    = .up ∧ s.clk.interval = false ∧ m.epoch = s.sys.epochs.getD (tillUnit l) 0 ∧ (s.lane l).lrun.opened = false
    ∧ (s.lane l).lrun.lost = false ∧ ((s.lane l).link.resync = true → m.ack = true) ∧ m.state ≠ 2 ∧ m.last =
    0xFFFFFFFF :=
  ⟨.a, magSays 1, run, by decide +kernel⟩

theorem witness_ReturnStrandFrames_e : ∃ (l : Lane) (m : MagStatus) (s : State), s.Settled ∧ s.LogRoom ∧ (s.lane
    l).link.st = .up ∧ s.clk.interval = false ∧ m.epoch = s.sys.epochs.getD (tillUnit l) 0 ∧ (s.lane
    l).lrun.opened = false ∧ (s.lane l).link.resync = false ∧ m.state = 2 ∧ (s.lane l).lrun.badCount = 2 :=
  ⟨.a, magSays 2, withA run (fun x => { x with lrun := { x.lrun with badCount := 2 } }), by decide +kernel⟩

theorem witness_ReturnStrandFrames_f : ∃ (l : Lane) (m : MagStatus) (s : State), (s.lane l).link.st = .up ∧
    s.clk.interval = false ∧ s.sys.gang = false ∧ m.epoch = s.sys.epochs.getD (tillUnit l) 0 ∧ (s.lane
    l).lrun.opened = true ∧ s.capturesRun l = true ∧ (s.lane l).lrun.ending = none ∧ (m.state = 3 ∨ m.state = 4)
    :=
  ⟨.a, magSays 3, preview, by decide +kernel⟩

theorem witness_LinkLossAndItsLimits_a : ∃ (l : Lane) (gs : List Nat) (s : State), s.Settled ∧ (s.lane
    l).link.st ≠ .down ∧ (s.lane l).link.st ≠ .detect ∧ syncLost ((s.lane l).lrun.kBad ++ gs) = false :=
  ⟨.a, [3, 20, 40], preview, by decide +kernel⟩

theorem witness_LinkLossAndItsLimits_b : ∃ (l : Lane) (a : Nat) (d : Nat) (s : State), s.Settled ∧ s.LogRoom ∧
    (s.lane l).link.st = .up ∧ s.clk.interval = false ∧ (s.lane l).lrun.kBad = [] ∧ d < a + 64 :=
  ⟨.a, 0, 63, preview, by decide +kernel⟩

theorem witness_LinkLossAndItsLimits_c : ∃ (l : Lane) (s : State), s.Settled ∧ s.LogRoom ∧ (s.lane l).link.st =
    .up ∧ s.clk.interval = false :=
  ⟨.a, run, by decide +kernel⟩

theorem witness_LinkLossAndItsLimits_d : ∃ (l : Lane) (s : State), s.Settled ∧ s.LogRoom ∧ (s.lane l).link.st =
    .up ∧ s.clk.interval = false :=
  ⟨.b, run, by decide +kernel⟩

theorem witness_LinkLossAndItsLimits_e : ∃ (l : Lane) (e : Nat) (s : State), s.Settled ∧ s.LogRoom ∧ (s.lane
    l).link.st = .up ∧ s.Accepts (hostWrite (tillUnit l) 0x053 [1] e) :=
  ⟨.a, 0, service, by decide +kernel⟩

theorem witness_LinkLossAndItsLimits_f : ∃ (l : Lane) (s : State), s.Settled ∧ s.LogRoom ∧ (s.lane l).link.st =
    .up ∧ (s.lane l).link.resync = true ∧ s.clk.interval = false ∧ (s.lane l).lrun.lost = false ∧ s.capturesRun
    l = false ∧ (s.lane l).lrun.opened = false ∧ s.sys.gang = false :=
  ⟨.a, withA run (fun x => { x with link := { x.link with resync := true } }), by decide +kernel⟩

theorem witness_LinkLossAndItsLimits_g : ∃ (l : Lane) (s : State), (s.lane l).link.st = .up ∧ (s.lane
    l).link.resync = true ∧ s.clk.interval = false ∧ (s.lane l).lrun.lost = false ∧ s.capturesRun l = true ∧
    s.sys.gang = false :=
  ⟨.a, withA preview (fun x => { x with link := { x.link with resync := true } }), by decide +kernel⟩

theorem witness_LinkLossAndItsLimits_h : ∃ (l : Lane) (s : State), (s.lane l).lrun.lost = true ∧ (s.lane
    l).link.st ≠ .up ∧ (s.lane l).lrun.opened = true :=
  ⟨.a, withA preview (fun x => { x with link := { x.link with st := .detect }, lrun := { x.lrun with lost := true
    } }), by decide +kernel⟩

theorem witness_ForwardFrames_a : ∃ (l : Lane) (x : LaneSt) (b : List Nat) (s : State), s.Settled ∧ s.linkLive l
    = true ∧ x = s.lane l ∧ b = [0x08 + 256 * (x.lrun.seqNo % 256), modeCode x.mode.mode + flag x.lrun.opened 4
    + flag x.link.resync 5 + flag x.mode.halted 6 + flag x.mode.ending 7, s.sys.epochs.getD (tillUnit l) 0,
    x.link.scanId] ++ leWords 2 (x.link.sent.getD 0xFFFFFFFF) ++ [if x.lrun.opened then 0 else
    (x.lrun.lastEnd.map (fun e => (if e.aborted then 2 else 1) + 256 * e.cause)).getD 0, s.tillFill l / 1024 %
    65536, x.link.held] :=
  ⟨.a, run.laneA, 0x08 :: run.statusFields .a, run, by decide +kernel⟩

theorem witness_ForwardFrames_b : ∃ (l : Lane) (f : List Nat) (b : List Nat) (q : List TxItem) (s : State),
    s.Settled ∧ s.linkRuns l = true ∧ (s.lane l).lrun.statusDue = false ∧ (s.lane l).lrun.txq = .data f :: q ∧
    (s.lane l).link.held ≠ 0 ∧ b = (0x04 + 256 * ((s.lane l).lrun.seqNo % 256)) :: f :=
  ⟨.a, [4, 0, 0, 1, 77], [0x04, 4, 0, 0, 1, 77], [], waitingData, by decide +kernel⟩

theorem witness_ForwardFrames_c : ∃ (l : Lane) (e : RunEnd) (x : LaneSt) (b : List Nat) (s : State), s.Settled ∧
    x = s.lane l ∧ x.lrun.ending = some e ∧ x.lrun.opened = true ∧ x.mode.ending = true ∧ x.lrun.statusDue =
    false ∧ s.linkRuns l = true ∧ s.drained l = true ∧ s.gangSent e = true ∧ b = [0x02 + 256 * (x.lrun.seqNo %
    256), x.link.scanId, (if e.aborted then 2 else 1) + flag e.pfw 2 + 256 * e.cause] ++ leWords 2 ((s.lastSent
    l e).getD 0xFFFFFFFF) ++ leWords 2 x.lrun.complete ++ [x.lrun.seamN % 65536, x.lrun.abandonN % 65536,
    e.code] ++ leWords 3 s.tmr.tsc :=
  ⟨.a, runOver, ending.laneA, 0x02 :: ending.scanEndFields .a runOver, ending, by decide +kernel⟩

theorem witness_StepsAndRest_a : ∃ (l : Lane) (m : Motion) (s : State), s.Settled ∧ (s.lane l).arun.motion =
    some m ∧ (s.lane l).arun.energised = true ∧ m.steady = false ∧ m.done + 1 < m.total ∧ s.clk.interval = false
    ∧ (s.lane l).axis.phase ≠ .approach ∧ (m.done = 0 → s.profileFence l m.prof = s) :=
  ⟨.a, motion, moving motion, by decide +kernel⟩

theorem witness_StepsAndRest_b : ∃ (l : Lane) (m : Motion) (s : State), s.Settled ∧ (s.lane l).arun.motion =
    some m ∧ (s.lane l).arun.energised = true ∧ m.steady = false ∧ m.done + 1 = m.total ∧ s.clk.interval = false
    ∧ (s.lane l).arun.why = .move ∧ (s.lane l).axis.phase ≠ .approach ∧ (m.done = 0 → s.profileFence l m.prof =
    s) ∧ s.sys.haltReq = false :=
  ⟨.a, lastStep, moving lastStep, by decide +kernel⟩

theorem witness_StepsAndRest_c : ∃ (l : Lane) (s : State), s.Settled ∧ (s.lane l).arun.energised = true ∧
    (s.lane l).arun.motion = none :=
  ⟨.a, withA run (fun x => { x with arun := { energised := true } }), by decide +kernel⟩

theorem witness_StepsAndRest_d : ∃ (l : Lane) (s : State), s.Settled ∧ (s.img l).axis.encoder = true ∧ (s.lane
    l).arun.energised = true :=
  ⟨.a, withA run (fun x => { x with arun := { energised := true } }), by decide +kernel⟩

theorem witness_StepsAndRest_e : ∃ (l : Lane) (s : State), s.Settled ∧ (s.lane l).arun.energised = false :=
  ⟨.a, run, by decide +kernel⟩

theorem witness_StepsAndRest_f : ∃ (l : Lane) (ab : Nat) (ns : Nat) (d : Int) (s : State), s.Settled ∧ (s.img
    l).axis.encoder = true ∧ (s.lane l).arun.energised = true ∧ 25 ≤ ns ∧ d = (if (s.img l).axis.encInv then -1
    else 1) ∧ ((s.lane l).axis.ab, ab) ∈ [(0, 1), (1, 3), (3, 2), (2, 0)] :=
  ⟨.a, 1, 25, 1, withA run (fun x => { x with arun := { energised := true } }), by decide +kernel⟩

theorem witness_SeamMovesTheCarriage_a : ∃ (l : Lane) (p : Program) (d : Int) (s : State), s.Settled ∧ (s.lane
    l).mode.prog = some p ∧ (s.lane l).mode.mode = .smoulder ∧ s.moves l p = true ∧ s.carriage l = l ∧ (s.lane
    l).axis.phase = .rest ∧ (s.lane l).arun.motion = none ∧ s.seamReady l = true ∧ s.clk.interval = false ∧
    ((s.profile l p.profile).map (fun q => s.fenced l q.window)).getD false = false ∧ d = s.lineX l p ((s.lane
    l).lineIndex p) - p.dir * ((s.img l).axis.runUp : Int) - (s.lane l).axis.pos :=
  ⟨.a, prog 1 5 1, -24, seam .rest, by decide +kernel⟩

theorem witness_SeamMovesTheCarriage_c : ∃ (l : Lane) (p : Program) (s : State), s.Settled ∧ (s.lane
    l).mode.prog = some p ∧ (s.lane l).axis.phase = .dwell ∧ s.clk.interval = false :=
  ⟨.a, prog 1 5 1, seam .dwell, by decide +kernel⟩

theorem witness_SeamMovesTheCarriage_d : ∃ (l : Lane) (p : Program) (s : State), s.Settled ∧ (s.lane
    l).mode.prog = some p ∧ (s.lane l).axis.phase = .align ∧ s.clk.interval = false ∧ s.clk.hold = false ∧
    ((s.profile l p.profile).map (fun q => s.fenced l q.window)).getD false = false :=
  ⟨.a, prog 1 5 1, seam .align, by decide +kernel⟩

theorem witness_HostMovesTheCarriage_a : ∃ (l : Lane) (d : Int) (n : Nat) (e : Nat) (s : State), s.Settled ∧
    -2147483648 ≤ d ∧ d ≤ 2147483647 ∧ d ≠ 0 ∧ s.Accepts (hostWrite (axisUnit l) 0x015 (leWords 2 (unsigned 32
    d) ++ [n % 8 + 8]) e) ∧ ((s.profile l (n % 8)).map (fun q => s.fenced l q.window)).getD false = false :=
  ⟨.a, -20, 0, 0, service, by decide +kernel⟩

theorem witness_HostMovesTheCarriage_b : ∃ (l : Lane) (e : Nat) (m : Motion) (s : State), s.Settled ∧ (s.lane
    l).arun.motion = some m ∧ (s.lane l).arun.why = .move ∧ s.Accepts (hostWrite (axisUnit l) 0x017 [(s.lane
    l).axis.moveProf % 8 + 16] e) :=
  ⟨.a, 0, motion, { moving motion with sys := { run.sys with service := true } }, by decide +kernel⟩

theorem witness_LightCommitIsSentAndTakesEffect_a : ∃ (p : Nat) (c : Commit) (hs : List Nat) (s : State),
    s.Settled ∧ s.lux.planned = [c] ∧ c.party = p ∧ c.staged = some hs ∧ c.sent = none ∧ (s.lux.reb.getD p
    {}).due = false ∧ s.clk.interval = false ∧ s.pwr.busShort = false :=
  ⟨0, { party := 0, staged := some [1] }, [1], planned { party := 0, staged := some [1] }, by decide +kernel⟩

theorem witness_LightCommitIsSentAndTakesEffect_b : ∃ (p : Nat) (n : Nat) (hs : List Nat) (c : Commit) (s :
    State), s.lux.planned = [c] ∧ c.party = p ∧ c.sent = some (n, hs) ∧ c.ends = false ∧ p < s.lux.reb.length :=
  ⟨1, 4, [2], { party := 1, sent := some (4, [2]) }, planned { party := 1, sent := some (4, [2]) },
    by decide +kernel⟩

theorem witness_LightCommitIsSentAndTakesEffect_c : ∃ (p : Nat) (n : Nat) (l : Lane) (hs : List Nat) (c :
    Commit) (s : State), s.lux.planned = [c] ∧ c.party = p ∧ l ∈ partyLanes p ∧ c.sent = some (n, hs) ∧ c.phaseC
    = true ∧ (s.lane l).mode.entry = some .c :=
  ⟨1, 4, .a, [], phaseC, entering, by decide +kernel⟩

theorem witness_LightHeadReplies_a : ∃ (a : Nat) (st : Nat) (ap : Nat) (v : Nat) (tc : Nat) (p : Nat) (f : List
    Nat) (r : Rebcast) (s : State), a < 32 ∧ st < 256 ∧ ap < 65536 ∧ v < 65536 ∧ tc < 65536 ∧ a <
    s.lux.head.length ∧ s.headUsed a = true ∧ s.busLive = true ∧ f = lightFrame (a + 32) 0x81 ([st] ++ leBytes 2
    ap ++ leBytes 2 v ++ leBytes 2 tc) ∧ p = (s.lux.head.getD a {}).acking.getD (s.lastParty a) ∧ r =
    s.lux.reb.getD p {} :=
  ⟨2, 0, 1, 500, 2500, run.lastParty 2, lightFrame 34 0x81 [0, 1, 0, 244, 1, 196, 9], run.lux.reb.getD
    (run.lastParty 2) {}, run, by decide +kernel⟩

theorem witness_LightHeadReplies_b : ∃ (a : Nat) (f : List Nat) (g : List Nat) (s : State), a <
    s.lux.head.length ∧ s.headUsed a = true ∧ s.busLive = true ∧ (s.lux.head.getD a {}).identing = false ∧
    intactFrame (f ++ g) = false :=
  ⟨2, [34, 0x81, 7, 0, 1, 0, 0, 0, 0, 0], [0, 0], run, by decide +kernel⟩

theorem witness_LightHeadReplies_c : ∃ (a : Nat) (i : Nat) (v : Nat) (f : List Nat) (s : State), s.Settled ∧ a <
    32 ∧ i < 2 ^ 32 ∧ v < 256 ∧ a < s.lux.head.length ∧ (s.lux.head.getD a {}).identing = true ∧ s.busLive =
    true ∧ s.identGood a i v = true ∧ f = lightFrame (a + 32) 0x82 (leBytes 4 i ++ [v]) :=
  ⟨1, 7, 1, lightFrame 33 0x82 [7, 0, 0, 0, 1], identing, by decide +kernel⟩

theorem witness_LightHeadReplies_d : ∃ (a : Nat) (i : Nat) (v : Nat) (f : List Nat) (s : State), s.Settled ∧
    s.LogRoom ∧ a < 32 ∧ i < 2 ^ 32 ∧ v < 256 ∧ a < s.lux.head.length ∧ (s.lux.head.getD a {}).identing = true ∧
    s.busLive = true ∧ s.identGood a i v = false ∧ f = lightFrame (a + 32) 0x82 (leBytes 4 i ++ [v]) :=
  ⟨1, 9, 1, lightFrame 33 0x82 [9, 0, 0, 0, 1], identing, by decide +kernel⟩

theorem witness_LightHeadReplies_e : ∃ (a : Nat) (s : State), s.Settled ∧ a < s.lux.head.length ∧ s.headUsed a =
    true ∧ s.busLive = true ∧ (s.lux.head.getD a {}).identing = false ∧ (s.lux.head.getD a {}).acking = none ∧
    (s.lux.head.getD a {}).missed < 2 :=
  ⟨2, run, by decide +kernel⟩

theorem witness_LightHeadReplies_f : ∃ (a : Nat) (s : State), s.Settled ∧ s.headUsed a = true ∧ s.busLive = true
    ∧ s.sys.safe = false ∧ (s.lux.head.getD a {}).reach = true ∧ s.clk.interval = false ∧ s.pwr.busShort = false
    :=
  ⟨1, reached, by decide +kernel⟩

theorem witness_RebroadcastSilenceAndManagementLight_a : ∃ (p : Nat) (s : State), s.Settled ∧ p <
    s.lux.reb.length ∧ (∃ a ∈ (s.lux.reb.getD p {}).heads, (s.lightHead a).barred = false) ∧ (s.lux.reb.getD p
    {}).due = true ∧ s.clk.interval = false ∧ s.pwr.busShort = false :=
  ⟨0, { run with lux := { run.lux with reb := [{ num := 3, mask := [1], heads := [1], due := true }, {}, {}, {}] }
    }, by decide +kernel⟩

theorem witness_RebroadcastSilenceAndManagementLight_b : ∃ (a : Nat) (s : State), s.Settled ∧ s.LogRoom ∧
    ((s.headRec a).map LightHeadRec.scanLit).getD false = true ∧ s.guarded (s.headOwner a) = true ∧
    (s.lux.head.getD a {}).reach = false ∧ (s.capturesRun .a = false ∧ s.capturesRun .b = false ∧ s.acquiring .a
    = false ∧ s.acquiring .b = false ∧ s.closing .a = false ∧ s.closing .b = false) :=
  ⟨2, settle { run with lux := { run.lux with guardA := true } }, by decide +kernel⟩

theorem witness_RebroadcastSilenceAndManagementLight_c : ∃ (a : Nat) (l : Lane) (s : State), ((s.headRec a).map
    LightHeadRec.scanLit).getD false = true ∧ s.guarded (s.headOwner a) = true ∧ (s.lux.head.getD a {}).reach =
    false ∧ s.headOwner a = laneParty l ∧ s.sys.gang = false ∧ s.capturesRun l = true ∧ (s.lane l).lrun.ending =
    none :=
  ⟨2, .a, settle { preview with lux := { run.lux with guardA := true } }, by decide +kernel⟩

theorem witness_RebroadcastSilenceAndManagementLight_d : ∃ (e : Nat) (s : State), s.Settled ∧ s.Accepts
    (hostWrite 6 0x128 [1] e) :=
  ⟨0, run, by decide +kernel⟩

theorem witness_RebroadcastSilenceAndManagementLight_e : ∃ (e : Nat) (s : State), s.Settled ∧ s.Accepts
    (hostWrite 6 0x128 [2] e) :=
  ⟨0, run, by decide +kernel⟩

theorem witness_LightFollowsItsMeasurements_a : ∃ (b : Bool) (pos : Nat) (n : Nat) (k : Nat) (g : Nat) (m : Int)
    (ref : Int) (lim : Int) (d : Int) (g' : Int) (s : State), ((s.conv b).running = true ∧ (s.conv b).failed =
    false ∧ (s.conv b).passCh = none ∧ (s.conv b).doomed = false ∧ (s.slotList b).getD (s.conv b).slot 255 = n ∧
    n < s.hk.ch.length ∧ (s.hkRec n).arr ≠ 3 ∧ (s.hkRec n).arr ≠ 4 ∧ (s.hkRec n).impCheck = false ∧ hkOpen
    (hkKind n) (s.hkRec n).openTest (hkRaw pos (s.conv b).tw) = false ∧ (s.hkChan n).fault = false ∧ s.consumer
    n = 2 ∧ s.groupsRef n = [k] ∧ k < s.lux.grp.length ∧ s.groupRuns k = true ∧ s.preLight = false ∧
    s.lux.planned = [] ∧ (s.shadow.photo.getD k {}).interval ≤ (s.lux.grp.getD k {}).since ∧ (s.lux.grp.getD k
    {}).atTsc ≤ (s.conv b).start) ∧ m = s.linear n (hkRaw pos (s.conv b).tw) ∧ ref = s.groupRef k ∧ g =
    (s.lux.grp.getD k {}).g ∧ lim = max 1 ((g : Int) * s.photoLimit k / 10000) ∧ d = max (-lim) (min lim ((2 * g
    * (ref - m) + ref) / (2 * ref))) ∧ g' = max 0x6000 (min 0xA000 (g + d)) :=
  ⟨false, 3000, 0, 0, _, _, _, _, _, _, consumed 2, by decide +kernel, rfl, rfl, rfl, rfl, rfl, rfl⟩

theorem witness_LightFollowsItsMeasurements_b : ∃ (b : Bool) (pos : Nat) (n : Nat) (k : Nat) (T : Int) (s :
    State), ((s.conv b).running = true ∧ (s.conv b).failed = false ∧ (s.conv b).passCh = none ∧ (s.conv
    b).doomed = false ∧ (s.slotList b).getD (s.conv b).slot 255 = n ∧ n < s.hk.ch.length ∧ (s.hkRec n).arr ≠ 3 ∧
    (s.hkRec n).arr ≠ 4 ∧ (s.hkRec n).impCheck = false ∧ hkOpen (hkKind n) (s.hkRec n).openTest (hkRaw pos
    (s.conv b).tw) = false ∧ (s.hkChan n).fault = false ∧ s.consumer n = 1 ∧ s.servedBy n = [k] ∧ k <
    s.lux.ch.length ∧ s.chOn k = true ∧ (s.chRec k).hkChan = n ∧ n < 24 ∧ (s.chRec k).outMode = 0 ∧
    s.log.store.length < 500) ∧ T = s.linear n (hkRaw pos (s.conv b).tw) :=
  ⟨false, 3000, 0, 0, _, consumed 1, by decide +kernel, rfl⟩

theorem witness_LightFollowsItsMeasurements_c : ∃ (a : Nat) (st : Nat) (ap : Nat) (v : Nat) (tc : Nat) (h :
    LightHeadRec) (T : Int) (f : List Nat) (s : State), a < 32 ∧ st < 256 ∧ ap < 65536 ∧ v < 65536 ∧ tc < 65536
    ∧ a < s.lux.head.length ∧ s.headRec a = some h ∧ s.headUsed a = true ∧ s.busLive = true ∧ s.log.store.length
    < 500 ∧ T = signed 16 tc ∧ f = lightFrame (a + 32) 0x81 ([st] ++ leBytes 2 ap ++ leBytes 2 v ++ leBytes 2
    tc) :=
  ⟨2, 0, 1, 500, 2500, head2, 2500, lightFrame 34 0x81 [0, 1, 0, 244, 1, 196, 9], run, by decide +kernel⟩

theorem witness_ConversionsAndSelfChecks_a : ∃ (b : Bool) (pos : Nat) (n : Nat) (s : State), (s.conv b).running
    = true ∧ (s.conv b).failed = false ∧ (s.conv b).passCh = none ∧ (s.conv b).doomed = false ∧ (s.slotList
    b).getD (s.conv b).slot 255 = n ∧ n < s.hk.ch.length ∧ (s.hkRec n).arr ≠ 3 ∧ (s.hkRec n).arr ≠ 4 ∧ (s.hkRec
    n).impCheck = false ∧ hkOpen (hkKind n) (s.hkRec n).openTest (hkRaw pos (s.conv b).tw) = false ∧ (s.hkChan
    n).fault = false ∧ s.consumer n = 0 ∧ s.starting = false :=
  ⟨false, 3000, 0, { run with hk := { run.hk with a := { running := true } } }, by decide +kernel⟩

theorem witness_ConversionsAndSelfChecks_b : ∃ (b : Bool) (n : Nat) (s : State), s.Settled ∧ (s.conv b).running
    = true ∧ (s.conv b).failed = false ∧ (s.conv b).passCh = none ∧ (s.conv b).doomed = true ∧ s.pwr.pfw = true
    ∧ s.twin = false ∧ n = (s.slotList b).length :=
  ⟨false, 1, { run with pwr := { run.pwr with pfw := true }, hk := { run.hk with a := { running := true, doomed :=
    true } } }, by decide +kernel⟩

theorem witness_ConversionsAndSelfChecks_c : ∃ (b : Bool) (z : Int) (r : Int) (s : State), s.Settled ∧ (s.conv
    b).checking = true ∧ (s.conv b).failed = false ∧ (s.conv b).doomed = false ∧ (s.conv b).atCross = false ∧ (b
    = false ∨ s.hkPaired = false) ∧ checkPass z r = true ∧ s.pwr.pfw = false :=
  ⟨false, 0, 24576, { run with hk := { run.hk with a := { checking := true } } }, by decide +kernel⟩

theorem witness_ConversionsAndSelfChecks_d : ∃ (z : Int) (r : Int) (s : State), s.Settled ∧ s.hk.b.checking =
    true ∧ s.hk.b.doomed = false ∧ s.twin = true ∧ s.hk.lag = none ∧ checkPass z r = true :=
  ⟨0, 24576, twins, by decide +kernel⟩

theorem witness_ConversionsAndSelfChecks_e : ∃ (b : Bool) (z : Int) (r : Int) (s : State), (s.conv b).checking =
    true ∧ (s.conv b).doomed = false ∧ checkPass z r = false :=
  ⟨true, 9000, 24576, { run with hk := { run.hk with b := { checking := true } } }, by decide +kernel⟩

theorem witness_ConversionsAndSelfChecks_f : ∃ (b : Bool) (z : Int) (r : Int) (s : State), s.Settled ∧ s.LogRoom
    ∧ (s.conv b).checking = true ∧ (s.conv b).doomed = false ∧ (s.conv b).failed = false ∧ checkPass z r = false
    ∧ (∀ n, n < 24 → s.consumer n ≠ 1) :=
  ⟨true, 9000, 24576, { run with hk := { run.hk with b := { checking := true } } }, by decide +kernel⟩

theorem witness_ConversionsAndSelfChecks_g : ∃ (b : Bool) (z : Int) (r : Int) (s : State), s.Settled ∧ (s.conv
    b).checking = true ∧ (s.conv b).doomed = false ∧ (s.conv b).failed = true ∧ checkPass z r = false :=
  ⟨true, 9000, 24576, { run with hk := { run.hk with b := { checking := true, failed := true } } },
    by decide +kernel⟩

theorem witness_ConversionsAndSelfChecks_h : ∃ (b : Bool) (s : State), s.Settled ∧ (s.conv b).failed = true ∧
    (s.conv b).passes < 2 ∧ s.pwr.pfw = false :=
  ⟨true, { run with hk := { run.hk with b := { failed := true } } }, by decide +kernel⟩

theorem witness_TimerTickCounts_a : ∃ (n : Nat) (s : State), s.Settled ∧ s.timerRuns n = true ∧ s.tmr.ts.length
    = 16 ∧ ¬(s.tmr.lf = true ∧ s.tmr.lfCause = 1) :=
  ⟨1, run, by decide +kernel⟩

theorem witness_HostTimerCommands_a : ∃ (n : Nat) (v : Nat) (e : Nat) (s : State), s.Settled ∧ n < 16 ∧ n <
    s.tmr.ts.length ∧ s.Accepts (hostWrite 4 (8 * n + 2) [v % 65536] e) :=
  ⟨1, 4, 0, run, by decide +kernel⟩

theorem witness_HostTimerCommands_b : ∃ (n : Nat) (e : Nat) (s : State), s.Settled ∧ n < 16 ∧ s.tmr.ts.length =
    16 ∧ s.oddHalf n = false ∧ s.Accepts (hostWrite 4 (8 * n + 5) [2 + b2n (s.tmr.ts.getD n {}).en] e) :=
  ⟨1, 0, run, by decide +kernel⟩

theorem witness_HostTimerCommands_c : ∃ (n : Nat) (e : Nat) (on : Bool) (s : State), s.Settled ∧ n < 16 ∧ n <
    s.tmr.ts.length ∧ s.oddHalf n = false ∧ s.unused (s.shadow.party.tmrOwner.getD n 0) = false ∧ (s.tmr.ts.getD
    n {}).en ≠ on ∧ s.Accepts (hostWrite 4 (8 * n + 5) [b2n on] e) :=
  ⟨1, 0, false, run, by decide +kernel⟩

theorem witness_HostTimerCommands_d : ∃ (e : Nat) (s : State), s.Settled ∧ s.tmr.ts.length = 16 ∧ s.Accepts
    (hostWrite 4 0x080 [1] e) :=
  ⟨0, run, by decide +kernel⟩

theorem witness_LfOscillatorAdvancesTheTsc_a : ∃ (s : State), s.Settled ∧ s.tmr.lfPend = true ∧ s.tmr.lfBack =
    false :=
  ⟨{ run with tmr := { run.tmr with counting := false, lfPend := true } }, by decide +kernel⟩

theorem witness_LfOscillatorAdvancesTheTsc_b : ∃ (s : State), s.Settled ∧ s.tmr.lf = true ∧ s.tmr.lfPend = false
    ∧ s.tmr.lfCause ≠ 1 ∧ s.tmr.gapSpan = false ∧ s.tmr.lfBack = false :=
  ⟨lfSpan false, by decide +kernel⟩

theorem witness_LfOscillatorAdvancesTheTsc_c : ∃ (s : State), s.Settled ∧ s.tmr.lf = true ∧ s.tmr.lfPend = false
    ∧ s.tmr.lfCause ≠ 1 ∧ s.tmr.gapSpan = false ∧ s.tmr.lfBack = true :=
  ⟨lfSpan true, by decide +kernel⟩

theorem witness_LfOscillatorAdvancesTheTsc_d : ∃ (s : State), s.tmr.lf = true ∧ s.tmr.lfPend = false ∧
    s.tmr.lfCause = 1 ∧ s.tmr.gapSpan = false ∧ s.tmr.lfBack = false ∧ s.power.phase = .sleep ∧ s.watchWake =
    none :=
  ⟨asleep, by decide +kernel⟩

theorem witness_LfOscillatorAdvancesTheTsc_e : ∃ (s : State), s.Settled ∧ s.tmr.lf = true ∧ s.tmr.lfPend = false
    ∧ s.tmr.gapSpan = true ∧ s.tmr.lfBack = false :=
  ⟨{ lfSpan false with tmr := { (lfSpan false).tmr with gapSpan := true } }, by decide +kernel⟩

theorem witness_LfOscillatorAdvancesTheTsc_f : ∃ (n : Nat) (s : State), s.Settled ∧ s.tmr.counting = true ∧
    s.tmr.lfOk = true ∧ offPpm (incOf n % 2 ^ 32) s.tmr.inc 20 = false ∧ offPpm (incOf n % 2 ^ 32) incNominal
    200 = false :=
  ⟨1500000000, run, by decide +kernel⟩

theorem witness_LfOscillatorAdvancesTheTsc_g : ∃ (s : State), s.Settled ∧ s.LogRoom ∧ s.power.phase = .run ∧
    s.tmr.lf = false ∧ s.tmr.lfPend = false ∧ s.tmr.lfBack = false ∧ s.tmr.silent = false :=
  ⟨run, by decide +kernel⟩

theorem witness_RequestWordsSpellTheRequest_a : ∃ (r : Req), r.unit < 16 ∧ r.off < 2048 ∧ r.n < 128 ∧ r.epoch <
    256 ∧ (r.write = true → r.data.length = r.n) ∧ (r.write = false → r.data = [] ∧ r.epoch = 0) :=
  ⟨hostWrite 9 0x040 [1, 2] 3, by decide +kernel⟩

theorem witness_ReadReturnsTheRegisters_a : ∃ (r : Req) (s : State), s.Settled ∧ arrival r.words = .good r ∧
    s.Accepts r ∧ r.write = false ∧ r.aperture = false :=
  ⟨hostRead 2 0 3, run, by decide +kernel⟩

theorem witness_ReadReturnsTheRegisters_c : ∃ (n : Nat), n < 16 :=
  ⟨3, by decide +kernel⟩

theorem witness_ReadReturnsTheRegisters_d : ∃ (n : Nat), n < 24 :=
  ⟨3, by decide +kernel⟩

theorem witness_ReadReturnsTheRegisters_e : ∃ (n : Nat), n < 8 :=
  ⟨3, by decide +kernel⟩

theorem witness_ReadReturnsTheRegisters_f : ∃ (l : Lane) (x : LaneSt) (s : State), x = s.lane l :=
  ⟨.a, run.laneA, run, by decide +kernel⟩

theorem witness_RefusedFrameOnlyCounts_a : ∃ (r : Req) (s : State), s.Settled ∧ arrival r.words = .good r ∧
    s.portLive = true ∧ s.status r ≠ 0 :=
  ⟨hostWrite 0 0x038 [1] 9, run, by decide +kernel⟩

theorem witness_RefusedFrameOnlyCounts_b : ∃ (ws : List Nat) (u : Nat) (s : State), s.Settled ∧ arrival ws =
    .badCrc u ∧ s.portLive = true :=
  ⟨(hostRead 0 0x038 1).body ++ [0], 0, run, by decide +kernel⟩

theorem witness_RefusedFrameOnlyCounts_c : ∃ (s : State), s.Settled ∧ s.portLive = true :=
  ⟨run, by decide +kernel⟩

theorem witness_WriteAdvancesItsEpochOnce_a : ∃ (r : Req) (s : State) (t : State), (s.Settled ∧ arrival r.words
    = .good r ∧ s.Accepts r ∧ r.write = true ∧ r.items.all (fun q => quietWord r.unit q.1) = false) ∧ exec
    (.mgtWrite r.words) s = .next t ∧ epochsHeld s t = false :=
  ⟨hostWrite 0 0x039 [3] 0, run, after (exec (.mgtWrite (hostWrite 0 0x039 [3] 0).words) run), by decide +kernel,
    next_of_write _ _, by decide +kernel⟩

theorem witness_ClearingReads_a : ∃ (s : State), s.Settled ∧ s.Accepts (hostRead 0 0x03A 1) :=
  ⟨run, by decide +kernel⟩

theorem witness_ClearingReads_b : ∃ (s : State), s.Settled ∧ s.Accepts (hostRead 0 0x03B 1) :=
  ⟨run, by decide +kernel⟩

theorem witness_ClearingReads_c : ∃ (o : Nat) (s : State), s.Settled ∧ s.Accepts (hostRead 3 o 1) ∧ (o = 1 ∨ o =
    2 ∨ o = 3) :=
  ⟨2, run, by decide +kernel⟩

theorem witness_ClearingReads_d : ∃ (s : State), s.Settled ∧ s.Accepts (hostRead 6 0x129 1) :=
  ⟨run, by decide +kernel⟩

theorem witness_ClearingReads_e : ∃ (l : Lane) (s : State), s.Settled ∧ s.Accepts (hostRead (tillUnit l) 0x00D
    1) :=
  ⟨.a, run, by decide +kernel⟩

theorem witness_ClearingReads_f : ∃ (l : Lane) (s : State), s.Settled ∧ s.Accepts (hostRead (tillUnit l) 0x04F
    1) :=
  ⟨.b, run, by decide +kernel⟩

theorem witness_ClearingReads_g : ∃ (b : Bool) (k : Nat) (s : State), s.Settled ∧ s.Accepts (hostRead 5 (if b
    then 0x00B else 0x009) 1) ∧ 1 ≤ k :=
  ⟨false, 1, run, by decide +kernel⟩

theorem witness_ClearingReads_h : ∃ (b : Bool) (k : Nat) (s : State), s.Settled ∧ s.Accepts (hostRead 5 (if b
    then 0x00A else 0x008) 2) ∧ 2 ≤ k :=
  ⟨true, 2, run, by decide +kernel⟩

theorem witness_AttentionAndFaultLogOnThePort_a : ∃ (w : Nat) (e : Nat) (s : State), s.Settled ∧ s.Accepts
    (hostWrite 0 0x039 [w] e) ∧ w < 65536 :=
  ⟨3, 0, run, by decide +kernel⟩

theorem witness_AttentionAndFaultLogOnThePort_b : ∃ (w : Nat) (e : Nat) (s : State), s.Settled ∧ s.Accepts
    (hostWrite 0 0x038 [w] e) ∧ w < 65536 :=
  ⟨1, 0, run, by decide +kernel⟩

theorem witness_AttentionAndFaultLogOnThePort_c : ∃ (r : FaultRec) (s : State), s.Settled ∧ s.Accepts (hostRead
    0 0x110 16) ∧ s.selected = some r :=
  ⟨rec0, recorded, by decide +kernel⟩

theorem witness_AttentionAndFaultLogOnThePort_d : ∃ (q : Req) (r : FaultRec) (k : Nat) (s : State), s.Settled ∧
    arrival q.words = .good q ∧ s.Accepts q ∧ q.write = false ∧ q.unit = 0 ∧ 0x11F ∈ q.offsets.take k ∧
    s.selected = some r :=
  ⟨hostRead 0 0x11F 2, rec0, 1, recorded, by decide +kernel⟩

theorem witness_AttentionAndFaultLogOnThePort_e : ∃ (q : Nat) (e : Nat) (s : State), s.Settled ∧ q < 2 ^ 32 ∧
    s.Accepts (hostWrite 0 0x106 [lo16 q, hi16 q] e) :=
  ⟨1, 0, recorded, by decide +kernel⟩

end Sys2Proof.Tests
end

section
/-!
PROOFS. Chapter 18 and the ATTN registers: the pins after every command (R541, R571), and what frames on SYS do to
ATTN and to the fault log (R542, R569, R570).
-/

namespace Sys2Proof.Machine

/-! ### The interrupt pins (R541, R571) -/

/-- FAULT_N and ATTN_N stand at the levels that R571 and R541 give them. -/
def State.PinsStand (t : State) : Prop := t.sys.faultN = t.faultPin ∧ t.sys.attnN = t.attnPin

/-- Wherever an outcome leads, the pins stand. -/
structure PinsStandAfter (o : Host.Outcome State Fault Refusal) : Prop where
  stand : ∀ t, o = .next t → t.PinsStand

/-- The levels do not depend on the pins as they stood, nor on the response: in SLEEP the last level is kept (R86). -/
theorem settlePins_pinsStand (s : State) : (settlePins s).PinsStand := by
  refine ⟨?_, rfl⟩
  show s.faultPin = (settlePins s).faultPin
  have hc : (settlePins s).faultCauses = s.faultCauses := rfl
  unfold State.faultPin
  rw [hc]
  cases hp : s.power.phase <;> simp [settlePins, hp, State.faultPin]

theorem after_pinsStand (s s1 : State) : (s.after s1).PinsStand :=
  settlePins_pinsStand (settleEvents s.clearOut (settleStatus (settleStatus
    (settleEpochs s.clearOut (settleRead s.clearOut (s1.modLog LogSt.settle))) .a) .b))

theorem perform_pinsStand (s : State) (f : State → State) : PinsStandAfter (perform s f) := by
  constructor
  rintro _ ⟨⟩
  exact after_pinsStand _ _

theorem performMgt_pinsStand (s : State) (k : Nat) (f : State → State) (resp : State → List Nat) :
    PinsStandAfter (performMgt s k f resp) := by
  constructor
  rintro _ ⟨⟩
  exact after_pinsStand s.mgtOpen (f s.mgtOpen.clearOut)

theorem mgtRequest_pinsStand (s : State) (r : Req) (shifted latency : Nat) :
    PinsStandAfter (s.mgtRequest r shifted latency) := by
  unfold State.mgtRequest
  split <;> exact performMgt_pinsStand _ _ _ _

theorem mgtCut_pinsStand (s : State) (k : Nat) : PinsStandAfter (s.mgtCut k) := performMgt_pinsStand s _ _ _

theorem mgtFrame_pinsStand (s : State) (words : List Nat) (shifted latency : Nat) :
    PinsStandAfter (s.mgtFrame words shifted latency) := by
  unfold State.mgtFrame
  split
  · exact mgtCut_pinsStand _ _
  · exact performMgt_pinsStand _ _ _ _
  · exact mgtRequest_pinsStand _ _ _ _

/-- Every command ends in the settling that sets the pins: a frame or a register access on the management port as the
answer to it, every other command as its effect. -/
theorem exec_pinsStand (c : Instr) (s : State) : PinsStandAfter (exec c s) := by
  cases c with
  | mgtRead | mgtWrite | memDataAccess =>
    simp only [exec]
    exact mgtFrame_pinsStand s _ _ _
  | mgtFrameAbort =>
    simp only [exec]
    exact mgtCut_pinsStand s _
  | clearOnRead | hkResultRead | flogSelectedRead | flogAck | sysPowerSleep | sysPowerOff | sysPowerEreset
  | sysPowerLreset | sysModeService | sysHaltReq | haltRelease | headReqGo | headReqAbort | clkCtrlCommit
  | pixCalcmdGo | tallyDestructiveGo | tallyPreservingGo | tillCtrlFlush | linkCtrlRetrain | axisMoveGo | axisMoveStop
  | luxMctrlGo | luxMctrlRearm | tmrCmpWrite | tmrCtrlLoad | tmrCtrlEn | tmrGstartGo =>
    simp only [exec]
    exact mgtRequest_pinsStand s _ _ _
  | _ =>
    simp only [exec]
    exact perform_pinsStand s _

/-- FAULT_N outside OFF and SLEEP (R571). -/
theorem faultPin_eq_false_iff {t : State} (hoff : t.power.phase ≠ .off) (hsleep : t.power.phase ≠ .sleep) :
    t.faultPin = false ↔ (t.sys.safe = true ∨ t.power.xtalHeld = true ∨ t.laneA.mode.trip = true
      ∨ t.laneB.mode.trip = true ∨ ∃ r ∈ t.log.store, 2 ≤ r.cls ∧ later r.seq t.log.ack = true) := by
  have hp : t.faultPin = !t.faultCauses.any id := by
    unfold State.faultPin
    split
    · contradiction
    · contradiction
    · rfl
  rw [hp, Bool.not_eq_false']
  simp [State.faultCauses, LogSt.unacked]

theorem attnPin_eq_false_iff (t : State) :
    t.attnPin = false ↔ (t.sys.ready = true ∧ t.sys.events &&& t.sys.mask ≠ 0) := by
  simp [State.attnPin]

/-- Settles O7: every command ends in the settling that sets both pins, each to the level of its rule's condition. -/
theorem interruptPinsFollowTheirCauses : Obligations.InterruptPinsFollowTheirCauses := by
  unfold Obligations.InterruptPinsFollowTheirCauses
  constructor
  · intro c s t h hoff hsleep
    obtain ⟨hfault, -⟩ := (exec_pinsStand c s).stand t h
    rw [hfault]
    exact faultPin_eq_false_iff hoff hsleep
  · intro c s t h
    obtain ⟨-, hattn⟩ := (exec_pinsStand c s).stand t h
    rw [hattn]
    exact attnPin_eq_false_iff t

/-! ### Requests as their words (Table 17.1) -/

/-- The words of a write parse as that write. -/
theorem parseReq_hostWrite {u o e : Nat} {ws : List Nat} (hu : u < 16) (ho : o < 2048) (hn : ws.length < 128) :
    parseReq (hostWrite u o ws e).words = hostWrite u o ws e := by
  have hbit : bit (32768 + 2048 * u + o) 15 = true := by simp [bit]; omega
  have hunit : bits (32768 + 2048 * u + o) 14 11 = u := by simp [bits]; omega
  have hoff : bits (32768 + 2048 * u + o) 10 0 = o := by simp [bits]; omega
  have hepoch : bits (256 * (e % 256) + ws.length) 15 8 = e % 256 := by simp [bits]; omega
  have hlen : (256 * (e % 256) + ws.length) % 128 = ws.length := by omega
  simp [parseReq, hostWrite, Req.words, Req.body, flag, Nat.mod_eq_of_lt hu, Nat.mod_eq_of_lt ho,
    Nat.mod_eq_of_lt hn, hbit, hunit, hoff, hepoch, hlen]

theorem arrival_hostWrite {u o e : Nat} {ws : List Nat} (hu : u < 16) (ho : o < 2048) (hn : ws.length < 128) :
    arrival (hostWrite u o ws e).words = .good (hostWrite u o ws e) := by
  have hbody : (hostWrite u o ws e).body.length = 2 + ws.length := by simp [Req.body, hostWrite]; omega
  have hdata : (hostWrite u o ws e).data = ws := rfl
  have hcount : (hostWrite u o ws e).n = ws.length := rfl
  have htake : ((hostWrite u o ws e).words.take (2 + ws.length)) = (hostWrite u o ws e).body :=
    List.take_left' hbody
  have hcrc : (hostWrite u o ws e).words.getD (2 + ws.length) 0 = crcMgt (hostWrite u o ws e).body := by
    simp [Req.words, ← hbody]
  have hlen : (hostWrite u o ws e).words.length = 3 + ws.length := by simp [Req.words, hbody]; omega
  unfold arrival
  rw [parseReq_hostWrite hu ho hn]
  simp only [hdata, hcount, htake, hcrc, hlen]
  simp

/-! ### What the settling does after a frame on SYS -/

/-- The state with other contents of the registers that a frame on SYS reaches by itself: ATTN, the frame counts and
the fault log, and the epochs that it advances. -/
def State.withPort (s : State) (y : SysSt) (g : LogSt) : State :=
  { s with
    sys := { s.sys with events := y.events, mask := y.mask, marks := y.marks, badCrc := y.badCrc, aborts := y.aborts
                        stale := y.stale, denied := y.denied }
    log := g }

/-- Two states differ in nothing but those registers. -/
def PortOnly (s0 s1 : State) : Prop := s1 = s0.withPort s1.sys s1.log

theorem tracked_withPort (s : State) (y : SysSt) (g : LogSt) (u : Nat) : (s.withPort y g).tracked u = s.tracked u := rfl

theorem changedEvents_withPort (s : State) (y : SysSt) (g : LogSt) : changedEvents s (s.withPort y g) = [] := by
  simp [changedEvents, State.withPort]

namespace PortOnly

variable {s s0 s1 s2 : State}

theorem trans (h : PortOnly s0 s1) (h' : PortOnly s1 s2) : PortOnly s0 s2 := by
  unfold PortOnly at h'
  rw [h] at h'
  exact h'

theorem mark (s : State) (u : Nat) : PortOnly s (s.mark u) := rfl
theorem modLog (s : State) (f : LogSt → LogSt) : PortOnly s (s.modLog f) := rfl
theorem attnWrite (s : State) (w : Nat) : PortOnly s (s.attnWrite w) := rfl
theorem attnMask (s : State) (m : Nat) : PortOnly s (s.modSys (fun y => { y with mask := m })) := rfl
theorem counts (s : State) (b a st d : Nat) :
    PortOnly s (s.modSys (fun y => { y with badCrc := b, aborts := a, stale := st, denied := d })) := rfl

theorem tracked_eq (h : PortOnly s0 s1) (u : Nat) : s1.tracked u = s0.tracked u := by
  rw [h]
  exact tracked_withPort _ _ _ u

theorem changedEvents_eq (h : PortOnly s0 s1) : changedEvents s0 s1 = [] := by
  rw [h]
  exact changedEvents_withPort _ _ _

theorem epochs_eq (h : PortOnly s0 s1) : s1.sys.epochs = s0.sys.epochs := by
  rw [h]
  rfl

/-- The parts of a frame: all but SYS and the log read as before, and those two where the effect leaves them. -/
theorem part_same (h : PortOnly s.mgtOpen.clearOut s1) {ps : List Part} (hsys : .sys ∉ ps → s1.sys.bare = s.sys.bare)
    (hlog : .log ∉ ps → s1.log = s.log) : ∀ p, p ∉ ps → Part.same s.mgtOpen.clearOut s1 p := by
  intro p hp
  cases p with
  | sys => exact hsys hp
  | log => exact hlog hp
  | ledger =>
    rw [h]
    exact ⟨rfl, rfl⟩
  | lane l =>
    rw [h]
    cases l <;> rfl
  | _ =>
    rw [h]
    rfl

end PortOnly

/-- With no read of a lane's window under way and no record to number, only epochs, owed STATUS frames, events and pins
are left to settle. -/
theorem settle_of_no_read {s0 s1 : State} (hr : s0.sys.apert = none) (hf : s1.log.fresh = 0) : settle s0 s1 =
    settlePins (settleEvents s0 (settleStatus (settleStatus (settleEpochs s0 s1) .a) .b)) := by
  have hlog : s1.modLog LogSt.settle = s1 := by
    unfold State.modLog
    rw [LogSt.settle_of_fresh hf]
  have hread : settleRead s0 s1 = s1 := by
    unfold settleRead
    rw [hr]
  unfold settle
  rw [hlog, hread]

theorem changedEvents_sendStatus (s0 s : State) (l : Lane) :
    changedEvents s0 (s.sendStatus l) = changedEvents s0 s := by
  cases l <;> rfl

/-- Event bits stand where no occurrence of Table 17.11 has changed the state. -/
theorem settle_sys_events {s0 s1 : State} (hr : s0.sys.apert = none) (hf : s1.log.fresh = 0)
    (h : changedEvents s0 s1 = []) : (settle s0 s1).sys.events = s1.sys.events := by
  rw [settle_of_no_read hr hf]
  generalize hx : settleStatus (settleStatus (settleEpochs s0 s1) .a) .b = x
  have hnone : changedEvents s0 x = [] := by
    rw [← hx, settleStatus_eq (changedEvents s0) .b _ (changedEvents_sendStatus _ _ _),
      settleStatus_eq (changedEvents s0) .a _ (changedEvents_sendStatus _ _ _)]
    exact h
  have hevents : x.sys.events = s1.sys.events := by
    rw [← hx, settleStatus_eq (fun s => s.sys.events) .b _ (by simp),
      settleStatus_eq (fun s => s.sys.events) .a _ (by simp)]
    rfl
  have hsettled : settleEvents s0 x = x := by simp [settleEvents, hnone]
  rw [hsettled]
  exact hevents

/-- A list is its elements read in the order of their places. -/
theorem map_getD_range {xs : List Nat} {n : Nat} (h : xs.length = n) :
    (List.range n).map (fun i => xs.getD i 0) = xs := by
  subst h
  apply List.ext_getElem <;> simp +contextual

/-- Epochs stand where nothing that R531 names has changed. -/
theorem settle_sys_epochs {s0 s1 : State} (hr : s0.sys.apert = none) (hf : s1.log.fresh = 0)
    (hlen : s1.sys.epochs.length = 16) (hm : s1.sys.marks = []) (ht : ∀ u, s1.tracked u = s0.tracked u) :
    (settle s0 s1).sys.epochs = s1.sys.epochs := by
  have hstill : ∀ u, s0.stirred s1 u = false := by simp [State.stirred, hm, ht]
  have hepochs : (settleEpochs s0 s1).sys.epochs = s1.sys.epochs := by
    simp only [settleEpochs, hstill, Bool.false_eq_true, if_false, map_getD_range hlen]
    rfl
  rw [settle_of_no_read hr hf]
  show (settleEvents s0 (settleStatus (settleStatus (settleEpochs s0 s1) .a) .b)).sys.epochs = _
  rw [settleEvents_eq (fun s => s.sys.epochs) (by simp), settleStatus_eq (fun s => s.sys.epochs) .b _ (by simp),
    settleStatus_eq (fun s => s.sys.epochs) .a _ (by simp), hepochs]

/-! ### The answer to a request on SYS -/

/-- The state that a request's effect `s1` and the response to it leave. -/
def State.answered (s s1 : State) (w : List Nat) (k : Nat) : State :=
  (s.mgtOpen.after s1).modSys (fun y => { y with response := w, lead := List.replicate k 0xFFFF })

theorem State.Settled.epochs_length {s : State} (h : s.Settled) : s.sys.epochs.length = 16 := by
  obtain ⟨-, -, hlen, -⟩ := h
  exact hlen

theorem State.Settled.marks_nil {s : State} (h : s.Settled) : s.sys.marks = [] := by
  obtain ⟨-, -, -, hmarks, -⟩ := h
  exact hmarks

theorem State.Settled.fresh_zero {s : State} (h : s.Settled) : s.log.fresh = 0 := by
  obtain ⟨-, -, -, -, hfresh⟩ := h
  exact hfresh

section answered

variable {s s1 : State} {w : List Nat} {k : Nat}

theorem answered_log (hf : s1.log.fresh = 0) : (s.answered s1 w k).log = s1.log := by
  show (s.mgtOpen.after s1).log = _
  rw [after_log, LogSt.settle_of_fresh hf]

theorem answered_sys_bare : (s.answered s1 w k).sys.bare = s1.sys.bare := after_sys_bare s.mgtOpen s1

theorem answered_events (h : PortOnly s.mgtOpen.clearOut s1) (hf : s1.log.fresh = 0) :
    (s.answered s1 w k).sys.events = s1.sys.events :=
  settle_sys_events rfl hf h.changedEvents_eq

theorem answered_epochs (hs : s.Settled) (h : PortOnly s.mgtOpen.clearOut s1) (hf : s1.log.fresh = 0)
    (hm : s1.sys.marks = []) : (s.answered s1 w k).sys.epochs = s.sys.epochs := by
  have heq : s1.sys.epochs = s.sys.epochs := h.epochs_eq
  exact (settle_sys_epochs rfl hf (heq ▸ hs.epochs_length) hm h.tracked_eq).trans heq

theorem answered_frame (hs : s.Settled) (h : PortOnly s.mgtOpen.clearOut s1) {ps : List Part}
    (hsys : .sys ∉ ps → s1.sys.bare = s.sys.bare) (hlog : .log ∉ ps → s1.log = s.log) :
    Frame ps s (s.answered s1 w k) :=
  frame_mgt hs.fresh_zero (h.part_same hsys hlog)

theorem answered_replied {r : Req} {data : List Nat}
    (hw : w = answer 0 r.unit ((s.mgtOpen.after s1).sys.epochs.getD r.unit 0) data) :
    (s.answered s1 w k).Replied r data := by
  unfold State.Replied State.answered
  rw [State.modSys_sys]
  exact hw

end answered

/-- The outcome of a write that the port answers OK and whose effect is `s1`. -/
theorem mgtRequest_write {s s1 : State} {r : Req} (h : s.Accepts r) (hw : r.write = true) {lat : Nat}
    (heffect : s.mgtOpen.clearOut.frameEffect r 0 0 lat = s1) :
    ∃ w k, s.mgtRequest r 0 lat = .next (s.answered s1 w k) ∧ (s.answered s1 w k).Replied r [] := by
  have hdata : s.frameData r 0 = [] := by simp [State.frameData, hw]
  rw [mgtRequest_ok h, performMgt_after, shiftedOut_write hw, hdata, heffect]
  exact ⟨_, _, rfl, answered_replied rfl⟩

/-- The outcome of a read that the port answers OK, whose effect is `s1` and which the host shifts out whole. -/
theorem mgtRequest_read {s s1 : State} {r : Req} (h : s.Accepts r) (hw : r.write = false) {shifted lat : Nat}
    (hall : (s.readData r).length ≤ shifted) (heffect : s.mgtOpen.clearOut.frameEffect r 0 shifted lat = s1) :
    ∃ w k, s.mgtRequest r shifted lat = .next (s.answered s1 w k)
      ∧ (s.answered s1 w k).Replied r (s.readData r) := by
  have hdata : s.frameData r 0 = s.readData r := by simp [State.frameData, hw]
  rw [mgtRequest_ok h, performMgt_after, shiftedOut_all hw (hdata.symm ▸ hall), hdata, heffect]
  exact ⟨_, _, rfl, answered_replied rfl⟩

/-- A frame that spells a request is that request. -/
theorem mgtFrame_good {s : State} {ws : List Nat} {r : Req} (h : arrival ws = .good r) (shifted lat : Nat) :
    s.mgtFrame ws shifted lat = s.mgtRequest r (if r.write then pastWords ws else shifted) lat := by
  simp [State.mgtFrame, h]

/-- Subtracting the bits that two numbers share clears them. -/
theorem testBit_sub_and (e w i : Nat) : (e - (e &&& w)).testBit i = (e.testBit i && !w.testBit i) := by
  have hle : e &&& w ≤ e := Nat.and_le_left
  have hmod : (e &&& w) % 2 = e % 2 &&& w % 2 := Nat.and_mod_two_pow (n := 1)
  induction i generalizing e w with
  | zero =>
    have hsub : (e - (e &&& w)) % 2 = (e % 2 + (e &&& w) % 2) % 2 := by omega
    rw [Nat.testBit_zero, Nat.testBit_zero, Nat.testBit_zero, hsub, hmod]
    rcases Nat.mod_two_eq_zero_or_one e with he | he <;> rcases Nat.mod_two_eq_zero_or_one w with hw | hw <;>
      simp [he, hw]
  | succ i ih =>
    have hm : (e &&& w) % 2 ≤ e % 2 := hmod ▸ Nat.and_le_left
    have hd : (e - (e &&& w)) / 2 = e / 2 - (e / 2 &&& w / 2) := by
      rw [← Nat.and_div_two]; omega
    rw [Nat.testBit_succ, Nat.testBit_succ, Nat.testBit_succ, hd,
      ih _ _ Nat.and_le_left (Nat.and_mod_two_pow (n := 1))]

/-! ### Requests on SYS (R528, R542, R569, R570) -/

section sysRequests

variable (s : State)

/-- A write to SYS advances the epoch unless EVENTS is all it writes (R531). -/
theorem frameEffect_sysWrite {r : Req} (hw : r.write = true) (hu : r.unit = 0) (shifted lat : Nat) :
    s.frameEffect r 0 shifted lat =
      if r.items.all (fun q => q.1 = 0x038) then s.sysWrite r else (s.sysWrite r).mark 0 := by
  have hwrite : s.frameEffect r 0 shifted lat = s.applyWrite r := by
    simp [State.frameEffect, Req.aperture, hw, hu]
  rw [hwrite]
  unfold State.applyWrite
  rw [hu]
  rfl

theorem frameEffect_sysRead {r : Req} (hw : r.write = false) (hu : r.unit = 0) (shifted lat : Nat) :
    s.frameEffect r 0 shifted lat =
      let t := (r.offsets.take shifted).foldl (fun s o => s.consumeWord 0 o) s
      if 0x11F ∈ r.offsets.take shifted then t.advanceSel s.selected else t := by
  simp [State.frameEffect, State.applyRead, Req.aperture, hw, hu]

theorem hostWrite_at? (u o e x : Nat) (ws : List Nat) :
    (hostWrite u o ws e).at? x = if o ≤ x then ws[x - o]? else none := by
  simp [Req.at?, hostWrite]

theorem sysWrite_mask (w e : Nat) :
    s.sysWrite (hostWrite 0 0x039 [w] e) = s.modSys (fun y => { y with mask := w % 65536 }) := by
  simp [State.sysWrite, State.ackValue, Req.put, Req.put2, hostWrite_at?]
  rfl

theorem sysWrite_events (w e : Nat) : s.sysWrite (hostWrite 0 0x038 [w] e) = s.attnWrite (w % 65536) := by
  simp [State.sysWrite, State.ackValue, Req.put, Req.put2, hostWrite_at?]
  rfl

theorem sysWrite_ack {q : Nat} (hq : q < 2 ^ 32) (e : Nat) :
    s.sysWrite (hostWrite 0 0x106 [lo16 q, hi16 q] e) = s.modLog (fun g => { g with ack := q }) := by
  have hsplit : q % 65536 + 65536 * (q / 65536 % 65536) = q := by omega
  simp [State.sysWrite, State.ackValue, Req.put, Req.put2, hostWrite_at?, lo16, hi16, hsplit]
  rfl

theorem frameEffect_mask (w e lat : Nat) : s.frameEffect (hostWrite 0 0x039 [w] e) 0 0 lat =
    (s.modSys (fun y => { y with mask := w % 65536 })).mark 0 := by
  rw [frameEffect_sysWrite s rfl rfl, if_neg (by simp [hostWrite, Req.items]), sysWrite_mask]

theorem frameEffect_events (w e lat : Nat) :
    s.frameEffect (hostWrite 0 0x038 [w] e) 0 0 lat = s.attnWrite (w % 65536) := by
  rw [frameEffect_sysWrite s rfl rfl, if_pos (by simp [hostWrite, Req.items]), sysWrite_events]

theorem frameEffect_ack {q : Nat} (hq : q < 2 ^ 32) (e lat : Nat) :
    s.frameEffect (hostWrite 0 0x106 [lo16 q, hi16 q] e) 0 0 lat =
      (s.modLog (fun g => { g with ack := q })).mark 0 := by
  rw [frameEffect_sysWrite s rfl rfl, if_neg (by simp [hostWrite, Req.items]), sysWrite_ack s hq]

/-- A word of SYS that is read clears at most frame counts. -/
theorem consumeWord_sys (o : Nat) : ∃ b a st d, s.consumeWord 0 o =
    s.modSys (fun y => { y with badCrc := b, aborts := a, stale := st, denied := d }) := by
  by_cases hcrc : o = 0x03A
  · exact ⟨0, 0, s.sys.stale, s.sys.denied, by rw [hcrc]; rfl⟩
  by_cases hstale : o = 0x03B
  · exact ⟨s.sys.badCrc, s.sys.aborts, 0, 0, by rw [hstale]; rfl⟩
  · refine ⟨s.sys.badCrc, s.sys.aborts, s.sys.stale, s.sys.denied, ?_⟩
    simp [State.consumeWord, hcrc, hstale, State.modSys]

theorem foldl_consumeWord_sys (os : List Nat) : ∃ b a st d, os.foldl (fun s o => s.consumeWord 0 o) s =
    s.modSys (fun y => { y with badCrc := b, aborts := a, stale := st, denied := d }) := by
  induction os generalizing s with
  | nil => exact ⟨s.sys.badCrc, s.sys.aborts, s.sys.stale, s.sys.denied, rfl⟩
  | cons o os ih =>
    obtain ⟨b, a, st, d, ho⟩ := consumeWord_sys s o
    obtain ⟨b', a', st', d', hos⟩ := ih (s.consumeWord 0 o)
    refine ⟨b', a', st', d', ?_⟩
    rw [List.foldl_cons, hos, ho]
    rfl

/-- A read of SYS that returns word 15 of the selected record moves the selector on, and may clear frame counts. -/
theorem frameEffect_selected {r : Req} {f : FaultRec} {shifted : Nat} (hw : r.write = false) (hu : r.unit = 0)
    (hlast : 0x11F ∈ r.offsets.take shifted) (hsel : s.selected = some f) (lat : Nat) :
    ∃ b a st d, s.frameEffect r 0 shifted lat =
      (s.modSys (fun y => { y with badCrc := b, aborts := a, stale := st, denied := d })).modLog
        (fun g => { g with sel := (f.seq + 1) % 2 ^ 32 }) := by
  obtain ⟨b, a, st, d, hread⟩ := foldl_consumeWord_sys s (r.offsets.take shifted)
  refine ⟨b, a, st, d, ?_⟩
  rw [frameEffect_sysRead s hw hu, hread, hsel]
  exact if_pos hlast

theorem frameEffect_selectedWhole {f : FaultRec} (hsel : s.selected = some f) (lat : Nat) :
    s.frameEffect (hostRead 0 0x110 16) 0 16 lat = s.modLog (fun g => { g with sel := (f.seq + 1) % 2 ^ 32 }) := by
  rw [frameEffect_sysRead s rfl rfl, hsel]
  rfl

end sysRequests

/-! ### The selected record (R568, R569) -/

theorem leBytes_length (n v : Nat) : (leBytes n v).length = n := by
  induction n generalizing v with
  | zero => rfl
  | succ n ih => simp [leBytes, ih]

theorem bytesToWords_length (bs : List Nat) : (bytesToWords bs).length = (bs.length + 1) / 2 := by
  induction bs using bytesToWords.induct with
  | case1 => rfl
  | case2 b => simp [bytesToWords]
  | case3 b c bs ih => simp [bytesToWords, ih]; omega

theorem fit_length {α : Type} (d : α) (n : Nat) (xs : List α) : (fit d n xs).length = n := by
  simp [fit]; omega

/-- A record is sixteen words on the port (Table 18.3). -/
theorem faultRec_words_length (r : FaultRec) : r.words.length = 16 := by
  simp [FaultRec.words, bytesToWords_length, FaultRec.bytes, leBytes_length, fit_length, List.length_flatMap]

theorem regWord_selected (s : State) {i : Nat} (hi : i < 16) :
    s.regWord 0 (0x110 + i) = some (recWord s.selected i) := by
  interval_cases i <;> rfl

theorem readData_selected {s : State} {r : FaultRec} (h : s.selected = some r) :
    s.readData (hostRead 0 0x110 16) = r.words := by
  have hwords : ∀ i ∈ List.range 16, (s.regWord 0 (0x110 + i)).getD 0 = r.words.getD i 0 := by
    intro i hi
    rw [regWord_selected s (List.mem_range.mp hi), h]
    rfl
  calc s.readData (hostRead 0 0x110 16)
      = (List.range 16).map (fun i => (s.regWord 0 (0x110 + i)).getD 0) := by
        simp [State.readData, Req.aperture, Req.offsets, hostRead]
    _ = (List.range 16).map (fun i => r.words.getD i 0) := List.map_congr_left hwords
    _ = r.words := map_getD_range (faultRec_words_length r)

/-! ### The clauses of AttentionAndFaultLogOnThePort -/

section clauses

variable {s : State}

theorem exec_mgtWrite_hostWrite {u o e : Nat} {ws : List Nat} (hu : u < 16) (ho : o < 2048) (hn : ws.length < 128) :
    exec (.mgtWrite (hostWrite u o ws e).words) s = s.mgtRequest (hostWrite u o ws e) 0 0 := by
  have harr := arrival_hostWrite (e := e) hu ho hn
  have hw : (hostWrite u o ws e).write = true := rfl
  rw [exec_mgtWrite, execMgtWrite, mgtFrame_good harr, if_pos hw, pastWords_good harr]

theorem attnMask_written {w e : Nat} (hs : s.Settled) (ha : s.Accepts (hostWrite 0 0x039 [w] e)) (hw : w < 65536) :
    ∃ t, exec (.mgtWrite (hostWrite 0 0x039 [w] e).words) s = .next t ∧ t.Replied (hostWrite 0 0x039 [w] e) []
      ∧ t.sys.bare = { s.sys with mask := w }.bare ∧ t.sys.events = s.sys.events ∧ Frame [.sys] s t := by
  have heffect := frameEffect_mask s.mgtOpen.clearOut w e 0
  rw [Nat.mod_eq_of_lt hw] at heffect
  obtain ⟨w', k, hexec, hreply⟩ := mgtRequest_write ha rfl heffect
  rw [exec_mgtWrite_hostWrite (by decide) (by decide) (by simp)]
  have hport := (PortOnly.attnMask s.mgtOpen.clearOut w).trans (PortOnly.mark _ 0)
  exact ⟨_, hexec, hreply, answered_sys_bare, answered_events hport hs.fresh_zero,
    answered_frame hs hport (by simp) (fun _ => rfl)⟩

theorem events_cleared {w e : Nat} (hs : s.Settled) (ha : s.Accepts (hostWrite 0 0x038 [w] e)) (hw : w < 65536) :
    ∃ t, exec (.mgtWrite (hostWrite 0 0x038 [w] e).words) s = .next t ∧ t.Replied (hostWrite 0 0x038 [w] e) []
      ∧ (∀ i, t.sys.events.testBit i = (s.sys.events.testBit i && !w.testBit i)) ∧ t.sys.epochs = s.sys.epochs
      ∧ Frame [] s t := by
  have heffect := frameEffect_events s.mgtOpen.clearOut w e 0
  rw [Nat.mod_eq_of_lt hw] at heffect
  obtain ⟨w', k, hexec, hreply⟩ := mgtRequest_write ha rfl heffect
  rw [exec_mgtWrite_hostWrite (by decide) (by decide) (by simp)]
  have hport := PortOnly.attnWrite s.mgtOpen.clearOut w
  refine ⟨_, hexec, hreply, fun i => ?_, answered_epochs hs hport hs.fresh_zero hs.marks_nil,
    answered_frame hs hport (fun _ => rfl) (fun _ => rfl)⟩
  rw [answered_events hport hs.fresh_zero]
  exact testBit_sub_and s.sys.events w i

theorem selectedRecord_read {r : FaultRec} (hs : s.Settled) (ha : s.Accepts (hostRead 0 0x110 16))
    (hsel : s.selected = some r) :
    ∃ t, exec .flogSelectedRead s = .next t ∧ t.Replied (hostRead 0 0x110 16) r.words
      ∧ t.log = { s.log with sel := (r.seq + 1) % 2 ^ 32 } ∧ t.sys.epochs = s.sys.epochs ∧ Frame [.log] s t := by
  have hdata := readData_selected hsel
  have hall : (s.readData (hostRead 0 0x110 16)).length ≤ 16 := by rw [hdata, faultRec_words_length]
  obtain ⟨w, k, hexec, hreply⟩ := mgtRequest_read ha rfl hall (frameEffect_selectedWhole s.mgtOpen.clearOut hsel 0)
  rw [hdata] at hreply
  have hport := PortOnly.modLog s.mgtOpen.clearOut (fun g => { g with sel := (r.seq + 1) % 2 ^ 32 })
  exact ⟨_, hexec, hreply, answered_log hs.fresh_zero, answered_epochs hs hport hs.fresh_zero hs.marks_nil,
    answered_frame hs hport (fun _ => rfl) (by simp)⟩

theorem lastWord_read {q : Req} {r : FaultRec} {k : Nat} (hs : s.Settled) (harr : arrival q.words = .good q)
    (ha : s.Accepts q) (hw : q.write = false) (hu : q.unit = 0) (hlast : 0x11F ∈ q.offsets.take k)
    (hsel : s.selected = some r) :
    ∃ t, exec (.mgtRead q.words k) s = .next t
      ∧ t.log = { s.log with sel := (r.seq + 1) % 2 ^ 32 } ∧ t.sys.epochs = s.sys.epochs ∧ Frame [.log, .sys] s t := by
  obtain ⟨b, a, st, d, heffect⟩ := frameEffect_selected s.mgtOpen.clearOut hw hu hlast hsel 0
  have hexec : exec (.mgtRead q.words k) s = s.mgtRequest q k 0 := by
    rw [exec_mgtRead, execMgtRead, mgtFrame_good harr, if_neg (by simp [hw])]
  rw [hexec, mgtRequest_ok ha, performMgt_after, heffect]
  have hport := (PortOnly.counts s.mgtOpen.clearOut b a st d).trans
    (PortOnly.modLog _ (fun g => { g with sel := (r.seq + 1) % 2 ^ 32 }))
  exact ⟨_, rfl, answered_log hs.fresh_zero, answered_epochs hs hport hs.fresh_zero hs.marks_nil,
    answered_frame hs hport (by simp) (by simp)⟩

theorem acknowledgement_taken {q e : Nat} (hs : s.Settled) (hq : q < 2 ^ 32)
    (ha : s.Accepts (hostWrite 0 0x106 [lo16 q, hi16 q] e)) :
    ∃ t, exec (.flogAck q e) s = .next t ∧ t.Replied (hostWrite 0 0x106 [lo16 q, hi16 q] e) []
      ∧ t.log = { s.log with ack := q } ∧ Frame [.log] s t := by
  obtain ⟨w, k, hexec, hreply⟩ := mgtRequest_write ha rfl (frameEffect_ack s.mgtOpen.clearOut hq e 0)
  have hport := (PortOnly.modLog s.mgtOpen.clearOut (fun g => { g with ack := q })).trans (PortOnly.mark _ 0)
  exact ⟨_, hexec, hreply, answered_log hs.fresh_zero, answered_frame hs hport (fun _ => rfl) (by simp)⟩

end clauses

/-- Settles O60: a frame on SYS changes ATTN, frame counts and the fault log alone, so that no event and no epoch but
its own follows, and each clause is the effect of its request. -/
theorem attentionAndFaultLogOnThePort : Obligations.AttentionAndFaultLogOnThePort := by
  unfold Obligations.AttentionAndFaultLogOnThePort
  exact ⟨fun _ _ _ => attnMask_written, fun _ _ _ => events_cleared, fun _ _ => selectedRecord_read,
    fun _ _ _ _ => lastWord_read, fun _ _ _ => acknowledgement_taken⟩

end Sys2Proof.Machine
end

section
/-!
PROOFS. One step: the command at the front of the queue or one reference edge; what every command leaves settled
(R531, R541, R553, R571); and what a byte of memory reads as after a write.
-/

namespace Sys2Proof.Machine

/-! ### The front of the queue, and the state after reset -/

/-- Settles O1: a step on a queue with a front command is that command on the rest of the queue, by definition of
`step`. -/
theorem stepRunsFrontCommand : Obligations.StepRunsFrontCommand := by
  unfold Obligations.StepRunsFrontCommand
  intro c cs s hqueue
  simp only [step, hqueue]

/-- Settles O3: every field of the reset state stands at its default, unit by unit. -/
theorem resetIsOffAndSettled : Obligations.ResetIsOffAndSettled := by
  unfold Obligations.ResetIsOffAndSettled
  refine ⟨⟨rfl, rfl, rfl, ?_, rfl, rfl, rfl, rfl, rfl, ?_, ?_, rfl, rfl⟩, ⟨rfl, rfl, rfl, rfl, rfl⟩, State.reset_wf⟩
  · intro o
    cases o <;> rfl
  · intro l
    cases l <;> exact ⟨rfl, rfl, rfl, rfl⟩
  · intro n
    show ((List.replicate 8 ({} : LightCh)).getD n {}).drive = 0
    by_cases hn : n < 8
    · rw [List.getD_replicate _ hn]
    · rw [List.getD_eq_default _ _ (by simpa using hn)]

/-! ### The settled form (R531, R541, R553, R571) -/

theorem settleEpochs_epochs_length (s0 s1 : State) : (settleEpochs s0 s1).sys.epochs.length = 16 := by
  simp [settleEpochs]

theorem settleEpochs_marks (s0 s1 : State) : (settleEpochs s0 s1).sys.marks = [] := by
  simp [settleEpochs]

/-- After the epochs, the settling leaves them and the marks alone. -/
theorem settle_sys_of_epochs {α : Type} (g : SysSt → α) (hpins : ∀ (y : SysSt) (a b : Bool),
      g { y with faultN := a, attnN := b } = g y) (hevent : ∀ (s : State) (b : Nat), g (s.event b).sys = g s.sys)
    (s0 s1 : State) :
    g (settle s0 s1).sys = g (settleEpochs s0 (settleRead s0 (s1.modLog LogSt.settle))).sys := by
  unfold settle settlePins
  rw [State.modSys_sys, hpins, settleEvents_eq (fun s => g s.sys) hevent,
    settleStatus_eq (fun s => g s.sys) .b _ (by simp), settleStatus_eq (fun s => g s.sys) .a _ (by simp)]

theorem after_epochs_length (s s1 : State) : (s.after s1).sys.epochs.length = 16 :=
  (settle_sys_of_epochs (fun y => y.epochs.length) (fun _ _ _ => rfl) (by simp) s.clearOut s1).trans
    (settleEpochs_epochs_length _ _)

theorem after_marks (s s1 : State) : (s.after s1).sys.marks = [] :=
  (settle_sys_of_epochs SysSt.marks (fun _ _ _ => rfl) (by simp) s.clearOut s1).trans (settleEpochs_marks _ _)

/-- Whatever a command's effect, the settling after it leaves the engine settled. -/
theorem after_settled (s s1 : State) : (s.after s1).Settled := by
  obtain ⟨hfault, hattn⟩ := after_pinsStand s s1
  exact ⟨hfault, hattn, after_epochs_length s s1, after_marks s s1, by rw [after_log]; rfl⟩

/-! ### Every command completes -/

/-- An outcome is a settled state of the same build and queue. -/
def Completes (s : State) (o : Host.Outcome State Fault Refusal) : Prop :=
  ∃ t, o = .next t ∧ t.Settled ∧ t.twoLanes = s.twoLanes ∧ t.pending = s.pending

theorem perform_completes (s : State) (f : State → State) : Completes s (perform s f) :=
  ⟨_, rfl, after_settled _ _, rfl, rfl⟩

/-- The response does not enter what is settled. -/
theorem performMgt_completes (s : State) (k : Nat) (f : State → State) (resp : State → List Nat) :
    Completes s (performMgt s k f resp) :=
  ⟨_, rfl, after_settled s.mgtOpen (f s.mgtOpen.clearOut), rfl, rfl⟩

theorem mgtRequest_completes (s : State) (r : Req) (shifted latency : Nat) :
    Completes s (s.mgtRequest r shifted latency) := by
  unfold State.mgtRequest
  split <;> exact performMgt_completes _ _ _ _

theorem mgtCut_completes (s : State) (k : Nat) : Completes s (s.mgtCut k) := performMgt_completes s _ _ _

theorem mgtFrame_completes (s : State) (words : List Nat) (shifted latency : Nat) :
    Completes s (s.mgtFrame words shifted latency) := by
  unfold State.mgtFrame
  split
  · exact mgtCut_completes _ _
  · exact performMgt_completes _ _ _ _
  · exact mgtRequest_completes _ _ _ _

/-- Every command is an effect and the settling, or a frame or a register access on the management port. -/
theorem exec_completes (c : Instr) (s : State) : Completes s (exec c s) := by
  cases c with
  | mgtRead | mgtWrite | memDataAccess =>
    simp only [exec]
    exact mgtFrame_completes s _ _ _
  | mgtFrameAbort =>
    simp only [exec]
    exact mgtCut_completes s _
  | clearOnRead | hkResultRead | flogSelectedRead | flogAck | sysPowerSleep | sysPowerOff | sysPowerEreset
  | sysPowerLreset | sysModeService | sysHaltReq | haltRelease | headReqGo | headReqAbort | clkCtrlCommit
  | pixCalcmdGo | tallyDestructiveGo | tallyPreservingGo | tillCtrlFlush | linkCtrlRetrain | axisMoveGo | axisMoveStop
  | luxMctrlGo | luxMctrlRearm | tmrCmpWrite | tmrCtrlLoad | tmrCtrlEn | tmrGstartGo =>
    simp only [exec]
    exact mgtRequest_completes s _ _ _
  | _ =>
    simp only [exec]
    exact perform_completes s _

/-- Settles O6: every meaning ends in the settling, which no state keeps from completing. -/
theorem everyCommandCompletes : Obligations.EveryCommandCompletes := by
  unfold Obligations.EveryCommandCompletes
  exact exec_completes

/-! ### Every step keeps the engine settled -/

/-- A reference edge advances the TSC alone. -/
theorem refTick_eq (s : State) : s.refTick =
    if s.tmr.counting then { s with tmr := { s.tmr with tsc := (s.tmr.tsc + 1) % 2 ^ 48 } } else s := rfl

theorem refTick_settled {s : State} (h : s.Settled) : s.refTick.Settled := by
  rw [refTick_eq]
  split
  · exact h
  · exact h

theorem idle_settled {s : State} (h : s.Settled) : ∀ t, idle s = .next t → t.Settled := by
  intro t ht
  unfold idle at ht
  split at ht
  · cases ht
    exact after_settled _ _
  · cases ht
    exact refTick_settled h

/-- Settles O4: a command ends in the settling, and a reference edge that starts no converter changes the TSC alone. -/
theorem stepKeepsEngineSettled : Obligations.StepKeepsEngineSettled := by
  unfold Obligations.StepKeepsEngineSettled
  intro s t hs hstep
  unfold step at hstep
  split at hstep
  next => exact idle_settled hs t hstep
  next c cs _ =>
    obtain ⟨t', hexec, hsettled, -⟩ := exec_completes c { s with pending := cs }
    cases hexec.symm.trans hstep
    exact hsettled

/-! ### With no command waiting (R471, R510) -/

theorem refTick_of_counting {s : State} (h : s.tmr.counting = true) :
    s.refTick = s.modTmr (fun m => { m with tsc := (m.tsc + 1) % 2 ^ 48 }) := if_pos h

theorem refTick_of_stopped {s : State} (h : s.tmr.counting = false) : s.refTick = s := by
  simp [State.refTick, h]

/-- HKB as it starts a slot of HKA at the present TSC. -/
def State.lagged (s : State) : HkConv :=
  { s.hk.b with slot := s.hk.a.slot, running := true, passCh := none, atCross := false, tw := s.hk.tw
                start := s.tmr.tsc, doomed := s.hkBlocked }

/-- With no channel in fault and HKB in the schedule, its start of HKA's slot changes HKB alone. -/
theorem lagStart_of_healthy {s : State} (hdue : s.lagDue = true) (hfailed : s.hk.b.failed = false)
    (hpfw : s.pwr.pfw = false) (hfault : ∀ n, n < 24 → (s.hkChan n).fault = false) :
    s.lagStart = s.modHk (fun h => { h with lag := none, b := s.lagged }) := by
  have hback : ∀ f : Nat → Bool, (List.range 24).filter (fun n => (s.hkChan n).fault && f n) = [] := fun f =>
    List.filter_eq_nil_iff.mpr (fun n hn => by simp [hfault n (List.mem_range.mp hn)])
  let s1 := (s.modHk (fun h => { h with lag := none })).modConv true (fun c => { c with slot := s.hk.a.slot })
  have hjoin : s1.joinConv true = s1.startConv true none := by
    have hin : (s1.conv true).failed = false := hfailed
    unfold State.joinConv
    simp only [hin, Bool.false_eq_true, if_false, Bool.and_assoc]
    show (List.foldl State.hkClear s1 ((List.range 24).filter (fun n => (s.hkChan n).fault && _))).startConv true none = _
    rw [hback]
    rfl
  have hstart : s1.startConv true none = s.modHk (fun h => { h with lag := none, b := s.lagged }) := by
    have hon : s1.pwr.pfw = false := hpfw
    simp only [State.startConv, hon, Bool.false_eq_true, if_false]
    rfl
  unfold State.lagStart
  rw [if_pos hdue]
  exact hjoin.trans hstart

theorem idle_of_no_start {s : State} (h : s.refTick.lagDue = false) : idle s = .next s.refTick := by
  simp [idle, h]

theorem idle_of_start {s : State} (h : s.refTick.lagDue = true) :
    idle s = .next (s.after s.clearOut.refTick.lagStart) := by
  simp [idle, h, perform_after]

theorem idle_starts_lagged {s : State} (hs : s.Settled) (hcount : s.tmr.counting = true)
    (hlag : s.refTick.lagDue = true) (hfailed : s.hk.b.failed = false) (hpfw : s.pwr.pfw = false)
    (hfault : ∀ n, n < 24 → (s.hkChan n).fault = false) :
    ∃ t, idle s = .next t ∧ t.tmr.tsc = (s.tmr.tsc + 1) % 2 ^ 48
      ∧ t.hk.lag = none ∧ t.hk.b.running = true ∧ t.hk.b.slot = s.hk.a.slot ∧ t.hk.b.start = t.tmr.tsc
      ∧ t.hk.a = s.hk.a ∧ t.hk.ch = s.hk.ch ∧ Frame [.tmr, .hk] s t := by
  have htick : s.clearOut.refTick = s.clearOut.modTmr (fun m => { m with tsc := (m.tsc + 1) % 2 ^ 48 }) :=
    refTick_of_counting hcount
  have hdue : s.clearOut.refTick.lagDue = true := by
    rw [refTick_of_counting hcount] at hlag
    rw [htick]
    exact hlag
  have heffect : s.clearOut.refTick.lagStart =
      s.clearOut.refTick.modHk (fun h => { h with lag := none, b := s.clearOut.refTick.lagged }) :=
    lagStart_of_healthy hdue (by rw [htick]; exact hfailed) (by rw [htick]; exact hpfw)
      (by rw [htick]; exact hfault)
  rw [idle_of_start hlag, heffect, htick]
  refine ⟨_, rfl, by simp, by simp, by simp [State.lagged], by simp [State.lagged], by simp [State.lagged],
    by simp, by simp, frame_after hs.fresh_zero ?_⟩
  intro p hp
  cases p with
  | tmr | hk => simp at hp
  | _ => simp [Part.same]

/-- Settles O2: the TSC is all that a reference edge advances, and a slot of HKB that is due then starts. -/
theorem idleStepIsOneReferenceEdge : Obligations.IdleStepIsOneReferenceEdge := by
  unfold Obligations.IdleStepIsOneReferenceEdge
  refine ⟨fun s hqueue hlag => ?_, fun s hs hqueue hcount hlag hfailed hpfw hfault => ?_⟩
  · have hstep : step s = .next s.refTick := by rw [step, hqueue]; exact idle_of_no_start hlag
    rw [hstep]
    exact ⟨fun hcount => by rw [refTick_of_counting hcount]; rfl, fun hcount => by rw [refTick_of_stopped hcount]⟩
  · have hstep : step s = idle s := by rw [step, hqueue]
    rw [hstep]
    exact idle_starts_lagged hs hcount hlag hfailed hpfw hfault

end Sys2Proof.Machine
end

section
/-!
PROOFS. The byte memories read and written: a read is the bytes of its addresses, a write is read back and leaves every
other byte, and the canonical form has one value for each content.
-/

namespace Sys2Proof.Machine

/-! ### A read is the bytes of its addresses -/

theorem Mem.walk_eq_get {d : Byte} {n a : Nat} {m : Mem} (h : Mem.wfFrom d a m = true) :
    Mem.walk d n a m = (List.range n).map (fun i => Mem.get d m (a + i)) := by
  induction n generalizing a m with
  | zero => rfl
  | succ n ih =>
    rw [List.range_succ_eq_map, List.map_cons, List.map_map]
    have hshift : (List.range n).map ((fun i => Mem.get d m (a + i)) ∘ Nat.succ) =
        (List.range n).map (fun i => Mem.get d m (a + 1 + i)) :=
      List.map_congr_left (fun i _ => by simp only [Function.comp_apply]; congr 1; omega)
    rw [hshift]
    cases m with
    | nil => simp [Mem.walk, ih (m := []) rfl, Mem.get]
    | cons c m =>
      obtain ⟨k, b⟩ := c
      obtain ⟨⟨hk, hb⟩, hm⟩ : (a ≤ k ∧ b ≠ d) ∧ Mem.wfFrom d (k + 1) m = true := by simpa [Mem.wfFrom] using h
      by_cases hka : k = a
      · subst hka
        have hne : ∀ i, k ≠ k + 1 + i := by omega
        simp [Mem.walk, ih hm, Mem.get, hne]
      · have hlater : Mem.wfFrom d (a + 1) ((k, b) :: m) = true := by
          simp only [Mem.wfFrom, Bool.and_eq_true, decide_eq_true_eq]
          exact ⟨⟨by omega, by simpa using hb⟩, hm⟩
        have hfirst : Mem.get d ((k, b) :: m) a = d := Mem.get_below hlater (by omega)
        simp [Mem.walk, hka, ih hlater, hfirst]

/-- A read returns the byte of each of its addresses. -/
theorem Mem.read_eq_get {d : Byte} {m : Mem} (h : Mem.wf d m = true) (a n : Nat) :
    Mem.read d m a n = (List.range n).map (fun i => Mem.get d m (a + i)) := by
  have hcut : m.filter (fun c => a ≤ c.1 && c.1 < a + n) = (m.filter (fun c => a ≤ c.1)).filter (fun c => c.1 < a + n) := by
    rw [List.filter_filter]
    congr 1
    funext c
    rw [Bool.and_comm]
  unfold Mem.read
  rw [Mem.walk_eq_get (by rw [hcut]; exact Mem.wfFrom_filter _ (Mem.wfFrom_ge h))]
  refine List.map_congr_left (fun i hi => Mem.get_filter _ h _ (fun b => ?_))
  have : i < n := List.mem_range.mp hi
  simp; omega

/-! ### A write is read back and leaves every other byte -/

theorem Mem.get_cellsFrom {d : Byte} {a k : Nat} {bs : List Byte} (hk : a ≤ k) :
    Mem.get d (Mem.cellsFrom d a bs) k = bs.getD (k - a) d := by
  induction bs generalizing a with
  | nil => rfl
  | cons b bs ih =>
    by_cases hak : a = k
    · subst hak
      have hrest : Mem.get d (Mem.cellsFrom d (a + 1) bs) a = d :=
        Mem.get_below (Mem.cellsFrom_wf d (a + 1) bs).1 (by omega)
      simp only [Mem.cellsFrom]
      split
      next hb => simp [hrest, hb]
      next => simp [Mem.get]
    · have hnext : k - a = k - (a + 1) + 1 := by omega
      have hrest := ih (a := a + 1) (by omega)
      simp only [Mem.cellsFrom]
      split
      · rw [hrest, hnext, List.getD_cons_succ]
      · rw [Mem.get, if_neg hak, hrest, hnext, List.getD_cons_succ]

theorem Mem.le_of_mem {d : Byte} {lo : Nat} {m : Mem} (h : Mem.wfFrom d lo m = true) : ∀ c ∈ m, lo ≤ c.1 := by
  induction m generalizing lo with
  | nil => simp
  | cons c m ih =>
    obtain ⟨a, b⟩ := c
    obtain ⟨⟨ha, -⟩, hm⟩ : (lo ≤ a ∧ b ≠ d) ∧ Mem.wfFrom d (a + 1) m = true := by simpa [Mem.wfFrom] using h
    intro c hc
    rcases List.mem_cons.mp hc with rfl | hc
    · exact ha
    · have := ih hm c hc
      omega

theorem Mem.get_append_left {d : Byte} {m n : Mem} {k : Nat} (h : ∀ c ∈ n, c.1 ≠ k) :
    Mem.get d (m ++ n) k = Mem.get d m k := by
  induction m with
  | nil => exact Mem.get_none h
  | cons c m ih =>
    obtain ⟨a, b⟩ := c
    simp only [List.cons_append, Mem.get, ih]

/-- A cut that keeps every cell of an address reads there as the whole. -/
theorem Mem.get_filter_of_kept {d : Byte} {p : Host.Cell → Bool} {m : Mem} {k : Nat} (hp : ∀ b, p (k, b) = true) :
    Mem.get d (m.filter p) k = Mem.get d m k := by
  induction m with
  | nil => rfl
  | cons c m ih =>
    obtain ⟨a, b⟩ := c
    by_cases hak : a = k
    · subst hak
      simp [hp, Mem.get]
    · rw [List.filter_cons]
      split <;> simp only [Mem.get, hak, if_false, ih]

/-- A byte after a write: the written one in its range, the old one elsewhere. -/
theorem Mem.get_write (d : Byte) (m : Mem) (a k : Nat) (bs : List Byte) :
    Mem.get d (Mem.write d m a bs) k =
      if a ≤ k ∧ k < a + bs.length then bs.getD (k - a) d else Mem.get d m k := by
  obtain ⟨hwf, hbelow⟩ := Mem.cellsFrom_wf d a bs
  have habove := Mem.le_of_mem hwf
  have hlow : ∀ c ∈ m.filter (fun c => c.1 < a), c.1 < a := fun c hc => by simpa using (List.mem_filter.mp hc).2
  have hhigh : ∀ c ∈ m.filter (fun c => a + bs.length ≤ c.1), a + bs.length ≤ c.1 := fun c hc => by
    simpa using (List.mem_filter.mp hc).2
  unfold Mem.write
  rcases Nat.lt_or_ge k a with hlt | hge
  · rw [if_neg (by omega), Mem.get_append_left (fun c hc => ?_), Mem.get_filter_of_kept (fun b => by simpa using hlt)]
    rcases List.mem_append.mp hc with hc | hc
    · have := habove c hc; omega
    · have := hhigh c hc; omega
  · rw [Mem.get_append (fun c hc => by have := hlow c hc; omega)]
    rcases Nat.lt_or_ge k (a + bs.length) with hlt | hge'
    · rw [if_pos ⟨hge, hlt⟩, Mem.get_append_left (fun c hc => by have := hhigh c hc; omega), Mem.get_cellsFrom hge]
    · rw [if_neg (by omega), Mem.get_append (fun c hc => by have := hbelow c hc; omega),
        Mem.get_filter_of_kept (fun b => by simpa using hge')]

theorem Mem.read_write {d : Byte} {m : Mem} (h : Mem.wf d m = true) (a : Nat) (bs : List Byte) :
    Mem.read d (Mem.write d m a bs) a bs.length = bs := by
  rw [Mem.read_eq_get (Mem.write_wf a bs h)]
  apply List.ext_getElem
  · simp
  · intro i hi hi'
    simp [Mem.get_write, hi']

/-! ### One value for each content -/

/-- Two memories in canonical form that read alike list the same cells. -/
theorem Mem.ext_get {d : Byte} {lo : Nat} {m n : Mem} (hm : Mem.wfFrom d lo m = true) (hn : Mem.wfFrom d lo n = true)
    (h : ∀ k, Mem.get d m k = Mem.get d n k) : m = n := by
  induction m generalizing lo n with
  | nil =>
    cases n with
    | nil => rfl
    | cons c n =>
      obtain ⟨a, b⟩ := c
      obtain ⟨⟨-, hb⟩, -⟩ : (lo ≤ a ∧ b ≠ d) ∧ Mem.wfFrom d (a + 1) n = true := by simpa [Mem.wfFrom] using hn
      have := h a
      simp only [Mem.get, if_true] at this
      exact absurd this.symm hb
  | cons c m ih =>
    obtain ⟨a, b⟩ := c
    obtain ⟨⟨hla, hb⟩, hm'⟩ : (lo ≤ a ∧ b ≠ d) ∧ Mem.wfFrom d (a + 1) m = true := by simpa [Mem.wfFrom] using hm
    cases n with
    | nil =>
      have := h a
      simp only [Mem.get, if_true] at this
      exact absurd this hb
    | cons c' n =>
      obtain ⟨a', b'⟩ := c'
      obtain ⟨⟨hla', hb'⟩, hn'⟩ : (lo ≤ a' ∧ b' ≠ d) ∧ Mem.wfFrom d (a' + 1) n = true := by
        simpa [Mem.wfFrom] using hn
      have hle : a' ≤ a := by
        by_contra hlt
        have hlate : Mem.get d ((a', b') :: n) a = d :=
          Mem.get_below (lo := a + 1) (by simp [Mem.wfFrom, hb', hn']; omega) (by omega)
        have := h a
        rw [hlate] at this
        simp only [Mem.get, if_true] at this
        exact hb this
      have hge : a ≤ a' := by
        by_contra hlt
        have hlate : Mem.get d ((a, b) :: m) a' = d :=
          Mem.get_below (lo := a' + 1) (by simp [Mem.wfFrom, hb, hm']; omega) (by omega)
        have := h a'
        rw [hlate] at this
        simp only [Mem.get, if_true] at this
        exact hb' this.symm
      obtain rfl : a = a' := by omega
      have hbb : b = b' := by simpa [Mem.get] using h a
      have hrest : m = n := by
        refine ih hm' hn' (fun k => ?_)
        by_cases hk : a = k
        · subst hk
          rw [Mem.get_below hm' (by omega), Mem.get_below hn' (by omega)]
        · simpa [Mem.get, hk] using h k
      rw [hbb, hrest]

/-- Settles O8: reads and writes address by address, and the first cells of two canonical memories that read alike. -/
theorem memoryReadsBackAndIsCanonical : Obligations.MemoryReadsBackAndIsCanonical := by
  unfold Obligations.MemoryReadsBackAndIsCanonical
  refine ⟨fun d m a bs h => ⟨Mem.write_wf a bs h, Mem.read_write h a bs, fun k hk => ?_⟩, fun d m n => Mem.ext_get⟩
  rw [Mem.get_write, if_neg (by omega)]

end Sys2Proof.Machine
end

section
/-!
PROOFS. Supply, starts and resets (03, Tables 3.1, 3.8, 3.9): what a loss of supply, a start from step 1 and RESET_N
leave of the engine.
-/

namespace Sys2Proof.Machine

/-! ### What is left of a unit that was blanked -/

/-- The units that a start from step 1 and a loss of supply leave as reset leaves them: all but these. -/
def blankKept : List Part := [.power, .pins, .flash, .free]

theorem same_reset_after_blank (s t : State) (f : PowerSt → PowerSt) :
    ∀ p, p ∉ blankKept → Part.same State.reset (s.after (t.blank.modPower f)) p := by
  intro p hp
  cases p with
  | power | pins | flash | free => simp [blankKept] at hp
  | log => simp [Part.same, State.blank, State.reset, LogSt.settle, inOrder]
  | lane l => cases l <;> simp [Part.same, State.blank, State.reset]
  | _ => simp [Part.same, State.blank, State.reset]

theorem same_reset_after_startOne (s t : State) :
    ∀ p, p ∉ blankKept → Part.same State.reset (s.after t.startOne) p := same_reset_after_blank s t _

/-! ### An operation at U20 cut short (R275) -/

theorem cutFlash_of_no_op {s : State} (h : s.flash.op = none) : s.cutFlash = s := by
  simp [State.cutFlash, h]

theorem cutFlash_op (s : State) : s.cutFlash.flash.op = none := by
  unfold State.cutFlash
  split <;> simp [*]

theorem cutFlash_dev (s : State) : s.cutFlash.flash.dev = s.flash.dev := by
  unfold State.cutFlash State.scramble
  split <;> rfl

/-- The bytes that an operation in progress does not work on stand. -/
theorem get_cutFlash {s : State} {op : FlashOp} (h : s.flash.op = some op) {a : Nat}
    (ha : a < op.addr ∨ op.addr + (if op.program then op.data.length else 4096) ≤ a) :
    Mem.get flashBlank s.cutFlash.flash.cells a = Mem.get flashBlank s.flash.cells a := by
  have hcut : s.cutFlash.flash.cells = Mem.setFlash s.flash.cells op.addr
      ((List.range (if op.program then op.data.length else 4096)).map
        (fun k => (Config.flashAfter s.free (op.addr + k)).toNat)) := by
    simp only [State.cutFlash, h, State.scramble]
    rfl
  rw [hcut, Mem.setFlash, Mem.get_write, if_neg]
  simp only [List.length_map, List.length_range]
  omega

/-! ### Mains (R97, R101, log 22) -/

theorem exec_mainsApplied_off {s : State} (hoff : s.power.phase = .off) (hmains : s.power.mains = false) :
    exec .mainsApplied s =
      .next (s.after (s.clearOut.modPower (fun p => { p with mains := true })).startOne) := by
  simp [execMainsApplied, perform_after, hoff, hmains]

/-- An effect on POWER alone. -/
theorem frame_modPower {s : State} (hs : s.Settled) (f : PowerSt → PowerSt) :
    Frame [.power] s (s.after (s.clearOut.modPower f)) := by
  refine frame_after hs.fresh_zero (fun p hp => ?_)
  cases p with
  | power => simp at hp
  | _ => simp [Part.same]

theorem mainsReturn_latched {s : State} (hs : s.Settled) (hphase : s.power.phase = .mainsLoss) :
    ∃ t, exec .mainsReturn s = .next t ∧ t.power = { s.power with mains := true, onLatched := true }
      ∧ Frame [.power] s t := by
  have heffect : exec .mainsReturn s =
      .next (s.after (s.clearOut.modPower (fun p => { p with mains := true, onLatched := true }))) := by
    simp [execMainsReturn, perform_after, hphase]
  exact ⟨_, heffect, by simp, frame_modPower hs _⟩

theorem mainsReturn_counted {s : State} (hs : s.Settled) (hphase : s.power.phase ≠ .mainsLoss)
    (hoff : s.power.phase ≠ .off) :
    ∃ t, exec .mainsReturn s = .next t ∧ t.power = { s.power with mains := true } ∧ Frame [.power] s t := by
  have heffect : exec .mainsReturn s = .next (s.after (s.clearOut.modPower (fun p => { p with mains := true }))) := by
    cases hp : s.power.phase <;> simp_all [execMainsReturn, perform_after]
  exact ⟨_, heffect, by simp, frame_modPower hs _⟩

theorem cutFlash_clearOut (s : State) :
    s.clearOut.cutFlash.flash = s.cutFlash.flash ∧ s.clearOut.cutFlash.free = s.cutFlash.free := by
  unfold State.cutFlash
  simp only [State.clearOut_flash]
  cases s.flash.op <;> simp [State.scramble]

/-- U20 and the free counter, where no operation is in progress, as a supply loss leaves them. -/
theorem supplyLost (s : State) : ∃ t, exec .uncontrolledSupplyLoss s = .next t ∧ t.power = {} ∧ t.flash.op = none
    ∧ t.flash.dev = s.flash.dev ∧ t.twoLanes = s.twoLanes ∧ t.pending = s.pending
    ∧ (∀ p, p ∉ blankKept → Part.same State.reset t p)
    ∧ (s.flash.op = none → t.flash.cells = s.flash.cells ∧ t.free = s.free)
    ∧ ∀ op, s.flash.op = some op → ∀ a,
        (a < op.addr ∨ op.addr + (if op.program then op.data.length else 4096) ≤ a) →
        Mem.get flashBlank t.flash.cells a = Mem.get flashBlank s.flash.cells a := by
  obtain ⟨hflash, hfree⟩ := cutFlash_clearOut s
  refine ⟨_, rfl, by simp [State.blank], by simp [State.blank], ?_, rfl, rfl, same_reset_after_blank _ _ _, ?_, ?_⟩
  · simp [State.blank, hflash, cutFlash_dev]
  · intro hop
    simp [State.blank, hflash, hfree, cutFlash_of_no_op hop]
  · intro op hop a ha
    simpa [State.blank, hflash] using get_cutFlash hop ha

/-- Settles O9: a start and a loss of supply leave the blank state; mains that return change POWER alone. -/
theorem mainsAppliedReturnedAndLost : Obligations.MainsAppliedReturnedAndLost := by
  unfold Obligations.MainsAppliedReturnedAndLost
  refine ⟨fun s hoff hmains => ?_, fun s => mainsReturn_latched, fun s => mainsReturn_counted, fun s => ?_⟩
  · exact ⟨_, exec_mainsApplied_off hoff hmains, by simp [State.startOne, State.blank], by simp [State.startOne, State.blank],
      by simp [State.startOne, State.blank], by simp [State.startOne, State.blank], rfl, rfl,
      same_reset_after_startOne _ _⟩
  · exact supplyLost s

/-! ### RESET_N (R80 to R82) -/

theorem resetN_falls {s : State} (hs : s.Settled) (hcounts : s.resetCounts = true) (hheld : s.power.heldStep1 = false) :
    ∃ t, exec .resetNFall s = .next t ∧ t.power = { s.power with resetCount := true } ∧ Frame [.power] s t := by
  have heffect : exec .resetNFall s = .next (s.after (s.clearOut.modPower (fun p => { p with resetCount := true }))) := by
    simp [execResetNFall, perform_after, hcounts, hheld]
  exact ⟨_, heffect, by simp, frame_modPower hs _⟩

theorem resetN_released_early {s : State} (hs : s.Settled) (hphase : s.power.phase ≠ .resetLow)
    (hheld : s.power.heldStep1 = false) :
    ∃ t, exec .resetNRelease s = .next t ∧ t.power = { s.power with resetCount := false } ∧ Frame [.power] s t := by
  have heffect : exec .resetNRelease s =
      .next (s.after (s.clearOut.modPower (fun p => { p with resetCount := false }))) := by
    simp [execResetNRelease, perform_after, hphase, hheld]
  exact ⟨_, heffect, by simp, frame_modPower hs _⟩

theorem resetN_released {s : State} (hs : s.Settled) (hphase : s.power.phase = .resetLow) :
    ∃ t, exec .resetNRelease s = .next t ∧ t.power = { s.power with phase := .bringup, stage := 2 }
      ∧ Frame [.power] s t := by
  have heffect : exec .resetNRelease s =
      .next (s.after (s.clearOut.modPower (fun p => { p with phase := .bringup, stage := 2 }))) := by
    simp [execResetNRelease, perform_after, hphase]
  exact ⟨_, heffect, by simp, frame_modPower hs _⟩

@[simp] theorem lfWait_tsc (s : State) (cause : Nat) : (s.lfWait cause).tmr.tsc = s.tmr.tsc := by
  unfold State.lfWait
  split <;> rfl

/-- The wait for an LF tick is a matter of the timers. -/
theorem lfWait_eq (s : State) (cause : Nat) : ∃ f, s.lfWait cause = s.modTmr f := by
  unfold State.lfWait
  split <;> exact ⟨_, rfl⟩

theorem cutFlash_eq (s : State) : ∃ f n, s.cutFlash = { s with flash := f, free := n } := by
  unfold State.cutFlash
  split
  · exact ⟨_, _, rfl⟩
  · exact ⟨_, _, rfl⟩

/-- A confirmed low level leaves the log store and the TSC, and nothing else of what was powered. -/
theorem resetN_confirmed {s : State} (hs : s.Settled) (hcounts : s.resetCounts = true)
    (hcount : s.power.resetCount = true) (hstep1 : ¬(s.power.phase = .bringup ∧ s.power.stage = 1)) :
    ∃ t, exec .resetNConfirm s = .next t
      ∧ t.power = { mains := s.power.mains, phase := .resetLow, startCause := 3 }
      ∧ t.log.store = s.log.store ∧ t.log.newest = s.log.newest ∧ t.log.ack = s.log.ack ∧ t.tmr.tsc = s.tmr.tsc
      ∧ t.twoLanes = s.twoLanes ∧ t.pending = s.pending
      ∧ ∀ p, p ∉ [Part.power, .pins, .log, .tmr, .flash, .free] → Part.same State.reset t p := by
  have heffect : exec .resetNConfirm s = .next (s.after s.clearOut.toResetLow) := by
    simp [execResetNConfirm, perform_after, hcounts, hcount, hstep1]
  obtain ⟨g, hwait⟩ := lfWait_eq s.clearOut 2
  have htsc : (g s.tmr).tsc = s.tmr.tsc := by
    have := lfWait_tsc s.clearOut 2
    rwa [hwait] at this
  obtain ⟨f, n, hcut⟩ := cutFlash_eq (s.clearOut.modTmr g)
  refine ⟨_, heffect, ?_⟩
  have hfresh := hs.fresh_zero
  simp only [State.toResetLow, hwait, hcut, after_power, after_log, after_tmr]
  refine ⟨by simp [State.blankP, State.blank], ?_, ?_, ?_, ?_, rfl, rfl, ?_⟩
  · simp [State.blankP, LogSt.settle_of_fresh, hfresh]
  · simp [State.blankP, LogSt.settle_of_fresh, hfresh]
  · simp [State.blankP, LogSt.settle_of_fresh, hfresh]
  · simpa [State.blankP] using htsc
  · intro p hp
    cases p with
    | power | pins | log | tmr | flash | free => simp at hp
    | lane l => cases l <;> simp [Part.same, State.blankP, State.blank, State.reset]
    | _ => simp [Part.same, State.blankP, State.blank, State.reset]

/-- Settles O12: each level and each confirmation by its phase. -/
theorem resetPinCountsConfirmsAndReleases : Obligations.ResetPinCountsConfirmsAndReleases := by
  unfold Obligations.ResetPinCountsConfirmsAndReleases
  exact ⟨fun _ => resetN_falls, fun _ => resetN_released_early, fun _ => resetN_confirmed, fun _ => resetN_released⟩

end Sys2Proof.Machine
end

section
/-!
PROOFS. The control pins of J12 by phase (Table 3.8) and a sleep request (R83 to R86).
-/

namespace Sys2Proof.Machine

/-! ### What the operations of a run leave alone -/

/-- A reading that the operations of a run do not touch. -/
theorem kept_reading {α : Type} (g : State → α) (v : α) (hlane : ∀ s l f, g (State.modLane s l f) = g s)
    (hlux : ∀ s f, g (State.modLux s f) = g s) (hlog : ∀ s f, g (State.modLog s f) = g s)
    (hmark : ∀ s u, g (State.mark s u) = g s) (hevent : ∀ s b, g (State.event s b) = g s)
    (hgang : ∀ s b, g (State.modSys s (fun y => { y with gang := b })) = g s)
    (hout : ∀ s o, g (State.setOut s o false) = g s) : Kept (fun s => g s = v) where
  lane h := (hlane _ _ _).trans h
  lux h := (hlux _ _).trans h
  log h := (hlog _ _).trans h
  mark h := (hmark _ _).trans h
  event h := (hevent _ _).trans h
  gang h := (hgang _ _).trans h
  out h := (hout _ _).trans h

section readings

variable (s : State)

theorem kept_power : Kept (fun t => t.power = s.power) :=
  kept_reading State.power _ (by simp) (by simp) (by simp) (by simp) (by simp) (by simp) (by simp [State.setOut])

theorem kept_flash : Kept (fun t => t.flash = s.flash) :=
  kept_reading State.flash _ (by simp) (by simp) (by simp) (by simp) (by simp) (by simp) (by simp [State.setOut])

theorem kept_clk : Kept (fun t => t.clk = s.clk) :=
  kept_reading State.clk _ (by simp) (by simp) (by simp) (by simp) (by simp) (by simp) (by simp [State.setOut])

theorem kept_tmr : Kept (fun t => t.tmr = s.tmr) :=
  kept_reading State.tmr _ (by simp) (by simp) (by simp) (by simp) (by simp) (by simp) (by simp [State.setOut])

theorem kept_ready : Kept (fun t => t.sys.ready = s.sys.ready) :=
  kept_reading (fun t => t.sys.ready) _ (by simp) (by simp) (by simp) (fun _ _ => rfl) (by simp) (by simp)
    (by simp [State.setOut])

theorem kept_haltReq : Kept (fun t => t.sys.haltReq = s.sys.haltReq) :=
  kept_reading (fun t => t.sys.haltReq) _ (by simp) (by simp) (by simp) (fun _ _ => rfl) (by simp) (by simp)
    (by simp [State.setOut])

theorem kept_haltActive : Kept (fun t => t.sys.haltActive = s.sys.haltActive) :=
  kept_reading (fun t => t.sys.haltActive) _ (by simp) (by simp) (by simp) (fun _ _ => rfl) (by simp) (by simp)
    (by simp [State.setOut])

end readings

/-- Runs stopped for a power-down: SERVICE ends too. -/
theorem Kept.stopRuns {P : State → Prop} (k : Kept P)
    (hservice : ∀ {s b}, P s → P (State.modSys s (fun y => { y with service := b })))
    (hend : ∀ {s}, P s → P (State.modSys s (fun y => { y with serviceEnd := y.service })))
    {s : State} {e : RunEnd} (h : P s) : P (s.stopRuns e) := by
  have hrun : P ([Lane.a, Lane.b].foldl (fun s l =>
      let s := if s.acquiring l then s.voidCal l 1 else s
      s.endRun l e) s) := by
    refine foldl_keeps (fun {s l} h => k.endRun ?_) _ h
    split
    · exact k.voidCal h
    · exact h
  unfold State.stopRuns
  dsimp only
  split
  · exact hservice hrun
  · exact hend hrun

theorem stopRuns_power (s : State) (e : RunEnd) : (s.stopRuns e).power = s.power :=
  (kept_power s).stopRuns (fun h => h) (fun h => h) rfl

theorem stopRuns_ready (s : State) (e : RunEnd) : (s.stopRuns e).sys.ready = s.sys.ready :=
  (kept_ready s).stopRuns (fun h => h) (fun h => h) rfl

theorem stopRuns_haltReq (s : State) (e : RunEnd) : (s.stopRuns e).sys.haltReq = s.sys.haltReq :=
  (kept_haltReq s).stopRuns (fun h => h) (fun h => h) rfl

theorem stopRuns_haltActive (s : State) (e : RunEnd) : (s.stopRuns e).sys.haltActive = s.sys.haltActive :=
  (kept_haltActive s).stopRuns (fun h => h) (fun h => h) rfl

/-! ### Phase D1 (R94) -/

theorem beginOff_power (s : State) (source : Nat) : (s.beginOff source).power =
    { s.power with phase := .powerDown, stage := 1, offSource := source, offLatched := false, served := s.serving } := by
  rw [State.beginOff, stopRuns_power]
  rfl

theorem beginOff_ready (s : State) (source : Nat) : (s.beginOff source).sys.ready = false := by
  rw [State.beginOff, stopRuns_ready]
  rfl

theorem beginOff_haltReq (s : State) (source : Nat) : (s.beginOff source).sys.haltReq = false := by
  rw [State.beginOff, stopRuns_haltReq]
  rfl

theorem beginOff_haltActive (s : State) (source : Nat) : (s.beginOff source).sys.haltActive = false := by
  rw [State.beginOff, stopRuns_haltActive]
  rfl

/-! ### WAKE (R96, R97) -/

theorem wakeEdge_off {s : State} (hphase : s.power.phase = .off) (hmains : s.power.mains = true) :
    ∃ t, exec .wakeEdge s = .next t
      ∧ t.power = { mains := true, phase := .bringup, stage := 1, startCause := 1, fromStep1 := true }
      ∧ ∀ p, p ∉ blankKept → Part.same State.reset t p := by
  have heffect : exec .wakeEdge s = .next (s.after s.clearOut.startOne) := by
    simp [execWakeEdge, perform_after, hphase, hmains]
  exact ⟨_, heffect, by simp [State.startOne, State.blank, hmains], same_reset_after_startOne _ _⟩

theorem wakeEdge_sleep {s : State} (hs : s.Settled) (hphase : s.power.phase = .sleep) (hhon : s.shadow.wakeHon = true) :
    ∃ t, exec .wakeEdge s = .next t
      ∧ t.power = { s.power with phase := .wake, stage := 0, wakePin := true, onLatched := false, wakeTsc := s.tmr.tsc }
      ∧ Frame [.power] s t := by
  have heffect : exec .wakeEdge s = .next (s.after (s.clearOut.modPower (fun p =>
      { p with phase := .wake, stage := 0, wakePin := true, onLatched := false, wakeTsc := s.tmr.tsc }))) := by
    simp [execWakeEdge, perform_after, hphase, hhon]
    rfl
  exact ⟨_, heffect, by simp, frame_modPower hs _⟩

/-- A power-down that WAKE cancels, noted or over at once. -/
theorem wakeEdge_powerDown {s : State} (hphase : s.power.phase = .powerDown) (hstage : s.power.stage ≤ 3) :
    exec .wakeEdge s = .next (s.after s.clearOut.cancelOff) := by
  simp [execWakeEdge, perform_after, hphase, hstage]

theorem mem_cfgLanes {s : State} {l : Lane} : l ∈ s.cfgLanes ↔ s.configured l = true := by
  cases l <;> simp [State.cfgLanes]

/-- Every configured lane is in IDLE. -/
theorem all_idle_iff {s : State} : s.cfgLanes.all (fun l => (s.lane l).mode.mode = .idle) = true ↔
    ∀ l, s.configured l = true → (s.lane l).mode.mode = .idle := by
  simp only [List.all_eq_true, mem_cfgLanes, decide_eq_true_eq]

/-- A cancelled power-down goes on while a lane is busy (R96, log 24). -/
theorem offCancelled_of_busy {l : Lane} {s : State} (hsafe : s.sys.safe = false) (hcfg : s.configured l = true)
    (hbusy : (s.lane l).mode.mode ≠ .idle) : s.offCancelled = s := by
  have hall : s.cfgLanes.all (fun l => (s.lane l).mode.mode = .idle) = false := by
    rw [Bool.eq_false_iff, ne_eq, all_idle_iff]
    exact fun h => hbusy (h l hcfg)
  simp [State.offCancelled, hall, hsafe]

theorem offCancelled_at_rest {s : State} (hphase : s.power.phase = .powerDown) (hcancel : s.power.offCancel = true)
    (hrest : ∀ l, s.configured l = true → s.sys.safe = true ∨ (s.lane l).mode.mode = .idle) :
    s.offCancelled = (((s.modPower (fun p => { p with phase := .run, stage := 0, offSource := 0, offCancel := false })).modSys
      (fun y => { y with ready := !y.safe })).linkWake .a).linkWake .b := by
  have hall : (s.sys.safe || s.cfgLanes.all (fun l => (s.lane l).mode.mode = .idle)) = true := by
    cases hsafe : s.sys.safe
    · simp only [Bool.false_or, all_idle_iff]
      exact fun l hl => (hrest l hl).resolve_left (by simp [hsafe])
    · rfl
  unfold State.offCancelled
  simp only [hphase, hcancel, hall]
  rfl

theorem wakeEdge_noted {l : Lane} {s : State} (hs : s.Settled) (hphase : s.power.phase = .powerDown)
    (hstage : s.power.stage ≤ 3) (hsafe : s.sys.safe = false) (hcfg : s.configured l = true)
    (hbusy : (s.lane l).mode.mode ≠ .idle) :
    ∃ t, exec .wakeEdge s = .next t ∧ t.power = { s.power with offCancel := true, offSource := 0, offEdge := none }
      ∧ Frame [.power] s t := by
  have heffect : s.clearOut.cancelOff =
      s.clearOut.modPower (fun p => { p with offCancel := true, offSource := 0, offEdge := none }) :=
    offCancelled_of_busy (l := l) hsafe (by cases l <;> exact hcfg) (by simpa using hbusy)
  rw [wakeEdge_powerDown hphase hstage, heffect]
  exact ⟨_, rfl, by simp, frame_modPower hs _⟩

/-- The condition on which a link leaves DOWN (R336). -/
def State.linkWakes (s : State) (l : Lane) : Bool :=
  (s.lane l).link.st = .down && s.sys.ready && s.outOn (magOut l) && s.configured l && !bit (s.wiring l) 4

theorem linkWake_eq (s : State) (l : Lane) :
    s.linkWake l = s.modLink l (fun k => if s.linkWakes l then { k with st := .detect } else k) := by
  have hdef : s.linkWake l = if s.linkWakes l then s.modLink l (fun k => { k with st := .detect }) else s := rfl
  rw [hdef]
  cases s.linkWakes l
  · cases l <;> rfl
  · rfl

theorem linkWakes_modLink_other (s : State) (f : LinkSt → LinkSt) : (s.modLink .a f).linkWakes .b = s.linkWakes .b := rfl

theorem linkWakes_iff {s : State} {l : Lane} : s.linkWakes l = true ↔ (s.lane l).link.st = LinkState.down
    ∧ s.sys.ready = true ∧ s.outOn (magOut l) = true ∧ s.configured l = true ∧ bit (s.wiring l) 4 = false := by
  simp [State.linkWakes, and_assoc]

theorem linkWake_both (s : State) : (s.linkWake .a).linkWake .b =
    (s.modLink .a (fun k => if s.linkWakes .a then { k with st := .detect } else k)).modLink .b
      (fun k => if s.linkWakes .b then { k with st := .detect } else k) := by
  rw [linkWake_eq _ .b, linkWake_eq s .a, linkWakes_modLink_other]

theorem linkWake_both_lane (s : State) (l : Lane) : ((s.linkWake .a).linkWake .b).lane l =
    if s.linkWakes l then { s.lane l with link := { (s.lane l).link with st := .detect } } else s.lane l := by
  rw [linkWake_both]
  cases l with
  | a => cases s.linkWakes .a <;> simp
  | b => cases s.linkWakes .b <;> simp

theorem bare_withLink (x : LaneSt) (k : LinkSt) : ({ x with link := k } : LaneSt).bare = { x.bare with link := k } := rfl

/-- The engine back in RUN from a power-down that WAKE cancelled with every lane at rest (R96). -/
theorem wakeEdge_cancels {s : State} (hs : s.Settled) (hphase : s.power.phase = .powerDown) (hstage : s.power.stage ≤ 3)
    (hrest : ∀ l, s.configured l = true → s.sys.safe = true ∨ (s.lane l).mode.mode = .idle) :
    ∃ t, exec .wakeEdge s = .next t
    ∧ t.power = { s.power with phase := .run, stage := 0, offSource := 0, offCancel := false, offEdge := none }
    ∧ t.sys.bare = { s.sys with ready := !s.sys.safe }.bare
    ∧ (∀ l, (t.lane l).bare =
        if (s.lane l).link.st = LinkState.down ∧ s.sys.safe = false ∧ s.outOn (magOut l) = true ∧ s.configured l = true
          ∧ bit (s.wiring l) 4 = false then { s.lane l with link := { (s.lane l).link with st := .detect } }.bare
        else (s.lane l).bare)
    ∧ Frame [.power, .sys, .lane .a, .lane .b] s t := by
  have hcancel : s.clearOut.cancelOff = _ := offCancelled_at_rest hphase rfl (by
    intro l hl
    have := hrest l (by cases l <;> exact hl)
    cases l <;> exact this)
  rw [wakeEdge_powerDown hphase hstage, hcancel]
  refine ⟨_, rfl, by simp [linkWake_both], by simp [linkWake_both, SysSt.bare], fun l => ?_,
    frame_after hs.fresh_zero (fun p hp => ?_)⟩
  · have hwakes : ∀ t : State, (t.lane l).link = (s.lane l).link → t.sys.ready = !s.sys.safe → t.pwr = s.pwr →
        t.ledger = s.ledger → (t.linkWakes l = true ↔ (s.lane l).link.st = LinkState.down ∧ s.sys.safe = false
          ∧ s.outOn (magOut l) = true ∧ s.configured l = true ∧ bit (s.wiring l) 4 = false) := by
      intro t hlink hready hpwr hledger
      rw [linkWakes_iff, hlink, hready]
      cases l <;> simp [State.outOn, State.configured, State.wiring, hpwr, hledger]
    rw [after_lane_bare, linkWake_both_lane, State.modSys_lane, State.modPower_lane, State.modPower_lane]
    by_cases h : (s.lane l).link.st = LinkState.down ∧ s.sys.safe = false ∧ s.outOn (magOut l) = true
      ∧ s.configured l = true ∧ bit (s.wiring l) 4 = false
    · rw [if_pos h, if_pos ((hwakes _ (by simp) (by simp) (by simp) (by simp)).mpr h)]
      simp only [bare_withLink, clearOut_lane_bare, clearOut_lane_link]
    · rw [if_neg h, if_neg (mt (hwakes _ (by simp) (by simp) (by simp) (by simp)).mp h)]
      exact clearOut_lane_bare s l
  · rw [linkWake_both]
    cases p with
    | power | sys => simp at hp
    | lane l => cases l <;> simp at hp
    | _ => simp [Part.same]

/-! ### OFF_REQ and SLEEP_REQ (R94, R98, R100) -/

theorem offReqEdge_sleep {s : State} (hs : s.Settled) (hphase : s.power.phase = .sleep) :
    ∃ t, exec .offReqEdge s = .next t
      ∧ t.power = { s.power with phase := .powerDown, stage := 5, served := false, offEdge := some s.tmr.tsc }
      ∧ Frame [.power] s t := by
  have heffect : exec .offReqEdge s = .next (s.after (s.clearOut.modPower (fun p =>
      { p with phase := .powerDown, stage := 5, served := false, offEdge := some s.tmr.tsc }))) := by
    simp [execOffReqEdge, perform_after, hphase]
  exact ⟨_, heffect, by simp, frame_modPower hs _⟩

theorem offReqEdge_latched {s : State} (hs : s.Settled)
    (hphase : s.power.phase ∈ [Phase.bringup, .engineReset, .sleepEntry, .wake]) :
    ∃ t, exec .offReqEdge s = .next t ∧ t.power = { s.power with offLatched := true } ∧ Frame [.power] s t := by
  have heffect : exec .offReqEdge s =
      .next (s.after (s.clearOut.modPower (fun p => { p with offLatched := true }))) := by
    simp only [List.mem_cons, List.not_mem_nil, or_false] at hphase
    rcases hphase with h | h | h | h <;> simp [execOffReqEdge, perform_after, h]
  exact ⟨_, heffect, by simp, frame_modPower hs _⟩

theorem offReqEdge_run {s : State} (hphase : s.power.phase = .run) :
    ∃ t, exec .offReqEdge s = .next t
      ∧ t.power = { s.power with
          phase := .powerDown, stage := 1, offSource := 1, offLatched := false, served := s.serving
          offEdge := some s.tmr.tsc }
      ∧ t.sys.ready = false ∧ t.sys.haltReq = false ∧ t.sys.haltActive = false := by
  have heffect : exec .offReqEdge s =
      .next (s.after ((s.clearOut.beginOff 1).modPower (fun p => { p with offEdge := some s.tmr.tsc }))) := by
    simp [execOffReqEdge, perform_after, hphase]
  refine ⟨_, heffect, ?_, by simp [beginOff_ready], by simp [beginOff_haltReq], by simp [beginOff_haltActive]⟩
  simp only [after_power, State.modPower_power, beginOff_power]
  rfl

/-- A SLEEP_REQ edge in the cycle of the OFF_REQ edge has no effect. -/
theorem sleepReqEdge_with_offReq {s : State} (hs : s.Settled) (hphase : s.power.phase = .powerDown)
    (hedge : s.power.offEdge = some s.tmr.tsc) : ∃ t, exec .sleepReqEdge s = .next t ∧ Frame [] s t := by
  have heffect : exec .sleepReqEdge s = .next (s.after s.clearOut) := by
    simp [execSleepReqEdge, perform_after, hphase, hedge]
  refine ⟨_, heffect, frame_after hs.fresh_zero (fun p _ => ?_)⟩
  cases p <;> simp [Part.same]

/-- Settles O13: each edge by its phase. -/
theorem wakeAndOffEdgesByPhase : Obligations.WakeAndOffEdgesByPhase := by
  unfold Obligations.WakeAndOffEdgesByPhase
  exact ⟨fun _ => wakeEdge_off, fun _ => wakeEdge_sleep, fun _ => wakeEdge_cancels, fun _ _ => wakeEdge_noted,
    fun _ => offReqEdge_sleep, fun _ => offReqEdge_latched, fun _ => offReqEdge_run, fun _ => sleepReqEdge_with_offReq⟩

end Sys2Proof.Machine
end

section
/-!
PROOFS. Host writes: the request's effect on the state, the state that its answer leaves, field by field, and a frame.
-/

namespace Sys2Proof.Machine

/-! ### The state that an answer leaves -/

section answered

variable (s s1 : State) (w : List Nat) (k : Nat)

@[simp] theorem answered_twoLanes : (s.answered s1 w k).twoLanes = s.twoLanes := by simp [State.answered, State.mgtOpen]
@[simp] theorem answered_pending : (s.answered s1 w k).pending = s.pending := by simp [State.answered, State.mgtOpen]
@[simp] theorem answered_pins : (s.answered s1 w k).pins = s1.pins := by simp [State.answered]
@[simp] theorem answered_power : (s.answered s1 w k).power = s1.power := by simp [State.answered]
@[simp] theorem answered_flash : (s.answered s1 w k).flash = s1.flash := by simp [State.answered]
@[simp] theorem answered_ledger : (s.answered s1 w k).ledger = s1.ledger := by simp [State.answered]
@[simp] theorem answered_shadow : (s.answered s1 w k).shadow = s1.shadow := by simp [State.answered]
@[simp] theorem answered_clk : (s.answered s1 w k).clk = s1.clk := by simp [State.answered]
@[simp] theorem answered_pwr : (s.answered s1 w k).pwr = s1.pwr := by simp [State.answered]
@[simp] theorem answered_hist : (s.answered s1 w k).hist = s1.hist := by simp [State.answered]
@[simp] theorem answered_mem : (s.answered s1 w k).mem = s1.mem := by simp [State.answered]
@[simp] theorem answered_bank : (s.answered s1 w k).bank = s1.bank := by simp [State.answered]
@[simp] theorem answered_tmr : (s.answered s1 w k).tmr = s1.tmr := by simp [State.answered]
@[simp] theorem answered_hk : (s.answered s1 w k).hk = s1.hk := by simp [State.answered]
@[simp] theorem answered_lux : (s.answered s1 w k).lux = s1.lux := by simp [State.answered]
@[simp] theorem answered_free : (s.answered s1 w k).free = s1.free := by simp [State.answered]
@[simp] theorem answered_log_settle : (s.answered s1 w k).log = s1.log.settle := by simp [State.answered]
@[simp] theorem answered_ready : (s.answered s1 w k).sys.ready = s1.sys.ready := by simp [State.answered]
@[simp] theorem answered_safe : (s.answered s1 w k).sys.safe = s1.sys.safe := by simp [State.answered]
@[simp] theorem answered_service : (s.answered s1 w k).sys.service = s1.sys.service := by simp [State.answered]
@[simp] theorem answered_gang : (s.answered s1 w k).sys.gang = s1.sys.gang := by simp [State.answered]
@[simp] theorem answered_haltReq : (s.answered s1 w k).sys.haltReq = s1.sys.haltReq := by simp [State.answered]
@[simp] theorem answered_haltPend : (s.answered s1 w k).sys.haltPend = s1.sys.haltPend := by simp [State.answered]
@[simp] theorem answered_haltActive : (s.answered s1 w k).sys.haltActive = s1.sys.haltActive := by simp [State.answered]

@[simp] theorem answered_lane (l : Lane) : (s.answered s1 w k).lane l = (s.mgtOpen.after s1).lane l := by
  rw [State.answered, State.modSys_lane]
@[simp] theorem answered_laneA : (s.answered s1 w k).laneA = (s.mgtOpen.after s1).laneA := by
  rw [State.answered, State.modSys_laneA]
@[simp] theorem answered_laneB : (s.answered s1 w k).laneB = (s.mgtOpen.after s1).laneB := by
  rw [State.answered, State.modSys_laneB]

end answered

/-! ### The state that a frame finds -/

section found

variable (s : State)

@[simp] theorem mgtOpen_twoLanes : s.mgtOpen.twoLanes = s.twoLanes := rfl
@[simp] theorem mgtOpen_pins : s.mgtOpen.pins = s.pins := rfl
@[simp] theorem mgtOpen_power : s.mgtOpen.power = s.power := rfl
@[simp] theorem mgtOpen_log : s.mgtOpen.log = s.log := rfl
@[simp] theorem mgtOpen_flash : s.mgtOpen.flash = s.flash := rfl
@[simp] theorem mgtOpen_ledger : s.mgtOpen.ledger = s.ledger := rfl
@[simp] theorem mgtOpen_shadow : s.mgtOpen.shadow = s.shadow := rfl
@[simp] theorem mgtOpen_clk : s.mgtOpen.clk = s.clk := rfl
@[simp] theorem mgtOpen_pwr : s.mgtOpen.pwr = s.pwr := rfl
@[simp] theorem mgtOpen_hist : s.mgtOpen.hist = s.hist := rfl
@[simp] theorem mgtOpen_mem : s.mgtOpen.mem = s.mem := rfl
@[simp] theorem mgtOpen_bank : s.mgtOpen.bank = s.bank := rfl
@[simp] theorem mgtOpen_tmr : s.mgtOpen.tmr = s.tmr := rfl
@[simp] theorem mgtOpen_hk : s.mgtOpen.hk = s.hk := rfl
@[simp] theorem mgtOpen_lux : s.mgtOpen.lux = s.lux := rfl
@[simp] theorem mgtOpen_laneA : s.mgtOpen.laneA = s.laneA := rfl
@[simp] theorem mgtOpen_laneB : s.mgtOpen.laneB = s.laneB := rfl
@[simp] theorem mgtOpen_free : s.mgtOpen.free = s.free := rfl
@[simp] theorem mgtOpen_pending : s.mgtOpen.pending = s.pending := rfl
@[simp] theorem mgtOpen_safe : s.mgtOpen.sys.safe = s.sys.safe := rfl
@[simp] theorem mark_safe (u : Nat) : (s.mark u).sys.safe = s.sys.safe := rfl
@[simp] theorem mgtOpen_service : s.mgtOpen.sys.service = s.sys.service := rfl
@[simp] theorem mark_service (u : Nat) : (s.mark u).sys.service = s.sys.service := rfl
@[simp] theorem mgtOpen_serviceEnd : s.mgtOpen.sys.serviceEnd = s.sys.serviceEnd := rfl
@[simp] theorem mark_serviceEnd (u : Nat) : (s.mark u).sys.serviceEnd = s.sys.serviceEnd := rfl
@[simp] theorem mgtOpen_haltReq : s.mgtOpen.sys.haltReq = s.sys.haltReq := rfl
@[simp] theorem mark_haltReq (u : Nat) : (s.mark u).sys.haltReq = s.sys.haltReq := rfl
@[simp] theorem mgtOpen_haltPend : s.mgtOpen.sys.haltPend = s.sys.haltPend := rfl
@[simp] theorem mark_haltPend (u : Nat) : (s.mark u).sys.haltPend = s.sys.haltPend := rfl
@[simp] theorem mgtOpen_haltActive : s.mgtOpen.sys.haltActive = s.sys.haltActive := rfl
@[simp] theorem mark_haltActive (u : Nat) : (s.mark u).sys.haltActive = s.sys.haltActive := rfl
@[simp] theorem mgtOpen_mask : s.mgtOpen.sys.mask = s.sys.mask := rfl
@[simp] theorem mark_mask (u : Nat) : (s.mark u).sys.mask = s.sys.mask := rfl
@[simp] theorem mgtOpen_badCrc : s.mgtOpen.sys.badCrc = s.sys.badCrc := rfl
@[simp] theorem mark_badCrc (u : Nat) : (s.mark u).sys.badCrc = s.sys.badCrc := rfl
@[simp] theorem mgtOpen_aborts : s.mgtOpen.sys.aborts = s.sys.aborts := rfl
@[simp] theorem mark_aborts (u : Nat) : (s.mark u).sys.aborts = s.sys.aborts := rfl
@[simp] theorem mgtOpen_stale : s.mgtOpen.sys.stale = s.sys.stale := rfl
@[simp] theorem mark_stale (u : Nat) : (s.mark u).sys.stale = s.sys.stale := rfl
@[simp] theorem mgtOpen_denied : s.mgtOpen.sys.denied = s.sys.denied := rfl
@[simp] theorem mark_denied (u : Nat) : (s.mark u).sys.denied = s.sys.denied := rfl
@[simp] theorem mgtOpen_ready : s.mgtOpen.sys.ready = s.sys.ready := rfl
@[simp] theorem mark_ready (u : Nat) : (s.mark u).sys.ready = s.sys.ready := rfl
@[simp] theorem mgtOpen_gang : s.mgtOpen.sys.gang = s.sys.gang := rfl
@[simp] theorem mark_gang (u : Nat) : (s.mark u).sys.gang = s.sys.gang := rfl

end found

/-- What a management frame finds differs from the state before it in the response alone. -/
theorem mgtOpen_clearOut (s : State) : s.mgtOpen.clearOut = s.clearOut.modSys (fun y => { y with apert := none }) := rfl

/-! ### Commands in SYS (R106, R109, R543) -/

section commands

variable (s : State)

theorem sysWrite_power (w e : Nat) : s.sysWrite (hostWrite 0 0x021 [w] e) = s.powerWrite w := by
  simp [State.sysWrite, State.ackValue, Req.put, Req.put2, hostWrite_at?]
  rfl

theorem sysWrite_service (w e : Nat) : s.sysWrite (hostWrite 0 0x026 [w] e) = s.serviceWrite (bit w 3) := by
  simp [State.sysWrite, State.ackValue, Req.put, Req.put2, hostWrite_at?]
  rfl

theorem sysWrite_halt (w e : Nat) : s.sysWrite (hostWrite 0 0x027 [w] e) =
    if bit w 0 then s.haltRequest else s.haltRelease := by
  simp [State.sysWrite, State.ackValue, Req.put, Req.put2, hostWrite_at?]
  rfl

theorem frameEffect_power (w e lat : Nat) :
    s.frameEffect (hostWrite 0 0x021 [w] e) 0 0 lat = (s.powerWrite w).mark 0 := by
  rw [frameEffect_sysWrite s rfl rfl, if_neg (by simp [hostWrite, Req.items]), sysWrite_power]

theorem frameEffect_service (w e lat : Nat) :
    s.frameEffect (hostWrite 0 0x026 [w] e) 0 0 lat = (s.serviceWrite (bit w 3)).mark 0 := by
  rw [frameEffect_sysWrite s rfl rfl, if_neg (by simp [hostWrite, Req.items]), sysWrite_service]

theorem frameEffect_halt (w e lat : Nat) : s.frameEffect (hostWrite 0 0x027 [w] e) 0 0 lat =
    (if bit w 0 then s.haltRequest else s.haltRelease).mark 0 := by
  rw [frameEffect_sysWrite s rfl rfl, if_neg (by simp [hostWrite, Req.items]), sysWrite_halt]

end commands

/-- A write of one word that is answered OK: its effect, the answer, and the state after both. -/
theorem oneWrite_answered {s s1 : State} {u o w e : Nat} (h : s.Accepts (hostWrite u o [w] e))
    (heffect : s.mgtOpen.clearOut.frameEffect (hostWrite u o [w] e) 0 0 0 = s1) :
    ∃ r k, s.oneWrite u o w e = .next (s.answered s1 r k) ∧ (s.answered s1 r k).Replied (hostWrite u o [w] e) [] :=
  mgtRequest_write h rfl heffect

/-! ### A sleep request (R83 to R86) -/

theorem endMove_at_rest {s : State} {l : Lane} (h : (s.lane l).arun.motion = none) : s.endMove l = s := by
  simp [State.endMove, h]

theorem toMode_mode (s : State) (l : Lane) (m : Mode) : ((s.toMode l m).lane l).mode.mode = m := by
  unfold State.toMode
  split
  · assumption
  · simp [State.rearmLane]

/-- The other lane is left as it is. -/
theorem toMode_other (s : State) (l : Lane) (m : Mode) : (s.toMode l m).lane (otherLane l) = s.lane (otherLane l) := by
  unfold State.toMode
  split
  · rfl
  · simp [State.rearmLane]

/-- A change of mode is one of the lane and of the light items of its party. -/
theorem toMode_eq (s : State) (l : Lane) (m : Mode) : ∃ f g, s.toMode l m = (s.modMode l f).modLux g := by
  unfold State.toMode
  split
  · exact ⟨id, id, by cases l <;> rfl⟩
  · unfold State.rearmLane
    exact ⟨_, _, rfl⟩

/-- No lane is in a mode. -/
def State.noModes (s : State) : State := (s.toMode .a .none).toMode .b .none

theorem noModes_mode (s : State) (l : Lane) : (s.noModes.lane l).mode.mode = .none := by
  unfold State.noModes
  cases l with
  | a =>
    have h : ((s.toMode .a .none).toMode .b .none).lane .a = _ := toMode_other (s.toMode .a .none) .b .none
    rw [h]
    exact toMode_mode s .a .none
  | b => exact toMode_mode _ .b .none

theorem noModes_eq (s : State) : ∃ f g h, s.noModes = ((s.modMode .a f).modMode .b g).modLux h := by
  obtain ⟨f, g, ha⟩ := toMode_eq s .a .none
  obtain ⟨f', g', hb⟩ := toMode_eq (s.toMode .a .none) .b .none
  exact ⟨f, f', g' ∘ g, by rw [State.noModes, hb, ha]; rfl⟩

/-- Sleep entry begins. -/
def State.sleepBegun (s : State) : State :=
  (s.noModes.modSys (fun y => { y with ready := false })).modPower (fun p =>
    { p with phase := .sleepEntry, stage := 0, wakePin := false, wakeTimer := false, wakeTmr := 0 })

theorem clearOut_sleepReason (s : State) : s.clearOut.sleepReason = s.sleepReason := by
  unfold State.sleepReason
  simp only [clearOut_cfgLanes, clearOut_lane_mode, clearOut_lane_cal]
  rfl

theorem mgtOpen_sleepReason (s : State) : s.mgtOpen.sleepReason = s.sleepReason := by
  unfold State.sleepReason
  simp only [mgtOpen_lane]
  rfl

theorem requestSleep_accepted {s : State} (hreason : s.sleepReason = 0) (hrest : ∀ l, (s.lane l).arun.motion = none) :
    s.requestSleep = s.sleepBegun := by
  unfold State.requestSleep
  simp only [hreason, endMove_at_rest (hrest .a), endMove_at_rest (hrest .b)]
  rfl

theorem requestSleep_refused {s : State} (hreason : s.sleepReason ≠ 0) : s.requestSleep =
    (s.modPower (fun p => { p with sleepRefuse := s.sleepReason })).note 0x0014 [s.sleepReason] := by
  unfold State.requestSleep
  simp only [bne_iff_ne, ne_eq, hreason, not_false_eq_true, if_true]

theorem sleepBegun_part {s : State} : ∀ p, p ∉ [Part.power, .sys, .lux, .lane .a, .lane .b] →
    Part.same s.clearOut s.clearOut.sleepBegun p := by
  intro p hp
  obtain ⟨f, g, h, heq⟩ := noModes_eq s.clearOut
  unfold State.sleepBegun
  rw [heq]
  cases p with
  | power | sys | lux => simp at hp
  | lane l => cases l <;> simp at hp
  | _ => simp [Part.same]

theorem part_same_mark {s t : State} {p : Part} (h : Part.same s t p) (u : Nat) : Part.same s (t.mark u) p := by
  cases p with
  | lane l => cases l <;> exact h
  | _ => exact h

/-- The frame of a host write is that of its effect. -/
theorem frame_answered {s s1 : State} {ps : List Part} {w : List Nat} {k : Nat} (hs : s.Settled)
    (h : ∀ p, p ∉ ps → Part.same s.mgtOpen.clearOut s1 p) : Frame ps s (s.answered s1 w k) :=
  frame_mgt hs.fresh_zero h

/-- A noted refusal changes POWER and the log, which gains its record. -/
theorem sleepRefused_part {s : State} : ∀ p, p ∉ [Part.power, .log] → Part.same s.clearOut
    ((s.clearOut.modPower (fun p => { p with sleepRefuse := s.sleepReason })).note 0x0014 [s.sleepReason]) p := by
  intro p hp
  cases p with
  | power | log => simp at hp
  | sys => simp only [Part.same, State.note, record_sys_bare, State.modPower_sys]
  | _ => simp [Part.same]

theorem sleepRefused_log {s : State} (hs : s.Settled) (hroom : s.LogRoom) :
    ((s.clearOut.modPower (fun p => { p with sleepRefuse := s.sleepReason })).note 0x0014 [s.sleepReason]).log.settle
      = s.log.plus (s.mkRec 0x0014 0 0 [s.sleepReason]) :=
  record_settles (s := s.clearOut.modPower (fun p => { p with sleepRefuse := s.sleepReason })) hs.fresh_zero hroom _ _ _ _

theorem sleepReqEdge_accepted {s : State} (hs : s.Settled) (hhon : s.shadow.sleepHon = true)
    (hphase : s.power.phase = .run) (hreason : s.sleepReason = 0) (hrest : ∀ l, (s.lane l).arun.motion = none) :
    ∃ t, exec .sleepReqEdge s = .next t
      ∧ t.power = { s.power with phase := .sleepEntry, stage := 0, wakePin := false, wakeTimer := false, wakeTmr := 0 }
      ∧ t.sys.ready = false ∧ (∀ l, (t.lane l).mode.mode = .none)
      ∧ Frame [.power, .sys, .lux, .lane .a, .lane .b] s t := by
  have heffect : exec .sleepReqEdge s = .next (s.after s.clearOut.sleepBegun) := by
    have hsleep : s.clearOut.requestSleep = s.clearOut.sleepBegun :=
      requestSleep_accepted ((clearOut_sleepReason s).trans hreason) (by simpa using hrest)
    simp [execSleepReqEdge, perform_after, hphase, hhon, hsleep]
  refine ⟨_, heffect, ?_, ?_, ?_, frame_after hs.fresh_zero sleepBegun_part⟩
  · obtain ⟨f, g, h, heq⟩ := noModes_eq s.clearOut
    simp [State.sleepBegun, heq]
  · simp [State.sleepBegun]
  · simp [State.sleepBegun, noModes_mode]

theorem sysPowerSleep_accepted {s : State} {e : Nat} (hs : s.Settled) (ha : s.Accepts (hostWrite 0 0x021 [1] e))
    (hreason : s.sleepReason = 0) (hrest : ∀ l, (s.lane l).arun.motion = none) :
    ∃ t, exec (.sysPowerSleep e) s = .next t
      ∧ t.power = { s.power with phase := .sleepEntry, stage := 0, wakePin := false, wakeTimer := false, wakeTmr := 0 }
      ∧ t.sys.ready = false ∧ (∀ l, (t.lane l).mode.mode = .none) ∧ t.Replied (hostWrite 0 0x021 [1] e) []
      ∧ Frame [.power, .sys, .lux, .lane .a, .lane .b] s t := by
  have heffect : s.mgtOpen.clearOut.frameEffect (hostWrite 0 0x021 [1] e) 0 0 0 =
      s.mgtOpen.clearOut.sleepBegun.mark 0 := by
    have hsleep : s.mgtOpen.clearOut.requestSleep = s.mgtOpen.clearOut.sleepBegun :=
      requestSleep_accepted (((clearOut_sleepReason _).trans (mgtOpen_sleepReason s)).trans hreason) (by simpa using hrest)
    rw [frameEffect_power, ← hsleep]
    rfl
  obtain ⟨r, k, hexec, hreply⟩ := oneWrite_answered ha heffect
  refine ⟨_, hexec, ?_, ?_, ?_, hreply, frame_answered hs (fun p hp => part_same_mark (sleepBegun_part p hp) 0)⟩
  · obtain ⟨f, g, h, heq⟩ := noModes_eq s.mgtOpen.clearOut
    simp [State.sleepBegun, heq]
  · simp [State.sleepBegun]
  · simp [State.sleepBegun, noModes_mode]

theorem sleepReqEdge_refused {s : State} (hs : s.Settled) (hroom : s.LogRoom) (hhon : s.shadow.sleepHon = true)
    (hphase : s.power.phase = .run) (hreason : s.sleepReason ≠ 0) :
    ∃ t, exec .sleepReqEdge s = .next t ∧ t.power = { s.power with sleepRefuse := s.sleepReason }
      ∧ t.log = s.log.plus (s.mkRec 0x0014 0 0 [s.sleepReason]) ∧ Frame [.power, .log] s t := by
  have heffect : exec .sleepReqEdge s = .next (s.after ((s.clearOut.modPower (fun p =>
      { p with sleepRefuse := s.sleepReason })).note 0x0014 [s.sleepReason])) := by
    have hrefuse := requestSleep_refused (s := s.clearOut) (by rwa [clearOut_sleepReason])
    rw [clearOut_sleepReason] at hrefuse
    simp only [exec_sleepReqEdge, execSleepReqEdge, perform_after, State.clearOut_shadow, hhon, State.clearOut_power,
      hphase, hrefuse]
    rfl
  refine ⟨_, heffect, by simp, ?_, frame_after hs.fresh_zero sleepRefused_part⟩
  rw [after_log]
  exact sleepRefused_log hs hroom

theorem sysPowerSleep_refused {s : State} {e : Nat} (hs : s.Settled) (hroom : s.LogRoom)
    (ha : s.Accepts (hostWrite 0 0x021 [1] e)) (hreason : s.sleepReason ≠ 0) :
    ∃ t, exec (.sysPowerSleep e) s = .next t ∧ t.power = { s.power with sleepRefuse := s.sleepReason }
      ∧ t.log = s.log.plus (s.mkRec 0x0014 0 0 [s.sleepReason]) ∧ t.Replied (hostWrite 0 0x021 [1] e) []
      ∧ Frame [.power, .log] s t := by
  have heffect : s.mgtOpen.clearOut.frameEffect (hostWrite 0 0x021 [1] e) 0 0 0 =
      ((s.mgtOpen.clearOut.modPower (fun p => { p with sleepRefuse := s.mgtOpen.sleepReason })).note 0x0014
        [s.mgtOpen.sleepReason]).mark 0 := by
    have hrefuse := requestSleep_refused (s := s.mgtOpen.clearOut)
      (by rwa [clearOut_sleepReason, mgtOpen_sleepReason])
    rw [clearOut_sleepReason] at hrefuse
    rw [frameEffect_power]
    exact congrArg (State.mark · 0) hrefuse
  obtain ⟨r, k, hexec, hreply⟩ := oneWrite_answered ha heffect
  refine ⟨_, hexec, ?_, ?_, hreply, frame_answered hs (fun p hp => part_same_mark (sleepRefused_part p hp) 0)⟩
  · simp [mgtOpen_sleepReason]
  · rw [answered_log_settle, State.mark_log]
    exact sleepRefused_log (s := s.mgtOpen) hs hroom

/-- Settles O14: both ways of asking come to one request, which begins the entry or is noted. -/
theorem sleepRequestEntersOrIsRefused : Obligations.SleepRequestEntersOrIsRefused := by
  unfold Obligations.SleepRequestEntersOrIsRefused
  exact ⟨fun _ => sleepReqEdge_accepted, fun _ _ hs ha _ => sysPowerSleep_accepted hs ha, fun _ => sleepReqEdge_refused,
    fun _ _ => sysPowerSleep_refused⟩

end Sys2Proof.Machine
end

section
/-!
SUPPORT. The parts of the state that an operation alters, as one fact about it: operations one after the other alter what
each of them does, and the frame of a command is what its operations alter.
-/

namespace Sys2Proof.Machine

/-- A part reads the same in two states. -/
def Part.kept (s t : State) : Part → Prop
  | .power => t.power = s.power
  | .pins => t.pins = s.pins
  | .sys => t.sys.bare = s.sys.bare
  | .log => t.log = s.log
  | .flash => t.flash = s.flash
  | .ledger => t.ledger = s.ledger ∧ t.shadow = s.shadow
  | .clk => t.clk = s.clk
  | .pwr => t.pwr = s.pwr
  | .hist => t.hist = s.hist
  | .mem => t.mem = s.mem
  | .bank => t.bank = s.bank
  | .tmr => t.tmr = s.tmr
  | .hk => t.hk = s.hk
  | .lux => t.lux = s.lux
  | .lane l => t.lane l = s.lane l
  | .free => t.free = s.free

/-- Every part but the listed ones is kept from one state to another. -/
def Alters (ps : List Part) (s t : State) : Prop := ∀ p, p ∉ ps → p.kept s t

theorem Part.kept_refl (s : State) (p : Part) : p.kept s s := by cases p <;> simp [Part.kept]

theorem Part.kept.trans {s t u : State} {p : Part} (h1 : p.kept s t) (h2 : p.kept t u) : p.kept s u := by
  cases p with
  | ledger => exact ⟨h2.1.trans h1.1, h2.2.trans h1.2⟩
  | _ => exact Eq.trans h2 h1

namespace Alters

variable {ps qs : List Part} {s t u : State}

theorem refl (ps : List Part) (s : State) : Alters ps s s := fun p _ => p.kept_refl s

theorem trans (h1 : Alters ps s t) (h2 : Alters ps t u) : Alters ps s u := fun p hp => (h1 p hp).trans (h2 p hp)

theorem mono (h : Alters ps s t) (hsub : ∀ p ∈ ps, p ∈ qs) : Alters qs s t := fun p hp => h p (fun hin => hp (hsub p hin))

/-- An update of one part alters that part. -/
theorem modPower {f} (h : Alters ps s t) (hp : .power ∈ ps) : Alters ps s (t.modPower f) :=
  h.trans fun p hn => by cases p <;> simp_all [Part.kept]
theorem modLog {f} (h : Alters ps s t) (hp : .log ∈ ps) : Alters ps s (t.modLog f) :=
  h.trans fun p hn => by cases p <;> simp_all [Part.kept]
theorem modClk {f} (h : Alters ps s t) (hp : .clk ∈ ps) : Alters ps s (t.modClk f) :=
  h.trans fun p hn => by cases p <;> simp_all [Part.kept]
theorem modPwr {f} (h : Alters ps s t) (hp : .pwr ∈ ps) : Alters ps s (t.modPwr f) :=
  h.trans fun p hn => by cases p <;> simp_all [Part.kept]
theorem modHist {f} (h : Alters ps s t) (hp : .hist ∈ ps) : Alters ps s (t.modHist f) :=
  h.trans fun p hn => by cases p <;> simp_all [Part.kept]
theorem modMem {f} (h : Alters ps s t) (hp : .mem ∈ ps) : Alters ps s (t.modMem f) :=
  h.trans fun p hn => by cases p <;> simp_all [Part.kept]
theorem modTmr {f} (h : Alters ps s t) (hp : .tmr ∈ ps) : Alters ps s (t.modTmr f) :=
  h.trans fun p hn => by cases p <;> simp_all [Part.kept]
theorem modHk {f} (h : Alters ps s t) (hp : .hk ∈ ps) : Alters ps s (t.modHk f) :=
  h.trans fun p hn => by cases p <;> simp_all [Part.kept]
theorem modLux {f} (h : Alters ps s t) (hp : .lux ∈ ps) : Alters ps s (t.modLux f) :=
  h.trans fun p hn => by cases p <;> simp_all [Part.kept]
theorem modFlash {f} (h : Alters ps s t) (hp : .flash ∈ ps) : Alters ps s (t.modFlash f) :=
  h.trans fun p hn => by cases p <;> simp_all [Part.kept]
theorem modSys {f} (h : Alters ps s t) (hp : .sys ∈ ps) : Alters ps s (t.modSys f) :=
  h.trans fun p hn => by cases p <;> simp_all [Part.kept]
theorem takeFree (h : Alters ps s t) (hp : .free ∈ ps) : Alters ps s t.takeFree :=
  h.trans fun p hn => by cases p with | lane l => cases l <;> rfl | free => exact absurd hp hn | _ => simp [Part.kept, State.takeFree]
theorem setBank {m} (h : Alters ps s t) (hp : .bank ∈ ps) : Alters ps s { t with bank := m } :=
  h.trans fun p hn => by cases p with | lane l => cases l <;> rfl | bank => exact absurd hp hn | _ => simp [Part.kept]
theorem setPins {m} (h : Alters ps s t) (hp : .pins ∈ ps) : Alters ps s { t with pins := m } :=
  h.trans fun p hn => by cases p with | lane l => cases l <;> rfl | pins => exact absurd hp hn | _ => simp [Part.kept]
theorem setLedger {m} (h : Alters ps s t) (hp : .ledger ∈ ps) : Alters ps s { t with ledger := m } :=
  h.trans fun p hn => by cases p with | lane l => cases l <;> rfl | ledger => exact absurd hp hn | _ => simp [Part.kept]

theorem modLane {l f} (h : Alters ps s t) (hp : .lane l ∈ ps) : Alters ps s (t.modLane l f) :=
  h.trans fun p hn => by
    cases p with
    | lane k =>
      have hne : k ≠ l := by rintro rfl; exact hn hp
      cases k <;> cases l <;> simp_all [Part.kept]
    | _ => simp [Part.kept]

/-- Epoch marks and event bits are no part of their own. -/
theorem mark {u} (h : Alters ps s t) : Alters ps s (t.mark u) :=
  h.trans fun p _ => by
    cases p with
    | lane k => exact State.mark_lane t u k
    | _ => simp [Part.kept]; try rfl
theorem event {b} (h : Alters ps s t) : Alters ps s (t.event b) := h.trans fun p _ => by cases p <;> simp [Part.kept]

theorem record {c n p d} (h : Alters ps s t) (hp : .log ∈ ps) : Alters ps s (t.record c n p d) :=
  h.trans fun p hn => by cases p with | log => exact absurd hp hn | _ => simp [Part.kept]
theorem note {c d} (h : Alters ps s t) (hp : .log ∈ ps) : Alters ps s (t.note c d) := h.record hp
theorem noteItem {c o d} (h : Alters ps s t) (hp : .log ∈ ps) : Alters ps s (t.noteItem c o d) := h.record hp
theorem recordL {l c n d} (h : Alters ps s t) (hp : .log ∈ ps) : Alters ps s (t.recordL l c n d) := h.record hp
theorem noteL {l c d} (h : Alters ps s t) (hp : .log ∈ ps) : Alters ps s (t.noteL l c d) := h.record hp

theorem ite {b : Prop} [Decidable b] {t' : State} (h : Alters ps s t) (h' : Alters ps s t') :
    Alters ps s (if b then t else t') := by
  split
  · exact h
  · exact h'

theorem foldl {α : Type} {f : State → α → State} (hf : ∀ {t x}, Alters ps s t → Alters ps s (f t x)) (xs : List α)
    (h : Alters ps s t) : Alters ps s (xs.foldl f t) := foldl_keeps hf xs h

theorem same (h : Alters ps s.clearOut t) : ∀ p, p ∉ ps → Part.same s.clearOut t p := fun p hp => by
  have hk := h p hp
  cases p with
  | lux => exact hk
  | lane l => exact congrArg LaneSt.bare hk
  | _ => exact hk

/-- The frame of a command. -/
theorem frame (h : Alters ps s.clearOut t) (hs : s.Settled) : Frame ps s (s.after t) := frame_after hs.fresh_zero h.same

/-- The frame of a host write. -/
theorem frame_answered {w : List Nat} {k : Nat} (h : Alters ps s.mgtOpen.clearOut t) (hs : s.Settled) :
    Frame ps s (s.answered t w k) := Machine.frame_answered hs h.same

end Alters

/-! ### Timers (R492 to R502) -/

section timers

variable {s : State} {n : Nat}

theorem cascaded_modTmr (f : TmrSt → TmrSt) : (s.modTmr f).cascaded n = s.cascaded n := rfl

theorem setTimer_alters (x : Timer) : Alters [.tmr] s (s.setTimer n x) := by
  unfold State.setTimer
  split
  · exact (Alters.refl _ s).modTmr (by simp)
  · exact (Alters.refl _ s).modTmr (by simp)

theorem updTimer_alters (f : Timer → Timer) : Alters [.tmr] s (s.updTimer n f) := by
  unfold State.updTimer
  dsimp only
  split
  · exact (setTimer_alters _).event
  · exact setTimer_alters _

theorem updTimer_tmr (f : Timer → Timer) : (s.updTimer n f).tmr = (s.setTimer n (f (s.timer n))).tmr := by
  unfold State.updTimer
  dsimp only
  split
  · rw [State.event_tmr]
  · rfl

/-- A timer's count and flags change, nothing else of TMR. -/
theorem setTimer_tmr (x : Timer) : ∃ ts, (s.setTimer n x).tmr = { s.tmr with ts := ts }
    ∧ ts.length = s.tmr.ts.length
    ∧ ∀ m, m ≠ n → (s.cascaded n = true → m ≠ n + 1) → ts.getD m {} = s.tmr.ts.getD m {} := by
  unfold State.setTimer
  split
  · rename_i hcasc
    refine ⟨_, rfl, by simp, fun m hm hm1 => ?_⟩
    have hpair : s.cascaded n = true := by simp_all
    have hodd := hm1 hpair
    simp [List.getD_eq_getElem?_getD, Ne.symm hm, Ne.symm hodd]
  · refine ⟨_, rfl, by simp, fun m hm _ => ?_⟩
    simp [List.getD_eq_getElem?_getD, Ne.symm hm]

@[simp] theorem setTimer_cascaded (x : Timer) (m : Nat) : (s.setTimer n x).cascaded m = s.cascaded m := by
  unfold State.setTimer
  split <;> rfl

/-- A timer reads as it was put, a cascaded pair joined again. -/
theorem timer_setTimer (x : Timer) (hlen : s.tmr.ts.length = 16) (hn : n < 16) : (s.setTimer n x).timer n = x := by
  unfold State.timer
  rw [setTimer_cascaded]
  split
  · rename_i hcasc
    have heven : n % 2 = 0 := by simp_all
    have hodd : n + 1 < s.tmr.ts.length := by omega
    have hlow : n < s.tmr.ts.length := by omega
    unfold State.setTimer
    rw [if_pos hcasc]
    simp [List.getD_eq_getElem?_getD, hodd, hlow, Nat.mod_add_div]
  · rename_i hcasc
    have hlow : n < s.tmr.ts.length := by omega
    unfold State.setTimer
    rw [if_neg hcasc]
    simp [List.getD_eq_getElem?_getD, hlow]

theorem cascaded_congr {s t : State} (hshadow : t.shadow = s.shadow) (htwo : t.twoLanes = s.twoLanes) (n : Nat) :
    t.cascaded n = s.cascaded n := by
  unfold State.cascaded State.timerRec State.unused
  rw [hshadow, htwo]

theorem timer_congr {s t : State} (htmr : t.tmr = s.tmr) (hshadow : t.shadow = s.shadow) (htwo : t.twoLanes = s.twoLanes)
    (n : Nat) : t.timer n = s.timer n := by
  unfold State.timer State.cascaded State.timerRec State.unused
  rw [htmr, hshadow, htwo]

@[simp] theorem setTimer_shadow (x : Timer) : (s.setTimer n x).shadow = s.shadow :=
  (setTimer_alters x .ledger (by simp)).2

@[simp] theorem setTimer_twoLanes (x : Timer) : (s.setTimer n x).twoLanes = s.twoLanes := by
  unfold State.setTimer
  split <;> rfl

@[simp] theorem updTimer_twoLanes (f : Timer → Timer) : (s.updTimer n f).twoLanes = s.twoLanes := by
  unfold State.updTimer
  dsimp only
  split
  · rw [State.event_twoLanes, setTimer_twoLanes]
  · exact setTimer_twoLanes _

@[simp] theorem clearOut_timer (s : State) (n : Nat) : s.clearOut.timer n = s.timer n :=
  timer_congr (State.clearOut_tmr s) (State.clearOut_shadow s) (State.clearOut_twoLanes s) n

@[simp] theorem clearOut_cascaded (s : State) (n : Nat) : s.clearOut.cascaded n = s.cascaded n := rfl

@[simp] theorem clearOut_timerRuns (s : State) (n : Nat) : s.clearOut.timerRuns n = s.timerRuns n := by
  unfold State.timerRuns
  rw [clearOut_timer]
  rfl

/-- What a command that changes one timer leaves: the timer changed, the others and the rest of TMR as before. -/
theorem updTimer_after {s0 t : State} {f : Timer → Timer} (htmr0 : s0.tmr = s.tmr) (hshadow0 : s0.shadow = s.shadow)
    (htwo0 : s0.twoLanes = s.twoLanes) (htmr : t.tmr = (s0.updTimer n f).tmr) (hframe : Frame [.tmr] s t)
    (hlen : s.tmr.ts.length = 16) (hn : n < 16) :
    t.timer n = f (s.timer n) ∧ t.tmr.tsc = s.tmr.tsc
      ∧ ∀ m, m ≠ n → (s.cascaded n = true → m ≠ n + 1) → t.tmr.ts.getD m {} = s.tmr.ts.getD m {} := by
  have hset : t.tmr = (s0.setTimer n (f (s.timer n))).tmr := by
    rw [htmr, updTimer_tmr, timer_congr htmr0 hshadow0 htwo0]
  have hcasc : s0.cascaded n = s.cascaded n := cascaded_congr hshadow0 htwo0 n
  obtain ⟨htwo, _, hparts⟩ := hframe
  obtain ⟨_, hshadow⟩ : t.ledger = s.ledger ∧ t.shadow = s.shadow := hparts .ledger (by simp)
  obtain ⟨ts, heq, _, hother⟩ := setTimer_tmr (s := s0) (n := n) (f (s.timer n))
  refine ⟨?_, ?_, fun m hm hm1 => ?_⟩
  · rw [timer_congr hset (by simp [hshadow, hshadow0]) (by simp [htwo, htwo0])]
    exact timer_setTimer _ (by rw [htmr0]; exact hlen) hn
  · rw [hset, heq]
    show s0.tmr.tsc = s.tmr.tsc
    rw [htmr0]
  · rw [hset, heq, ← htmr0]
    exact hother m hm (by simpa [hcasc] using hm1)

end timers

/-- One tick with the prescale counter at 0 again. -/
def Timer.ticked (tsc : Nat) (t : Timer) : Timer := { tickTimer t with pre := 0, born := tsc }

/-- Settles O52: the tick is one change of one timer. -/
theorem timerTickCounts : Obligations.TimerTickCounts := by
  unfold Obligations.TimerTickCounts
  intro n s hs hruns hlen hspan
  have hn : n < 16 := by
    simp only [State.timerRuns, Bool.and_eq_true, decide_eq_true_eq] at hruns
    exact hruns.1.1.1
  have hfree : s.tmr.lf = false ∨ ¬s.tmr.lfCause = 1 := by
    simpa only [not_and_or, Bool.not_eq_true] using hspan
  have heffect : exec (.timerTick n) s = .next (s.after (s.clearOut.updTimer n (Timer.ticked s.tmr.tsc))) := by
    simp [execTimerTick, perform_after, hruns, hfree]
    rfl
  have hframe := (updTimer_alters (s := s.clearOut) (n := n) (Timer.ticked s.tmr.tsc)).frame hs
  obtain ⟨htimer, htsc, hother⟩ := updTimer_after (s0 := s.clearOut) (by simp) (by simp) (by simp) (after_tmr _ _) hframe hlen hn
  refine ⟨_, heffect, ?_, ?_, ?_, ?_, ?_, ?_, hother, htsc, hframe⟩
  all_goals rw [htimer]
  · rfl
  · rfl
  · rfl
  · rfl
  · rfl
  · show ((s.timer n).ovr || _ || _) = _
    rw [Bool.or_right_comm]
    rfl

/-! ### A handback that owes the oscillator's failure (R517) -/

/-- A span that is handed back at this tick, after a silence within it that was not recorded. -/
def State.owesLfRecord : State :=
  State.reset.modTmr (fun m => { m with lf := true, lfBack := true, lfCause := 2, lfOwed := true })

theorem owesLfRecord_settled : State.owesLfRecord.Settled := ⟨rfl, rfl, rfl, rfl, rfl⟩

theorem lfTick_records_owed : exec .lfTick State.owesLfRecord = .next (State.owesLfRecord.after
    State.owesLfRecord.clearOut.lfStep) ∧ (State.owesLfRecord.after State.owesLfRecord.clearOut.lfStep).log.newest = 1 :=
  ⟨by rw [exec_lfTick, execLfTick, perform_after], by rfl⟩

/-- Refutes O54: a handback (its third clause) writes the record 0x4001 that a failure of the oscillator within the span
owes, so that the log does not stand as the frame of that clause has it. -/
theorem not_lfOscillatorAdvancesTheTsc : ¬ Obligations.LfOscillatorAdvancesTheTsc := by
  unfold Obligations.LfOscillatorAdvancesTheTsc
  rintro ⟨_, _, hback, _⟩
  obtain ⟨t, hexec, _, _, _, _, _, _, _, _, _, hparts⟩ :=
    hback State.owesLfRecord owesLfRecord_settled rfl rfl (by decide) rfl rfl
  obtain ⟨hstep, hnewest⟩ := lfTick_records_owed
  have ht : State.owesLfRecord.after State.owesLfRecord.clearOut.lfStep = t :=
    Host.Outcome.next.inj (hstep.symm.trans hexec)
  have hlog : t.log = State.owesLfRecord.log := hparts .log (by decide)
  rw [ht, hlog] at hnewest
  exact absurd hnewest (by decide)

end Sys2Proof.Machine
end

section
/-!
PROOFS. The host's timer commands (R497, R498, R502): one timer's registers written, and the management party's group
start.
-/

namespace Sys2Proof.Machine

section timerWrites

variable {s : State} {n e : Nat}

/-- A write to TMR: none of its words advances the epoch (R531). -/
theorem frameEffect_tmrWrite {r : Req} (hw : r.write = true) (hu : r.unit = 4) (shifted lat : Nat) :
    s.frameEffect r 0 shifted lat = s.tmrWrite r := by
  have hquiet : r.items.all (fun q => quietWord r.unit q.1) = true := by simp [hu, quietWord]
  simp [State.frameEffect, Req.aperture, hw, hu, State.applyWrite, quietWord]

theorem oneTimer (o : Nat) (hn : n < 16) (ho : o / 8 = n) : allUnits.filter (fun m => o / 8 = m) = [n] := by
  subst ho
  generalize o / 8 = n at hn ⊢
  revert n
  decide

/-- A word written to a register of timer n reaches that timer alone. -/
theorem tmrWrite_one (w j : Nat) (hn : n < 16) (hj : j < 8) :
    s.tmrWrite (hostWrite 4 (8 * n + j) [w] e) = s.timerWrite (hostWrite 4 (8 * n + j) [w] e) n := by
  have hns : allUnits.filter (fun m => (hostWrite 4 (8 * n + j) [w] e).items.any (fun q => q.1 / 8 = m)) = [n] := by
    have h := oneTimer (8 * n + j) hn (by omega)
    simpa [hostWrite, Req.items] using h
  have hspan : (hostWrite 4 (8 * n + j) [w] e).at? 0x0B8 = none := by
    rw [hostWrite_at?, if_pos (by omega)]
    exact List.getElem?_eq_none (by simp; omega)
  have hgroup : (hostWrite 4 (8 * n + j) [w] e).at? 0x080 = none := by
    rw [hostWrite_at?, if_pos (by omega)]
    exact List.getElem?_eq_none (by simp; omega)
  have hgo : (hostWrite 4 (8 * n + j) [w] e).sets 0x080 0 = false := by
    simp [Req.sets, Req.val, hgroup]
    rfl
  unfold State.tmrWrite
  rw [hns, hspan]
  simp [hgo]

theorem hostWrite_at_own (u o w : Nat) : (hostWrite u o [w] e).at? o = some w := by
  rw [hostWrite_at?]
  simp

theorem hostWrite_at_other {u o w x : Nat} (hx : x ≠ o) : (hostWrite u o [w] e).at? x = none := by
  rw [hostWrite_at?]
  split
  · exact List.getElem?_eq_none (by simp; omega)
  · rfl

theorem timerWrite_cmp (w : Nat) (hlen : n < s.tmr.ts.length) :
    s.timerWrite (hostWrite 4 (8 * n + 2) [w % 65536] e) n =
      s.modTmr (fun m => { m with ts := m.ts.set n { s.tmr.ts.getD n {} with cmp := w % 65536 } }) := by
  unfold State.timerWrite
  rw [hostWrite_at_other (by omega), hostWrite_at_other (by omega)]
  simp only [Req.put, hostWrite_at_own, hostWrite_at_other (show 8 * n + 1 ≠ 8 * n + 2 by omega)]
  simp [State.modTmr, List.modify_eq_set_get _ hlen, List.getD_eq_getElem?_getD, hlen]

/-- Registers that a write leaves out keep what they hold. -/
theorem timerWrite_ctrl (w : Nat) : s.timerWrite (hostWrite 4 (8 * n + 5) [w] e) n =
    if bit w 1 then (s.timerEnable n (bit w 0)).timerLoad n (s.timer n).rld else s.timerEnable n (bit w 0) := by
  have hid : s.modTmr (fun m => { m with ts := m.ts.modify n (fun t => { t with rld := t.rld, cmp := t.cmp }) }) = s := by
    have hsame : s.tmr.ts.modify n (fun t => t) = s.tmr.ts := List.modify_id n _
    simp [State.modTmr, hsame]
  unfold State.timerWrite
  rw [hostWrite_at_own, hostWrite_at_other (show 8 * n + 6 ≠ 8 * n + 5 by omega)]
  simp only [Req.put, hostWrite_at_other (show 8 * n + 1 ≠ 8 * n + 5 by omega),
    hostWrite_at_other (show 8 * n + 2 ≠ 8 * n + 5 by omega), Option.map_none, Option.getD_none]
  rw [hid]

theorem timerEnable_same : s.timerEnable n (s.tmr.ts.getD n {}).en = s := by simp [State.timerEnable]

theorem timerEnable_change {on : Bool} (hlen : n < s.tmr.ts.length) (hen : (s.tmr.ts.getD n {}).en ≠ on)
    (hused : s.unused (s.shadow.party.tmrOwner.getD n 0) = false) :
    s.timerEnable n on = (s.modTmr (fun m => { m with ts := m.ts.set n { s.tmr.ts.getD n {} with
      en := on, pre := if on then 0 else (s.tmr.ts.getD n {}).pre, born := s.tmr.tsc } })).mark 4 := by
  unfold State.timerEnable
  simp only [hen, hused, decide_false, Bool.or_self, Bool.false_eq_true, if_false]
  simp [State.modTmr, List.modify_eq_set_get _ hlen, List.getD_eq_getElem?_getD, hlen]

end timerWrites

theorem tmrCmpWrite_effect (n v e : Nat) (s : State) (hs : s.Settled) (hn : n < 16) (hlen : n < s.tmr.ts.length)
    (ha : s.Accepts (hostWrite 4 (8 * n + 2) [v % 65536] e)) : ∃ t, exec (.tmrCmpWrite n v e) s = .next t
      ∧ t.Replied (hostWrite 4 (8 * n + 2) [v % 65536] e) []
      ∧ t.tmr = { s.tmr with ts := s.tmr.ts.set n { s.tmr.ts.getD n {} with cmp := v % 65536 } } ∧ Frame [.tmr] s t := by
  have heffect := (frameEffect_tmrWrite (s := s.mgtOpen.clearOut) (r := hostWrite 4 (8 * n + 2) [v % 65536] e) rfl rfl 0 0).trans
    ((tmrWrite_one _ 2 hn (by omega)).trans (timerWrite_cmp v (by simpa using hlen)))
  obtain ⟨r, k, hexec, hreply⟩ := oneWrite_answered ha heffect
  exact ⟨_, hexec, hreply, by simp, ((Alters.refl _ _).modTmr (by simp)).frame_answered hs⟩

/-- A load restarts the prescale counter (R498). -/
def Timer.loaded (v tsc : Nat) (t : Timer) : Timer := { loadTimer t v with born := tsc }

theorem tmrCtrlLoad_effect (n e : Nat) (s : State) (hs : s.Settled) (hn : n < 16) (hlen : s.tmr.ts.length = 16)
    (hodd : s.oddHalf n = false) (ha : s.Accepts (hostWrite 4 (8 * n + 5) [2 + b2n (s.tmr.ts.getD n {}).en] e)) :
    ∃ t, exec (.tmrCtrlLoad n e) s = .next t
      ∧ t.Replied (hostWrite 4 (8 * n + 5) [2 + b2n (s.tmr.ts.getD n {}).en] e) []
      ∧ (t.timer n).cnt = (s.timer n).rld ∧ (t.timer n).pre = 0 ∧ (t.timer n).en = (s.timer n).en
      ∧ (∀ m, m ≠ n → (s.cascaded n = true → m ≠ n + 1) → t.tmr.ts.getD m {} = s.tmr.ts.getD m {})
      ∧ t.tmr.tsc = s.tmr.tsc ∧ Frame [.tmr] s t := by
  have hword : bit (2 + b2n (s.tmr.ts.getD n {}).en) 0 = (s.tmr.ts.getD n {}).en
      ∧ bit (2 + b2n (s.tmr.ts.getD n {}).en) 1 = true := by
    cases (s.tmr.ts.getD n {}).en <;> exact ⟨rfl, rfl⟩
  have hload : s.mgtOpen.clearOut.timerLoad n (s.timer n).rld =
      s.mgtOpen.clearOut.updTimer n (Timer.loaded (s.timer n).rld s.tmr.tsc) := by
    have hodd' : s.mgtOpen.clearOut.oddHalf n = false := hodd
    simp [State.timerLoad, hodd']
    rfl
  have hrld : (s.mgtOpen.clearOut.timer n).rld = (s.timer n).rld := by rw [clearOut_timer]; rfl
  have heffect : s.mgtOpen.clearOut.frameEffect (hostWrite 4 (8 * n + 5) [2 + b2n (s.tmr.ts.getD n {}).en] e) 0 0 0 =
      s.mgtOpen.clearOut.updTimer n (Timer.loaded (s.timer n).rld s.tmr.tsc) := by
    rw [frameEffect_tmrWrite rfl rfl, tmrWrite_one _ 5 hn (by omega), timerWrite_ctrl, hword.1, hword.2, if_pos rfl, hrld]
    exact (congrArg (State.timerLoad · n (s.timer n).rld) timerEnable_same).trans hload
  obtain ⟨r, k, hexec, hreply⟩ := oneWrite_answered ha heffect
  have hframe := (updTimer_alters (s := s.mgtOpen.clearOut) (n := n)
    (Timer.loaded (s.timer n).rld s.tmr.tsc)).frame_answered (w := r) (k := k) hs
  obtain ⟨htimer, htsc, hother⟩ := updTimer_after (s0 := s.mgtOpen.clearOut) (by simp) (by simp) (by simp)
    (answered_tmr _ _ _ _) hframe hlen hn
  refine ⟨_, hexec, hreply, ?_, ?_, ?_, hother, htsc, hframe⟩
  all_goals rw [htimer]
  · rfl
  · rfl
  · rfl

theorem tmrCtrlEn_effect (n e : Nat) (on : Bool) (s : State) (hs : s.Settled) (hn : n < 16) (hlen : n < s.tmr.ts.length)
    (hused : s.unused (s.shadow.party.tmrOwner.getD n 0) = false) (hen : (s.tmr.ts.getD n {}).en ≠ on)
    (ha : s.Accepts (hostWrite 4 (8 * n + 5) [b2n on] e)) : ∃ t, exec (.tmrCtrlEn n on e) s = .next t
      ∧ t.Replied (hostWrite 4 (8 * n + 5) [b2n on] e) []
      ∧ t.tmr = { s.tmr with ts := s.tmr.ts.set n { s.tmr.ts.getD n {} with
          en := on, pre := if on then 0 else (s.tmr.ts.getD n {}).pre, born := s.tmr.tsc } } ∧ Frame [.tmr] s t := by
  have hword : bit (b2n on) 0 = on ∧ bit (b2n on) 1 = false := by cases on <;> exact ⟨rfl, rfl⟩
  have heffect := (frameEffect_tmrWrite (s := s.mgtOpen.clearOut) (r := hostWrite 4 (8 * n + 5) [b2n on] e) rfl rfl 0 0).trans
    (tmrWrite_one (b2n on) 5 hn (by omega))
  rw [timerWrite_ctrl, hword.1, hword.2, if_neg (by simp), timerEnable_change (s := s.mgtOpen.clearOut) hlen hen hused] at heffect
  obtain ⟨r, k, hexec, hreply⟩ := oneWrite_answered ha heffect
  exact ⟨_, hexec, hreply, by simp, ((Alters.refl _ _).modTmr (by simp)).mark.frame_answered hs⟩

/-! ### Group starts (R502) -/

section group

variable {s : State}

theorem oddHalf_congr {t : State} (hshadow : t.shadow = s.shadow) (htwo : t.twoLanes = s.twoLanes) (n : Nat) :
    t.oddHalf n = s.oddHalf n := by
  unfold State.oddHalf
  rw [cascaded_congr hshadow htwo]

theorem cascaded_odd {n : Nat} (hn : n % 2 = 0) : s.cascaded (n + 1) = s.cascaded n := by
  have hpair : (n + 1) / 2 * 2 = n / 2 * 2 := by omega
  simp [State.cascaded, hpair]

/-- No timer but the odd half of a pair is part of another. -/
theorem timer_apart {m n : Nat} (hm : s.oddHalf m = false) (hn : s.oddHalf n = false) (hne : n ≠ m) (f : Timer → Timer) :
    (s.updTimer m f).timer n = s.timer n := by
  obtain ⟨ts, heq, _, hother⟩ := setTimer_tmr (s := s) (n := m) (f (s.timer m))
  have hsplit : ∀ k, s.cascaded k = true → s.oddHalf k = false → k % 2 = 0 := by
    intro k hk hodd
    simp [State.oddHalf, hk] at hodd
    omega
  have hread : ∀ k, k = n ∨ (k = n + 1 ∧ s.cascaded n = true ∧ n % 2 = 0) →
      ts.getD k {} = s.tmr.ts.getD k {} := by
    rintro k (rfl | ⟨rfl, hcasc, heven⟩)
    · refine hother k hne (fun hcm hk => ?_)
      have hmeven := hsplit m hcm hm
      rw [hk] at hn
      simp [State.oddHalf, cascaded_odd hmeven, hcm] at hn
      omega
    · refine hother (n + 1) (fun h => ?_) (fun _ h => hne (by omega))
      rw [← h] at hm
      simp [State.oddHalf, cascaded_odd heven, hcasc] at hm
      omega
  have htmr : (s.updTimer m f).tmr = { s.tmr with ts := ts } := (updTimer_tmr f).trans heq
  have hshadow := (updTimer_alters (s := s) (n := m) f .ledger (by simp)).2
  have htwo : (s.updTimer m f).twoLanes = s.twoLanes := updTimer_twoLanes f
  unfold State.timer
  rw [cascaded_congr hshadow htwo, htmr]
  simp only [hread n (.inl rfl)]
  split
  · rename_i hcasc
    have h : s.cascaded n = true ∧ n % 2 = 0 := by simpa using hcasc
    rw [hread (n + 1) (.inr ⟨rfl, h⟩)]
  · rfl

/-- A group start's member loaded with its phase offset (R502). -/
def State.phaseOf (s : State) (n : Nat) : Nat :=
  (s.timerRec n).phase + (if s.cascaded n then 65536 * (s.timerRec (n + 1)).phase else 0)

theorem phaseOf_congr {t : State} (hshadow : t.shadow = s.shadow) (htwo : t.twoLanes = s.twoLanes) (n : Nat) :
    t.phaseOf n = s.phaseOf n := by
  unfold State.phaseOf State.cascaded State.timerRec State.unused
  rw [hshadow, htwo]

def State.phaseLoad (s : State) (n : Nat) : State := s.updTimer n (Timer.loaded (s.phaseOf n) s.tmr.tsc)

theorem phaseLoad_shadow (n : Nat) : (s.phaseLoad n).shadow = s.shadow := (updTimer_alters _ .ledger (by simp)).2
theorem phaseLoad_twoLanes (n : Nat) : (s.phaseLoad n).twoLanes = s.twoLanes := updTimer_twoLanes _

theorem phaseLoad_tmr (n : Nat) : (s.phaseLoad n).tmr.ts.length = s.tmr.ts.length ∧ (s.phaseLoad n).tmr.tsc = s.tmr.tsc := by
  obtain ⟨ts, heq, hlen, _⟩ := setTimer_tmr (s := s) (n := n) (Timer.loaded (s.phaseOf n) s.tmr.tsc (s.timer n))
  unfold State.phaseLoad
  rw [updTimer_tmr, heq]
  exact ⟨hlen, rfl⟩

theorem phaseLoad_timer {n : Nat} (hlen : s.tmr.ts.length = 16) (hn : n < 16) :
    ((s.phaseLoad n).timer n).cnt = s.phaseOf n := by
  have hset := timer_congr (s := s.setTimer n (Timer.loaded (s.phaseOf n) s.tmr.tsc (s.timer n))) (t := s.phaseLoad n)
    (updTimer_tmr _) ((phaseLoad_shadow n).trans (setTimer_shadow _).symm)
    ((phaseLoad_twoLanes n).trans (setTimer_twoLanes _).symm) n
  rw [hset, timer_setTimer _ hlen hn]
  rfl

/-- Loads one after the other: each member stands at its phase offset, every other timer as before. -/
theorem phaseLoads (ns : List Nat) : ∀ {x : State}, x.shadow = s.shadow → x.twoLanes = s.twoLanes →
    x.tmr.ts.length = 16 → (∀ m ∈ ns, m < 16 ∧ s.oddHalf m = false) → ns.Nodup →
    Alters [.tmr] x (ns.foldl State.phaseLoad x) ∧ (ns.foldl State.phaseLoad x).twoLanes = s.twoLanes
      ∧ (ns.foldl State.phaseLoad x).tmr.tsc = x.tmr.tsc
      ∧ ∀ n, n < 16 → s.oddHalf n = false →
        ((ns.foldl State.phaseLoad x).timer n).cnt = if n ∈ ns then s.phaseOf n else (x.timer n).cnt := by
  induction ns with
  | nil => intro x _ htwo _ _ _; exact ⟨Alters.refl _ _, htwo, rfl, by simp⟩
  | cons m ms ih =>
    intro x hshadow htwo hlen hms hdup
    obtain ⟨hm, hmodd⟩ := hms m (by simp)
    obtain ⟨hmlen, hmtsc⟩ := phaseLoad_tmr (s := x) m
    obtain ⟨halt, htwo', htsc, hcnt⟩ := ih ((phaseLoad_shadow m).trans hshadow) ((phaseLoad_twoLanes m).trans htwo)
      (hmlen.trans hlen) (fun k hk => hms k (by simp [hk])) (List.nodup_cons.mp hdup).2
    refine ⟨(updTimer_alters _).trans halt, htwo', htsc.trans hmtsc, fun n hn hodd => ?_⟩
    have hrest := hcnt n hn hodd
    rw [List.foldl_cons, hrest]
    by_cases hnm : n = m
    · subst hnm
      rw [if_neg (List.nodup_cons.mp hdup).1, if_pos (by simp), phaseLoad_timer hlen hm, phaseOf_congr hshadow htwo]
    · have hapart : (x.phaseLoad m).timer n = x.timer n :=
        timer_apart (by rwa [oddHalf_congr hshadow htwo]) (by rwa [oddHalf_congr hshadow htwo]) hnm _
      simp [hnm, hapart]

end group

/-- The management party's members of a group start (R502, R503). -/
def State.mgtGroup (s : State) : List Nat :=
  allUnits.filter (fun n => (s.timerRec n).group && !s.oddHalf n && (s.timer n).en && decide (s.tmrOwner n = 0))

theorem mem_mgtGroup {s : State} {n : Nat} (hn : n < 16) (hodd : s.oddHalf n = false) :
    n ∈ s.mgtGroup ↔ (s.timerRec n).group = true ∧ (s.timer n).en = true ∧ s.tmrOwner n = 0 := by
  have hmem : n ∈ allUnits := List.mem_range.mpr hn
  simp [State.mgtGroup, hmem, hodd, and_assoc]

theorem frameEffect_groupStart (s : State) (e lat : Nat) : s.frameEffect (hostWrite 4 0x080 [1] e) 0 0 lat =
    (s.mgtGroup.foldl State.phaseLoad s).mark 4 := by
  have hns : allUnits.filter (fun m => (hostWrite 4 0x080 [1] e).items.any (fun q => q.1 / 8 = m)) = [] := by
    simp [hostWrite, Req.items, allUnits]
    decide
  have hgo : (hostWrite 4 0x080 [1] e).sets 0x080 0 = true := by
    simp [Req.sets, Req.val, hostWrite_at_own]
    rfl
  rw [frameEffect_tmrWrite rfl rfl]
  unfold State.tmrWrite
  rw [hns, hostWrite_at_other (by decide), hgo]
  rfl

theorem tmrGstartGo_effect (e : Nat) (s : State) (hs : s.Settled) (hlen : s.tmr.ts.length = 16)
    (ha : s.Accepts (hostWrite 4 0x080 [1] e)) :
    ∃ t, exec (.tmrGstartGo e) s = .next t ∧ t.Replied (hostWrite 4 0x080 [1] e) []
      ∧ (∀ n, n < 16 → s.oddHalf n = false → (t.timer n).cnt =
          if (s.timerRec n).group = true ∧ (s.timer n).en = true ∧ s.tmrOwner n = 0
            then (s.timerRec n).phase + (if s.cascaded n then 65536 * (s.timerRec (n + 1)).phase else 0)
            else (s.timer n).cnt)
      ∧ t.tmr.tsc = s.tmr.tsc ∧ Frame [.tmr] s t := by
  have heffect := frameEffect_groupStart s.mgtOpen.clearOut e 0
  have hgroup : s.mgtOpen.clearOut.mgtGroup = s.mgtGroup := by
    unfold State.mgtGroup
    simp only [clearOut_timer]
    rfl
  rw [hgroup] at heffect
  obtain ⟨r, k, hexec, hreply⟩ := oneWrite_answered ha heffect
  have hmembers : ∀ m ∈ s.mgtGroup, m < 16 ∧ s.oddHalf m = false := by
    intro m hm
    simp only [State.mgtGroup, List.mem_filter, allUnits, List.mem_range, Bool.and_eq_true, Bool.not_eq_true'] at hm
    exact ⟨hm.1, hm.2.1.1.2⟩
  obtain ⟨halt, htwo, htsc, hcnt⟩ := phaseLoads (s := s) s.mgtGroup (x := s.mgtOpen.clearOut) (by simp) (by simp)
    (by simpa using hlen) hmembers (List.nodup_range.filter _)
  have hframe := halt.mark (u := 4).frame_answered (w := r) (k := k) hs
  refine ⟨_, hexec, hreply, fun n hn hodd => ?_, ?_, hframe⟩
  · have htimer := timer_congr (s := s.mgtGroup.foldl State.phaseLoad s.mgtOpen.clearOut)
      (t := s.answered ((s.mgtGroup.foldl State.phaseLoad s.mgtOpen.clearOut).mark 4) r k) (by simp) (by simp)
      (by rw [htwo]; simp) n
    rw [htimer, hcnt n hn hodd, clearOut_timer]
    simp only [mem_mgtGroup hn hodd]
    rfl
  · rw [answered_tmr, State.mark_tmr, htsc]
    rfl

/-- Settles O53: a write reaches one timer's registers; a group start loads its members one after the other. -/
theorem hostTimerCommands : Obligations.HostTimerCommands := by
  unfold Obligations.HostTimerCommands
  exact ⟨tmrCmpWrite_effect, tmrCtrlLoad_effect, fun n e on s hs hn hlen _ => tmrCtrlEn_effect n e on s hs hn hlen,
    tmrGstartGo_effect⟩

end Sys2Proof.Machine
end

section
/-!
PROOFS. Requests on the wire (Table 17.1): the words of a request read back, and frames that are not answered OK.
-/

namespace Sys2Proof.Machine

/-- A request whose fields fit their places (Table 17.1). -/
structure Req.InRange (r : Req) : Prop where
  unit : r.unit < 16
  off : r.off < 2048
  n : r.n < 128
  epoch : r.epoch < 256
  write : r.write = true → r.data.length = r.n
  read : r.write = false → r.data = [] ∧ r.epoch = 0

/-- Whatever its last word, a request reads back from its words. -/
theorem parseReq_body {r : Req} (h : r.InRange) (c : Nat) : parseReq (r.body ++ [c]) = r := by
  obtain ⟨hunit, hoff, hn, hepoch, hwrite, hread⟩ := h
  cases r with
  | mk write unit off n epoch data =>
    simp only at hunit hoff hn hepoch hwrite hread
    have hu : bits (flag write 15 + 2048 * unit + off) 14 11 = unit := by cases write <;> simp [bits, flag] <;> omega
    have ho : bits (flag write 15 + 2048 * unit + off) 10 0 = off := by cases write <;> simp [bits, flag] <;> omega
    have hw : bit (flag write 15 + 2048 * unit + off) 15 = write := by cases write <;> simp [bit, flag] <;> omega
    have he : bits (256 * epoch + n) 15 8 = epoch := by simp [bits]; omega
    have hc : (256 * epoch + n) % 128 = n := by omega
    cases write with
    | true =>
      have hdata : (data ++ [c]).take n = data := List.take_left' (hwrite rfl)
      simp [parseReq, Req.body, Nat.mod_eq_of_lt hunit, Nat.mod_eq_of_lt hoff, Nat.mod_eq_of_lt hn,
        Nat.mod_eq_of_lt hepoch, hu, ho, hw, he, hc, hdata]
    | false =>
      obtain ⟨rfl, rfl⟩ := hread rfl
      simp [parseReq, Req.body, Nat.mod_eq_of_lt hunit, Nat.mod_eq_of_lt hoff, Nat.mod_eq_of_lt hn, hu, ho, hw]

theorem body_length (r : Req) : r.body.length = 2 + r.data.length := by simp [Req.body]; omega

/-- The port judges a request by its last word. -/
theorem arrival_body {r : Req} (h : r.InRange) (c : Nat) :
    arrival (r.body ++ [c]) = if c = crcMgt r.body then .good r else .badCrc r.unit := by
  have htake : (r.body ++ [c]).take (2 + r.data.length) = r.body := List.take_left' (body_length r)
  have hcrc : (r.body ++ [c]).getD (2 + r.data.length) 0 = c := by simp [← body_length r]
  have hlen : (r.body ++ [c]).length = 3 + r.data.length := by simp [body_length]; omega
  have hwhole : ¬(r.body ++ [c]).length < 3 := by omega
  have hall : (r.write && decide ((r.body ++ [c]).length < 3 + r.n)) = false := by
    cases hw : r.write with
    | false => rfl
    | true => simp [hlen, h.write hw]
  unfold arrival
  rw [parseReq_body h]
  simp only [htake, hcrc, hwhole, hall, decide_false, Bool.or_self, Bool.false_eq_true, if_false]

/-- Settles O55: a request reads back from its words, and its last word is judged by them. -/
theorem requestWordsSpellTheRequest : Obligations.RequestWordsSpellTheRequest := by
  unfold Obligations.RequestWordsSpellTheRequest
  intro r hunit hoff hn hepoch hwrite hread
  have h : r.InRange := ⟨hunit, hoff, hn, hepoch, hwrite, hread⟩
  refine ⟨?_, fun c hc => ?_⟩
  · rw [Req.words, arrival_body h, if_pos rfl]
  · rw [arrival_body h, if_neg hc]

/-! ### A read abandoned before the engine serves (R529) -/

/-- An engine in bring-up: the port is live, and not yet serving. -/
def State.notServing : State := State.reset.modPower (fun p => { p with phase := .bringup })

theorem notServing_settled : State.notServing.Settled := ⟨rfl, rfl, rfl, rfl, rfl⟩

theorem arrival_hostRead : arrival (hostRead 0 0x038 1).words = .good (hostRead 0 0x038 1) := by
  rw [Req.words, arrival_body ⟨by decide, by decide, by decide, by decide, by decide, fun _ => ⟨rfl, rfl⟩⟩, if_pos rfl]

theorem status_notServing : State.notServing.status (hostRead 0 0x038 1) = 1 := rfl

/-- A read of which no data word is shifted out returns its status word alone. -/
theorem read_abandoned {t : State} (h : exec (.mgtRead (hostRead 0 0x038 1).words 0) State.notServing = .next t) :
    t.sys.response.length = 1 := by
  rw [exec_mgtRead, execMgtRead, mgtFrame_good arrival_hostRead] at h
  have hlive : State.notServing.portLive = true := rfl
  unfold State.mgtRequest at h
  rw [if_pos hlive, performMgt_after] at h
  rw [← Host.Outcome.next.inj h]
  rfl

/-- Refutes O57: the response to a request that the port answers NOT_READY has a data word for each word read, and of a
read that the host abandons before them (its first clause, with 0 words shifted) it shows the status word alone. -/
theorem not_refusedFrameOnlyCounts : ¬ Obligations.RefusedFrameOnlyCounts := by
  unfold Obligations.RefusedFrameOnlyCounts
  rintro ⟨hread, _⟩
  obtain ⟨⟨t, hexec, hresponse, _⟩, _⟩ :=
    hread (hostRead 0 0x038 1) 0 State.notServing notServing_settled arrival_hostRead rfl (by rw [status_notServing]; decide)
  have hlen := read_abandoned hexec
  rw [hresponse, status_notServing] at hlen
  exact absurd hlen (by decide)

end Sys2Proof.Machine
end

section
/-!
PROOFS. Reads (R527, R529): what a read clears, its frame, and the registers that show the state.
-/

namespace Sys2Proof.Machine

/-! ### What a read changes -/

section consume

variable (s : State)

/-- No field that advances an epoch is cleared by a read (R531). -/
theorem consumeWord_tracked (u o v : Nat) : (s.consumeWord u o).tracked v = s.tracked v := by
  unfold State.consumeWord
  dsimp only
  split <;> rfl

theorem consumeWord_marks (u o : Nat) : (s.consumeWord u o).sys.marks = s.sys.marks := by
  unfold State.consumeWord
  dsimp only
  split <;> rfl

theorem consumeWord_epochs (u o : Nat) : (s.consumeWord u o).sys.epochs = s.sys.epochs := by
  unfold State.consumeWord
  dsimp only
  split <;> rfl

theorem consumeWord_fresh (u o : Nat) : (s.consumeWord u o).log.fresh = s.log.fresh := by
  unfold State.consumeWord
  dsimp only
  split <;> rfl

end consume

/-- Two states alike in all that an epoch follows. -/
structure SameEpochs (s t : State) : Prop where
  tracked : ∀ v, t.tracked v = s.tracked v
  marks : t.sys.marks = s.sys.marks
  epochs : t.sys.epochs = s.sys.epochs
  fresh : t.log.fresh = s.log.fresh

theorem SameEpochs.refl (s : State) : SameEpochs s s := ⟨fun _ => rfl, rfl, rfl, rfl⟩

theorem SameEpochs.trans {s t u : State} (h1 : SameEpochs s t) (h2 : SameEpochs t u) : SameEpochs s u :=
  ⟨fun v => (h2.tracked v).trans (h1.tracked v), h2.marks.trans h1.marks, h2.epochs.trans h1.epochs, h2.fresh.trans h1.fresh⟩

theorem sameEpochs_consume (s : State) (u o : Nat) : SameEpochs s (s.consumeWord u o) :=
  ⟨consumeWord_tracked s u o, consumeWord_marks s u o, consumeWord_epochs s u o, consumeWord_fresh s u o⟩

theorem sameEpochs_advanceSel (s : State) (sel : Option FaultRec) : SameEpochs s (s.advanceSel sel) := by
  cases sel with
  | none => exact SameEpochs.refl s
  | some r => exact ⟨fun _ => rfl, rfl, rfl, rfl⟩

theorem sameEpochs_read {r : Req} (hap : r.aperture = false) (s : State) (k : Nat) : SameEpochs s (s.applyRead r k) := by
  have hfold : ∀ (os : List Nat) (x : State), SameEpochs x (os.foldl (fun x o => x.consumeWord r.unit o) x) := by
    intro os
    induction os with
    | nil => exact SameEpochs.refl
    | cons o os ih => exact fun x => (sameEpochs_consume x r.unit o).trans (ih _)
  unfold State.applyRead
  simp only [hap, Bool.false_eq_true, if_false]
  split
  · exact (hfold _ s).trans (sameEpochs_advanceSel _ _)
  · exact hfold _ s

/-- A command that changes nothing an epoch follows leaves the epochs. -/
theorem answered_epochs_of_same {s s1 : State} {w : List Nat} {k : Nat} (hs : s.Settled)
    (h : SameEpochs s.mgtOpen.clearOut s1) : (s.answered s1 w k).sys.epochs = s.sys.epochs := by
  have hep : s1.sys.epochs = s.sys.epochs := h.epochs
  have hm : s1.sys.marks = [] := h.marks.trans hs.marks_nil
  have hf : s1.log.fresh = 0 := h.fresh.trans hs.fresh_zero
  exact (settle_sys_epochs (s0 := s.mgtOpen.clearOut) rfl hf (hep ▸ hs.epochs_length) hm h.tracked).trans hep

/-- A read answered OK outside the aperture. -/
theorem mgtRequest_read_register {s : State} {r : Req} (hs : s.Settled) (ha : s.Accepts r) (hw : r.write = false)
    (hap : r.aperture = false) (k : Nat) :
    ∃ j, s.mgtRequest r k 0 = .next (s.answered (s.mgtOpen.clearOut.applyRead r k)
        ((answer 0 r.unit (s.sys.epochs.getD r.unit 0) (s.readData r)).take (if r.n ≤ k then r.n + 2 else k + 1)) j) := by
  have heffect : s.mgtOpen.clearOut.frameEffect r 0 k 0 = s.mgtOpen.clearOut.applyRead r k := by
    simp [State.frameEffect, hw, hap]
  have hep := answered_epochs_of_same (w := []) (k := 0) hs (sameEpochs_read hap s.mgtOpen.clearOut k)
  have hep' : (s.mgtOpen.after (s.mgtOpen.clearOut.applyRead r k)).sys.epochs = s.sys.epochs := hep
  have hdata : s.frameData r 0 = s.readData r := by simp [State.frameData, hw]
  have hlen : (s.readData r).length = r.n := by simp [State.readData, hap, Req.offsets]
  have hanswer : ∀ e, (answer 0 r.unit e (s.readData r)).length = r.n + 2 := by simp [answer, hlen]
  rw [mgtRequest_ok ha, performMgt_after, heffect]
  refine ⟨r.words.length, ?_⟩
  unfold State.answered State.shiftedOut
  rw [hep', hdata, hlen, hw]
  by_cases hk : r.n ≤ k
  · simp [hk, List.take_of_length_le (Nat.le_of_eq (hanswer _))]
  · simp [hk]

/-! ### Registers that a read clears (R478, R529) -/

section clearing

variable {s : State}

theorem applyRead_words {r : Req} (hap : r.aperture = false) (hu : r.unit ≠ 0) (k : Nat) :
    s.applyRead r k = (r.offsets.take k).foldl (fun x o => x.consumeWord r.unit o) s := by
  simp [State.applyRead, hap, hu]

/-- One register read and returned whole. -/
theorem oneRead_answered {u o : Nat} (ha : s.Accepts (hostRead u o 1)) (hap : (hostRead u o 1).aperture = false)
    (hsel : ¬(u = 0 ∧ o = 0x11F)) {k : Nat} (hk : 1 ≤ k) :
    ∃ w j, s.mgtRequest (hostRead u o 1) k 0 = .next (s.answered (s.mgtOpen.clearOut.consumeWord u o) w j)
      ∧ (s.answered (s.mgtOpen.clearOut.consumeWord u o) w j).Replied (hostRead u o 1) [(s.regWord u o).getD 0] := by
  have hdata : s.readData (hostRead u o 1) = [(s.regWord u o).getD 0] := by
    simp only [State.readData, hap, Bool.false_eq_true, if_false]
    simp [Req.offsets, hostRead]
  have hone : [o].take k = [o] := List.take_of_length_le hk
  have hsel' : u = 0 → ¬0x11F = o := fun hu ho => hsel ⟨hu, ho.symm⟩
  have heffect : s.mgtOpen.clearOut.frameEffect (hostRead u o 1) 0 k 0 = s.mgtOpen.clearOut.consumeWord u o := by
    simp only [State.frameEffect, State.applyRead, hap, Bool.false_eq_true, if_false]
    have hoff : (hostRead u o 1).offsets = [o] := by simp [Req.offsets, hostRead]
    have hwrite : (hostRead u o 1).write = false := rfl
    have hunit : (hostRead u o 1).unit = u := rfl
    rw [hoff, hone, hwrite, hunit]
    simpa using fun hu ho => absurd ho (hsel' hu)
  rw [← hdata]
  exact mgtRequest_read ha rfl (by rw [hdata]; simpa using hk) heffect

theorem clearOnRead_answered {u o : Nat} (ha : s.Accepts (hostRead u o 1)) (hap : (hostRead u o 1).aperture = false)
    (hsel : ¬(u = 0 ∧ o = 0x11F)) :
    ∃ w j, exec (.clearOnRead u o) s = .next (s.answered (s.mgtOpen.clearOut.consumeWord u o) w j)
      ∧ (s.answered (s.mgtOpen.clearOut.consumeWord u o) w j).Replied (hostRead u o 1) [(s.regWord u o).getD 0] :=
  oneRead_answered ha hap hsel (Nat.le_refl 1)

end clearing

theorem clearOnRead_frames (s : State) (hs : s.Settled) (ha : s.Accepts (hostRead 0 0x03A 1)) :
    ∃ t, exec (.clearOnRead 0 0x03A) s = .next t ∧ t.Replied (hostRead 0 0x03A 1) [(s.regWord 0 0x03A).getD 0]
      ∧ t.sys.bare = { s.sys with badCrc := 0, aborts := 0 }.bare ∧ Frame [.sys] s t := by
  obtain ⟨w, k, hexec, hreply⟩ := clearOnRead_answered ha (by decide) (by decide)
  exact ⟨_, hexec, hreply, answered_sys_bare, ((Alters.refl _ _).modSys (by simp)).frame_answered hs⟩

theorem clearOnRead_refusals (s : State) (hs : s.Settled) (ha : s.Accepts (hostRead 0 0x03B 1)) :
    ∃ t, exec (.clearOnRead 0 0x03B) s = .next t ∧ t.Replied (hostRead 0 0x03B 1) [(s.regWord 0 0x03B).getD 0]
      ∧ t.sys.bare = { s.sys with stale := 0, denied := 0 }.bare ∧ Frame [.sys] s t := by
  obtain ⟨w, k, hexec, hreply⟩ := clearOnRead_answered ha (by decide) (by decide)
  exact ⟨_, hexec, hreply, answered_sys_bare, ((Alters.refl _ _).modSys (by simp)).frame_answered hs⟩

theorem clearOnRead_grants (o : Nat) (s : State) (hs : s.Settled) (ha : s.Accepts (hostRead 3 o 1))
    (ho : o = 1 ∨ o = 2 ∨ o = 3) :
    ∃ t, exec (.clearOnRead 3 o) s = .next t ∧ t.Replied (hostRead 3 o 1) [(s.regWord 3 o).getD 0]
      ∧ t.mem = { s.mem with
          c0Worst := if o = 1 then 0 else s.mem.c0Worst, c0Port := if o = 1 then 0 else s.mem.c0Port
          c1Worst := if o = 2 then 0 else s.mem.c1Worst, c2Worst := if o = 3 then 0 else s.mem.c2Worst }
      ∧ Frame [.mem] s t := by
  have hap : (hostRead 3 o 1).aperture = false := by rcases ho with rfl | rfl | rfl <;> rfl
  have halters : Alters [.mem] s.mgtOpen.clearOut (s.mgtOpen.clearOut.consumeWord 3 o) := by
    rcases ho with rfl | rfl | rfl <;> exact (Alters.refl _ _).modMem (by simp)
  obtain ⟨w, k, hexec, hreply⟩ := clearOnRead_answered ha hap (by omega)
  refine ⟨_, hexec, hreply, ?_, halters.frame_answered hs⟩
  rw [answered_mem]
  rcases ho with rfl | rfl | rfl <;> simp [State.consumeWord]

theorem clearOnRead_bus (s : State) (hs : s.Settled) (ha : s.Accepts (hostRead 6 0x129 1)) :
    ∃ t, exec (.clearOnRead 6 0x129) s = .next t ∧ t.Replied (hostRead 6 0x129 1) [(s.regWord 6 0x129).getD 0]
      ∧ t.lux = { s.lux with crcErr := 0, bus := [] } ∧ Frame [.lux] s t := by
  obtain ⟨w, k, hexec, hreply⟩ := clearOnRead_answered ha (by decide) (by decide)
  exact ⟨_, hexec, hreply, by simp [State.consumeWord], ((Alters.refl _ _).modLux (by simp)).frame_answered hs⟩

theorem clearOnRead_peak (l : Lane) (s : State) (hs : s.Settled) (ha : s.Accepts (hostRead (tillUnit l) 0x00D 1)) :
    ∃ t, exec (.clearOnRead (tillUnit l) 0x00D) s = .next t
      ∧ t.Replied (hostRead (tillUnit l) 0x00D 1) [(s.regWord (tillUnit l) 0x00D).getD 0]
      ∧ (t.lane l).till = { (s.lane l).till with peak := s.tillFill l / 64 } ∧ Frame [.lane l] s t := by
  have hfill : s.mgtOpen.clearOut.tillFill l = s.tillFill l := by cases l <;> rfl
  have hcons : s.mgtOpen.clearOut.consumeWord (tillUnit l) 0x00D =
      s.mgtOpen.clearOut.modTill l (fun t => { t with peak := s.tillFill l / 64 }) := by
    rw [← hfill]
    cases l <;> rfl
  obtain ⟨w, k, hexec, hreply⟩ := clearOnRead_answered ha (by cases l <;> decide) (by cases l <;> decide)
  rw [hcons] at hexec hreply
  exact ⟨_, hexec, hreply, by simp, ((Alters.refl _ _).modLane (by simp)).frame_answered hs⟩

theorem clearOnRead_errors (l : Lane) (s : State) (hs : s.Settled) (ha : s.Accepts (hostRead (tillUnit l) 0x04F 1)) :
    ∃ t, exec (.clearOnRead (tillUnit l) 0x04F) s = .next t
      ∧ t.Replied (hostRead (tillUnit l) 0x04F 1) [(s.regWord (tillUnit l) 0x04F).getD 0]
      ∧ (t.lane l).link = { (s.lane l).link with errCode := 0, errDisc := 0 } ∧ Frame [.lane l] s t := by
  have hcons : s.mgtOpen.clearOut.consumeWord (tillUnit l) 0x04F =
      s.mgtOpen.clearOut.modLink l (fun k => { k with errCode := 0, errDisc := 0 }) := by cases l <;> rfl
  obtain ⟨w, k, hexec, hreply⟩ := clearOnRead_answered ha (by cases l <;> decide) (by cases l <;> decide)
  rw [hcons] at hexec hreply
  exact ⟨_, hexec, hreply, by simp, ((Alters.refl _ _).modLane (by simp)).frame_answered hs⟩

/-! ### Results of the housekeeping converters (R478) -/

/-- A result read from its register is consumed. -/
def State.resultRead (s : State) (b : Bool) : State :=
  s.modConv b (fun c => { c with res := { c.res with full := false } })

theorem resultRead_alters (s : State) (b : Bool) : Alters [.hk] s (s.resultRead b) := (Alters.refl _ _).modHk (by simp)

theorem resultRead_conv (s : State) (b : Bool) :
    (s.resultRead b).conv b = { s.conv b with res := { (s.conv b).res with full := false } } := by cases b <;> rfl

theorem conv_of_hk {s t : State} (h : t.hk = s.hk) (b : Bool) : t.conv b = s.conv b := by
  unfold State.conv
  rw [h]

theorem answered_resultRead {s : State} {w : List Nat} {j : Nat} (b : Bool) :
    (s.answered (s.mgtOpen.clearOut.resultRead b) w j).conv b =
      { s.conv b with res := { (s.conv b).res with full := false } } := by
  rw [conv_of_hk (answered_hk _ _ _ _), resultRead_conv]
  have h : s.mgtOpen.clearOut.conv b = s.conv b := conv_of_hk rfl b
  rw [h]

theorem hkResultRead_value (b : Bool) (k : Nat) (s : State) (hs : s.Settled)
    (ha : s.Accepts (hostRead 5 (if b then 0x00B else 0x009) 1)) (hk : 1 ≤ k) :
    ∃ t, exec (.hkResultRead b false k) s = .next t
      ∧ t.Replied (hostRead 5 (if b then 0x00B else 0x009) 1) [word16 (s.conv b).res.val]
      ∧ t.conv b = { s.conv b with res := { (s.conv b).res with full := false } } ∧ Frame [.hk] s t := by
  have hcons : s.mgtOpen.clearOut.consumeWord 5 (if b then 0x00B else 0x009) = s.mgtOpen.clearOut.resultRead b := by
    cases b <;> rfl
  have hword : (s.regWord 5 (if b then 0x00B else 0x009)).getD 0 = word16 (s.conv b).res.val := by cases b <;> rfl
  obtain ⟨w, j, hexec, hreply⟩ := oneRead_answered ha (by cases b <;> rfl) (by simp) hk
  rw [hcons] at hexec hreply
  rw [hword] at hreply
  exact ⟨_, hexec, hreply, answered_resultRead b, (resultRead_alters _ b).frame_answered hs⟩

theorem hkResultRead_tagged (b : Bool) (k : Nat) (s : State) (hs : s.Settled)
    (ha : s.Accepts (hostRead 5 (if b then 0x00A else 0x008) 2)) (hk : 2 ≤ k) :
    ∃ t, exec (.hkResultRead b true k) s = .next t
      ∧ t.Replied (hostRead 5 (if b then 0x00A else 0x008) 2) [(s.conv b).res.tag, word16 (s.conv b).res.val]
      ∧ t.conv b = { s.conv b with res := { (s.conv b).res with full := false } } ∧ Frame [.hk] s t := by
  have hdata : s.readData (hostRead 5 (if b then 0x00A else 0x008) 2) =
      [(s.conv b).res.tag, word16 (s.conv b).res.val] := by cases b <;> rfl
  have hboth : (hostRead 5 (if b then 0x00A else 0x008) 2).offsets.take k =
      [if b then 0x00A else 0x008, if b then 0x00B else 0x009] := by
    rw [List.take_of_length_le (by simpa [Req.offsets, hostRead] using hk)]
    cases b <;> rfl
  have heffect : s.mgtOpen.clearOut.frameEffect (hostRead 5 (if b then 0x00A else 0x008) 2) 0 k 0 =
      s.mgtOpen.clearOut.resultRead b := by
    have hread : s.mgtOpen.clearOut.frameEffect (hostRead 5 (if b then 0x00A else 0x008) 2) 0 k 0 =
        s.mgtOpen.clearOut.applyRead (hostRead 5 (if b then 0x00A else 0x008) 2) k := rfl
    rw [hread, applyRead_words (by cases b <;> rfl) (by simp [hostRead]), hboth]
    cases b <;> rfl
  obtain ⟨w, j, hexec, hreply⟩ := mgtRequest_read ha rfl (by rw [hdata]; simpa using hk) heffect
  have hcmd : exec (.hkResultRead b true k) s = s.mgtRequest (hostRead 5 (if b then 0x00A else 0x008) 2) k 0 := by
    cases b <;> rfl
  rw [hdata] at hreply
  exact ⟨_, hcmd.trans hexec, hreply, answered_resultRead b, (resultRead_alters _ b).frame_answered hs⟩

/-- Settles O59: each of these reads consumes the one word it returns. -/
theorem clearingReads : Obligations.ClearingReads := by
  unfold Obligations.ClearingReads
  exact ⟨clearOnRead_frames, clearOnRead_refusals, clearOnRead_grants, clearOnRead_bus, clearOnRead_peak,
    clearOnRead_errors, hkResultRead_value, hkResultRead_tagged⟩

/-! ### Registers (R530) -/

/-- Reads that clear a word, consume a result or move the selector (R478, R529, R569). -/
def clearedByRead : List (Nat × Nat) :=
  [(0, 0x03A), (0, 0x03B), (0, 0x11F), (3, 0x001), (3, 0x002), (3, 0x003),
    (5, 0x009), (5, 0x00B), (6, 0x129), (10, 0x00D), (10, 0x04F), (14, 0x00D), (14, 0x04F)]

theorem consumeWord_of_other (s : State) {u o : Nat} (h : (u, o) ∉ clearedByRead) : s.consumeWord u o = s := by
  unfold State.consumeWord
  dsimp only
  split <;> simp_all [clearedByRead]

theorem applyRead_of_other (s : State) {r : Req} (hap : r.aperture = false) {k : Nat}
    (h : ∀ o ∈ r.offsets.take k, (r.unit, o) ∉ clearedByRead) : s.applyRead r k = s := by
  have hfold : ∀ os : List Nat, (∀ o ∈ os, (r.unit, o) ∉ clearedByRead) →
      os.foldl (fun x o => x.consumeWord r.unit o) s = s := by
    intro os
    induction os with
    | nil => intro _; rfl
    | cons o os ih =>
      intro ho
      rw [List.foldl_cons, consumeWord_of_other s (ho o (by simp))]
      exact ih (fun x hx => ho x (by simp [hx]))
  have hsel : (decide (r.unit = 0) && (r.offsets.take k).contains 0x11F) = false := by
    cases hin : (r.offsets.take k).contains 0x11F with
    | false => simp
    | true =>
      have hne := h 0x11F (by simpa using hin)
      simp only [Bool.and_true, decide_eq_false_iff_not]
      intro hu
      rw [hu] at hne
      exact hne (by decide)
  unfold State.applyRead
  simp only [hap, Bool.false_eq_true, if_false, hfold _ h, hsel]

theorem read_returns (r : Req) (k : Nat) (s : State) (hs : s.Settled) (har : arrival r.words = .good r) (ha : s.Accepts r)
    (hw : r.write = false) (hap : r.aperture = false) : ∃ t, exec (.mgtRead r.words k) s = .next t
      ∧ t.sys.response = (answer 0 r.unit (s.sys.epochs.getD r.unit 0) (r.offsets.map (fun o =>
          (s.regWord r.unit o).getD 0))).take (if r.n ≤ k then r.n + 2 else k + 1)
      ∧ t.sys.epochs = s.sys.epochs
      ∧ ((∀ o ∈ r.offsets.take k, (r.unit, o) ∉ clearedByRead) → Frame [] s t) := by
  obtain ⟨j, hexec⟩ := mgtRequest_read_register hs ha hw hap k
  have hcmd : exec (.mgtRead r.words k) s = s.mgtRequest r k 0 := by
    rw [exec_mgtRead, execMgtRead, mgtFrame_good har, hw]
    rfl
  have hdata : s.readData r = r.offsets.map (fun o => (s.regWord r.unit o).getD 0) := by simp [State.readData, hap]
  refine ⟨_, hcmd.trans hexec, ?_, answered_epochs_of_same hs (sameEpochs_read hap _ k), fun hother => ?_⟩
  · unfold State.answered
    rw [State.modSys_sys, hdata]
  · rw [applyRead_of_other _ hap hother]
    exact (Alters.refl _ _).frame_answered hs

theorem regWord_timer (n : Nat) (s : State) (hn : n < 16) :
    s.regWord 4 (8 * n) = some ((s.tmr.ts.getD n {}).cnt % 65536)
      ∧ s.regWord 4 (8 * n + 1) = some ((s.tmr.ts.getD n {}).rld % 65536)
      ∧ s.regWord 4 (8 * n + 2) = some ((s.tmr.ts.getD n {}).cmp % 65536) := by
  have hplace : ∀ k, k < 8 → inArray (8 * n + k) 0 8 16 = some (n, k) := by
    intro k hk
    have hdiv : (8 * n + k) / 8 = n := by omega
    have hmod : (8 * n + k) % 8 = k := by omega
    simp [inArray, hdiv, hmod]
    omega
  have h0 := hplace 0 (by omega)
  rw [Nat.add_zero] at h0
  simp [State.regWord, State.tmrWord, h0, hplace 1, hplace 2, State.tmrWords, lo16]

theorem regWord_housekeeping (n : Nat) (s : State) (hn : n < 24) :
    s.regWord 5 (0x040 + 8 * n) = some (unsigned 16 (s.hkChan n).last)
      ∧ s.regWord 5 (0x041 + 8 * n) = some (unsigned 16 (s.hkChan n).raw) := by
  have hplace : ∀ k, k < 8 → inArray (0x040 + k + 8 * n) 0x040 8 24 = some (n, k) := by
    intro k hk
    have hdiv : (0x040 + k + 8 * n - 0x040) / 8 = n := by omega
    have hmod : (0x040 + k + 8 * n - 0x040) % 8 = k := by omega
    simp only [inArray, hdiv, hmod]
    exact if_pos (by omega)
  have h0 : inArray (64 + 8 * n) 64 8 24 = some (n, 0) := hplace 0 (by omega)
  have h1 : inArray (65 + 8 * n) 64 8 24 = some (n, 1) := hplace 1 (by omega)
  have hlow : ∀ k, 64 ≤ k → ¬(k + 8 * n < 6) ∧ ¬(8 ≤ k + 8 * n ∧ k + 8 * n ≤ 11) := by omega
  simp only [State.regWord, State.hkWord, hlow 64 (by omega), hlow 65 (by omega), if_false, h0, h1]
  exact ⟨rfl, rfl⟩

theorem regWord_channel (n : Nat) (s : State) (hn : n < 8) :
    s.regWord 6 (8 * n + 1) = some ((s.lux.ch.getD n {}).set % 4096)
      ∧ s.regWord 6 (8 * n + 3) = some ((s.lux.ch.getD n {}).q % 65536) := by
  have hplace : ∀ k, k < 8 → inArray (8 * n + k) 0 8 8 = some (n, k) := by
    intro k hk
    have hdiv : (8 * n + k) / 8 = n := by omega
    have hmod : (8 * n + k) % 8 = k := by omega
    simp [inArray, hdiv, hmod]
    omega
  simp [State.regWord, State.luxWord, hplace 1, hplace 3, State.chWords, lo16]

theorem regWord_engine (s : State) : s.regWord 0 0x038 = some (s.sys.events % 65536)
    ∧ s.regWord 0 0x039 = some (s.sys.mask % 65536)
    ∧ s.regWord 0 0x106 = some (s.log.ack % 65536) ∧ s.regWord 0 0x107 = some (s.log.ack / 65536 % 65536)
    ∧ s.regWord 1 0x001 = some (s.pwr.vrms % 65536) ∧ s.regWord 1 0x008 = some (s.pwr.busV % 65536)
    ∧ s.regWord 2 0x000 = some (flag s.clk.locked 0 + flag s.clk.hold 1 + flag s.clk.onRef 2 + flag s.clk.pause 3
        + 16 * (s.clk.pattern % 4) + 64 * (s.clk.fcode % 4) + 256 * (s.clk.spread % 8) + flag s.clk.refLost 11)
    ∧ s.regWord 2 0x006 = some (s.clk.holds % 256 + 256 * (s.clk.tries % 8))
    ∧ s.regWord 3 0x004 = some (s.mem.hwin % 16) ∧ s.regWord 3 0x005 = some (s.mem.hoff % 65536)
    ∧ s.regWord 4 0x0B0 = some (s.tmr.tsc / 2 ^ 32 % 65536) ∧ s.regWord 4 0x0B1 = some (s.tmr.tsc / 65536 % 65536)
    ∧ s.regWord 4 0x0B2 = some (s.tmr.tsc % 65536)
    ∧ s.regWord 7 0x001 = some (s.ledger.seq % 65536) ∧ s.regWord 7 0x002 = some (s.ledger.seq / 65536 % 65536) :=
  ⟨rfl, rfl, rfl, rfl, rfl, rfl, rfl, rfl, rfl, rfl, rfl, rfl, rfl, rfl, rfl⟩

theorem regWord_lane (l : Lane) (s : State) :
    s.regWord (headUnit l) 0x000 = some (modeCode (s.lane l).mode.mode + 16 * modeCode (s.lane l).mode.origin
        + 256 * ((((s.lane l).mode.prog.map Program.num).getD 0) % 16) + flag (s.lane l).mode.entering 12
        + flag (s.lane l).mode.ending 13 + flag (s.lane l).mode.trip 14 + flag (s.lane l).mode.halted 15)
    ∧ s.regWord (headUnit l) 0x002 = some ((s.lane l).mode.reason % 16 + 16 * ((s.lane l).mode.source % 2)
        + 32 * ((s.lane l).mode.refProg % 16) + 512 * ((s.lane l).mode.refCount % 128))
    ∧ s.regWord (pixUnit l) 0x00C = some ((s.lane l).pix.lines % 65536)
    ∧ s.regWord (tillUnit l) 0x008 = some ((s.lane l).till.wptr % 65536)
    ∧ s.regWord (tillUnit l) 0x00A = some ((s.lane l).till.rptr % 65536)
    ∧ s.regWord (tillUnit l) 0x040 = some (linkCode (s.lane l).link.st + flag (s.lane l).link.resync 3
        + 16 * ((s.lane l).link.mag % 8) + flag (s.lane l).link.dual 7)
    ∧ s.regWord (tillUnit l) 0x045 = some ((s.lane l).link.scanId % 65536)
    ∧ s.regWord (axisUnit l) 0x007 = some (unsigned 32 (s.lane l).axis.pos % 65536)
    ∧ s.regWord (axisUnit l) 0x008 = some (unsigned 32 (s.lane l).axis.pos / 65536 % 65536)
    ∧ s.regWord (axisUnit l) 0x009 = some (unsigned 32 (s.lane l).axis.enc % 65536) := by
  cases l <;> exact ⟨rfl, rfl, rfl, rfl, rfl, rfl, rfl, rfl, rfl, rfl⟩

/-- Settles O56: a read returns the words of its registers; these are read off the register tables. -/
theorem readReturnsTheRegisters : Obligations.ReadReturnsTheRegisters := by
  unfold Obligations.ReadReturnsTheRegisters
  exact ⟨read_returns, regWord_engine, regWord_timer, regWord_housekeeping, regWord_channel,
    fun l _ s hx => hx ▸ regWord_lane l s⟩

end Sys2Proof.Machine
end

section
/-!
SUPPORT. What the operations of one lane's run can change: a property that updates of that lane, of light and of the log
keep, with event bits and epoch marks, is kept by each of them. The other lane stands, and so do the lane's trip and its
head's identity.
-/

namespace Sys2Proof.Machine

/-- What of a lane no operation of its run touches: its trip, and what is known of its head. -/
def LaneSt.still (x : LaneSt) : Bool × Nat × Option (List Nat) := (x.mode.trip, x.head.idState, x.head.digest)

/-- `P` is kept by the updates that the operations of lane `l`'s run are made of. -/
structure KeptAt (l : Lane) (P : State → Prop) : Prop where
  lane  : ∀ {s f}, (∀ x : LaneSt, (f x).still = x.still) → P s → P (State.modLane s l f)
  lux   : ∀ {s f}, P s → P (State.modLux s f)
  log   : ∀ {s f}, P s → P (State.modLog s f)
  mark  : ∀ {s u}, P s → P (State.mark s u)
  event : ∀ {s b}, P s → P (State.event s b)

theorem frameEffect_still (t : Nat) (f : List Nat) (x : LaneSt) : (frameEffect t f x).still = x.still := by
  unfold frameEffect
  dsimp only
  split <;> rfl

theorem lose_still (x : LaneSt) : x.lose.still = x.still := by
  unfold LaneSt.lose
  dsimp only
  split <;> rfl

namespace KeptAt

variable {l : Lane} {P : State → Prop} (k : KeptAt l P) {s : State}
include k

/-! ### Updates of one unit of the lane -/

theorem mode {f} (hf : ∀ y : ModeSt, (f y).trip = y.trip) (h : P s) : P (s.modMode l f) :=
  k.lane (fun x => by simp [LaneSt.still, hf]) h
theorem head {f} (hf : ∀ y : HeadSt, (f y).idState = y.idState ∧ (f y).digest = y.digest) (h : P s) : P (s.modHead l f) :=
  k.lane (fun x => by simp [LaneSt.still, hf]) h
theorem pix {f} (h : P s) : P (s.modPix l f) := k.lane (fun _ => rfl) h
theorem cal {f} (h : P s) : P (s.modCal l f) := k.lane (fun _ => rfl) h
theorem till {f} (h : P s) : P (s.modTill l f) := k.lane (fun _ => rfl) h
theorem link {f} (h : P s) : P (s.modLink l f) := k.lane (fun _ => rfl) h
theorem lrun {f} (h : P s) : P (s.modLrun l f) := k.lane (fun _ => rfl) h
theorem axis {f} (h : P s) : P (s.modAxis l f) := k.lane (fun _ => rfl) h
theorem arun {f} (h : P s) : P (s.modArun l f) := k.lane (fun _ => rfl) h

/-! ### Records -/

theorem place {r} (h : P s) : P (s.place r).1 := k.event (k.log (f := fun _ => (s.log.put r).1) h)

theorem record {c n p d} (h : P s) : P (s.record c n p d) := by
  have h1 := k.place (r := s.mkRec c n p d) h
  show P (if (s.place (s.mkRec c n p d)).2 && (s.place (s.mkRec c n p d)).1.dropDue
    then (s.place (s.mkRec c n p d)).1.reportDrops else (s.place (s.mkRec c n p d)).1)
  split
  · exact k.place (k.log h1)
  · exact h1

theorem note {c d} (h : P s) : P (s.note c d) := k.record h
theorem noteItem {c o d} (h : P s) : P (s.noteItem c o d) := k.record h
theorem recordL {j c n d} (h : P s) : P (s.recordL j c n d) := k.record h
theorem noteL {j c d} (h : P s) : P (s.noteL j c d) := k.record h

/-! ### Light -/

theorem modLightHead {a f} (h : P s) : P (s.modLightHead a f) := k.lux h

theorem driveCh {n c} (h : P s) : P (s.driveCh n c) := by unfold State.driveCh; exact k.lux h

theorem busSend {f} (h : P s) : P (s.busSend f) := by
  unfold State.busSend
  split
  · exact h
  · exact k.lux h

theorem stage {c} (h : P s) : P (s.stage c).1 := foldl_keeps (fun h => k.modLightHead (k.busSend h)) _ h

theorem stageFirst {p} (h : P s) : P (s.stageFirst p) := by
  unfold State.stageFirst
  dsimp only
  split
  · exact h
  · split
    · exact h
    · exact k.lux (k.stage h)

theorem dropFor {c} (h : P s) : P (s.dropFor c) := by
  unfold State.dropFor
  split
  · refine foldl_keeps (fun h => k.modLightHead h) _ ?_
    unfold State.sendDrop
    split
    · exact k.lux h
    · exact k.busSend h
  · exact h

theorem discard {f} (h : P s) : P (s.discard f) := by
  unfold State.discard
  exact k.lux (foldl_keeps (fun h => k.dropFor h) _ h)

theorem plan {c} (h : P s) : P (s.plan c) := by
  unfold State.plan
  refine k.stageFirst (k.lux ?_)
  split
  · exact k.discard h
  · exact h

theorem discardLane {j} (h : P s) : P (s.discardLane j) := k.discard h
theorem rearmLane {j} (h : P s) : P (s.rearmLane j) := by unfold State.rearmLane; exact k.lux h

/-! ### Till and link -/

theorem setWptr {n} (h : P s) : P (s.setWptr l n) := by unfold State.setWptr; exact k.till h
theorem advRptr {n} (h : P s) : P (s.advRptr l n) := by unfold State.advRptr; exact k.till h
theorem clearTill (h : P s) : P (s.clearTill l) := k.till h

theorem wire {t f} (h : P s) : P (s.wire l t f) := by
  unfold State.wire
  dsimp only
  split
  · exact k.mark (k.lane (frameEffect_still t f) (k.lrun h))
  · exact k.lane (frameEffect_still t f) (k.lrun h)

theorem sendStatus (h : P s) : P (s.sendStatus l) := by unfold State.sendStatus; exact k.lrun (k.wire h)

theorem tellEpoch (h : P s) : P (s.tellEpoch l) := by
  unfold State.tellEpoch
  dsimp only
  split
  · exact k.sendStatus h
  · exact h

theorem pumpN (n : Nat) : ∀ {s}, P s → P (State.pumpN n s l) := by
  induction n with
  | zero => intro s h; exact h
  | succ n ih =>
    intro s h
    unfold State.pumpN
    split
    · exact ih (k.tellEpoch (k.wire (k.lrun h)))
    · exact h

theorem sayEnd (h : P s) : P (s.sayEnd l) := by
  unfold State.sayEnd
  split
  · exact k.lrun (k.wire h)
  · exact h

theorem stopScan {e} (h : P s) : P (s.stopScan l e) := by
  unfold State.stopScan
  refine k.lrun ?_
  split
  · exact k.wire h
  · split
    · exact k.lrun h
    · exact h

theorem pump (h : P s) : P (s.pump l) := by
  unfold State.pump
  dsimp only
  split
  · exact k.sayEnd (k.pumpN _ (k.tellEpoch h))
  · exact k.tellEpoch h

theorem sendFrame {t f} (h : P s) : P (s.sendFrame l t f) := k.pump (k.lrun h)
theorem frameFirst {t f} (h : P s) : P (s.frameFirst l t f) := k.pump (k.lrun h)

theorem drainQueue (n : Nat) : ∀ {s}, P s → P (State.drainQueue n s l) := by
  induction n with
  | zero => intro s h; exact h
  | succ n ih =>
    intro s h
    unfold State.drainQueue
    split
    · exact ih (k.wire (k.lrun h))
    · exact ih (k.wire (k.link (k.lrun h)))
    · exact h

theorem flushLink {c} (h : P s) : P (s.flushLink l c) := by
  unfold State.flushLink
  extract_lets x keep q s1
  have h1 : P s1 := k.lrun h
  split
  · exact k.drainQueue _ (k.tellEpoch h1)
  · exact h1

theorem giveExposure (h : P s) : P (s.giveExposure l) := k.lane (fun _ => rfl) (k.lane (fun _ => rfl) h)

theorem recallLine (h : P s) : P (s.recallLine l) := by
  unfold State.recallLine
  dsimp only
  split
  · exact k.lrun h
  · exact h

theorem flushTill {c} (h : P s) : P (s.flushTill l c) :=
  k.flushLink (k.lane (fun _ => rfl) (k.giveExposure (k.clearTill h)))

theorem flushNoted {d c} (h : P s) : P (s.flushNoted l d c) := by
  unfold State.flushNoted
  exact k.till (k.noteL (k.flushTill h))

theorem releaseFrom {n} (h : P s) : P (s.releaseFrom l n) := by
  unfold State.releaseFrom
  dsimp only
  split
  · exact h
  · exact k.lane (fun _ => rfl) (k.till (k.setWptr h))

theorem abandonLine {n c b} (h : P s) : P (s.abandonLine l n c b) := by
  have h1 := k.releaseFrom (n := n) h
  unfold State.abandonLine
  generalize s.releaseFrom l n = s1 at h1
  dsimp only
  split
  · exact k.lrun h1
  · split
    · exact k.sendFrame (k.lrun h1)
    · exact k.pump (k.lrun h1)

theorem linkDown (h : P s) : P (s.linkDown l) := by
  unfold State.linkDown
  exact k.lrun (k.lane lose_still (k.link h))
theorem linkTrain (h : P s) : P (s.linkTrain l) := k.lrun (k.link h)
theorem startResync (h : P s) : P (s.startResync l) := k.mark (k.lrun (k.link h))

/-! ### Carriage -/

theorem setMotion {m w} (h : P s) : P (s.setMotion l m w) := k.arun h

theorem brakeNow (h : P s) : P (s.brakeNow l) := by
  unfold State.brakeNow
  split
  · exact h
  · exact k.setMotion h

theorem stopAfter {n} (h : P s) : P (s.stopAfter l n) := by
  unfold State.stopAfter
  refine k.arun (k.axis ?_)
  split
  · exact h
  · split
    · exact h
    · exact k.setMotion h

theorem stopAtNext (h : P s) : P (s.stopAtNext l) := k.stopAfter h
theorem stopSeam (h : P s) : P (s.stopSeam l) := by unfold State.stopSeam; exact k.axis (k.stopAfter h)
theorem freezeAxis {b} (h : P s) : P (s.freezeAxis l b) := by unfold State.freezeAxis; exact k.axis (k.setMotion h)

theorem endMove (h : P s) : P (s.endMove l) := by
  unfold State.endMove
  split
  · exact k.freezeAxis (k.noteL h)
  · exact h

theorem unpowerAxis (h : P s) : P (s.unpowerAxis l) := k.axis (k.arun (k.setMotion h))

/-! ### A run -/

theorem toMode {m} (h : P s) : P (s.toMode l m) := by
  unfold State.toMode
  split
  · exact h
  · exact k.rearmLane (k.mode (fun _ => rfl) h)

theorem beginEnding (h : P s) : P (s.beginEnding l) := by
  unfold State.beginEnding
  extract_lets s1 s2 s3 s4
  have h3 : P s3 := k.axis (k.lane (fun _ => rfl) (k.mode (fun _ => rfl) h))
  split
  · exact h3
  · refine k.plan ?_
    unfold s4
    split
    · exact k.discardLane h3
    · exact h3

theorem endCarriage (h : P s) : P (s.endCarriage l) := by
  unfold State.endCarriage
  split
  · exact h
  · split
    · exact h
    · exact h
    · exact h
    · exact k.brakeNow h

theorem rewind {n m} (h : P s) : P (s.rewind l n m) := k.lane (fun _ => rfl) h

theorem unexposeIf {b} (h : P s) : P (s.unexposeIf l b) := by
  unfold State.unexposeIf
  split
  · exact h
  · split
    · exact h
    · exact k.rewind (k.lane (fun _ => rfl) h)

theorem stopRun {e} (h : P s) : P (s.stopRun l e) := by
  unfold State.stopRun
  extract_lets s1 s2
  have h2 : P s2 := k.beginEnding (k.pix (k.lrun h))
  split
  · exact h2
  · split
    · exact k.stopAtNext h2
    · exact k.brakeNow h2

/-- A lane that is in no gang ends its run alone. -/
theorem endRun {e} (hsolo : s.sys.gang = false) (h : P s) : P (s.endRun l e) := by
  have hpart : s.partners l = [l] := by simp [State.partners, hsolo]
  unfold State.endRun
  rw [hpart, List.foldl_cons, List.foldl_nil]
  dsimp only
  split
  · split
    · split
      · exact k.discardLane (k.lrun h)
      · exact k.lrun h
    · exact h
  · split
    · exact h
    · split
      · exact k.endCarriage (k.beginEnding (k.lrun h))
      · split
        · exact k.discardLane (k.unexposeIf (k.lrun h))
        · exact k.unexposeIf (k.lrun h)

theorem flushEnd {e} (hsolo : s.sys.gang = false) (h : P s) : P (s.flushEnd l e) := by
  have hpart : s.partners l = [l] := by simp [State.partners, hsolo]
  unfold State.flushEnd
  rw [hpart, List.foldl_cons, List.foldl_nil]
  split
  · exact k.stopRun (k.flushTill h)
  · split
    · exact k.lrun (k.flushTill h)
    · exact h

theorem voidCal {c} (h : P s) : P (s.voidCal l c) := by
  unfold State.voidCal
  split
  · exact k.brakeNow (k.lane (fun _ => rfl) (k.giveExposure (k.beginEnding (k.discardLane (k.pix (k.cal (k.noteL h)))))))
  · exact h

theorem dropReading {c} (h : P s) : P (s.dropReading l c) := by
  unfold State.dropReading
  split
  · exact h
  · exact k.abandonLine (k.pix (k.lane (fun _ => rfl) h))

theorem headOff (ko : ∀ {s o}, P s → P (State.setOut s o false)) (h : P s) : P (s.headOff l) :=
  k.head (fun _ => ⟨rfl, rfl⟩) (k.lane (fun _ => rfl) (ko h))

/-- A committed version replaces a set: SRAM and the fence note change too. -/
theorem replaceSet (kb : ∀ {s m}, P s → P { s with bank := m }) (km : ∀ {s f}, P s → P (State.modMem s f))
    (h : P s) : P (s.replaceSet l) := by
  have note : ∀ {s : State} {m w}, P s → P (s.fenceNote l m w) := fun {s m w} h => by
    unfold State.fenceNote
    split
    · exact k.record (km h)
    · exact h
  have write : ∀ {s : State} {w o ws}, P s → P (s.masterWrite l w o ws) := fun {s w o ws} h => by
    unfold State.masterWrite State.winWrite
    dsimp only
    split
    · exact h
    · split
      · exact h
      · exact kb h
  unfold State.replaceSet
  dsimp only
  split
  · exact h
  · refine k.cal (k.lane (fun _ => rfl) (foldl_keeps (fun {s q} h => ?_) _ h))
    unfold State.putSet
    extract_lets st w new new' s1 q'
    have h1 : P s1 := write (note (note h))
    exact k.lane (fun _ => rfl) h1

theorem replaceUntimed (kb : ∀ {s m}, P s → P { s with bank := m }) (km : ∀ {s f}, P s → P (State.modMem s f))
    (kf : ∀ {s}, P s → P (State.takeFree s)) (h : P s) : P (s.replaceUntimed l) := by
  have h1 := k.replaceSet kb km h
  unfold State.replaceUntimed
  dsimp only
  split
  · exact h1
  · exact kf (km h1)

theorem stopLane {c d r n} (kb : ∀ {s m}, P s → P { s with bank := m }) (km : ∀ {s f}, P s → P (State.modMem s f))
    (kf : ∀ {s}, P s → P (State.takeFree s)) (h : P s) : P (s.stopLane l c d r n) := by
  unfold State.stopLane
  extract_lets s1 s2 s3 s4 s5 s6 s7 s8
  have h1 : P s1 := by
    unfold s1
    split
    · exact k.voidCal h
    · exact h
  have h2 : P s2 := k.endMove h1
  have h3 : P s3 := by
    unfold s3
    split
    · exact k.stopScan (k.flushNoted (k.recallLine h2))
    · split
      · exact k.flushNoted h2
      · exact k.clearTill h2
  have h7 : P s7 := k.pix (k.lrun (k.lane (fun _ => rfl) (k.freezeAxis h3)))
  exact k.replaceUntimed kb km kf (k.toMode (k.mode (fun _ => rfl) h7))

end KeptAt

end Sys2Proof.Machine
end


section
/-!
Three statements that a rare coincidence refutes: a debug halt that completes in the step that ends a lane reset, a
cancelled power-down that ends with a lane's entry to IDLE, and a persisting overload judged beside an overdraw of
management.
-/

namespace Sys2Proof.Machine
open Sys2Proof

/-! ### A debug halt completes as a lane reset ends -/

/-- Lane A's commit outlives the last step of its reset while a debug halt waits for no configured lane. -/
def State.haltAtResetEnd : State :=
  ((State.reset.modPower (fun p => { p with phase := .run })).modSys (fun y => { y with haltReq := true, haltPend := true })).modLane
    .a (fun x => { x with mode := { x.mode with reset := 9 }, cal := { x.cal with state := 2, kind := 1, cmdSet := 1 } })

/-- The halt's completion takes the calibration command's set back to its reset value. -/
theorem haltAtResetEnd_clears_cmdSet (t : State)
    (h : exec (.laneResetStepDone .a {}) State.haltAtResetEnd = .next t) : t.laneA.cal.cmdSet = 0 := by
  cases Host.Outcome.next.inj h
  rfl

/-- Refutes O18: where a debug halt completes in the step that ends the reset, what survives no halt (R544) returns to its
reset value in the lane whose commit goes on, so its calibration fields do not stand. -/
theorem not_laneResetStepsAndWatchdog : ¬ Obligations.LaneResetStepsAndWatchdog := by
  unfold Obligations.LaneResetStepsAndWatchdog
  rintro ⟨_, hlast, _⟩
  obtain ⟨t, hexec, _, hcommits⟩ := hlast .a {} State.haltAtResetEnd rfl rfl rfl rfl
  obtain ⟨_, _, _, hcal, _⟩ := hcommits rfl
  have hkept : t.laneA.cal = State.haltAtResetEnd.laneA.cal := hcal
  have hcleared := haltAtResetEnd_clears_cmdSet t hexec
  rw [hkept] at hcleared
  exact absurd hcleared (by decide)

/-! ### A cancelled power-down ends as a lane enters IDLE -/

/-- SAFE within a power-down that WAKE has cancelled, lane A's run ending. -/
def State.endingInCancelledOff : State :=
  ((State.reset.modPower (fun p => { p with phase := .powerDown, offCancel := true })).modSys
    (fun y => { y with safe := true })).modLane .a (fun x => { x with mode := { x.mode with mode := .preview, ending := true } })

/-- The entry to IDLE takes the engine back to RUN (R96). -/
theorem endingInCancelledOff_returns_to_run (t : State)
    (h : exec (.runEndIdleEntry ⟨.a, 0⟩) State.endingInCancelledOff = .next t) : t.power.phase = .run := by
  cases Host.Outcome.next.inj h
  rfl

/-- Refutes O23: the entry to IDLE that ends a cancelled power-down (R96) changes the power state, which the last
clause has kept. -/
theorem not_lineCycleOfARun : ¬ Obligations.LineCycleOfARun := by
  unfold Obligations.LineCycleOfARun
  rintro ⟨_, _, _, _, _, _, _, hidle⟩
  obtain ⟨t, hexec, _, _, _, _, _, _, hpower, _⟩ := hidle .a 0 State.endingInCancelledOff rfl rfl rfl
  have hphase := endingInCancelledOff_returns_to_run t hexec
  rw [hpower] at hphase
  exact absurd hphase (by decide)

/-! ### A persisting overload beside an overdraw of management -/

/-- A period of a heavy load, drawn by management. -/
def heavyPeriod : MainsReport :=
  { ticks := 500000, vrms := 1000, input := 20000, drawA := 0, drawB := 0, drawM := 20000, peL := 0, peN := 0 }

/-- An overload that has lasted its 50 periods after every lane came to IDLE (R180), the windows full but for one. -/
def State.persistingOverload : State :=
  (State.reset.modPower (fun p => { p with phase := .run })).modHist (fun h => { h with
    input := List.replicate 49 20000, drawM := List.replicate 49 20000, capHot := true, persist := 51 })

set_option maxRecDepth 20000 in
/-- SAFE follows in the same period and forgets every planned commit. -/
theorem persistingOverload_plans_nothing (t : State)
    (h : exec (.mainsPeriodEnd heavyPeriod) State.persistingOverload = .next t) : t.lux.planned = [] := by
  cases Host.Outcome.next.inj h
  rfl

/-- Refutes O29: where the overload that persists ends in SAFE in the very period in which management is newly over its
budget, the lights go off with SAFE and the commit that the overdraw planned is gone. -/
theorem not_mainsPeriodAndOutputs : ¬ Obligations.MainsPeriodAndOutputs := by
  unfold Obligations.MainsPeriodAndOutputs
  rintro ⟨_, _, _, _, _, hmgt, _⟩
  obtain ⟨t, hexec, _, _, _, ⟨c, hplanned, _⟩, _⟩ :=
    hmgt heavyPeriod State.persistingOverload rfl (by decide) (by decide) rfl
  rw [persistingOverload_plans_nothing t hexec] at hplanned
  exact absurd hplanned (List.not_mem_nil)

end Sys2Proof.Machine
end


section
/-!
Statements that one state each refutes: of the pixel path, the ring, the Tally, the Till and the link.
-/

namespace Sys2Proof.Machine
open Sys2Proof

/-- The engine in RUN, everything else as after reset. -/
def State.runAfterReset : State := State.reset.modPower (fun p => { p with phase := .run })

/-! ### The line that closes an acquisition, in entry phase A -/

/-- A DARK-CAL program of one line. -/
def oneDarkLine : Program :=
  { num := 0, mode := 3, party := 1, pinOk := true, hostOk := true, encReq := false, period := 0, integ := 0, lines := 1
    waves := 0, calSet := 0, scene := 0, binning := 0, micro := 0, reverse := false, profile := 0, focStart := 0, focLen := 0
    overlap := 0, rungs := 0, seamsDn := 0, quietUp := 0, rungPer := [], taps := 1 }

/-- Lane A in entry phase A with its program's one line still in readout. -/
def State.readingInEntry : State :=
  State.runAfterReset.modLane .a (fun x => { x with
    mode := { x.mode with mode := .darkCal, prog := some oneDarkLine, entering := true, entry := some .a }
    reading := some { num := 0, tsc := 0 } })

/-- The line closes the acquisition first, which takes the lane out of its entry. -/
theorem readingInEntry_leaves_entry (t : State) (h : exec (.lineStart .a {}) State.readingInEntry = .next t) :
    t.laneA.mode.entry = none := by
  cases Host.Outcome.next.inj h
  rfl

/-- Refutes O24: where the line start closes the last line of a calibration run, the lane is ENDING before its entry
phase is looked at. -/
theorem not_lineReadoutFillsAndClosesItsSlot : ¬ Obligations.LineReadoutFillsAndClosesItsSlot := by
  unfold Obligations.LineReadoutFillsAndClosesItsSlot
  rintro ⟨hphaseB, _⟩
  obtain ⟨t, hexec, hentry, _⟩ := hphaseB .a {} oneDarkLine State.readingInEntry rfl rfl rfl rfl (by decide) (by decide)
    (by decide) rfl rfl (.inl rfl)
  have hentry : t.laneA.mode.entry = some .c := hentry
  rw [readingInEntry_leaves_entry t hexec] at hentry
  exact absurd hentry (by decide)

/-! ### The ring with an erase due ahead of it -/

/-- A pending record, the ring open, and the erase of the sector ahead still due (R66). -/
def State.eraseOwed : State :=
  { State.runAfterReset with
    ledger := { flashOk := true }
    log := { store := [{ code := 0x1001, cls := 0, parties := 0, seq := 1, tsc := 0, start := 0, detail := [], context := 0 }]
             newest := 1, ringOk := true, ringOpen := true, ahead := some 5 } }

/-- The ring issues the erase that is due. -/
theorem eraseOwed_erases (t : State) (h : exec .ringProgramStart State.eraseOwed = .next t) :
    t.flash.op.map FlashOp.program = some false := by
  cases Host.Outcome.next.inj h
  rfl

/-- Refutes O33: with the erase of the sector ahead due (R66), the ring issues that erase and no page program. -/
theorem not_ringProgramsPendingRecords : ¬ Obligations.RingProgramsPendingRecords := by
  unfold Obligations.RingProgramsPendingRecords
  rintro ⟨hring, _⟩
  obtain ⟨t, hexec, hop, _⟩ := hring State.eraseOwed ⟨rfl, rfl, rfl, rfl, rfl⟩ rfl rfl (by decide) (by decide)
  have herase := eraseOwed_erases t hexec
  rw [hop] at herase
  exact absurd herase (by decide)

/-! ### A destructive march that has found a row -/

/-- A destructive march, with row 7 of bank 3 found failing. -/
def State.rowFound : State := State.runAfterReset.modMem (fun m => { m with tstat := .destructive, found := [(3, 7)] })

/-- The march's end steers that row to its bank's first spare. -/
theorem rowFound_is_steered (t : State) (h : exec (.tallyRunEnd {} 0) State.rowFound = .next t) :
    t.mem.repair[12]? = some { row := 7, valid := true } := by
  cases Host.Outcome.next.inj h
  rfl

/-- Refutes O37: a destructive march that ends steers the rows it has found before this command too (R294), so the map
is not blank. -/
theorem not_tallyRunsStartGoOnAndEnd : ¬ Obligations.TallyRunsStartGoOnAndEnd := by
  unfold Obligations.TallyRunsStartGoOnAndEnd
  rintro ⟨_, _, _, _, _, _, hend, _⟩
  obtain ⟨t, hexec, hmem, _⟩ := hend 0 State.rowFound ⟨rfl, rfl, rfl, rfl, rfl⟩ rfl rfl rfl (.inl (by decide))
  have hsteered := rowFound_is_steered t hexec
  rw [hmem] at hsteered
  exact absurd hsteered (by decide)

/-! ### The end drain's limit in a gang run that has failed already -/

/-- Lane A of a gang run that ends by a link's failure, one slot left in its Till. -/
def State.gangDrain : State :=
  (State.runAfterReset.modSys (fun y => { y with gang := true })).modLane .a (fun x => { x with
    mode := { x.mode with mode := .gangScan, ending := true }
    lrun := { x.lrun with opened := true, ending := some { aborted := true, cause := 5 } }
    till := { x.till with slots := [{ start := 0, num := 0, w := 0 }] } })

/-- The gang's cause stands. -/
theorem gangDrain_keeps_cause (t : State) (h : exec (.tillEndDrainLimit .a) State.gangDrain = .next t) :
    t.laneA.lrun.ending = some { aborted := true, cause := 5 } := by
  cases Host.Outcome.next.inj h
  rfl

/-- Refutes O39: a gang run that ends with cause 5 keeps it where the end drain's limit empties the Till. -/
theorem not_flushesEmptyTheTill : ¬ Obligations.FlushesEmptyTheTill := by
  unfold Obligations.FlushesEmptyTheTill
  rintro ⟨_, hdrain, _⟩
  obtain ⟨t, hexec, _, _, _, _, _, _, hending, _⟩ :=
    hdrain .a State.gangDrain ⟨rfl, rfl, rfl, rfl, rfl⟩ rfl rfl rfl (by decide)
  have hending : t.laneA.lrun.ending = some { aborted := true, cause := 12 } := hending
  rw [gangDrain_keeps_cause t hexec] at hending
  exact absurd hending (by decide)

/-! ### A resync that ends with an ABANDON waiting -/

/-- A link in a resync, an ABANDON waiting to go out. -/
def State.abandonWaits : State :=
  State.runAfterReset.modLane .a (fun x => { x with
    link := { x.link with st := .up, resync := true }, lrun := { x.lrun with txq := [.frame 7 [0, 0, 0]] } })

/-- The STATUS that ends the resync. -/
def ackingStatus : MagStatus := { state := 1, ack := true, epoch := 0, scanId := 0, last := 0xFFFFFFFF, began := 0 }

/-- The ABANDON goes out and is counted. -/
theorem abandonWaits_is_counted (t : State) (h : exec (.magazineStatus .a ackingStatus) State.abandonWaits = .next t) :
    t.laneA.link.abandons = 1 := by
  cases Host.Outcome.next.inj h
  rfl

/-- Refutes O41: as the resync ends, an ABANDON that waited is sent and counted in LINK. -/
theorem not_returnStrandFrames : ¬ Obligations.ReturnStrandFrames := by
  unfold Obligations.ReturnStrandFrames
  rintro ⟨_, _, _, hstatus, _⟩
  obtain ⟨t, hexec, hlink, _⟩ := hstatus .a ackingStatus State.abandonWaits ⟨rfl, rfl, rfl, rfl, rfl⟩ rfl rfl rfl rfl rfl
    (fun _ => rfl) (by decide) rfl
  have hcounted := abandonWaits_is_counted t hexec
  have hlink : t.laneA.link = _ := hlink
  rw [hlink] at hcounted
  exact absurd hcounted (by decide)

/-! ### A SCAN_END behind one that a resync held back -/

/-- The run's end, aborted with cause 5. -/
def abortedEnd : RunEnd := { aborted := true, cause := 5 }

/-- A run that has ended with cause 5, and a SCAN_END of cause 6 still owed. -/
def State.endOwed : State :=
  State.runAfterReset.modLane .a (fun x => { x with
    mode := { x.mode with ending := true }, link := { x.link with st := .up }
    lrun := { x.lrun with
      opened := true, ending := some abortedEnd, endOwed := some { aborted := true, cause := 6 } } })

/-- The owed SCAN_END goes out first. -/
theorem endOwed_sends_the_owed_end (t : State) (h : exec (.scanEnd .a) State.endOwed = .next t) :
    t.laneA.lrun.tx.head?.map (·.getD 2 0) = some 1538 := by
  cases Host.Outcome.next.inj h
  rfl

/-- Refutes O43: a SCAN_END that is still owed (R344, R363) is the first frame to go out. -/
theorem not_forwardFrames : ¬ Obligations.ForwardFrames := by
  unfold Obligations.ForwardFrames
  rintro ⟨_, _, hend⟩
  obtain ⟨t, hexec, _, _, htx, _⟩ := hend .a abortedEnd (State.endOwed.lane .a) _ State.endOwed ⟨rfl, rfl, rfl, rfl, rfl⟩
    rfl rfl rfl rfl rfl rfl rfl rfl rfl
  have hsent := endOwed_sends_the_owed_end t hexec
  have htx : t.laneA.lrun.tx.head? = _ := htx
  rw [htx] at hsent
  exact absurd hsent (by decide)

end Sys2Proof.Machine
end


section
/-!
Statements that one state each refutes: of the light heads and of the converters.
-/

namespace Sys2Proof.Machine
open Sys2Proof

/-! ### A reply that is a mismatch and a latch at once -/

/-- A STATUS of head 0 with number, setting and temperature 0. -/
def zeroStatus : List Nat := lightFrame 32 0x81 ([0] ++ leBytes 2 0 ++ leBytes 2 0 ++ leBytes 2 0)

/-- The record of a scan-lit head at address 0 with its shutdown temperature. -/
def scanLitHead (shut : Int) : LightHeadRec :=
  { addr := 0, scanLit := true, group := 0, identity := 0, knee := 0, zero := 1, shut := shut, hyst := 0 }

/-- Head 0, lane A's in a guarded span, acknowledges a commit of management; lane A's last commit point is now. -/
def State.hotReply : State :=
  { State.runAfterReset with
    shadow := { lighthead := [scanLitHead 0], party := { headOwner := [1] } }
    lux := { guardA := true, reb := [{ num := 5, point := 1, mask := [0] }, {}, {}, {}], head := [{ acking := some 0 }] } }

set_option maxRecDepth 20000 in
/-- The latch at lane A's commit point counts as the acknowledgement. -/
theorem hotReply_is_no_mismatch (t : State)
    (h : exec (.lightStatusReply 0 (zeroStatus.take 12) (zeroStatus.drop 12)) State.hotReply = .next t) :
    (t.lux.head.getD 0 {}).mismatch = false := by
  cases Host.Outcome.next.inj h
  rfl

/-- Refutes O48: the temperature in a reply that is a mismatch may latch the head, and a latch at the commit point of
its owner's last commit acknowledges it. -/
theorem not_lightHeadReplies : ¬ Obligations.LightHeadReplies := by
  unfold Obligations.LightHeadReplies
  rintro ⟨hstatus, _⟩
  obtain ⟨t, hexec, _, _, _, _, _, _, _, hmismatch⟩ := hstatus 0 0 0 0 0 12 0 zeroStatus
    { num := 5, point := 1, mask := [0] } State.hotReply (by decide) (by decide) (by decide) (by decide) (by decide)
    (by decide) rfl rfl rfl rfl rfl
  have hset := (hmismatch rfl (by decide) (by decide) (by decide) rfl (.inl (by decide))).1
  rw [hotReply_is_no_mismatch t hexec] at hset
  exact absurd hset (by decide)

/-! ### A mismatch that re-arms its own head -/

/-- Head 0, latched and not re-armed, in a seam of lane A that still goes back to SMOULDER. -/
def State.latchedInSeam : State :=
  ({ State.runAfterReset with
    shadow := { lighthead := [scanLitHead 1000], party := { headOwner := [1] } }
    lux := { reb := [{}, { num := 5, point := 1, mask := [0] }, {}, {}], head := [{ latch := true, acking := some 1 }] } }).modLane
    .a (fun x => { x with
      mode := { x.mode with mode := .scan }, arun := { x.arun with why := .run }, head := { x.head with period := 10 }
      exposing := some { num := 0, tsc := 0, seam := true } })

set_option maxRecDepth 20000 in
/-- The mismatch takes lane A into SMOULDER, which re-arms the head, and the temperature releases it. -/
theorem latchedInSeam_is_released (t : State) (h : exec (.lightStatusReply 0 zeroStatus []) State.latchedInSeam = .next t) :
    (t.lux.head.getD 0 {}).latch = false := by
  cases Host.Outcome.next.inj h
  rfl

/-- Refutes O50: a reply that is a mismatch may change its lane's mode (R399) and so re-arm the head (R456) before its
temperature is looked at. -/
theorem not_lightFollowsItsMeasurements : ¬ Obligations.LightFollowsItsMeasurements := by
  unfold Obligations.LightFollowsItsMeasurements
  rintro ⟨_, _, hhead⟩
  obtain ⟨t, hexec, _, _, _, hlatch⟩ := hhead 0 0 0 0 0 (scanLitHead 1000) 0 zeroStatus State.latchedInSeam (by decide)
    (by decide) (by decide) (by decide) (by decide) (by decide) rfl rfl rfl (by decide) rfl rfl
  have hrearm := ((hlatch rfl).mp (latchedInSeam_is_released t hexec)).2
  exact absurd hrearm (by decide)

/-! ### The retry's self-check of a converter that is out -/

/-- HKA is out and in its retry's self-check, channel 0 its own and in no fault. -/
def State.retryFailing : State :=
  ({ State.runAfterReset with shadow := { hkchan := [{ arr := 1 }] } }).modHk
    (fun h => { h with a := { h.a with failed := true, checking := true } })

/-- Refutes O51: of a retry that fails one clause has the channels unchanged, and another has those of the converter in
fault, which need not have been so before. -/
theorem not_conversionsAndSelfChecks : ¬ Obligations.ConversionsAndSelfChecks := by
  unfold Obligations.ConversionsAndSelfChecks
  rintro ⟨_, _, _, _, hfails, _, hretry, _⟩
  obtain ⟨t, hexec, _, _, _, _, hfault⟩ := hfails false 100 0 State.retryFailing rfl rfl (by decide)
  obtain ⟨t', hexec', _, _, hch, _⟩ := hretry false 100 0 State.retryFailing ⟨rfl, rfl, rfl, rfl, rfl⟩ rfl rfl rfl (by decide)
  cases Host.Outcome.next.inj (hexec.symm.trans hexec')
  have hchan := (hfault 0 (by decide) (by decide) (.inl rfl)).1
  rw [State.hkChan, hch] at hchan
  exact absurd hchan (by decide)

end Sys2Proof.Machine
end


section
/-!
SUPPORT. What the carriage's fetches read, and a host's write to a lane's AXIS unit.
-/

namespace Sys2Proof.Machine

/-- Two states agree on what a lane's fetch reads: the windows with their owners, the memory and a march over it. -/
structure SameFetch (s t : State) : Prop where
  shadow : t.shadow = s.shadow
  bank : t.bank = s.bank
  tpos : t.mem.tpos = s.mem.tpos
  marching : t.marching = s.marching
  gang : t.sys.gang = s.sys.gang
  twoLanes : t.twoLanes = s.twoLanes

section

variable {s t : State} (h : SameFetch s t)
include h

theorem SameFetch.fenced (l : Lane) (w : Nat) : t.fenced l w = s.fenced l w := by
  simp only [State.fenced, State.winOn, State.winOwner, State.owner, State.unused, State.partyOf, h.shadow, h.gang, h.twoLanes]

theorem SameFetch.winRead (w o n : Nat) : t.winRead w o n = s.winRead w o n := by
  simp only [State.winRead, h.marching, h.shadow, h.bank, h.tpos]

theorem SameFetch.masterRead (l : Lane) (w o n : Nat) : t.masterRead l w o n = s.masterRead l w o n := by
  simp only [State.masterRead, h.fenced, h.winRead]

theorem SameFetch.img (l : Lane) : t.img l = s.img l := by
  cases l <;> simp only [State.img, h.shadow]

theorem SameFetch.profile (l : Lane) (i : Nat) : t.profile l i = s.profile l i := by
  simp only [State.profile, h.img]

theorem SameFetch.fetched (l : Lane) (i : Nat) : t.fetched l i = s.fetched l i := by
  simp only [State.fetched, h.profile, h.masterRead]

end

theorem sameFetch_clearOut (s : State) : SameFetch s s.clearOut := ⟨rfl, rfl, rfl, rfl, rfl, rfl⟩

theorem SameFetch.modLane {s t : State} (h : SameFetch s t) (l : Lane) (f : LaneSt → LaneSt) : SameFetch s (t.modLane l f) :=
  ⟨by simp [h.shadow], by simp [h.bank], by simp [h.tpos], (by simp [State.marching] : (t.modLane l f).marching = t.marching).trans h.marching, by simp [h.gang], by simp [h.twoLanes]⟩

theorem SameFetch.modAxis {s t : State} (h : SameFetch s t) (l : Lane) (f : AxisSt → AxisSt) : SameFetch s (t.modAxis l f) :=
  h.modLane l _
theorem SameFetch.modArun {s t : State} (h : SameFetch s t) (l : Lane) (f : AxisRun → AxisRun) : SameFetch s (t.modArun l f) :=
  h.modLane l _
theorem SameFetch.setMotion {s t : State} (h : SameFetch s t) (l : Lane) (m : Option Motion) (w : MoveFor) :
    SameFetch s (t.setMotion l m w) := h.modArun l _

/-- A motion that begins reports no fence where its profile's window is the lane's. -/
theorem profileFence_of_open {s t : State} {l : Lane} {i : Nat} (h : SameFetch s t)
    (hopen : ((s.profile l i).map (fun q => s.fenced l q.window)).getD false = false) : t.profileFence l i = t := by
  unfold State.profileFence
  rw [h.profile]
  split
  · rename_i q m hprof hmotion
    have hfence : t.fenced l q.window = false := by rw [h.fenced]; simpa [hprof] using hopen
    simp [State.fenceLine, hfence]
  · rfl

/-! ### What only LUX changes -/

/-- A predicate that no change of LUX touches. -/
def LuxKept (P : State → Prop) : Prop := ∀ s f, P s → P (State.modLux s f)

namespace LuxKept

variable {P : State → Prop} (k : LuxKept P) {s : State}
include k

theorem busSend {b} (h : P s) : P (s.busSend b) := by
  unfold State.busSend
  split
  · exact h
  · exact k _ _ h

theorem dropFor {c} (h : P s) : P (s.dropFor c) := by
  unfold State.dropFor
  split
  · refine foldl_keeps (fun h => k _ _ h) _ ?_
    unfold State.sendDrop
    split
    · exact k _ _ h
    · exact k.busSend h
  · exact h

theorem discard {f} (h : P s) : P (s.discard f) := by
  unfold State.discard
  exact k _ _ (foldl_keeps (fun h => k.dropFor h) _ h)

end LuxKept

theorem luxKept_lane (l : Lane) (x : LaneSt) : LuxKept (fun t => t.lane l = x) := fun s f h => by simpa using h

theorem luxKept_alters (ps : List Part) (s : State) (hp : .lux ∈ ps) : LuxKept (Alters ps s) := fun _ _ h => h.modLux hp

theorem discard_lane (s : State) (g : Commit → Bool) (l : Lane) : (s.discard g).lane l = s.lane l :=
  (luxKept_lane l _).discard rfl

namespace Alters

variable {ps : List Part} {s t : State}

theorem modMode {l f} (h : Alters ps s t) (hp : .lane l ∈ ps) : Alters ps s (t.modMode l f) := h.modLane hp
theorem modHead {l f} (h : Alters ps s t) (hp : .lane l ∈ ps) : Alters ps s (t.modHead l f) := h.modLane hp
theorem modPix {l f} (h : Alters ps s t) (hp : .lane l ∈ ps) : Alters ps s (t.modPix l f) := h.modLane hp
theorem modCal {l f} (h : Alters ps s t) (hp : .lane l ∈ ps) : Alters ps s (t.modCal l f) := h.modLane hp
theorem modTill {l f} (h : Alters ps s t) (hp : .lane l ∈ ps) : Alters ps s (t.modTill l f) := h.modLane hp
theorem modLink {l f} (h : Alters ps s t) (hp : .lane l ∈ ps) : Alters ps s (t.modLink l f) := h.modLane hp
theorem modLrun {l f} (h : Alters ps s t) (hp : .lane l ∈ ps) : Alters ps s (t.modLrun l f) := h.modLane hp
theorem modAxis {l f} (h : Alters ps s t) (hp : .lane l ∈ ps) : Alters ps s (t.modAxis l f) := h.modLane hp
theorem modArun {l f} (h : Alters ps s t) (hp : .lane l ∈ ps) : Alters ps s (t.modArun l f) := h.modLane hp
theorem setMotion {l m w} (h : Alters ps s t) (hp : .lane l ∈ ps) : Alters ps s (t.setMotion l m w) := h.modArun hp
theorem discard {g} (h : Alters ps s t) (hp : .lux ∈ ps) : Alters ps s (t.discard g) := (luxKept_alters ps s hp).discard h

end Alters

/-! ### O45 -/

theorem clearOut_seamReady (s : State) (l : Lane) : s.clearOut.seamReady l = s.seamReady l := by
  unfold State.seamReady State.settled State.tillResume State.tillFill
  simp only [clearOut_lane_till, clearOut_lane_link, clearOut_lane_mode, State.clearOut_lux]
  rfl

theorem clearOut_backoffDue (s : State) (l : Lane) (p : Program) : s.clearOut.backoffDue l p = s.backoffDue l p := by
  unfold State.backoffDue
  simp only [clearOut_seamReady, clearOut_lane_mode, clearOut_lane_axis, clearOut_lane_arun]
  rfl

/-- What is left of the run to the back-off's target. -/
theorem clearOut_lineX (s : State) (l : Lane) (p : Program) : s.clearOut.lineX l p ((s.clearOut.lane l).lineIndex p) =
    s.lineX l p ((s.lane l).lineIndex p) := by
  simp [State.lineX, LaneSt.lineIndex]

theorem backoff_effect {l : Lane} {p : Program} {d : Int} {s : State} (hs : s.Settled) (hprog : (s.lane l).mode.prog = some p)
    (hdue : s.backoffDue l p = true)
    (hopen : ((s.profile l p.profile).map (fun q => s.fenced l q.window)).getD false = false)
    (hd : d = s.lineX l p ((s.lane l).lineIndex p) - p.dir * ((s.img l).axis.runUp : Int) - (s.lane l).axis.pos) :
    ∃ t, exec (.seamBackoffStart l) s = .next t
      ∧ (t.lane l).axis.phase = (if d = 0 then .dwell else .backoff) ∧ (t.lane l).axis.trim = 0
      ∧ (t.lane l).arun.motion = someMotion
          (moveOf (s.fetched l p.profile) p.profile (p.interval 0) d.natAbs (if d < 0 then -1 else 1))
      ∧ Frame [.lane l] s t := by
  have hback : s.clearOut.backoff l p = (s.clearOut.setMotion l (someMotion
      (moveOf (s.fetched l p.profile) p.profile (p.interval 0) d.natAbs (if d < 0 then -1 else 1))) .backoff).modAxis l
      (fun a => { a with phase := if d = 0 then .dwell else .backoff, trim := 0 }) := by
    unfold State.backoff
    rw [clearOut_lineX, (sameFetch_clearOut s).fetched, (sameFetch_clearOut s).img, clearOut_lane_axis]
    subst hd
    rfl
  have hfence : (s.clearOut.backoff l p).profileFence l p.profile = s.clearOut.backoff l p := by
    rw [hback]
    exact profileFence_of_open (((sameFetch_clearOut s).setMotion l _ _).modAxis l _) hopen
  have heffect : exec (.seamBackoffStart l) s = .next (s.after (s.clearOut.backoff l p)) := by
    simp only [exec_seamBackoffStart, execSeamBackoffStart, perform_after, clearOut_lane_mode, hprog, clearOut_backoffDue, hdue, if_true, hfence]
  rw [hback] at heffect
  refine ⟨_, heffect, by simp, by simp, by simp [State.setMotion], ?_⟩
  exact (((Alters.refl _ _).setMotion (by simp)).modAxis (by simp)).frame hs

theorem moveOf_total (es : List Nat) (prof i n : Nat) (dir : Int) : (moveOf es prof i n dir).total = n := by
  unfold moveOf Motion.total
  dsimp only
  split
  · show n / 2 + 0 + (n - n / 2) = n
    omega
  · show rampLen es i + (n - 2 * rampLen es i) + rampLen es i = n
    omega

/-- What the end of a dwell leaves of the axis: rung r to approach at, the phase ALIGN. -/
def LaneSt.aligned (r : Nat) (x : LaneSt) : LaneSt :=
  { x with arun := { x.arun with newRung := r }, axis := { x.axis with phase := .align } }

theorem align_eq (s : State) (l : Lane) (r : Nat) : (s.modArun l (fun a => { a with newRung := r })).modAxis l
    (fun a => { a with phase := .align }) = s.modLane l (LaneSt.aligned r) := by
  cases l <;> rfl

theorem dwellEnd_effect {l : Lane} {p : Program} {s : State} (hs : s.Settled) (hprog : (s.lane l).mode.prog = some p)
    (hphase : (s.lane l).axis.phase = .dwell) (hint : s.clk.interval = false) :
    ∃ t, exec (.seamDwellEnd l) s = .next t
      ∧ (t.lane l).axis = { (s.lane l).axis with phase := .align }
      ∧ (t.lane l).arun = { (s.lane l).arun with newRung := s.seamRung l p } ∧ Frame [.lane l, .lux] s t := by
  have hrung : s.clearOut.seamRung l p = s.seamRung l p := by simp [State.seamRung]
  have heffect : exec (.seamDwellEnd l) s = .next (s.after ((s.clearOut.modLane l (LaneSt.aligned (s.seamRung l p))).discard
      (fun c => c.party = s.partyOf l))) := by
    simp only [exec_seamDwellEnd, execSeamDwellEnd, perform_after, clearOut_lane_mode, hprog, clearOut_lane_axis, hphase,
      State.clearOut_clk, hint, Bool.not_false, Bool.and_self, decide_true, if_true, hrung, align_eq]
    have hparty : (s.clearOut.modLane l (LaneSt.aligned (s.seamRung l p))).partyOf l = s.partyOf l := by
      simp [State.partyOf]
    rw [hparty]
  refine ⟨_, heffect, ?_, ?_, (((Alters.refl _ _).modLane (by simp)).discard (by simp)).frame hs⟩
  · simp [discard_lane, LaneSt.aligned]
  · simp [discard_lane, LaneSt.aligned]

theorem approach_effect {l : Lane} {p : Program} {s : State} (hs : s.Settled) (hprog : (s.lane l).mode.prog = some p)
    (hphase : (s.lane l).axis.phase = .align) (hint : s.clk.interval = false) (hhold : s.clk.hold = false)
    (hopen : ((s.profile l p.profile).map (fun q => s.fenced l q.window)).getD false = false) :
    ∃ t, exec (.approachStart l) s = .next t
      ∧ (t.lane l).axis = { (s.lane l).axis with
          phase := .approach, retry := decide (0 < (s.lane l).arun.tries) }
      ∧ (t.lane l).arun.motion = some {
          up := rampLen (s.fetched l p.profile) (p.interval (s.lane l).arun.newRung)
          cruise := 0, down := 0, steady := true, top := p.interval (s.lane l).arun.newRung
          dir := p.dir, prof := p.profile }
      ∧ Frame [.lane l] s t := by
  have hsame := ((sameFetch_clearOut s).setMotion l (some {
        up := rampLen (s.fetched l p.profile) (p.interval (s.lane l).arun.newRung)
        cruise := 0, down := 0, steady := true, top := p.interval (s.lane l).arun.newRung
        dir := p.dir, prof := p.profile }) .approach).modAxis l
      (fun a => { a with phase := .approach, retry := decide (0 < (s.lane l).arun.tries) })
  have heffect := congrArg (fun t => Host.Outcome.next (φ := Fault) (ρ := Refusal) (s.after t)) (profileFence_of_open hsame hopen)
  refine ⟨_, Eq.trans ?_ heffect, by simp [State.setMotion], by simp [State.setMotion],
    (((Alters.refl _ _).setMotion (by simp)).modAxis (by simp)).frame hs⟩
  simp only [exec_approachStart, execApproachStart, perform_after, clearOut_lane_mode, hprog, State.approachStart,
    State.clearOut_clk, hint, hhold, Bool.or_self, Bool.false_eq_true, if_false, clearOut_lane_axis, hphase, if_true,
    State.approach, (sameFetch_clearOut s).fetched, clearOut_lane_arun]

/-- Settles O45: each command is one update of the lane, whose motion is what the fetched profile gives. -/
theorem seamMovesTheCarriage : Obligations.SeamMovesTheCarriage := by
  unfold Obligations.SeamMovesTheCarriage
  refine ⟨fun l p d s hs hprog hmode hmoves hcar hphase hrest hready hint hopen hd => ?_, moveOf_total,
    fun l p s hs hprog hphase hint => ?_, fun l p s hs hprog hphase hint hhold hopen => approach_effect hs hprog hphase hint hhold hopen⟩
  · have hdue : s.backoffDue l p = true := by simp [State.backoffDue, hmode, hmoves, hcar, hphase, hrest, hready, hint]
    exact backoff_effect hs hprog hdue hopen hd
  · obtain ⟨t, hexec, haxis, harun, hframe⟩ := dwellEnd_effect hs hprog hphase hint
    refine ⟨t, hexec, haxis, ?_, hframe⟩
    rw [harun]
    simp only [State.seamRung, seamCounted, Bool.and_eq_true, decide_eq_true_eq, and_assoc]

end Sys2Proof.Machine
end


section
/-!
PROOFS. Moves of the carriage by the host (R412, R413).
-/

namespace Sys2Proof.Machine

variable {s : State}

theorem hostWrite_unit (u o e : Nat) (ws : List Nat) : (hostWrite u o ws e).unit = u := rfl

/-- A write that is no access to the aperture does what its unit does. -/
theorem frameEffect_write {r : Req} (hw : r.write = true) (hap : r.aperture = false) (shifted lat : Nat) :
    s.frameEffect r 0 shifted lat = s.applyWrite r := by
  simp [State.frameEffect, hw, hap]

theorem applyWrite_axis (l : Lane) {r : Req} (hu : r.unit = axisUnit l) (hne : r.items ≠ []) :
    s.applyWrite r = (s.axisWrite l r).mark (axisUnit l) := by
  have hloud : r.items.all (fun q => quietWord (axisUnit l) q.1) = false := by
    obtain ⟨q, qs, hq⟩ := List.exists_cons_of_ne_nil hne
    cases l <;> simp [hq, axisUnit, headUnit, quietWord]
  unfold State.applyWrite
  cases l <;> simp_all [axisUnit, headUnit, unitLane]

theorem aperture_axis (l : Lane) {r : Req} (hu : r.unit = axisUnit l) : r.aperture = false := by
  cases l <;> simp [Req.aperture, hu, axisUnit, headUnit]

/-- A number of 32 bits reads back from its two's complement. -/
theorem signed_unsigned {d : Int} (hlo : -2147483648 ≤ d) (hhi : d ≤ 2147483647) : signed 32 (unsigned 32 d) = d := by
  have hmod : (2 ^ 32 : Nat) = 4294967296 := by decide
  simp only [signed, unsigned, hmod]
  norm_num
  split
  · omega
  · omega

theorem signed_of_halves {d : Int} (hlo : -2147483648 ≤ d) (hhi : d ≤ 2147483647) :
    signed 32 (unsigned 32 d % 65536 % 65536 + 65536 * (unsigned 32 d / 65536 % 65536 % 65536)) = d := by
  have hu : unsigned 32 d < 2 ^ 32 := by simp only [unsigned]; omega
  rw [show unsigned 32 d % 65536 % 65536 + 65536 * (unsigned 32 d / 65536 % 65536 % 65536) = unsigned 32 d by omega]
  exact signed_unsigned hlo hhi

/-- AXIS with the move registers written. -/
def AxisSt.moveSet (lo hi prof : Nat) (a : AxisSt) : AxisSt := { a with moveLo := lo, moveHi := hi, moveProf := prof }

theorem axisWrite_go (l : Lane) (u n e : Nat) :
    s.axisWrite l (hostWrite (axisUnit l) 0x015 (leWords 2 u ++ [n % 8 + 8]) e) =
      (s.modAxis l (AxisSt.moveSet (u % 65536 % 65536) (u / 65536 % 65536 % 65536) (n % 8))).startMove l := by
  have hgo : bit (n % 8 + 8) 3 = true := by
    have h : n % 8 < 8 := Nat.mod_lt _ (by decide)
    generalize n % 8 = k at h
    revert k
    decide
  have hstop : bit (n % 8 + 8) 4 = false := by
    have h : n % 8 < 8 := Nat.mod_lt _ (by decide)
    generalize n % 8 = k at h
    revert k
    decide
  unfold State.axisWrite
  simp [Req.put, Req.sets, Req.val, hostWrite_at?, leWords, hgo, hstop]
  rfl

theorem axisWrite_stop (l : Lane) (n e : Nat) :
    s.axisWrite l (hostWrite (axisUnit l) 0x017 [n % 8 + 16] e) =
      (s.modAxis l (fun a => { a with moveProf := n % 8 })).stopMove l := by
  have hgo : bit (n % 8 + 16) 3 = false := by
    have h : n % 8 < 8 := Nat.mod_lt _ (by decide)
    generalize n % 8 = k at h
    revert k
    decide
  have hstop : bit (n % 8 + 16) 4 = true := by
    have h : n % 8 < 8 := Nat.mod_lt _ (by decide)
    generalize n % 8 = k at h
    revert k
    decide
  unfold State.axisWrite
  have hprof : (n + 16) % 8 = n % 8 := by omega
  simp [Req.put, Req.sets, Req.val, hostWrite_at?, hgo, hstop, hprof]

theorem sameFetch_mgtOpen (s : State) : SameFetch s s.mgtOpen.clearOut := ⟨rfl, rfl, rfl, rfl, rfl, rfl⟩

/-- A move's start, no fence in its way. -/
theorem startMove_eq {t : State} {l : Lane} {d : Int} {n : Nat} (h : SameFetch s t) (hd : d ≠ 0)
    (hprof : (t.lane l).axis.moveProf = n) (hsteps : signed 32 ((t.lane l).axis.moveLo + 65536 * (t.lane l).axis.moveHi) = d)
    (hopen : ((s.profile l n).map (fun q => s.fenced l q.window)).getD false = false) :
    t.startMove l = t.setMotion l (someMotion (moveOf (s.fetched l n) n ((s.fetched l n).getLastD 0) d.natAbs
      (if d < 0 then -1 else 1))) .move := by
  have hmove : ∀ m : Motion, m.total = d.natAbs → someMotion m = some m := fun m hm => by
    have hpos : 0 < m.total := by omega
    simp [someMotion, hpos]
  unfold State.startMove
  dsimp only
  rw [hprof, hsteps, h.fetched, hmove _ (moveOf_total ..)]
  dsimp only
  rw [(h.setMotion l _ _).profile]
  cases hq : s.profile l n with
  | none => rfl
  | some q =>
    have hfence : s.fenced l q.window = false := by simpa [hq] using hopen
    simp [State.fenceNote, (h.setMotion l _ _).fenced, hfence]

theorem moveGo_effect {l : Lane} {d : Int} {n e : Nat} (hs : s.Settled) (hlo : -2147483648 ≤ d) (hhi : d ≤ 2147483647)
    (hd : d ≠ 0) (ha : s.Accepts (hostWrite (axisUnit l) 0x015 (leWords 2 (unsigned 32 d) ++ [n % 8 + 8]) e))
    (hopen : ((s.profile l (n % 8)).map (fun q => s.fenced l q.window)).getD false = false) :
    ∃ t, exec (.axisMoveGo l d n e) s = .next t
      ∧ t.Replied (hostWrite (axisUnit l) 0x015 (leWords 2 (unsigned 32 d) ++ [n % 8 + 8]) e) []
      ∧ (t.lane l).arun.motion = someMotion (moveOf (s.fetched l (n % 8)) (n % 8) ((s.fetched l (n % 8)).getLastD 0) d.natAbs
          (if d < 0 then -1 else 1))
      ∧ (t.lane l).arun.why = .move ∧ (t.lane l).axis.pos = (s.lane l).axis.pos
      ∧ (t.lane l).axis.atHold = (s.lane l).axis.atHold ∧ Frame [.lane l] s t := by
  have heffect := (frameEffect_write (s := s.mgtOpen.clearOut) rfl (aperture_axis l (hostWrite_unit ..)) 0 0).trans
    ((applyWrite_axis l (hostWrite_unit ..) (by simp [hostWrite, Req.items])).trans
      (congrArg (State.mark · (axisUnit l)) ((axisWrite_go l (unsigned 32 d) n e).trans
        (startMove_eq ((sameFetch_mgtOpen s).modAxis l _) hd (by simp [AxisSt.moveSet])
          (by simpa [AxisSt.moveSet] using signed_of_halves hlo hhi) hopen))))
  obtain ⟨w, k, hexec, hreply⟩ := mgtRequest_write ha rfl heffect
  refine ⟨_, hexec, hreply, by simp [State.setMotion], by simp [State.setMotion], by simp [State.setMotion, AxisSt.moveSet],
    by simp [State.setMotion, AxisSt.moveSet], ?_⟩
  exact (((Alters.refl _ _).modAxis (by simp)).setMotion (by simp)).mark.frame_answered hs

theorem moveStop_effect {l : Lane} {e : Nat} {m : Motion} (hs : s.Settled) (hmotion : (s.lane l).arun.motion = some m)
    (hwhy : (s.lane l).arun.why = .move) (ha : s.Accepts (hostWrite (axisUnit l) 0x017 [(s.lane l).axis.moveProf % 8 + 16] e)) :
    ∃ t, exec (.axisMoveStop l e) s = .next t
      ∧ t.Replied (hostWrite (axisUnit l) 0x017 [(s.lane l).axis.moveProf % 8 + 16] e) []
      ∧ (t.lane l).arun = { (s.lane l).arun with motion := someMotion (m.brake 0) }
      ∧ (t.lane l).axis.pos = (s.lane l).axis.pos ∧ Frame [.lane l] s t := by
  have hstop : ∀ f, (s.mgtOpen.clearOut.modAxis l f).stopMove l =
      (s.mgtOpen.clearOut.modAxis l f).setMotion l (someMotion (m.brake 0)) .move := fun f => by
    simp [State.stopMove, hmotion, hwhy]
  have heffect := (frameEffect_write (s := s.mgtOpen.clearOut) rfl (aperture_axis l (hostWrite_unit ..)) 0 0).trans
    ((applyWrite_axis l (hostWrite_unit ..) (by simp [hostWrite, Req.items])).trans
      (congrArg (State.mark · (axisUnit l)) ((axisWrite_stop l (s.lane l).axis.moveProf e).trans (hstop _))))
  obtain ⟨w, k, hexec, hreply⟩ := oneWrite_answered ha heffect
  refine ⟨_, hexec, hreply, by simp [State.setMotion, hwhy], by simp [State.setMotion], ?_⟩
  exact (((Alters.refl _ _).modAxis (by simp)).setMotion (by simp)).mark.frame_answered hs

/-- Settles O46: the write sets the motion that the fetched profile gives, and STOP brakes it where it stands. -/
theorem hostMovesTheCarriage : Obligations.HostMovesTheCarriage := by
  unfold Obligations.HostMovesTheCarriage
  exact ⟨fun l d n e s hs hlo hhi hd ha hopen => moveGo_effect hs hlo hhi hd ha hopen,
    fun l e m s hs hmotion hwhy ha => moveStop_effect hs hmotion hwhy ha⟩

end Sys2Proof.Machine
end


section
/-!
PROOFS. Microsteps, the holding current and the encoder (R383 to R391).
-/

namespace Sys2Proof.Machine

variable {s : State} {l : Lane}

/-! ### The encoder's count -/

/-- One edge counted. -/
def AxisSt.edge (inv : Bool) (a : AxisSt) (e : EncEdge) : AxisSt :=
  { a with
    ab := e.ab % 4
    enc := signed 32 (unsigned 32 (a.enc + (if inv then -quadStep a.ab e.ab else quadStep a.ab e.ab))) }

/-- The axis after edges: those of pulses long enough, where an encoder is fitted and powered. -/
def AxisSt.counted (fitted inv : Bool) (es : List EncEdge) (a : AxisSt) : AxisSt :=
  if fitted then (es.filter (fun e => decide (25 ≤ e.ns))).foldl (AxisSt.edge inv) a else a

theorem modAxis_id (s : State) (l : Lane) : s.modAxis l (fun a => a) = s := by cases l <;> rfl

theorem modAxis_modAxis (s : State) (l : Lane) (f g : AxisSt → AxisSt) :
    (s.modAxis l f).modAxis l g = s.modAxis l (fun a => g (f a)) := by cases l <;> rfl

theorem foldl_modAxis {α : Type} (f : AxisSt → α → AxisSt) (xs : List α) (s : State) (l : Lane) :
    xs.foldl (fun s x => s.modAxis l (fun a => f a x)) s = s.modAxis l (fun a => xs.foldl f a) := by
  induction xs generalizing s with
  | nil => exact (modAxis_id s l).symm
  | cons x xs ih => rw [List.foldl_cons, ih, modAxis_modAxis]; rfl

/-- Counting changes the lane's axis alone. -/
theorem countEdges_eq (s : State) (l : Lane) (es : List EncEdge) : s.countEdges l es =
    s.modAxis l (AxisSt.counted ((s.img l).axis.encoder && (s.lane l).arun.energised) (s.img l).axis.encInv es) := by
  unfold State.countEdges
  dsimp only
  split
  · rename_i hout
    have hfitted : ((s.img l).axis.encoder && (s.lane l).arun.energised) = false := by
      rw [← Bool.not_eq_true', Bool.not_and]
      exact hout
    unfold AxisSt.counted
    simp only [hfitted, Bool.false_eq_true, if_false]
    exact (modAxis_id s l).symm
  · rename_i hin
    have hfitted : ((s.img l).axis.encoder && (s.lane l).arun.energised) = true := by simp_all
    unfold AxisSt.counted
    simp only [hfitted, if_true]
    exact foldl_modAxis (AxisSt.edge (s.img l).axis.encInv) _ s l

/-- Edges change the count and the levels. -/
theorem foldl_edge {α : Type} (g : AxisSt → α) (inv : Bool) (hg : ∀ a e, g (AxisSt.edge inv a e) = g a) (es : List EncEdge)
    (a : AxisSt) : g (es.foldl (AxisSt.edge inv) a) = g a := by
  induction es generalizing a with
  | nil => rfl
  | cons e es ih => exact (ih _).trans (hg a e)

theorem counted_pos (fitted inv : Bool) (es : List EncEdge) (a : AxisSt) : (a.counted fitted inv es).pos = a.pos := by
  unfold AxisSt.counted
  split
  · exact foldl_edge AxisSt.pos inv (fun _ _ => rfl) _ a
  · rfl

theorem counted_phase (fitted inv : Bool) (es : List EncEdge) (a : AxisSt) : (a.counted fitted inv es).phase = a.phase := by
  unfold AxisSt.counted
  split
  · exact foldl_edge AxisSt.phase inv (fun _ _ => rfl) _ a
  · rfl

/-! ### A microstep -/

@[simp] theorem noteC1_lane (n : Nat) : (s.noteC1 n).lane l = s.lane l := by cases l <;> rfl

/-- The lane after a step of motion m: its motion one step on, the edges counted, the position moved. -/
def LaneSt.stepped (m : Motion) (fitted inv : Bool) (es : List EncEdge) (x : LaneSt) : LaneSt :=
  { x with
    arun := { x.arun with motion := some { m with done := m.done + 1 } }
    axis := { x.axis.counted fitted inv es with pos := x.axis.pos + m.dir, atHold := false } }

/-- The state after the step's own effects, before the cycle offset and the checkpoint. -/
def State.stepped (s : State) (l : Lane) (es : List EncEdge) (lat : Nat) (m : Motion) : State :=
  (s.noteC1 lat).modLane l (LaneSt.stepped m ((s.img l).axis.encoder && (s.lane l).arun.energised) (s.img l).axis.encInv es)

theorem stepped_eq (s : State) (l : Lane) (es : List EncEdge) (lat : Nat) (m : Motion) :
    (((s.noteC1 lat).setMotion l (some { m with done := m.done + 1 }) (s.lane l).arun.why).countEdges l es).modAxis l
      (fun a => { a with pos := a.pos + m.dir, atHold := false }) = s.stepped l es lat m := by
  rw [countEdges_eq, modAxis_modAxis]
  cases l
  · simp only [State.setMotion, State.stepped, State.modAxis, State.modArun, counted_pos]
    rfl
  · simp only [State.setMotion, State.stepped, State.modAxis, State.modArun, counted_pos]
    rfl

theorem stepped_alters (s : State) (l : Lane) (es : List EncEdge) (lat : Nat) (m : Motion) :
    Alters [.lane l, .mem] s (s.stepped l es lat m) := ((Alters.refl _ _).modMem (by simp)).modLane (by simp)

/-- A step off the checkpoint: after its own effects only the cycle offset changes, and a motion at its end comes to
rest. -/
theorem stepIssue_eq {es : List EncEdge} {lat : Nat} {m : Motion} (hmotion : (s.lane l).arun.motion = some m)
    (hdue : s.stepDue l = true) (hphase : (s.lane l).axis.phase ≠ .approach) : ∃ o, s.stepIssue l es lat =
      (let u := (s.stepped l es lat m).modArun l (fun a => { a with offset := o })
       if m.steady || decide (m.done + 1 < m.total) then u else (u.atRest l).haltSettle) := by
  have hprog : ((s.stepped l es lat m).lane l).mode.prog = (s.lane l).mode.prog := by simp [State.stepped, LaneSt.stepped]
  have hcheck : ∀ (o : Int) (v : Motion) (n : Int), ((s.stepped l es lat m).modArun l (fun a => { a with offset := o })).stepCheck
      l v n = (s.stepped l es lat m).modArun l (fun a => { a with offset := o }) := fun o v n => by
    unfold State.stepCheck
    dsimp only
    split
    · rw [if_neg]
      simp [State.stepped, LaneSt.stepped, counted_phase, hphase]
    · rfl
  unfold State.stepIssue
  rw [hmotion]
  simp only [hdue, Bool.not_true, Bool.false_eq_true, if_false, stepped_eq, noteC1_lane, hprog]
  cases hp : (s.lane l).mode.prog with
  | none =>
    refine ⟨((s.stepped l es lat m).lane l).arun.offset, ?_⟩
    have hid : (s.stepped l es lat m).modArun l (fun a => { a with offset := ((s.stepped l es lat m).lane l).arun.offset }) =
        s.stepped l es lat m := by cases l <;> rfl
    have hself := hcheck ((s.stepped l es lat m).lane l).arun.offset
    rw [hid] at hself ⊢
    simp only [hself]
    rfl
  | some p =>
    exact ⟨_, by simp only [hcheck]; rfl⟩

theorem clearOut_stepDue (s : State) (l : Lane) : s.clearOut.stepDue l = s.stepDue l := by
  unfold State.stepDue
  simp only [clearOut_lane_arun]
  rfl

/-- A step within a motion (R385, R387). -/
theorem stepWithin_effect {es : List EncEdge} {lat : Nat} {m : Motion} (hs : s.Settled)
    (hmotion : (s.lane l).arun.motion = some m) (hon : (s.lane l).arun.energised = true) (hmore : m.done + 1 < m.total)
    (hint : s.clk.interval = false) (hphase : (s.lane l).axis.phase ≠ .approach) :
    ∃ t, exec (.stepIssue l es lat) s = .next t
      ∧ (t.lane l).arun.motion = some { m with done := m.done + 1 }
      ∧ (t.lane l).arun.why = (s.lane l).arun.why ∧ (t.lane l).arun.energised = true
      ∧ (t.lane l).axis = { ((s.countEdges l es).lane l).axis with pos := (s.lane l).axis.pos + m.dir, atHold := false }
      ∧ t.mem = { s.mem with c1Worst := max s.mem.c1Worst (min 127 lat) } ∧ Frame [.lane l, .mem] s t := by
  have hdue : s.stepDue l = true := by
    have hless : m.done < m.total := by omega
    simp [State.stepDue, hmotion, hon, hless, hint]
  obtain ⟨o, heq⟩ := stepIssue_eq (s := s.clearOut) (es := es) (lat := lat) (m := m) (by simpa using hmotion)
    ((clearOut_stepDue s l).trans hdue) (by simpa using hphase)
  have heffect : exec (.stepIssue l es lat) s = .next (s.after ((s.clearOut.stepped l es lat m).modArun l
      (fun a => { a with offset := o }))) := by
    rw [exec_stepIssue, execStepIssue, perform_after, heq]
    simp [hmore]
  refine ⟨_, heffect, ?_, ?_, ?_, ?_, ?_, (Alters.modArun (stepped_alters _ _ _ _ _) (by simp)).frame hs⟩
  · simp [State.stepped, LaneSt.stepped]
  · simp [State.stepped, LaneSt.stepped]
  · simp [State.stepped, LaneSt.stepped, hon]
  · rw [countEdges_eq]
    simp [State.stepped, LaneSt.stepped]
  · simp [State.stepped, State.noteC1]

/-- The last step of a host's move. -/
theorem stepLast_effect {es : List EncEdge} {lat : Nat} {m : Motion} (hs : s.Settled)
    (hmotion : (s.lane l).arun.motion = some m) (hon : (s.lane l).arun.energised = true) (hlast : m.done + 1 = m.total)
    (hsteady : m.steady = false) (hint : s.clk.interval = false) (hphase : (s.lane l).axis.phase ≠ .approach)
    (hhalt : s.sys.haltReq = false) :
    ∃ t, exec (.stepIssue l es lat) s = .next t ∧ (t.lane l).arun.motion = none
      ∧ (t.lane l).axis.pos = (s.lane l).axis.pos + m.dir ∧ Frame [.lane l, .mem] s t := by
  have hdue : s.stepDue l = true := by
    have hless : m.done < m.total := by omega
    simp [State.stepDue, hmotion, hon, hless, hint]
  obtain ⟨o, heq⟩ := stepIssue_eq (s := s.clearOut) (es := es) (lat := lat) (m := m) (by simpa using hmotion)
    ((clearOut_stepDue s l).trans hdue) (by simpa using hphase)
  have halters : Alters [.lane l, .mem] s.clearOut (((s.clearOut.stepped l es lat m).modArun l
      (fun a => { a with offset := o })).atRest l) :=
    ((Alters.modArun (stepped_alters _ _ _ _ _) (by simp)).setMotion (by simp)).modAxis (by simp)
  have heffect : exec (.stepIssue l es lat) s = .next (s.after (((s.clearOut.stepped l es lat m).modArun l
      (fun a => { a with offset := o })).atRest l)) := by
    rw [exec_stepIssue, execStepIssue, perform_after, heq]
    have hhalt' : (((s.clearOut.stepped l es lat m).modArun l (fun a => { a with offset := o })).atRest l).sys.haltReq = false := by
      simp [State.atRest, State.setMotion, State.stepped, State.noteC1, hhalt]
    simp [hlast, hsteady, State.haltSettle, hhalt']
  refine ⟨_, heffect, ?_, ?_, halters.frame hs⟩
  · simp [State.atRest, State.setMotion]
  · simp [State.atRest, State.setMotion, State.stepped, LaneSt.stepped]

theorem holdCurrent_effect (hs : s.Settled) (hon : (s.lane l).arun.energised = true) (hrest : (s.lane l).arun.motion = none) :
    ∃ t, exec (.runCurrentTimeout l) s = .next t
      ∧ (t.lane l).bare = { s.lane l with axis := { (s.lane l).axis with atHold := true } }.bare ∧ Frame [.lane l] s t := by
  have heffect : exec (.runCurrentTimeout l) s = .next (s.after (s.clearOut.modAxis l (fun a => { a with atHold := true }))) := by
    simp [execRunCurrentTimeout, perform_after, hon, hrest]
  refine ⟨_, heffect, ?_, ((Alters.refl _ _).modAxis (by simp)).frame hs⟩
  rw [after_lane_bare]
  cases l <;> rfl

/-- The index pulse latches the count with its last edges. -/
theorem indexPulse_effect (es : List EncEdge) (hfit : (s.img l).axis.encoder = true)
    (hon : (s.lane l).arun.energised = true) :
    exec (.encoderIndex l es) s = .next (s.after (s.clearOut.modAxis l (fun a =>
      { a.counted true (s.img l).axis.encInv es with index := (a.counted true (s.img l).axis.encInv es).enc }))) := by
  have himg : s.clearOut.img l = s.img l := (sameFetch_clearOut s).img l
  rw [exec_encoderIndex, execEncoderIndex, perform_after, countEdges_eq, modAxis_modAxis]
  simp [himg, hfit, hon]

theorem indexPulse_unpowered (es : List EncEdge) (hs : s.Settled) (hoff : (s.lane l).arun.energised = false) :
    ∃ t, exec (.encoderIndex l es) s = .next t ∧ Frame [] s t := by
  have heffect : exec (.encoderIndex l es) s = .next (s.after s.clearOut) := by
    simp [execEncoderIndex, perform_after, hoff]
  exact ⟨_, heffect, (Alters.refl _ _).frame hs⟩

/-- Every edge of a forward turn counts one, and names its levels. -/
theorem quadStep_forward {old new : Nat} (h : (old, new) ∈ [(0, 1), (1, 3), (3, 2), (2, 0)]) :
    quadStep old new = 1 ∧ new % 4 = new := by
  simp only [List.mem_cons, Prod.mk.injEq, List.not_mem_nil, or_false] at h
  obtain ⟨rfl, rfl⟩ | ⟨rfl, rfl⟩ | ⟨rfl, rfl⟩ | ⟨rfl, rfl⟩ := h <;> exact ⟨rfl, rfl⟩

/-- Settles O44: a step is one update of the lane's motion and axis, and an index pulse latches the count. -/
theorem stepsAndRest : Obligations.StepsAndRest := by
  unfold Obligations.StepsAndRest
  refine ⟨fun l es lat m s hs hmotion hon _ hmore hint hphase _ =>
      stepWithin_effect hs hmotion hon hmore hint hphase,
    fun l es lat m s hs hmotion hon hsteady hlast hint _ hphase _ hhalt =>
      stepLast_effect hs hmotion hon hlast hsteady hint hphase hhalt,
    fun l s hs hon hrest => holdCurrent_effect hs hon hrest, fun l s hs hfit hon => ?_,
    fun l es s hs hoff => indexPulse_unpowered es hs hoff, fun l ab ns d s hs hfit hon hns hd hturn => ?_⟩
  · refine ⟨_, indexPulse_effect [] hfit hon, ?_, ((Alters.refl _ _).modAxis (by simp)).frame hs⟩
    rw [after_lane_bare]
    cases l <;> rfl
  · refine ⟨_, indexPulse_effect _ hfit hon, ?_, ((Alters.refl _ _).modAxis (by simp)).frame hs⟩
    obtain ⟨hstep, hab⟩ := quadStep_forward hturn
    simp [AxisSt.counted, AxisSt.edge, hns, hstep, hab, hd]

end Sys2Proof.Machine
end


section
/-!
PROOFS. The training of a link (R336 to R339, Table 12.3).
-/

namespace Sys2Proof.Machine

variable {s : State} {l : Lane}

/-- A record of a lane written by a settled engine with room in its store, whatever else of the lane changes. -/
theorem recordL_settles (hs : s.Settled) (hroom : s.LogRoom) (l : Lane) (code cls : Nat) (detail : List Nat) :
    (s.clearOut.recordL l code cls detail).log.settle = s.log.plus (s.mkRec (code + laneOff l) cls (s.laneBits l) detail) :=
  record_settles (s := s.clearOut) hs.fresh_zero hroom _ _ _ _

theorem linkWake_of_awake (h : (s.lane l).link.st ≠ .down) : s.linkWake l = s := by
  simp [State.linkWake, h]

/-- Flags of PWR.WIRING change PWR alone. -/
theorem setWire_eq (s : State) (l : Lane) (i : Nat) (b : Bool) : ∃ f, s.setWire l i b = s.modPwr f := by
  unfold State.setWire State.setWiring
  cases l with
  | a => exact ⟨_, rfl⟩
  | b => exact ⟨_, rfl⟩

theorem linkDetect_effect (hs : s.Settled) (hdetect : (s.lane l).link.st = .detect) (hidle : (s.lane l).lrun.waiting = false) :
    ∃ t, exec (.linkDetectPoll l true true false) s = .next t
      ∧ (t.lane l).link = { (s.lane l).link with st := .train, resync := false }
      ∧ (t.lane l).lrun.ts1 = 0 ∧ Frame [.lane l, .pwr] s t := by
  obtain ⟨f, hf⟩ := setWire_eq s.clearOut l 5 false
  obtain ⟨g, hg⟩ := setWire_eq (s.clearOut.modPwr f) l 6 false
  have hwake : s.clearOut.linkWake l = s.clearOut := linkWake_of_awake (by simp [hdetect])
  have heffect : exec (.linkDetectPoll l true true false) s =
      .next (s.after (((s.clearOut.modPwr f).modPwr g).linkTrain l)) := by
    simp [execLinkDetectPoll, perform_after, State.detectPoll, hwake, hdetect, hidle, hf, hg]
  refine ⟨_, heffect, by simp [State.linkTrain], by simp [State.linkTrain], ?_⟩
  exact (((((Alters.refl _ _).modPwr (by simp)).modPwr (by simp)).modLink (by simp)).modLrun (by simp)).frame hs

theorem orderedSet_trained {o : OrderedSet} (hs : s.Settled) (htrain : (s.lane l).link.st = .train)
    (hidle : (s.lane l).lrun.waiting = false) (hts1 : o.ts2 = false) (hlock : o.lock = true) (hcount : (s.lane l).lrun.ts1 = 7) :
    ∃ t, exec (.orderedSetReceived l o) s = .next t
      ∧ (t.lane l).link = { (s.lane l).link with st := .config } ∧ (t.lane l).lrun.ts2 = 0 ∧ Frame [.lane l] s t := by
  have heffect : exec (.orderedSetReceived l o) s = .next (s.after (((s.clearOut.modLrun l
      (fun r => { r with ts1 := 8, kLock := true })).modLink l (fun k => { k with st := .config })).modLrun l
      (fun r => { r with ts2 := 0, lastTs2 := none }))) := by
    simp [execOrderedSetReceived, perform_after, State.orderedSet, State.seeTs2, State.trainSet, htrain, hidle, hts1, hlock, hcount]
  refine ⟨_, heffect, by simp, by simp, ?_⟩
  exact ((((Alters.refl _ _).modLrun (by simp)).modLink (by simp)).modLrun (by simp)).frame hs

theorem orderedSet_backToTrain {o : OrderedSet} (hs : s.Settled) (hconfig : (s.lane l).link.st = .config)
    (hidle : (s.lane l).lrun.waiting = false) (hts1 : o.ts2 = false) :
    ∃ t, exec (.orderedSetReceived l o) s = .next t
      ∧ (t.lane l).link = { (s.lane l).link with st := .train, resync := false }
      ∧ (t.lane l).lrun.ts1 = 0 ∧ Frame [.lane l] s t := by
  have heffect : exec (.orderedSetReceived l o) s = .next (s.after ((s.clearOut.linkTrain l).modLrun l
      (fun r => { r with kLock := true }))) := by
    simp [execOrderedSetReceived, perform_after, State.orderedSet, hconfig, hidle, hts1]
  refine ⟨_, heffect, by simp [State.linkTrain], by simp [State.linkTrain], ?_⟩
  exact ((((Alters.refl _ _).modLink (by simp)).modLrun (by simp)).modLrun (by simp)).frame hs

/-- The link's run as it reaches UP. -/
def LinkRun.up (r : LinkRun) : LinkRun :=
  { r with seqNo := 0, badCount := 0, discCount := 0, gotStatus := false, statusDue := true, told := none, protoRec := false }

theorem orderedSet_up {o : OrderedSet} (hs : s.Settled) (hconfig : (s.lane l).link.st = .config)
    (hidle : (s.lane l).lrun.waiting = false) (hts2 : o.ts2 = true) (hcount : (s.lane l).lrun.ts2 = 7)
    (hsame : (s.lane l).lrun.lastTs2 = some { o with sentTs2 := 0 }) (hsent : 16 ≤ o.sentTs2) (hversion : o.version = 1)
    (hlow : 1 ≤ o.maxCredits) (hhigh : o.maxCredits ≤ 1024) (hkept : (s.lane l).lrun.lost = false) :
    ∃ t, exec (.orderedSetReceived l o) s = .next t
      ∧ (t.lane l).link = { (s.lane l).link with
          st := .up, dual := o.dual, magId := o.identity, maxCred := o.maxCredits, granted := 0, used := 0
          trains := satInc 255 (s.lane l).link.trains }
      ∧ (t.lane l).lrun.gotStatus = false ∧ Frame [.lane l] s t := by
  have hfew : ¬ o.sentTs2 < 16 := by omega
  have heffect : exec (.orderedSetReceived l o) s = .next (s.after ((((s.clearOut.modLink l
      (fun k => { k with dual := o.dual, magId := o.identity, maxCred := o.maxCredits })).modLrun l
      (fun r => { r with ts2 := 8, lastTs2 := some { o with sentTs2 := 0 }, kLock := true })).modLink l
      (fun k => { k with st := .up, granted := 0, used := 0, trains := satInc satByte k.trains })).modLrun l LinkRun.up)) := by
    simp [execOrderedSetReceived, perform_after, State.orderedSet, State.seeTs2, State.configSet, State.linkUp, hconfig, hidle,
      hts2, hcount, hsame, hfew, hversion, hlow, hhigh, hkept]
    rfl
  refine ⟨_, heffect, by simp [satByte], by simp [LinkRun.up], ?_⟩
  exact (((((Alters.refl _ _).modLink (by simp)).modLrun (by simp)).modLink (by simp)).modLrun (by simp)).frame hs

theorem trainTimeout_effect (hs : s.Settled) (hroom : s.LogRoom)
    (hst : (s.lane l).link.st = .train ∨ (s.lane l).link.st = .config) (hidle : (s.lane l).lrun.waiting = false) :
    ∃ t, exec (.linkTrainingTimeout l) s = .next t
      ∧ (t.lane l).link = (s.lane l).link ∧ (t.lane l).lrun.waiting = true
      ∧ t.log = s.log.plus (s.mkRec (0xA033 + laneOff l) 0 (s.laneBits l) []) ∧ Frame [.lane l, .log] s t := by
  have heffect : exec (.linkTrainingTimeout l) s = .next (s.after ((s.clearOut.noteL l 0xA033).trainWait l (s.lane l).link.st)) := by
    simp [execLinkTrainingTimeout, perform_after, State.trainTimeout, hst, hidle]
  refine ⟨_, heffect, by simp [State.trainWait, State.noteL, State.recordL], by simp [State.trainWait], ?_, ?_⟩
  · rw [after_log]
    simp only [State.trainWait, State.modLrun_log, State.modLink_log]
    exact recordL_settles hs hroom l 0xA033 0 []
  · exact (((((Alters.refl _ _).noteL (by simp)).modLink (by simp))).modLrun (by simp)).frame hs

/-- Settles O40: each event of the training is an update of the link's registers and its counts. -/
theorem linkTrainingGoesStepByStep : Obligations.LinkTrainingGoesStepByStep := by
  unfold Obligations.LinkTrainingGoesStepByStep
  refine ⟨fun l s hs hdetect hidle => linkDetect_effect hs hdetect hidle,
    fun l o s hs htrain hidle hts1 hlock hcount => orderedSet_trained hs htrain hidle hts1 hlock hcount,
    fun l o s hs hconfig hidle hts1 => orderedSet_backToTrain hs hconfig hidle hts1,
    fun l o s hs hconfig hidle hts2 hcount hsame hsent hversion hlow hhigh hkept =>
      orderedSet_up hs hconfig hidle hts2 hcount hsame hsent hversion hlow hhigh hkept,
    fun l s hs hroom hst hidle => trainTimeout_effect hs hroom hst hidle, fun l s hs => ?_⟩
  cases hwait : (s.lane l).lrun.waiting with
  | true =>
    have heffect : exec (.linkRetryTimer l) s = .next (s.after ((s.clearOut.modLink l (fun k => { k with st := .detect })).modLrun l
        (fun r => { r with waiting := false }))) := by
      simp [execLinkRetryTimer, perform_after, State.retryTimer, hwait]
    refine ⟨_, heffect, by simp, fun _ => ⟨by simp, ?_⟩, fun h => by simp at h⟩
    exact (((Alters.refl _ _).modLink (by simp)).modLrun (by simp)).frame hs
  | false =>
    have heffect : exec (.linkRetryTimer l) s = .next (s.after s.clearOut) := by
      simp [execLinkRetryTimer, perform_after, State.retryTimer, hwait]
    exact ⟨_, heffect, by simpa using hwait, fun h => by simp at h, fun _ => (Alters.refl _ _).frame hs⟩

end Sys2Proof.Machine
end


section
/-!
PROOFS. Port faults (Table 6.4, R189 to R194): what is contained beside a flag leaves the flags as they are.
-/

namespace Sys2Proof.Machine

variable {s : State} {l : Lane}

/-- The flags of PWR.WIRING, of the light bus and of AUX_3V3. -/
def State.portFlags (s : State) : (Nat × Nat × Nat) × Bool × Bool × Bool :=
  ((s.pwr.wiringA, s.pwr.wiringB, s.pwr.wiringL), s.pwr.busSwap, s.pwr.busShort, s.pwr.auxShort)

theorem kept_portFlags (s : State) : Kept (fun t => t.portFlags = s.portFlags) :=
  kept_reading State.portFlags _ (by simp [State.portFlags]) (by simp [State.portFlags]) (by simp [State.portFlags])
    (by simp [State.portFlags]) (by simp [State.portFlags]) (by simp [State.portFlags]) (by simp [State.portFlags, State.setOut])

theorem after_portFlags (s s1 : State) : (s.after s1).portFlags = s1.portFlags := by simp [State.portFlags]

theorem wiring_of_portFlags {t : State} (h : t.portFlags = s.portFlags) (l : Lane) : t.wiring l = s.wiring l := by
  simp only [State.portFlags, Prod.mk.injEq] at h
  obtain ⟨⟨ha, hb, _⟩, _⟩ := h
  cases l
  · exact ha
  · exact hb

theorem bit_or_two_pow (w i : Nat) : bit (w ||| 2 ^ i) i = true := by
  have htest : ∀ v, bit v i = v.testBit i := fun v => by
    rw [Nat.testBit_eq_decide_div_mod_eq]
    rfl
  rw [htest, Nat.testBit_or, Nat.testBit_two_pow_self, Bool.or_true]

theorem setWire_wiring (s : State) (l : Lane) (i : Nat) : (s.setWire l i true).wiring l = s.wiring l ||| 2 ^ i := by
  cases l <;> rfl

theorem Kept.encFault {P : State → Prop} (k : Kept P) {c} (h : P s) : P (s.encFault l c) := by
  unfold State.encFault
  have h' := k.axis (f := fun a => { a with encOk := false }) (l := l) (k.noteL (c := c) (d := []) (l := l) h)
  dsimp only
  split
  · exact h'
  · split
    · exact foldl_keeps (fun h => k.arun h) _ h'
    · split
      · exact k.endRun h'
      · split
        · exact k.voidCal h'
        · exact h'

/-- A lane port's fault: the flag, then what Table 6.4 does beside it. -/
theorem lanePortFault_flag (k : LanePort) (hcfg : s.configured l = true) :
    bit ((s.lanePortFault l k).wiring l) (wireBit k) = true := by
  unfold State.lanePortFault
  rw [hcfg]
  by_cases hset : bit (s.wiring l) (wireBit k) = true
  · simp [hset]
  · have hkeep := kept_portFlags (s.setWire l (wireBit k) true)
    have hgoal : ∀ t : State, t.portFlags = (s.setWire l (wireBit k) true).portFlags → bit (t.wiring l) (wireBit k) = true :=
      fun t ht => by rw [wiring_of_portFlags ht, setWire_wiring, bit_or_two_pow]
    rw [if_neg (by simp [hset])]
    dsimp only
    refine hgoal _ ?_
    split
    · exact hkeep.laneTrip rfl
    · exact hkeep.laneTrip rfl
    · exact hkeep.laneTrip rfl
    · exact hkeep.laneTrip rfl
    · exact hkeep.laneTrip (hkeep.linkDown (hkeep.out rfl))
    · exact hkeep.noteL rfl
    · exact hkeep.noteL rfl
    · exact hkeep.unpowerAxis (hkeep.laneTrip rfl)
    · exact hkeep.unpowerAxis (hkeep.laneTrip rfl)
    · exact hkeep.unpowerAxis (hkeep.laneTrip rfl)
    · exact hkeep.encFault rfl
    · exact hkeep.encFault rfl

/-- A light channel's fault: its flag, then what R190 does beside it. -/
theorem lightPortFault_flag (n c : Nat) (d : List Nat) (hon : s.chOn n = true) (hsound : (s.lux.ch.getD n {}).faulted = false) :
    bit (s.lightPortFault n c d).pwr.wiringL n = true := by
  have hgoal : ∀ t u : State, u.pwr.wiringL = s.pwr.wiringL ||| 2 ^ n → t.portFlags = u.portFlags → bit t.pwr.wiringL n = true :=
    fun t u hu ht => by
      simp only [State.portFlags, Prod.mk.injEq] at ht
      obtain ⟨⟨_, _, hl⟩, _⟩ := ht
      rw [hl, hu, bit_or_two_pow]
  unfold State.lightPortFault
  rw [if_neg (by rw [hon, hsound]; simp)]
  dsimp only
  split
  · exact hgoal _ (s.modPwr (fun p => { p with wiringL := p.wiringL ||| 2 ^ n })) rfl
      ((kept_portFlags _).trip ((kept_portFlags _).record ((kept_portFlags _).modCh rfl)))
  · exact hgoal _ (s.modPwr (fun p => { p with wiringL := p.wiringL ||| 2 ^ n })) rfl
      ((kept_portFlags _).noteItem ((kept_portFlags _).modCh rfl))

theorem busShorted_flag (s : State) : s.busShorted.pwr.busShort = true := by
  have hgoal : ∀ t u : State, u.pwr.busShort = true → t.portFlags = u.portFlags → t.pwr.busShort = true := fun t u hu ht => by
    simp only [State.portFlags, Prod.mk.injEq] at ht
    obtain ⟨_, _, hb, _⟩ := ht
    rw [hb, hu]
  unfold State.busShorted
  split
  · assumption
  · extract_lets owns ls u v
    have hkeep := kept_portFlags u
    have hv : v.portFlags = u.portFlags := hkeep.record rfl
    refine hgoal _ u rfl ?_
    split
    · exact hv
    · split
      · exact hkeep.gangAbort hv
      · exact foldl_keeps (P := fun t => t.portFlags = u.portFlags) (fun h => hkeep.endRun h) _ hv

theorem auxShorted_flag (hnew : s.pwr.auxShort = false) :
    s.auxShorted.pwr.auxShort = true ∧ s.auxShorted.outOn .aux = false := by
  have hshort : s.auxShorted = ((s.modPwr (fun p => { p with auxShort := true })).setOut .aux false).noteItem 0x1031 0 := by
    unfold State.auxShorted
    rw [if_neg (by simp [hnew])]
  rw [hshort]
  refine ⟨by simp [State.noteItem, State.setOut], ?_⟩
  simp only [State.outOn, State.noteItem, State.record_pwr, State.setOut, State.modPwr_pwr]
  rw [List.getD_eq_getElem?_getD, List.getElem?_set]
  split
  · split
    · rfl
    · rfl
  · contradiction

theorem portFault_effect (s : State) (f : PortFault) :
    exec (.portFaultDetected f) s = .next (s.after (s.clearOut.portFault f)) := by
  rw [exec_portFaultDetected, execPortFaultDetected, perform_after]

/-! A watched fault is contained as its port has it. -/

theorem portFault_lane {k : LanePort} (h : s.portWatched (.lanePort l k) = true) :
    s.portFault (.lanePort l k) = s.lanePortFault l k := by
  unfold State.portFault
  rw [h]
  rfl

theorem portFault_light {n : Nat} {k : LightPort} (h : s.portWatched (.lightPort n k) = true) :
    ∃ c d, s.portFault (.lightPort n k) = s.lightPortFault n c d := by
  unfold State.portFault
  rw [h]
  cases k with
  | short => exact ⟨_, _, rfl⟩
  | openString => exact ⟨_, _, rfl⟩
  | reversed => exact ⟨_, _, rfl⟩

theorem portFault_busSwap (h : s.portWatched .busSwap = true) : (s.portFault .busSwap).pwr.busSwap = true := by
  unfold State.portFault
  rw [h]
  show (if s.pwr.busSwap then s else (s.modPwr (fun p => { p with busSwap := true })).note 0x6038).pwr.busSwap = true
  split
  · assumption
  · simp [State.note]

theorem portFault_busShort (h : s.portWatched .busShort = true) : s.portFault .busShort = s.busShorted := by
  unfold State.portFault
  rw [h]
  rfl

theorem portFault_auxShort (h : s.portWatched .auxShort = true) : s.portFault .auxShort = s.auxShorted := by
  unfold State.portFault
  rw [h]
  rfl

/-- Settles O30: the flag is set first, and what else Table 6.4 does leaves the flags alone. -/
theorem portFaultSetsItsFlag : Obligations.PortFaultSetsItsFlag := by
  unfold Obligations.PortFaultSetsItsFlag
  refine ⟨fun l k s hwatched hcfg => ⟨_, portFault_effect s _, ?_⟩,
    fun n k s hwatched hon hsound => ⟨_, portFault_effect s _, ?_⟩, fun s hwatched => ⟨_, portFault_effect s _, ?_⟩,
    fun s hwatched hnew => ⟨_, portFault_effect s _, ?_⟩, fun s hwatched => ?_, fun s hs hphase hsafe => ?_⟩
  · rw [wiring_of_portFlags (after_portFlags _ _), portFault_lane (s := s.clearOut) hwatched]
    exact lanePortFault_flag k (by simpa using hcfg)
  · obtain ⟨c, d, hlight⟩ := portFault_light (s := s.clearOut) hwatched
    rw [after_pwr, hlight]
    exact lightPortFault_flag n c d hon (by simpa using hsound)
  · rw [after_pwr]
    exact portFault_busSwap hwatched
  · obtain ⟨hflag, hout⟩ := auxShorted_flag (s := s.clearOut) (by simpa using hnew)
    rw [portFault_auxShort (s := s.clearOut) hwatched]
    exact ⟨by simpa using hflag, by simpa [State.outOn] using hout⟩
  · have heffect : exec (.lightBusCheck true) s = .next (s.after s.clearOut.busShorted) := by
      rw [exec_lightBusCheck, execLightBusCheck, perform_after, if_pos rfl, portFault_busShort (s := s.clearOut) hwatched]
    exact ⟨_, heffect, by simpa using busShorted_flag s.clearOut⟩
  · have heffect : exec (.lightBusCheck false) s = .next (s.after (s.clearOut.modPwr (fun p => { p with busShort := false }))) := by
      simp [execLightBusCheck, perform_after, hphase, hsafe]
    exact ⟨_, heffect, by simp, ((Alters.refl _ _).modPwr (by simp)).frame hs⟩

end Sys2Proof.Machine
end


section
/-!
SUPPORT. A lane's trip (R131, R135): what keeps either lane's identity and trip, beside the trip that it sets.
-/

namespace Sys2Proof.Machine

section

variable {P : State → Prop} (k : ∀ j, KeptAt j P) (ko : ∀ {s o}, P s → P (State.setOut s o false)) {s : State} {l : Lane}
include k

theorem keptAt_dropFlight {c} (h : P s) : P (s.dropFlight c) := by
  unfold State.dropFlight
  split
  · exact h
  · extract_lets carrier held u v
    have hu : P u := (k carrier).lrun ((k carrier).releaseFrom h)
    refine foldl_keeps (fun h => (k _).sendFrame h) _ ?_
    unfold v
    split
    · exact hu
    · exact (k carrier).lrun hu

theorem keptAt_gangAbort {c} (h : P s) : P (s.gangAbort l c) := by
  unfold State.gangAbort
  split
  · exact h
  · have hrec : P (if s.gangOver then s else s.recordL .a 0x8012 2 [laneNo l]) := by
      split
      · exact h
      · exact (k .a).recordL h
    refine foldl_keeps (fun {s x} h => ?_) _ (keptAt_dropFlight k hrec)
    have hread : P ((s.giveExposure x).modLane x (fun x => { x with reading := none })) :=
      (k x).lane (fun _ => rfl) ((k x).giveExposure h)
    dsimp only
    split
    · exact (k x).stopRun hread
    · split
      · exact (k x).lrun ((k x).pix hread)
      · exact (k x).pix hread

include ko

theorem keptAt_parkHead (h : P s) : P (s.parkHead l) := by
  unfold State.parkHead
  refine (k l).headOff ko ((k l).lane (fun _ => rfl) ?_)
  split
  · exact h
  · exact (k l).dropReading h

variable (kt : ∀ {s}, P s → P (State.modMode s l (fun y => { y with trip := true, tripDue := false })))
include kt

theorem keptAt_tripNow (h : P s) : P (s.tripNow l) := by
  unfold State.tripNow State.darkLane
  extract_lets s1 s2
  have hdark : P s2 := kt (foldl_keeps (fun h => (k l).driveCh h) _ ((k l).headOff ko h))
  split
  · exact (k l).plan hdark
  · exact hdark

theorem keptAt_trip {c} (h : P s) : P (s.trip l c) := by
  have hmove := (k l).endMove h
  have hdue : P ((s.endMove l).modMode l (fun y => { y with tripDue := true })) := (k l).mode (fun _ => rfl) hmove
  unfold State.trip
  dsimp only
  split
  · exact keptAt_tripNow k ko kt (keptAt_parkHead k ko hmove)
  · split
    · exact keptAt_parkHead k ko (keptAt_gangAbort k hdue)
    · split
      · exact keptAt_parkHead k ko ((k l).voidCal hdue)
      · split
        · exact (k l).stopRun (keptAt_parkHead k ko hdue)
        · split
          · exact (k l).lrun (keptAt_parkHead k ko hdue)
          · exact keptAt_parkHead k ko hdue

theorem keptAt_laneTrip {b d} (h : P s) : P (s.laneTrip l b d) := keptAt_trip k ko kt ((k l).recordL h)

end

/-! ### A head's identity (R207 to R211) -/

/-- What is known of lane l's head, and the flags of its port. -/
def State.identShown (s : State) (l : Lane) : (Nat × Option (List Nat)) × ((Nat × Nat × Nat) × Bool × Bool × Bool) :=
  (((s.lane l).head.idState, (s.lane l).head.digest), s.portFlags)

theorem identShown_modLane (s : State) (l j : Lane) {f : LaneSt → LaneSt} (hf : ∀ x, (f x).still = x.still) :
    (s.modLane j f).identShown l = s.identShown l := by
  have hstill := hf (s.lane j)
  simp only [LaneSt.still, Prod.mk.injEq] at hstill
  obtain ⟨_, hid, hdig⟩ := hstill
  cases l <;> cases j <;> simp_all [State.identShown, State.portFlags]

theorem keptAt_identShown (s : State) (l j : Lane) : KeptAt j (fun t => t.identShown l = s.identShown l) where
  lane hf h := (identShown_modLane _ l j hf).trans h
  lux h := Eq.trans (by simp [State.identShown, State.portFlags]) h
  log h := Eq.trans (by simp [State.identShown, State.portFlags]) h
  mark h := Eq.trans (by simp [State.identShown, State.portFlags]) h
  event h := Eq.trans (by simp [State.identShown, State.portFlags]) h

/-- A trip of the lane shows its head and its port as before. -/
theorem identShown_laneTrip (s : State) (l : Lane) (b : Nat) (d : List Nat) :
    (s.laneTrip l b d).identShown l = s.identShown l :=
  keptAt_laneTrip (P := fun t => t.identShown l = s.identShown l) (fun j => keptAt_identShown s l j)
    (fun h => Eq.trans (by simp [State.identShown, State.portFlags, State.setOut]) h)
    (fun h => Eq.trans (by cases l <;> simp [State.identShown, State.portFlags]) h) rfl

variable {s : State} {l : Lane}

theorem judgeTherm_ok {ohm : Nat} (hlo : 700 ≤ ohm) (hhi : ohm ≤ 1700) :
    s.judgeTherm l (some ohm) = s.modHead l (fun x => { x with thermOk := true }) := by
  simp [State.judgeTherm, hlo, hhi]

/-- A full read in bring-up is judged, and then its thermometer. -/
theorem identRead_effect {b : Option (List Nat)} {ohm : Nat} (hphase : s.power.phase = .bringup) (hstage : s.power.stage = 10)
    (hcfg : s.configured l = true) (hon : s.outOn (headOut l) = true) (hlo : 700 ≤ ohm) (hhi : ohm ≤ 1700) :
    exec (.identReadDone l b (some ohm)) s = .next (s.after (((s.clearOut.modHead l (fun h => { h with supply := true })).judgeIdent
      l b).modHead l (fun x => { x with thermOk := true }))) := by
  have hon' : s.clearOut.outOn (headOut l) = true := hon
  simp [execIdentReadDone, perform_after, State.identRead, hphase, hstage, hcfg, hon', judgeTherm_ok hlo hhi]

/-- What a passed read shows of a head. -/
def HeadSt.identified (b : List Nat) (x : HeadSt) : HeadSt :=
  { x with idState := 1, digest := some (b.drop 56), typ := slice b 8 8, serial := u32 b 56 }

theorem judgeIdent_passed {b : List Nat} (hlen : b.length = 64) (hpass : idFinding (s.img l).head (some b) = []) :
    s.judgeIdent l (some b) = s.modHead l (HeadSt.identified b) := by
  have hfit : fit 0 64 b = b := by simp [fit, hlen]
  simp [State.judgeIdent, hpass, hfit]
  rfl

theorem judgeIdent_unread (hcheck : (s.img l).head.idCheck = true) : s.judgeIdent l none =
    ((s.modHead l (fun x => { x with idState := 3, digest := none, typ := List.replicate 8 0, serial := 0 })).setWire l 3
      true).laneTrip l 0x8033 [1] := by
  simp [State.judgeIdent, idFinding, hcheck]

theorem setWire_lane (s : State) (l : Lane) (i : Nat) (b : Bool) (j : Lane) : (s.setWire l i b).lane j = s.lane j := by
  obtain ⟨f, hf⟩ := setWire_eq s l i b
  simp [hf]

theorem supplied_img (s : State) (l : Lane) (f : HeadSt → HeadSt) : (s.clearOut.modHead l f).img l = s.img l :=
  ((sameFetch_clearOut s).modLane l _).img l

theorem identRead_passed {b : List Nat} {ohm : Nat} (hs : s.Settled) (hphase : s.power.phase = .bringup)
    (hstage : s.power.stage = 10) (hcfg : s.configured l = true) (hon : s.outOn (headOut l) = true) (hlen : b.length = 64)
    (hpass : idFinding (s.img l).head (some b) = []) (hlo : 700 ≤ ohm) (hhi : ohm ≤ 1700) :
    ∃ t, exec (.identReadDone l (some b) (some ohm)) s = .next t
      ∧ (t.lane l).head = { (s.lane l).head with
          supply := true, idState := 1, digest := some (b.drop 56), typ := slice b 8 8, serial := u32 b 56, thermOk := true }
      ∧ Frame [.lane l] s t := by
  have heffect := identRead_effect (b := some b) hphase hstage hcfg hon hlo hhi
  rw [judgeIdent_passed hlen (by rw [supplied_img]; exact hpass)] at heffect
  refine ⟨_, heffect, by simp [HeadSt.identified], ?_⟩
  exact ((((Alters.refl _ _).modHead (by simp)).modHead (by simp)).modHead (by simp)).frame hs

theorem identRead_unread {ohm : Nat} (hphase : s.power.phase = .bringup) (hstage : s.power.stage = 10)
    (hcfg : s.configured l = true) (hon : s.outOn (headOut l) = true) (hcheck : (s.img l).head.idCheck = true)
    (hlo : 700 ≤ ohm) (hhi : ohm ≤ 1700) :
    ∃ t, exec (.identReadDone l none (some ohm)) s = .next t ∧ (t.lane l).head.idState = 3
      ∧ (t.lane l).head.digest = none ∧ bit (t.wiring l) 3 = true := by
  have heffect := identRead_effect (b := none) hphase hstage hcfg hon hlo hhi
  rw [judgeIdent_unread (by rw [supplied_img]; exact hcheck)] at heffect
  set u := ((s.clearOut.modHead l (fun h => { h with supply := true })).modHead l
      (fun x => { x with idState := 3, digest := none, typ := List.replicate 8 0, serial := 0 })).setWire l 3 true with hu
  have hhead : (u.lane l).head.idState = 3 ∧ (u.lane l).head.digest = none := by
    simp [hu, setWire_lane]
  have hshown := identShown_laneTrip u l 0x8033 [1]
  simp only [State.identShown, Prod.mk.injEq] at hshown
  obtain ⟨⟨hid, hdig⟩, hflags⟩ := hshown
  refine ⟨_, heffect, ?_, ?_, ?_⟩
  · simp [hid, hhead]
  · simp [hdig, hhead]
  · rw [wiring_of_portFlags (s := u), hu, setWire_wiring, bit_or_two_pow]
    rw [after_portFlags, ← hflags]
    simp [State.portFlags]

/-- Settles O31: the read's finding is shown in HEAD, and a trip that follows leaves it shown. -/
theorem identityReadShowsTheHead : Obligations.IdentityReadShowsTheHead := by
  unfold Obligations.IdentityReadShowsTheHead
  exact ⟨fun l b ohm s hs hphase hstage hcfg hon hlen hpass hlo hhi =>
      identRead_passed hs hphase hstage hcfg hon hlen hpass hlo hhi,
    fun l ohm s hphase hstage hcfg hon hcheck hlo hhi => identRead_unread hphase hstage hcfg hon hcheck hlo hhi⟩

end Sys2Proof.Machine
end


section
/-!
SUPPORT. What changes neither memory, no epoch and no free value: a property that updates of every other part keep is kept
by the operations of the ring, of a commit and of U20.
-/

namespace Sys2Proof.Machine

/-- `P` is kept by every update but those of the banked memory's words, U20's cells, the epochs and the free values. -/
structure Steady (P : State → Prop) : Prop extends Kept P where
  power : ∀ {s f}, P s → P (State.modPower s f)
  clk : ∀ {s f}, P s → P (State.modClk s f)
  pwr : ∀ {s f}, P s → P (State.modPwr s f)
  hist : ∀ {s f}, P s → P (State.modHist s f)
  mem : ∀ {s f}, P s → P (State.modMem s f)
  tmr : ∀ {s f}, P s → P (State.modTmr s f)
  hk : ∀ {s f}, P s → P (State.modHk s f)
  sys : ∀ {s f}, (∀ y : SysSt, (f y).epochs = y.epochs) → P s → P (State.modSys s f)
  flash : ∀ {s f}, (∀ x : FlashSt, (f x).cells = x.cells ∧ (f x).dev = x.dev) → P s → P (State.modFlash s f)
  ledger : ∀ {s : State} {d}, P s → P { s with ledger := d }
  shadow : ∀ {s : State} {d}, P s → P { s with shadow := d }
  pins : ∀ {s : State} {x}, P s → P { s with pins := x }

/-- A reading of the memories and of free values that no other update touches. -/
theorem steady_reading {α : Type} (g : State → α) (v : α)
    (hg : ∀ s t : State, t.bank = s.bank → t.flash.cells = s.flash.cells → t.flash.dev = s.flash.dev → t.free = s.free →
      t.sys.epochs = s.sys.epochs → g t = g s) : Steady (fun t => g t = v) where
  lane h := (hg _ _ (by simp) (by simp) (by simp) (by simp) (by simp)).trans h
  lux h := (hg _ _ (by simp) (by simp) (by simp) (by simp) (by simp)).trans h
  log h := (hg _ _ (by simp) (by simp) (by simp) (by simp) (by simp)).trans h
  mark {s u} h := (hg s (s.mark u) (by simp) (by simp) (by simp) (by simp) rfl).trans h
  event {s b} h := (hg _ _ (by simp) (by simp) (by simp) (by simp) (by unfold State.event; split <;> rfl)).trans h
  gang {s b} h := (hg s (s.modSys (fun y => { y with gang := b })) (by simp) (by simp) (by simp) (by simp) rfl).trans h
  out h := (hg _ _ (by simp [State.setOut]) (by simp [State.setOut]) (by simp [State.setOut]) (by simp [State.setOut])
    (by simp [State.setOut])).trans h
  power h := (hg _ _ (by simp) (by simp) (by simp) (by simp) (by simp)).trans h
  clk h := (hg _ _ (by simp) (by simp) (by simp) (by simp) (by simp)).trans h
  pwr h := (hg _ _ (by simp) (by simp) (by simp) (by simp) (by simp)).trans h
  hist h := (hg _ _ (by simp) (by simp) (by simp) (by simp) (by simp)).trans h
  mem h := (hg _ _ (by simp) (by simp) (by simp) (by simp) (by simp)).trans h
  tmr h := (hg _ _ (by simp) (by simp) (by simp) (by simp) (by simp)).trans h
  hk h := (hg _ _ (by simp) (by simp) (by simp) (by simp) (by simp)).trans h
  sys hf h := (hg _ _ (by simp) (by simp) (by simp) (by simp) (hf _)).trans h
  flash hf h := (hg _ _ (by simp) (hf _).1 (hf _).2 (by simp) (by simp)).trans h
  ledger {s d} h := (hg s { s with ledger := d } rfl rfl rfl rfl rfl).trans h
  shadow {s d} h := (hg s { s with shadow := d } rfl rfl rfl rfl rfl).trans h
  pins {s x} h := (hg s { s with pins := x } rfl rfl rfl rfl rfl).trans h

namespace Steady

variable {P : State → Prop} (k : Steady P) {s : State} {l : Lane}
include k

/-! ### The ring (R562 to R567) -/

theorem issue {op} (h : P s) : P (s.issue op) := k.flash (fun _ => ⟨rfl, rfl⟩) h

theorem openSector {n} (h : P s) : P (s.openSector n) := by
  have hnote : ∀ {s : State} {n}, P s → P (s.noteReclaim n) := fun h => by
    unfold State.noteReclaim
    split
    · exact h
    · exact k.flash (fun _ => ⟨rfl, rfl⟩) (k.note h)
  unfold State.openSector
  dsimp only
  split
  · exact k.issue h
  · exact k.issue (hnote h)

theorem programPage (h : P s) : P s.programPage := by
  unfold State.programPage
  dsimp only
  split
  · exact h
  · exact k.issue (k.log h)

theorem eraseAhead {n} (h : P s) : P (s.eraseAhead n) := by
  unfold State.eraseAhead
  split
  · exact k.issue (k.log h)
  · exact k.log h

theorem ringStep (h : P s) : P s.ringStep := by
  have hlog : P (s.modLog LogSt.settle) := k.log h
  unfold State.ringStep
  dsimp only
  split
  · exact hlog
  · split
    · exact k.eraseAhead hlog
    · split
      · exact k.openSector hlog
      · split
        · exact hlog
        · split
          · exact k.openSector hlog
          · exact k.programPage hlog

theorem ringPlace {n} (h : P s) : P (s.ringPlace n) := k.ledger (k.log h)

theorem ringFull (h : P s) : P s.ringFull := by
  unfold State.ringFull
  split
  · exact k.openSector h
  · exact h

theorem closeSector {n} (h : P s) : P (s.closeSector n) := by
  unfold State.closeSector
  dsimp only
  split
  · exact k.log (k.note (k.log (k.note h)))
  · exact k.log (k.note h)

theorem ringDone {u} (h : P s) : P (s.ringDone u) := by
  unfold State.ringDone
  split
  · exact k.ringFull (k.ringPlace (k.log h))
  · dsimp only
    split
    · exact k.ringPlace (k.ledger (k.log h))
    · exact k.eraseAhead (k.ringPlace (k.ledger (k.log h)))
  · split
    · exact k.openSector h
    · exact h
  · exact h

theorem ringFailed {u} (h : P s) : P (s.ringFailed u) := by
  unfold State.ringFailed
  split
  · dsimp only
    split
    · exact k.ringFull (k.ringPlace (k.closeSector (k.ringPlace (k.log h))))
    · exact k.ringFull (k.ringPlace (k.log h))
  · exact k.ringFull (k.ringPlace (k.ledger (k.closeSector h)))
  · exact h

/-! ### Commits (R265 to R276) -/

theorem beginK2 (h : P s) : P (s.beginK2 l) := k.noteL (k.cal h)

theorem beginCommit (h : P s) : P (s.beginCommit l) := by
  unfold State.beginCommit
  dsimp only
  split
  · exact k.beginK2 (k.cal (k.cal h))
  · exact k.cal (k.cal h)

theorem nextCommitter (h : P s) : P s.nextCommitter := by
  unfold State.nextCommitter
  split
  · exact h
  · split
    · exact k.beginCommit h
    · split
      · exact k.beginCommit h
      · exact h

theorem endCal {n} (h : P s) : P (s.endCal l n) :=
  k.nextCommitter (k.event (k.cal (k.flash (fun _ => ⟨rfl, rfl⟩) h)))

theorem failCal {n} (h : P s) : P (s.failCal l n) := k.endCal (k.noteL h)

theorem failOne {n} (h : P s) : P (s.failOne l n) := by
  unfold State.failOne
  dsimp only
  split
  · exact k.failCal h
  · exact h

theorem calOp (h : P s) : P (s.calOp l) := by
  unfold State.calOp
  dsimp only
  split
  · exact h
  · split
    · exact k.issue h
    · split
      · exact k.issue h
      · split
        · exact k.issue h
        · exact h

theorem guardCal (h : P s) : P s.guardCal := by
  have hgo : ∀ {s : State} {l : Lane}, P s → P (if s.calOpBusy l then s else s.failOne l 3) := fun h => by
    split
    · exact h
    · exact k.failOne h
  unfold State.guardCal
  dsimp only
  split
  · exact hgo (hgo (hgo (hgo h)))
  · exact h

theorem flashNext (h : P s) : P s.flashNext := by
  unfold State.flashNext
  dsimp only
  split
  · exact k.ringStep h
  · exact k.calOp (k.calOp (k.ringStep h))

theorem calDone {op} (h : P s) : P (s.calDone op) := by
  have hcount : ∀ l, P (if s.calTarget l = some op.addr && !op.orphan then
      s.modCal l (fun c => { c with
        count := c.count + 1, prog := if c.state = 4 || c.state = 5 then c.prog + 1 else c.prog })
    else s) := fun l => by
    split
    · exact k.cal h
    · exact h
  unfold State.calDone
  split
  · exact hcount _
  · exact hcount _
  · exact hcount _
  · exact h

theorem calFailed {op} (h : P s) : P (s.calFailed op) := by
  have hfail : ∀ l, P (if s.calTarget l = some op.addr && !op.orphan then s.failCal l 1 else s) := fun l => by
    split
    · exact k.failCal h
    · exact h
  unfold State.calFailed
  split
  · exact hfail _
  · exact hfail _
  · exact hfail _
  · exact h

theorem offDone (h : P s) : P s.offDone := by
  unfold State.offDone
  split
  · exact k.power (k.note h)
  · exact h

/-! ### An operation at U20 (R275) -/

theorem flashGiveUp {op} (h : P s) : P (s.flashGiveUp op) :=
  k.offDone (k.flashNext (k.calFailed (k.guardCal (k.ringFailed (k.flash (fun _ => ⟨rfl, rfl⟩) h)))))

/-- An operation that ended well: what is done beside the cells. -/
theorem afterGood {op u} (h : P s) : P (((s.ringDone u).calDone op).guardCal.flashNext).offDone :=
  k.offDone (k.flashNext (k.guardCal (k.calDone (k.ringDone h))))

end Steady

end Sys2Proof.Machine
end


section
/-!
PROOFS. The end of an operation at U20 (R275, Table 2.16).
-/

namespace Sys2Proof.Machine

variable {s : State} {op : FlashOp}

/-- U20's cells, the device, and the free values taken. -/
def State.cellsRead (s : State) : Mem × FlashDev × Nat := (s.flash.cells, s.flash.dev, s.free)

theorem steady_cellsRead (v : Mem × FlashDev × Nat) : Steady (fun t => t.cellsRead = v) :=
  steady_reading State.cellsRead v (fun s t _ hcells hdev hfree _ => by simp [State.cellsRead, hcells, hdev, hfree])

theorem after_cellsRead (s s1 : State) : (s.after s1).cellsRead = s1.cellsRead := by simp [State.cellsRead]

/-- A failed operation: after its bytes are open, nothing else of the cells changes. -/
theorem flashBad_cellsRead (n : Nat) (b : Bool) : (s.flashBad op n b).cellsRead = (s.scramble op.addr op.span).cellsRead := by
  have k := steady_cellsRead (s.scramble op.addr op.span).cellsRead
  unfold State.flashBad
  dsimp only
  split
  · exact k.flashGiveUp rfl
  · split
    · exact k.issue (k.note rfl)
    · exact k.flashGiveUp (k.note rfl)

theorem get_scramble (s : State) {a n i : Nat} (hi : i < a ∨ a + n ≤ i) :
    Mem.get flashBlank (s.scramble a n).flash.cells i = Mem.get flashBlank s.flash.cells i := by
  show Mem.get flashBlank (Mem.setFlash s.flash.cells a _) i = _
  rw [Mem.setFlash, Mem.get_write, if_neg]
  simp only [List.length_map, List.length_range]
  omega

theorem put_ringOk (g : LogSt) (r : FaultRec) : (g.put r).1.ringOk = g.ringOk := by
  unfold LogSt.put
  dsimp only
  split
  · rfl
  · split <;> rfl

theorem place_ringOk (s : State) (r : FaultRec) : (s.place r).1.log.ringOk = s.log.ringOk := by
  show (State.event _ _).log.ringOk = _
  rw [State.event_log]
  exact put_ringOk s.log r

/-- A record leaves the ring in use as it was. -/
theorem record_ringOk (s : State) (c n p : Nat) (d : List Nat) : (s.record c n p d).log.ringOk = s.log.ringOk := by
  have hplace := place_ringOk s (s.mkRec c n p d)
  show (if (s.place (s.mkRec c n p d)).2 && (s.place (s.mkRec c n p d)).1.dropDue
    then (s.place (s.mkRec c n p d)).1.reportDrops else (s.place (s.mkRec c n p d)).1).log.ringOk = _
  split
  · exact (place_ringOk _ _).trans hplace
  · exact hplace

/-- Whether a retry may be issued is asked of the ring, the power state, PFW and the commits. -/
theorem retryAllowed_congr {t : State} (hring : t.log.ringOk = s.log.ringOk) (hpower : t.power = s.power)
    (hpwr : t.pwr = s.pwr) (hcal : ∀ l, (t.lane l).cal = (s.lane l).cal) : t.retryAllowed op = s.retryAllowed op := by
  have htarget : ∀ l, t.calTarget l = s.calTarget l := fun l => by
    unfold State.calTarget
    rw [hcal]
  have hphase : t.ringPhase = s.ringPhase := by
    unfold State.ringPhase
    rw [hpower]
  unfold State.retryAllowed
  cases op.use <;> simp only [htarget, hphase, hring, hpwr]

theorem scramble_lane (s : State) (a n : Nat) (l : Lane) : (s.scramble a n).lane l = s.lane l := by
  cases l <;> rfl

/-- The state of a failed operation that is retried: its bytes open, its record, and the operation once more. -/
def State.retried (s : State) (op : FlashOp) (n : Nat) : State :=
  ((s.scramble op.addr op.span).noteWrite op n).issue { op with retried := true, due := s.clk.interval }

theorem flashBad_retried (n : Nat) (hfirst : op.retried = false) (hretry : s.retryAllowed op = true) :
    s.flashBad op n true = s.retried op n := by
  have hallowed : ((s.scramble op.addr op.span).noteWrite op n).retryAllowed op = true := by
    rw [← hretry]
    refine retryAllowed_congr (record_ringOk _ _ _ _ _) (State.record_power _ _ _ _ _) (State.record_pwr _ _ _ _ _) (fun l => ?_)
    rw [State.noteWrite, State.note, State.record_lane, scramble_lane]
  have hclk : ((s.scramble op.addr op.span).noteWrite op n).clk = s.clk := State.record_clk _ _ _ _ _
  unfold State.flashBad State.retried
  simp only [hfirst, hallowed, hclk, Bool.and_self, Bool.false_eq_true, if_false, if_true]

theorem retried_alters (n : Nat) : Alters [.flash, .log, .free] s (s.retried op n) := by
  have hcells : ∀ m : Mem, Alters [.flash, .log, .free] s { s with flash := { s.flash with cells := m } } := fun m p hp => by
    cases p with
    | lane l => cases l <;> rfl
    | flash => simp at hp
    | _ => simp [Part.kept]
  exact (((hcells _).takeFree (by simp)).note (by simp)).modFlash (by simp)

/-- An operation that may be retried is recorded and issued once more. -/
theorem retried_effect {n : Nat} (hs : s.Settled) (hroom : s.LogRoom) :
    (s.after (s.clearOut.retried op n)).flash.op = some { op with retried := true, due := s.clk.interval }
      ∧ (∃ r, (s.after (s.clearOut.retried op n)).log = s.log.plus r ∧ r.code = 0x7041 ∧ r.cls = 0
        ∧ r.detail = [if op.program then 1 else 2, lo16 op.addr, hi16 op.addr, n].map (· % 65536))
      ∧ Frame [.flash, .log, .free] s (s.after (s.clearOut.retried op n)) := by
  refine ⟨by simp [State.retried, State.issue], ⟨(s.clearOut.scramble op.addr op.span).mkRec 0x7041 0 0
    [if op.program then 1 else 2, lo16 op.addr, hi16 op.addr, n], ?_, rfl, rfl, rfl⟩, (retried_alters n).frame hs⟩
  rw [after_log, State.retried, State.issue, State.modFlash_log]
  rw [State.noteWrite, State.note, record_settles (s := s.clearOut.scramble op.addr op.span) hs.fresh_zero hroom]
  rfl

/-- Settles O32: an operation changes its cells first, and what follows it leaves them. -/
theorem flashOperationsEnd : Obligations.FlashOperationsEnd := by
  unfold Obligations.FlashOperationsEnd
  refine ⟨fun op s hop hdue => ?_, fun op s hop hdue => ?_, fun op s hs hroom hop hdue hfirst hretry => ?_,
    fun op s hs hroom hop hdue hfirst hretry => ?_⟩
  · have heffect : exec (.flashOpDone true) s = .next (s.after (s.clearOut.flashGood op)) := by
      simp [execFlashOpDone, perform_after, hop, hdue]
    have hread := (after_cellsRead s _).trans
      ((steady_cellsRead (op.apply s.flash.cells, s.flash.dev, s.free)).afterGood (op := op) (u := op.use)
        (s := s.clearOut.modFlash (fun f => { f with cells := op.apply f.cells, op := none })) rfl)
    simp only [State.cellsRead, Prod.mk.injEq] at hread
    exact ⟨_, heffect, hread⟩
  · have heffect : exec (.flashOpDone false) s = .next (s.after (s.clearOut.flashBad op 1 true)) := by
      simp [execFlashOpDone, perform_after, hop, hdue]
    have hread := (after_cellsRead s _).trans (flashBad_cellsRead (s := s.clearOut) (op := op) 1 true)
    simp only [State.cellsRead, Prod.mk.injEq] at hread
    obtain ⟨hcells, _, hfree⟩ := hread
    refine ⟨_, heffect, hfree, fun a ha _ => ?_⟩
    rw [hcells]
    exact get_scramble s.clearOut ha
  · have heffect : exec (.flashOpDone false) s = .next (s.after (s.clearOut.retried op 1)) := by
      have hretry' : s.clearOut.retryAllowed op = s.retryAllowed op :=
        retryAllowed_congr rfl rfl rfl (fun l => clearOut_lane_cal s l)
      rw [← flashBad_retried (s := s.clearOut) 1 hfirst (hretry'.trans hretry)]
      simp [execFlashOpDone, perform_after, hop, hdue]
    exact ⟨_, heffect, retried_effect hs hroom⟩
  · have heffect : exec (.flashOpTimeout true) s = .next (s.after (s.clearOut.retried op 2)) := by
      have hretry' : s.clearOut.retryAllowed op = s.retryAllowed op :=
        retryAllowed_congr rfl rfl rfl (fun l => clearOut_lane_cal s l)
      rw [← flashBad_retried (s := s.clearOut) 2 hfirst (hretry'.trans hretry)]
      simp [execFlashOpTimeout, perform_after, hop, hdue]
    exact ⟨_, heffect, retried_effect hs hroom⟩

end Sys2Proof.Machine
end


section
/-!
PROOFS. The steps of a coefficient commit (R265 to R270, Table 9.2).
-/

namespace Sys2Proof.Machine

variable {s : State} {l : Lane}

/-! ### A record's context -/

/-- What a record says of the engine: its log, time, modes and power state. -/
theorem mkRec_congr {t : State} (hlog : t.log = s.log) (htmr : t.tmr = s.tmr) (hmode : ∀ l, (t.lane l).mode.mode = (s.lane l).mode.mode)
    (hpower : t.power = s.power) (hsafe : t.sys.safe = s.sys.safe) (hservice : t.sys.service = s.sys.service)
    (hhalt : t.sys.haltActive = s.sys.haltActive) (hfree : t.free = s.free) (c n p : Nat) (d : List Nat) :
    t.mkRec c n p d = s.mkRec c n p d := by
  have ha : t.laneA.mode.mode = s.laneA.mode.mode := hmode .a
  have hb : t.laneB.mode.mode = s.laneB.mode.mode := hmode .b
  simp only [State.mkRec, State.context, State.engineMode, State.powerCode, hlog, htmr, ha, hb, hpower, hsafe, hservice, hhalt,
    hfree]

/-- A record of a state that has the settled state's log and context. -/
theorem record_plus {t : State} (hs : s.Settled) (hroom : s.LogRoom) (hlog : t.log = s.log) {c n p : Nat} {d : List Nat}
    (hrec : t.mkRec c n p d = s.mkRec c n p d) : (t.record c n p d).log.settle = s.log.plus (s.mkRec c n p d) := by
  rw [record_settles (by rw [hlog]; exact hs.fresh_zero) (by rw [State.LogRoom, hlog]; exact hroom), hlog, hrec]

/-! ### The host's command -/

theorem applyWrite_pix (l : Lane) {r : Req} (hu : r.unit = pixUnit l) (hne : r.items ≠ []) :
    s.applyWrite r = (s.pixWrite l r).mark (pixUnit l) := by
  have hloud : r.items.all (fun q => quietWord (pixUnit l) q.1) = false := by
    obtain ⟨q, qs, hq⟩ := List.exists_cons_of_ne_nil hne
    cases l <;> simp [hq, pixUnit, headUnit, quietWord]
  unfold State.applyWrite
  cases l <;> simp_all [pixUnit, headUnit, unitLane]

theorem aperture_pix (l : Lane) {r : Req} (hu : r.unit = pixUnit l) : r.aperture = false := by
  cases l <;> simp [Req.aperture, hu, pixUnit, headUnit]

/-- The lane's commit as the host's command begins it: of which set, into which slot, under which sequence. -/
def CalSt.commanded (set : Nat) (y : Bool) (q : Nat) (cd : CalSet) (c : CalSt) : CalSt :=
  { c with cmdSet := set, kind := 3, set := set, slotY := y, seq := q, count := 0, prog := 0, cand := cd, state := 3 }

theorem modCal_modCal (s : State) (l : Lane) (f g : CalSt → CalSt) :
    (s.modCal l f).modCal l g = s.modCal l (fun c => g (f c)) := by cases l <;> rfl

theorem spare_modCal (s : State) (l : Lane) (f : CalSt → CalSt) (n : Nat) : (s.modCal l f).spare l n = s.spare l n := by
  simp [State.spare]

theorem coefCommit_eq (s : State) (l : Lane) {n : Nat} (hn : (s.lane l).cal.cmdSet = n) : ∃ cd, s.coefCommit l =
    (s.modCal l (CalSt.commanded n (s.spare l n).1 (s.spare l n).2 cd)).noteL l 0x9030
      ([n, b2n (s.spare l n).1] ++ leWords 2 (s.spare l n).2) := by
  unfold State.coefCommit State.beginCommit State.beginK2
  simp only [State.modCal_lane, spare_modCal, hn, if_true, modCal_modCal]
  subst hn
  generalize State.candidate (s.modCal l _) l = cd
  exact ⟨cd, by cases l <;> rfl⟩

theorem pixWrite_command (l : Lane) (k e : Nat) : ∃ cd, s.pixWrite l (hostWrite (pixUnit l) 0x026 [k % 4 + 4] e) =
    (s.modCal l (CalSt.commanded (k % 4) (s.spare l (k % 4)).1 (s.spare l (k % 4)).2 cd)).noteL l 0x9030
      ([k % 4, b2n (s.spare l (k % 4)).1] ++ leWords 2 (s.spare l (k % 4)).2) := by
  have hgo : bit (k % 4 + 4) 2 = true := by
    have h : k % 4 < 4 := Nat.mod_lt _ (by decide)
    generalize k % 4 = n at h
    revert n
    decide
  have hset : (k % 4 + 4) % 4 = k % 4 := by omega
  have hstage : ∀ c : CalSt, c.stage.mapIdx (fun i v => (hostWrite (pixUnit l) 0x026 [k % 4 + 4] e).put (0x040 + i) 65536 v) =
      c.stage := fun c => by
    refine List.ext_getElem? (fun i => ?_)
    have hout : (hostWrite (pixUnit l) 0x026 [k % 4 + 4] e).at? (0x040 + i) = none := hostWrite_at_other (by omega)
    simp [Req.put, hout]
  have hcmd : ∀ c : CalSt, (hostWrite (pixUnit l) 0x026 [k % 4 + 4] e).put 0x026 4 c.cmdSet = k % 4 := fun c => by
    simp [Req.put, hostWrite_at_own]
  have hsets : (hostWrite (pixUnit l) 0x026 [k % 4 + 4] e).sets 0x026 2 = true := by
    simp [Req.sets, Req.val, hostWrite_at_own, hgo]
  obtain ⟨cd, hcd⟩ := coefCommit_eq (s.modCal l (fun c => { c with cmdSet := k % 4 })) l (n := k % 4) (by simp)
  refine ⟨cd, ?_⟩
  unfold State.pixWrite
  simp only [hstage, hcmd, hsets, if_true, hcd, spare_modCal, modCal_modCal]
  rfl

theorem noteL_modCal_plus (hs : s.Settled) (hroom : s.LogRoom) (f : CalSt → CalSt) (code : Nat) (d : List Nat) :
    ((s.mgtOpen.clearOut.modCal l f).noteL l code d).log.settle =
      s.log.plus (s.mkRec (code + laneOff l) 0 (s.laneBits l) d) := by
  have hbits : (s.mgtOpen.clearOut.modCal l f).laneBits l = s.laneBits l := by simp [State.laneBits, State.partyBits]
  have hmode : ∀ l', ((s.mgtOpen.clearOut.modCal l f).lane l').mode.mode = (s.lane l').mode.mode := fun l' => by
    cases l <;> cases l' <;> simp [State.lane]
  rw [State.noteL, State.recordL, hbits]
  exact record_plus hs hroom (by simp) (mkRec_congr (by simp) (by simp) hmode (by simp) (by simp) (by simp) (by simp)
    (by simp) _ _ _ _)

theorem calCommand_effect {k e : Nat} (hs : s.Settled) (hroom : s.LogRoom)
    (ha : s.Accepts (hostWrite (pixUnit l) 0x026 [k % 4 + 4] e)) :
    ∃ t, exec (.pixCalcmdGo l k e) s = .next t ∧ t.Replied (hostWrite (pixUnit l) 0x026 [k % 4 + 4] e) []
      ∧ (t.lane l).cal.kind = 3 ∧ (t.lane l).cal.set = k % 4 ∧ (t.lane l).cal.state = 3
      ∧ ((t.lane l).cal.slotY, (t.lane l).cal.seq) = s.spare l (k % 4)
      ∧ t.log = s.log.plus (s.mkRec (0x9030 + laneOff l) 0 (s.laneBits l)
          ([k % 4, b2n (s.spare l (k % 4)).1] ++ leWords 2 (s.spare l (k % 4)).2))
      ∧ Frame [.lane l, .log] s t := by
  have hspare : s.mgtOpen.clearOut.spare l (k % 4) = s.spare l (k % 4) := by simp [State.spare]
  obtain ⟨cd, hcd⟩ := pixWrite_command (s := s.mgtOpen.clearOut) l k e
  rw [hspare] at hcd
  have heffect := (frameEffect_write (s := s.mgtOpen.clearOut) rfl (aperture_pix l (hostWrite_unit ..)) 0 0).trans
    ((applyWrite_pix l (hostWrite_unit ..) (by simp [hostWrite, Req.items])).trans (congrArg (State.mark · (pixUnit l)) hcd))
  obtain ⟨w, j, hexec, hreply⟩ := oneWrite_answered ha heffect
  refine ⟨_, hexec, hreply, ?_, ?_, ?_, ?_, ?_, ?_⟩
  · simp [State.noteL, State.recordL, CalSt.commanded]
  · simp [State.noteL, State.recordL, CalSt.commanded]
  · simp [State.noteL, State.recordL, CalSt.commanded]
  · simp [State.noteL, State.recordL, CalSt.commanded]
  · rw [answered_log_settle, State.mark_log]
    exact noteL_modCal_plus hs hroom _ _ _
  · exact (((Alters.refl _ _).modCal (by simp)).noteL (by simp)).mark.frame_answered hs

/-! ### The steps K2 and K7 -/

/-- Step K3 begins: no sector of the slot is erased yet. -/
def CalSt.erasing (c : CalSt) : CalSt := { c with state := 4, count := 0, prog := 0 }

/-- The commit has ended well, and no run waits for it. -/
def CalSt.succeeded (c : CalSt) : CalSt := { c with state := 0, result := 1, lastSeq := c.seq }

theorem offDone_in_run {t : State} (h : t.power.phase = .run) : t.offDone = t := by simp [State.offDone, h]

theorem calOp_erases {t : State} (hop : t.flash.op = none) (hint : t.clk.interval = false) (hpfw : t.pwr.pfw = false) :
    (t.modCal l CalSt.erasing).calOp l = (t.modCal l CalSt.erasing).issue
      { program := false, addr := slotAddr l (t.lane l).cal.set (t.lane l).cal.slotY, use := .calErase l } := by
  unfold State.calOp
  simp [hop, hint, hpfw, CalSt.erasing]

theorem calStep_afterK2 {t : State} (hstate : (t.lane l).cal.state = 3) (hsaved : t.recSaved (0x9030 + laneOff l) = true)
    (hop : t.flash.op = none) (hint : t.clk.interval = false) (hpfw : t.pwr.pfw = false) :
    t.calStep l = (t.modCal l CalSt.erasing).issue
      { program := false, addr := slotAddr l (t.lane l).cal.set (t.lane l).cal.slotY, use := .calErase l } := by
  unfold State.calStep
  dsimp only
  rw [hstate]
  simp only
  rw [if_pos hsaved]
  exact calOp_erases hop hint hpfw

theorem nextCommitter_of_none {t : State} (ha : t.laneA.cal.state ≠ 9) (hb : t.laneB.cal.state ≠ 9) :
    t.nextCommitter = t := by
  simp [State.nextCommitter, ha, hb]

theorem orphan_none {t : State} (h : ((t.flash.op.map (fun op => op.use.ofCal l)).getD false) = false) :
    t.modFlash (fun f => { f with op := f.op.map (fun op => if op.use.ofCal l then { op with orphan := true } else op) }) = t := by
  have hsame : t.flash.op.map (fun op => if op.use.ofCal l then { op with orphan := true } else op) = t.flash.op := by
    obtain hop | ⟨op, hop⟩ := Option.eq_none_or_eq_some t.flash.op
    · simp [hop]
    · simp_all
  rw [State.modFlash, hsame]

theorem calStep_afterK7 {t : State} (hstate : (t.lane l).cal.state = 8) (hsaved : t.recSaved (0x9031 + laneOff l) = true)
    (hkind : (t.lane l).cal.acqKind = 0) (hwait : (t.lane l).cal.acqWait = false) (hother : (t.lane (otherLane l)).cal.state ≠ 9)
    (hop : ((t.flash.op.map (fun op => op.use.ofCal l)).getD false) = false) :
    t.calStep l = (t.modCal l CalSt.succeeded).event 9 := by
  have hnone : ((t.modCal l CalSt.succeeded).event 9).nextCommitter = (t.modCal l CalSt.succeeded).event 9 := by
    cases l
    · exact nextCommitter_of_none (by simp [CalSt.succeeded]) (by simpa [otherLane, State.lane] using hother)
    · exact nextCommitter_of_none (by simpa [otherLane, State.lane] using hother) (by simp [CalSt.succeeded])
  have hfin : (t.modCal l (fun c =>
      if c.acqWait then { c with lastSeq := c.seq, state := 9, kind := c.acqKind, set := c.acqSet, acqKind := 0, acqWait := false, result := 1 }
      else if c.acqKind != 0 then { c with lastSeq := c.seq, state := 1, kind := c.acqKind, set := c.acqSet, result := 1 }
      else { c with lastSeq := c.seq, state := 0, result := 1 })) = t.modCal l CalSt.succeeded := by
    cases l <;> simp_all [State.modCal, State.modLane, CalSt.succeeded, State.lane]
  unfold State.calStep
  dsimp only
  rw [hstate]
  simp only
  rw [if_pos hsaved, State.endCal, orphan_none hop]
  refine Eq.trans ?_ hnone
  rw [← hfin]
  rfl


theorem calCommitStepDone_eq {c2 c1 : Nat} (hint : s.clk.interval = false) (hcommit : committing (s.lane l).cal = true)
    (hstate : (s.lane l).cal.state ≠ 7) (hrun : (((s.clearOut.noteC2 c2).calStep l).power.phase = .run)) :
    exec (.calCommitStepDone ⟨l, c2, c1⟩) s = .next (s.after ((s.clearOut.noteC2 c2).calStep l)) := by
  have hswap : (s.clearOut.noteC2 c2).swapped ((s.clearOut.noteC2 c2).calStep l) l = false := by
    simp [State.swapped, State.noteC2, hstate]
  simp only [exec_calCommitStepDone, execCalCommitStepDone, perform_after, State.clearOut_clk, hint, Bool.false_eq_true, if_false,
    clearOut_lane_cal, hcommit, if_true, hswap, offDone_in_run hrun]

theorem stepAfterK2_effect {c2 c1 : Nat} (hs : s.Settled) (hstate : (s.lane l).cal.state = 3)
    (hsaved : s.recSaved (0x9030 + laneOff l) = true) (hop : s.flash.op = none) (hint : s.clk.interval = false)
    (hpfw : s.pwr.pfw = false) (hrun : s.power.phase = .run) : ∃ t, exec (.calCommitStepDone ⟨l, c2, c1⟩) s = .next t
      ∧ (t.lane l).cal = { (s.lane l).cal with state := 4, count := 0, prog := 0 }
      ∧ t.mem = { s.mem with c2Worst := max s.mem.c2Worst (min 8191 c2) }
      ∧ t.flash.op = some { program := false, addr := slotAddr l (s.lane l).cal.set (s.lane l).cal.slotY, use := .calErase l }
      ∧ t.flash.cells = s.flash.cells ∧ Frame [.lane l, .flash, .mem] s t := by
  have hstep := calStep_afterK2 (t := s.clearOut.noteC2 c2) (l := l) (by simpa [State.noteC2] using hstate)
    (by simpa [State.noteC2, State.recSaved] using hsaved) (by simpa [State.noteC2] using hop)
    (by simpa [State.noteC2] using hint) (by simpa [State.noteC2] using hpfw)
  have heffect := calCommitStepDone_eq (l := l) (c2 := c2) (c1 := c1) hint (by simp [committing, hstate]) (by simp [hstate])
    (by rw [hstep]; simpa [State.noteC2, State.issue] using hrun)
  rw [hstep] at heffect
  refine ⟨_, heffect, ?_, ?_, ?_, ?_, ?_⟩
  · simp [State.noteC2, State.issue, CalSt.erasing]
  · simp [State.noteC2, State.issue]
  · simp [State.noteC2, State.issue]
  · simp [State.noteC2, State.issue]
  · exact ((((Alters.refl _ _).modMem (by simp)).modCal (by simp)).modFlash (by simp)).frame hs

theorem stepAfterK7_effect {c2 c1 : Nat} (hs : s.Settled) (hstate : (s.lane l).cal.state = 8)
    (hsaved : s.recSaved (0x9031 + laneOff l) = true) (hint : s.clk.interval = false) (hkind : (s.lane l).cal.acqKind = 0)
    (hwait : (s.lane l).cal.acqWait = false) (hother : (s.lane (otherLane l)).cal.state ≠ 9)
    (hop : ((s.flash.op.map (fun op => op.use.ofCal l)).getD false) = false) (hrun : s.power.phase = .run) :
    ∃ t, exec (.calCommitStepDone ⟨l, c2, c1⟩) s = .next t
      ∧ (t.lane l).cal = { (s.lane l).cal with state := 0, result := 1, lastSeq := (s.lane l).cal.seq }
      ∧ t.mem = { s.mem with c2Worst := max s.mem.c2Worst (min 8191 c2) } ∧ Frame [.lane l, .mem] s t := by
  have hstep := calStep_afterK7 (t := s.clearOut.noteC2 c2) (l := l) (by simpa [State.noteC2] using hstate)
    (by simpa [State.noteC2, State.recSaved] using hsaved) (by simpa [State.noteC2] using hkind)
    (by simpa [State.noteC2] using hwait) (by simpa [State.noteC2] using hother) (by simpa [State.noteC2] using hop)
  have heffect := calCommitStepDone_eq (l := l) (c2 := c2) (c1 := c1) hint (by simp [committing, hstate]) (by simp [hstate])
    (by rw [hstep]; simpa [State.noteC2] using hrun)
  rw [hstep] at heffect
  refine ⟨_, heffect, ?_, ?_, ?_⟩
  · simp [State.noteC2, CalSt.succeeded]
  · simp [State.noteC2]
  · exact ((((Alters.refl _ _).modMem (by simp)).modCal (by simp)).event).frame hs

/-- Settles O34: the host's command begins K2, K2's end the first erase of K3, and K7's end shows the outcome. -/
theorem calibrationCommitSteps : Obligations.CalibrationCommitSteps := by
  unfold Obligations.CalibrationCommitSteps
  exact ⟨fun l k e s hs hroom ha => calCommand_effect hs hroom ha,
    fun l c2 c1 s hs hstate hsaved hop hint hpfw hrun => stepAfterK2_effect hs hstate hsaved hop hint hpfw hrun,
    fun l c2 c1 s hs hstate hsaved hint hkind hwait hother hop hrun =>
      stepAfterK7_effect hs hstate hsaved hint hkind hwait hother hop hrun⟩

end Sys2Proof.Machine
end


section
/-!
PROOFS. Memory as words: reading and writing a window (R287), and the management aperture (R290).
-/

namespace Sys2Proof.Machine

/-! ### Words and bytes -/

/-- The word at a physical word address: two bytes, the low one first. -/
def wordAt (m : Mem) (a : Nat) : Nat :=
  (Mem.get memBlank m (2 * a)).toNat + 256 * (Mem.get memBlank m (2 * a + 1)).toNat

theorem bytesToWords_map_range (f : Nat → Nat) (n : Nat) :
    bytesToWords ((List.range (2 * n)).map f) = (List.range n).map (fun i => f (2 * i) % 256 + 256 * (f (2 * i + 1) % 256)) := by
  induction n generalizing f with
  | zero => rfl
  | succ n ih =>
    have htwo : List.range (2 * (n + 1)) = 0 :: 1 :: (List.range (2 * n)).map (· + 2) := by
      rw [show 2 * (n + 1) = 2 * n + 1 + 1 from by ring, List.range_succ_eq_map, List.range_succ_eq_map]
      simp
    rw [htwo, List.range_succ_eq_map]
    simp only [List.map_cons, List.map_map, bytesToWords, ih]
    rfl

theorem words_eq_wordAt {m : Mem} (h : Mem.wf memBlank m = true) (a n : Nat) :
    Mem.words m a n = (List.range n).map (fun i => wordAt m (a + i)) := by
  have hsmall : ∀ b : Byte, b.toNat % 256 = b.toNat := fun b => Nat.mod_eq_of_lt b.isLt
  rw [Mem.words, Mem.read_eq_get h, List.map_map, bytesToWords_map_range]
  refine List.map_congr_left fun i _ => ?_
  simp only [Function.comp_apply, hsmall, wordAt, Nat.mul_add, Nat.add_assoc]

theorem walk_length (d : Byte) (n a : Nat) (m : Mem) : (Mem.walk d n a m).length = n := by
  induction n generalizing a m with
  | zero => rfl
  | succ n ih =>
    cases m with
    | nil => simp [Mem.walk, ih]
    | cons c m =>
      unfold Mem.walk
      split <;> simp [ih]

theorem words_length (m : Mem) (a n : Nat) : (Mem.words m a n).length = n := by
  rw [Mem.words, bytesToWords_length, List.length_map, Mem.read, walk_length]
  omega

theorem words_one {m : Mem} (h : Mem.wf memBlank m = true) (a : Nat) : Mem.words m a 1 = [wordAt m a] := by
  simp [words_eq_wordAt h]

theorem wordsToBytes_length (ws : List Nat) : (wordsToBytes ws).length = 2 * ws.length := by
  induction ws with
  | nil => rfl
  | cons w ws ih => simp only [wordsToBytes, List.length_cons, ih]; ring

theorem wordsToBytes_even (ws : List Nat) (i : Nat) : (wordsToBytes ws).getD (2 * i) 0 = ws.getD i 0 % 256 := by
  induction ws generalizing i with
  | nil => simp [wordsToBytes]
  | cons w ws ih =>
    cases i with
    | zero => rfl
    | succ i => simpa [wordsToBytes, Nat.mul_add] using ih i

theorem wordsToBytes_odd (ws : List Nat) (i : Nat) : (wordsToBytes ws).getD (2 * i + 1) 0 = ws.getD i 0 / 256 % 256 := by
  induction ws generalizing i with
  | nil => simp [wordsToBytes]
  | cons w ws ih =>
    cases i with
    | zero => rfl
    | succ i => simpa [wordsToBytes, Nat.mul_add] using ih i

/-- A word after words were laid from an address on. -/
theorem wordAt_setWords (m : Mem) (w a : Nat) (ws : List Nat) :
    wordAt (Mem.setWords m w ws) a = if w ≤ a ∧ a < w + ws.length then ws.getD (a - w) 0 % 65536 else wordAt m a := by
  have hbyte : ∀ k, ((wordsToBytes ws).map (BitVec.ofNat 8)).getD k memBlank = BitVec.ofNat 8 ((wordsToBytes ws).getD k 0) := fun k => by
    simp only [List.getD_eq_getElem?_getD, List.getElem?_map]
    cases (wordsToBytes ws)[k]? <;> rfl
  simp only [wordAt, Mem.setWords, Mem.get_write, List.length_map, wordsToBytes_length, hbyte]
  by_cases hin : w ≤ a ∧ a < w + ws.length
  · rw [if_pos (by omega), if_pos (by omega), if_pos hin, show 2 * a - 2 * w = 2 * (a - w) from by omega,
      show 2 * a + 1 - 2 * w = 2 * (a - w) + 1 from by omega, wordsToBytes_even, wordsToBytes_odd]
    simp only [BitVec.toNat_ofNat]
    omega
  · rw [if_neg (by omega), if_neg (by omega), if_neg hin]

/-! ### Windows -/

section wrap

variable {base len k o : Nat} {m : Mem} {ws : List Nat}

/-- The pieces of a window's words: how many more the rest needs. -/
theorem rest_fits {n : Nat} (hfuel : n + o ≤ (k + 1) * len) : n - (len - o) + 0 ≤ k * len := by
  rw [Nat.add_mul] at hfuel
  omega

/-- The place of the rest's word j is that of word `len - o + j` of the whole. -/
theorem rest_place (ho : o < len) (j : Nat) : (0 + j) % len = (o + (len - o + j)) % len := by
  rw [show o + (len - o + j) = len + j from by omega, Nat.add_mod_left, Nat.zero_add]

theorem wordAt_wrapWrite_other {a : Nat} (ho : o < len) (hmiss : ∀ i, i < ws.length → a ≠ base + (o + i) % len) :
    wordAt (wrapWrite base len k m o ws) a = wordAt m a := by
  induction k generalizing m o ws with
  | zero => rfl
  | succ k ih =>
    unfold wrapWrite
    split
    · rfl
    · rw [ih (by omega) (fun j hj => ?_), wordAt_setWords, if_neg (fun hin => ?_)]
      · rw [List.length_take] at hin
        refine hmiss (a - (base + o)) (by omega) ?_
        rw [Nat.mod_eq_of_lt (by omega)]
        omega
      · rw [List.length_drop] at hj
        rw [rest_place ho]
        exact hmiss _ (by omega)

theorem wordAt_wrapWrite_last {i : Nat} (ho : o < len) (hfuel : ws.length + o ≤ k * len) (hi : i < ws.length)
    (hlast : ws.length ≤ i + len) : wordAt (wrapWrite base len k m o ws) (base + (o + i) % len) = ws.getD i 0 % 65536 := by
  induction k generalizing m o ws i with
  | zero => omega
  | succ k ih =>
    unfold wrapWrite
    rw [if_neg (by cases ws <;> simp_all)]
    rcases Nat.lt_or_ge i (len - o) with hfirst | hrest
    · have hplace : (o + i) % len = o + i := Nat.mod_eq_of_lt (by omega)
      rw [hplace, wordAt_wrapWrite_other (by omega) (fun j hj => ?_), wordAt_setWords, List.length_take, if_pos (by omega),
        show base + (o + i) - (base + o) = i from by omega]
      · simp [List.getD_eq_getElem?_getD, hfirst]
      · rw [List.length_drop] at hj
        have hlow : (0 + j) % len = j ∨ j ≥ len := by
          rcases Nat.lt_or_ge j len with h | h
          · exact .inl (by rw [Nat.zero_add, Nat.mod_eq_of_lt h])
          · exact .inr h
        omega
    · obtain ⟨j, rfl⟩ := Nat.exists_eq_add_of_le hrest
      have hj := ih (m := Mem.setWords m (base + o) (ws.take (len - o))) (o := 0) (ws := ws.drop (len - o)) (i := j) (by omega)
        (by rw [List.length_drop]; exact rest_fits hfuel) (by rw [List.length_drop]; omega) (by rw [List.length_drop]; omega)
      rw [rest_place ho] at hj
      rw [hj]
      simp [List.getD_eq_getElem?_getD]

theorem wrapRead_length {n : Nat} (ho : o < len) (hfuel : n + o ≤ k * len) : (wrapRead m base len k o n).length = n := by
  induction k generalizing o n with
  | zero => simp_all [wrapRead]
  | succ k ih =>
    unfold wrapRead
    split
    · simp_all
    · rw [List.length_append, ih (by omega) (rest_fits hfuel), words_length]
      omega

theorem wrapRead_eq {n : Nat} (h : Mem.wf memBlank m = true) (ho : o < len) (hfuel : n + o ≤ k * len) :
    wrapRead m base len k o n = (List.range n).map (fun i => wordAt m (base + (o + i) % len)) := by
  induction k generalizing o n with
  | zero => simp_all [wrapRead]
  | succ k ih =>
    unfold wrapRead
    split
    · simp_all
    · rw [ih (by omega) (rest_fits hfuel), words_eq_wordAt h]
      refine List.ext_getElem (by simp; omega) fun i hi hi' => ?_
      simp only [List.length_map, List.length_range] at hi'
      rw [List.getElem_append]
      simp only [List.length_map, List.length_range, List.getElem_map, List.getElem_range]
      split
      · rw [Nat.mod_eq_of_lt (by omega), Nat.add_assoc]
      · rw [rest_place ho, show o + (len - o + (i - min n (len - o))) = o + i from by omega]

end wrap

section window

variable {s : State} {w o : Nat}

theorem fuel_suffices {n len o : Nat} (hlen : 0 < len) : n + o % len ≤ (n / len + 2) * len := by
  have hn := Nat.div_add_mod n len
  have hrest := Nat.mod_lt n hlen
  have ho := Nat.mod_lt o hlen
  rw [Nat.mul_comm] at hn
  rw [Nat.add_mul]
  omega

theorem winAddr_eq (hlen : 0 < (s.shadow.windows.getD w {}).len) (i : Nat) : s.winAddr w (o + i) =
    (s.shadow.windows.getD w {}).base + (o % (s.shadow.windows.getD w {}).len + i) % (s.shadow.windows.getD w {}).len := by
  simp only [State.winAddr, Nat.pos_iff_ne_zero.mp hlen, if_false, Nat.mod_add_mod]

theorem winRead_length (hlen : 0 < (s.shadow.windows.getD w {}).len) (n : Nat) : (s.winRead w o n).length = n := by
  unfold State.winRead
  simp only [Nat.pos_iff_ne_zero.mp hlen, if_false]
  have hread := wrapRead_length (m := s.bank) (base := (s.shadow.windows.getD w {}).base) (Nat.mod_lt o hlen)
    (fuel_suffices (n := n) (o := o) hlen)
  split
  · rw [List.length_mapIdx, hread]
  · exact hread

theorem winRead_eq (h : Mem.wf memBlank s.bank = true) (hlen : 0 < (s.shadow.windows.getD w {}).len)
    (hmarch : s.marching = false) (n : Nat) :
    s.winRead w o n = (List.range n).map (fun i => wordAt s.bank (s.winAddr w (o + i))) := by
  unfold State.winRead
  simp only [Nat.pos_iff_ne_zero.mp hlen, if_false, hmarch, Bool.false_eq_true, winAddr_eq hlen,
    wrapRead_eq h (Nat.mod_lt _ hlen) (fuel_suffices hlen)]

theorem winWrite_other {ws : List Nat} {a : Nat} (hlen : 0 < (s.shadow.windows.getD w {}).len)
    (hmiss : ∀ i, i < ws.length → a ≠ s.winAddr w (o + i)) : wordAt (s.winWrite w o ws).bank a = wordAt s.bank a := by
  simp only [winAddr_eq hlen] at hmiss
  unfold State.winWrite
  simp only [Nat.pos_iff_ne_zero.mp hlen, if_false]
  exact wordAt_wrapWrite_other (Nat.mod_lt _ hlen) hmiss

theorem winWrite_last {ws : List Nat} {i : Nat} (hlen : 0 < (s.shadow.windows.getD w {}).len) (hi : i < ws.length)
    (hlast : ws.length ≤ i + (s.shadow.windows.getD w {}).len) :
    wordAt (s.winWrite w o ws).bank (s.winAddr w (o + i)) = ws.getD i 0 % 65536 := by
  rw [winAddr_eq hlen]
  unfold State.winWrite
  simp only [Nat.pos_iff_ne_zero.mp hlen, if_false]
  exact wordAt_wrapWrite_last (Nat.mod_lt _ hlen) (fuel_suffices hlen) hi hlast

theorem winWrite_mem (ws : List Nat) : (s.winWrite w o ws).mem = s.mem := by
  unfold State.winWrite; dsimp only; split <;> rfl

theorem winWrite_shadow (ws : List Nat) : (s.winWrite w o ws).shadow = s.shadow := by
  unfold State.winWrite; dsimp only; split <;> rfl

/-- What a window's write leaves in memory rests on memory and the windows alone. -/
theorem winWrite_bank_congr {t : State} (hshadow : t.shadow = s.shadow) (hbank : t.bank = s.bank) (ws : List Nat) :
    (t.winWrite w o ws).bank = (s.winWrite w o ws).bank := by
  unfold State.winWrite
  dsimp only
  rw [hshadow, hbank]
  split
  · exact hbank
  · rfl

theorem Alters.winWrite {t : State} {ps : List Part} {ws : List Nat} (h : Alters ps s t) (hp : .bank ∈ ps) :
    Alters ps s (t.winWrite w o ws) := by
  unfold State.winWrite
  dsimp only
  split
  · exact h
  · exact h.setBank hp

end window

/-! ### The aperture -/

section aperture

variable {s : State} {r : Req}

theorem aperture_unit (hap : r.aperture = true) : r.unit = 3 := by
  simp only [Req.aperture, Bool.and_eq_true, decide_eq_true_eq] at hap
  exact hap.1.1

/-- What an accepted write through the aperture does, its unit marked or not. -/
theorem apertureWrite_effect (hap : r.aperture = true) (hw : r.write = true) (lat : Nat) (P : State → Prop)
    (hquiet : P (((s.apertureWrite r.data).apertureAdvance r.n).modMem (fun m => { m with c2Worst := max m.c2Worst (min 8191 lat) })))
    (hmark : P ((((s.apertureWrite r.data).apertureAdvance r.n).mark 3).modMem
      (fun m => { m with c2Worst := max m.c2Worst (min 8191 lat) }))) : P (s.frameEffect r 0 0 lat) := by
  unfold State.frameEffect State.applyWrite State.memWrite
  simp only [hw, hap, if_true, aperture_unit hap]
  split
  · exact hquiet
  · exact hmark

theorem apertureWrite_settles (hs : s.Settled) (harr : arrival r.words = .good r) (ha : s.Accepts r) (hap : r.aperture = true)
    (hw : r.write = true) (hlen : 0 < (s.shadow.windows.getD s.mem.hwin {}).len) (hn : r.data.length = r.n)
    (hdata : ∀ w ∈ r.data, w < 65536) (hwf : Mem.wf memBlank s.bank = true) {k lat : Nat} :
    ∃ t, exec (.memDataAccess r.words k lat) s = .next t ∧ t.Replied r []
      ∧ (∀ i, i < r.n → r.n ≤ i + (s.shadow.windows.getD s.mem.hwin {}).len →
        Mem.words t.bank (s.winAddr s.mem.hwin (s.mem.hoff + i)) 1 = [r.data.getD i 0])
      ∧ t.mem = { s.mem with hoff := (s.mem.hoff + r.n) % (s.shadow.windows.getD s.mem.hwin {}).len,
                             c2Worst := max s.mem.c2Worst (min 8191 lat) }
      ∧ (∀ a, (∀ i, i < r.n → a ≠ s.winAddr s.mem.hwin (s.mem.hoff + i)) → Mem.words t.bank a 1 = Mem.words s.bank a 1)
      ∧ Frame [.mem, .bank] s t := by
  obtain ⟨w, j, hexec, hreply⟩ := mgtRequest_write (lat := lat) ha hw rfl
  have hgood : exec (.memDataAccess r.words k lat) s = s.mgtRequest r 0 lat := by
    rw [exec_memDataAccess, execMemDataAccess, mgtFrame_good harr, if_pos hw, pastWords_good harr]
  have hpos := Nat.pos_iff_ne_zero.mp hlen
  have hbank : (s.mgtOpen.clearOut.frameEffect r 0 0 lat).bank = (s.winWrite s.mem.hwin s.mem.hoff r.data).bank := by
    have hwritten : ∀ ws, (s.mgtOpen.clearOut.winWrite s.mem.hwin s.mem.hoff ws).bank = _ :=
      fun ws => winWrite_bank_congr (s := s) (by simp) (by simp) ws
    refine apertureWrite_effect hap hw lat (fun t => t.bank = _) ?_ ?_ <;>
      simp only [State.apertureAdvance, State.apertureWrite, State.modMem_bank, State.mark_bank] <;> exact hwritten _
  have hmem : (s.mgtOpen.clearOut.frameEffect r 0 0 lat).mem =
      { s.mem with hoff := (s.mem.hoff + r.n) % (s.shadow.windows.getD s.mem.hwin {}).len,
                   c2Worst := max s.mem.c2Worst (min 8191 lat) } := by
    have hsame : ((s.mgtOpen.clearOut.apertureWrite r.data).apertureAdvance r.n).mem =
        { s.mem with hoff := (s.mem.hoff + r.n) % (s.shadow.windows.getD s.mem.hwin {}).len } := by
      unfold State.apertureAdvance State.apertureWrite
      simp only [State.modMem_mem, winWrite_mem, winWrite_shadow, State.clearOut_mem, State.clearOut_shadow]
      exact congrArg (fun n => { s.mem with hoff := n }) (if_neg hpos)
    refine apertureWrite_effect hap hw lat (fun t => t.mem = _) ?_ ?_ <;> simp [hsame]
  have halters : Alters [.mem, .bank] s.mgtOpen.clearOut (s.mgtOpen.clearOut.frameEffect r 0 0 lat) := by
    have hwritten : Alters [.mem, .bank] s.mgtOpen.clearOut ((s.mgtOpen.clearOut.apertureWrite r.data).apertureAdvance r.n) :=
      ((Alters.refl _ _).winWrite (by simp)).modMem (by simp)
    exact apertureWrite_effect hap hw lat (Alters [.mem, .bank] s.mgtOpen.clearOut) (hwritten.modMem (by simp))
      (hwritten.mark.modMem (by simp))
  have hwf' := State.winWrite_wf s.mem.hwin s.mem.hoff r.data hwf
  refine ⟨_, hgood.trans hexec, hreply, fun i hi hlast => ?_, ?_, fun a hmiss => ?_, halters.frame_answered hs⟩
  · rw [answered_bank, hbank, words_one hwf', winWrite_last hlen (hn ▸ hi) (hn ▸ hlast),
      Nat.mod_eq_of_lt (hdata _ ?_)]
    rw [List.getD_eq_getElem _ _ (hn ▸ hi)]
    exact List.getElem_mem _
  · rw [answered_mem, hmem]
  · rw [answered_bank, hbank, words_one hwf', words_one hwf, winWrite_other hlen (hn ▸ hmiss)]

/-- What an accepted read through the aperture does: a header of the window may be left open for the host to go on. -/
theorem apertureRead_effect (hap : r.aperture = true) (hw : r.write = false) (k lat : Nat) : ∃ ap,
    s.frameEffect r 0 k lat = ((s.modSys (fun y => { y with apert := ap })).apertureAdvance r.n).modMem
      (fun m => { m with c2Worst := max m.c2Worst (min 8191 lat) }) := by
  have hsame : s = s.modSys (fun y => { y with apert := s.sys.apert }) := rfl
  unfold State.frameEffect State.applyRead
  simp only [hw, hap, if_true, Bool.false_eq_true, if_false]
  split
  · split
    · exact ⟨_, rfl⟩
    · exact ⟨_, rfl⟩
  · exact ⟨_, rfl⟩

theorem sameEpochs_apertureRead (hap : r.aperture = true) (hw : r.write = false) (k lat : Nat) :
    SameEpochs s (s.frameEffect r 0 k lat) := by
  obtain ⟨ap, heffect⟩ := apertureRead_effect (s := s) hap hw k lat
  rw [heffect]
  exact ⟨fun _ => rfl, rfl, rfl, rfl⟩

theorem apertureRead_answers (hs : s.Settled) (harr : arrival r.words = .good r) (ha : s.Accepts r) (hap : r.aperture = true)
    (hw : r.write = false) (hlen : 0 < (s.shadow.windows.getD s.mem.hwin {}).len) {k lat : Nat} :
    ∃ t, exec (.memDataAccess r.words k lat) s = .next t
      ∧ t.sys.response = (answer 0 3 (s.sys.epochs.getD 3 0) (s.winRead s.mem.hwin s.mem.hoff r.n)).take
          (if r.n ≤ k then r.n + 2 else k + 1)
      ∧ t.mem = { s.mem with hoff := (s.mem.hoff + r.n) % (s.shadow.windows.getD s.mem.hwin {}).len,
                             c2Worst := max s.mem.c2Worst (min 8191 lat) }
      ∧ Frame [.mem] s t := by
  obtain ⟨ap, heffect⟩ := apertureRead_effect (s := s.mgtOpen.clearOut) hap hw k lat
  have hep := answered_epochs_of_same (w := []) (k := 0) hs (sameEpochs_apertureRead (s := s.mgtOpen.clearOut) hap hw k lat)
  have hep' : (s.mgtOpen.after (s.mgtOpen.clearOut.frameEffect r 0 k lat)).sys.epochs = s.sys.epochs := hep
  have hdata : s.frameData r 0 = s.winRead s.mem.hwin s.mem.hoff r.n := by simp [State.frameData, State.readData, hw, hap]
  have hgood : exec (.memDataAccess r.words k lat) s = .next (s.answered (s.mgtOpen.clearOut.frameEffect r 0 k lat)
      ((answer 0 3 (s.sys.epochs.getD 3 0) (s.winRead s.mem.hwin s.mem.hoff r.n)).take (if r.n ≤ k then r.n + 2 else k + 1))
      r.words.length) := by
    rw [exec_memDataAccess, execMemDataAccess, mgtFrame_good harr, if_neg (by simp [hw]), mgtRequest_ok ha, performMgt_after]
    unfold State.answered State.shiftedOut
    rw [hep', hdata, winRead_length hlen, hw, aperture_unit hap]
    by_cases hk : r.n ≤ k
    · simp [hk, List.take_of_length_le, answer, winRead_length hlen]
    · simp [hk]
  have hport : ∀ x : State, Alters [.mem] x (x.modSys (fun y => { y with apert := ap })) := fun x p _ => by
    cases p with
    | ledger => exact ⟨rfl, rfl⟩
    | _ => rfl
  have halters : Alters [.mem] s.mgtOpen.clearOut (s.mgtOpen.clearOut.frameEffect r 0 k lat) := by
    rw [heffect]
    exact ((hport _).modMem (by simp)).modMem (by simp)
  refine ⟨_, hgood, by rw [State.answered, State.modSys_sys], ?_, halters.frame_answered hs⟩
  rw [answered_mem, heffect]
  simp only [State.apertureAdvance, State.modMem_mem]
  exact congrArg (fun n => { s.mem with hoff := n, c2Worst := max s.mem.c2Worst (min 8191 lat) })
    (if_neg (Nat.pos_iff_ne_zero.mp hlen))

end aperture

/-- Settles O36: a write lays its words piece by piece in the window, and a read answers the words found there. -/
theorem apertureReadsAndWritesTheWindow : Obligations.ApertureReadsAndWritesTheWindow := by
  unfold Obligations.ApertureReadsAndWritesTheWindow
  exact ⟨fun r k lat s hs harr ha hap hw hlen hn hdata hwf => apertureWrite_settles hs harr ha hap hw hlen hn hdata hwf,
    fun r k lat s hs harr ha hap hw hlen => apertureRead_answers hs harr ha hap hw hlen⟩

end Sys2Proof.Machine
end


section
/-!
PROOFS. What the frames of a link change (R340): the link, its run and the epoch marks alone.
-/

namespace Sys2Proof.Machine

/-- The update touches a lane's link and its run on it alone, and keeps the link's state and the run's end. -/
def LinkPart (f : LaneSt → LaneSt) : Prop := ∀ x, f x = { x with link := (f x).link, lrun := (f x).lrun }
  ∧ (f x).link.st = x.link.st ∧ (f x).link.resync = x.link.resync ∧ (f x).lrun.ending = x.lrun.ending

/-- `P` is kept by updates of lane `l`'s link, and by epoch marks. -/
structure KeptByLink (l : Lane) (P : State → Prop) : Prop where
  lane : ∀ {s f}, LinkPart f → P s → P (State.modLane s l f)
  mark : ∀ {s u}, P s → P (State.mark s u)

theorem frameEffect_linkPart (t : Nat) (f : List Nat) : LinkPart (frameEffect t f) := fun x => by
  unfold frameEffect
  dsimp only
  split <;> exact ⟨rfl, rfl, rfl, rfl⟩

namespace KeptByLink

variable {l : Lane} {P : State → Prop} (k : KeptByLink l P) {s : State}
include k

theorem link {f} (hf : ∀ y : LinkSt, (f y).st = y.st ∧ (f y).resync = y.resync) (h : P s) : P (s.modLink l f) :=
  k.lane (fun x => ⟨rfl, (hf x.link).1, (hf x.link).2, rfl⟩) h
theorem lrun {f} (hf : ∀ r : LinkRun, (f r).ending = r.ending) (h : P s) : P (s.modLrun l f) :=
  k.lane (fun x => ⟨rfl, rfl, rfl, hf x.lrun⟩) h

theorem wire {t f} (h : P s) : P (s.wire l t f) := by
  have h1 := k.lane (frameEffect_linkPart t f) (k.lrun (fun _ => rfl) (f := fun r => { r with
    tx := r.tx ++ [((t + 256 * ((s.lane l).lrun.seqNo % 256)) :: f) ++ [crcLink ((t + 256 * ((s.lane l).lrun.seqNo % 256)) :: f)]],
    seqNo := (r.seqNo + 1) % 256 }) h)
  unfold State.wire
  dsimp only
  split
  · exact k.mark h1
  · exact h1

theorem sendStatus (h : P s) : P (s.sendStatus l) := by
  unfold State.sendStatus
  exact k.lrun (fun _ => rfl) (k.wire h)

theorem tellEpoch (h : P s) : P (s.tellEpoch l) := by
  unfold State.tellEpoch
  dsimp only
  split
  · exact k.sendStatus h
  · exact h

theorem pumpN (n : Nat) : ∀ {s}, P s → P (State.pumpN n s l) := by
  induction n with
  | zero => exact fun h => h
  | succ n ih =>
    intro s h
    unfold State.pumpN
    split
    · exact ih (k.tellEpoch (k.wire (k.lrun (fun _ => rfl) h)))
    · exact h

theorem sayEnd (h : P s) : P (s.sayEnd l) := by
  unfold State.sayEnd
  split
  · exact k.lrun (fun _ => rfl) (k.wire h)
  · exact h

theorem pump (h : P s) : P (s.pump l) := by
  unfold State.pump
  dsimp only
  split
  · exact k.sayEnd (k.pumpN _ (k.tellEpoch h))
  · exact k.tellEpoch h

theorem drainQueue (n : Nat) : ∀ {s}, P s → P (State.drainQueue n s l) := by
  induction n with
  | zero => exact fun h => h
  | succ n ih =>
    intro s h
    unfold State.drainQueue
    split
    · exact ih (k.wire (k.lrun (fun _ => rfl) h))
    · exact ih (k.wire (k.link (fun _ => ⟨rfl, rfl⟩) (k.lrun (fun _ => rfl) h)))
    · exact h

theorem flushLink {c} (h : P s) : P (s.flushLink l c) := by
  unfold State.flushLink
  extract_lets x keep q s1
  have h1 : P s1 := k.lrun (fun _ => rfl) h
  split
  · exact k.drainQueue _ (k.tellEpoch h1)
  · exact h1

theorem sendFrame {t f} (h : P s) : P (s.sendFrame l t f) := k.pump (k.lrun (fun _ => rfl) h)
theorem frameFirst {t f} (h : P s) : P (s.frameFirst l t f) := k.pump (k.lrun (fun _ => rfl) h)
theorem queueTx {is} (h : P s) : P (s.queueTx l is) := k.lrun (fun _ => rfl) h

end KeptByLink

theorem keptByLink_alters {l : Lane} {ps : List Part} {s : State} (hp : .lane l ∈ ps) : KeptByLink l (Alters ps s) where
  lane _ h := h.modLane hp
  mark h := h.mark

/-- A reading that rests on neither link nor run nor marks stands. -/
theorem keptByLink_reading {α : Type} {l : Lane} {g : State → α} {v : α}
    (hlane : ∀ s f, LinkPart f → g (State.modLane s l f) = g s) (hmark : ∀ s u, g (State.mark s u) = g s) :
    KeptByLink l (fun s => g s = v) where
  lane hf h := (hlane _ _ hf).trans h
  mark h := (hmark _ _).trans h

theorem pump_till (s : State) (l : Lane) : ((s.pump l).lane l).till = (s.lane l).till :=
  (keptByLink_reading (g := fun s => (s.lane l).till) (fun s f hf => by rw [State.modLane_lane, (hf _).1])
    (fun s u => by rw [State.mark_lane])).pump rfl

/-! ### The drain (R309 to R312) -/

theorem Alters.pump {l : Lane} {ps : List Part} {s t : State} (h : Alters ps s t) (hp : .lane l ∈ ps) : Alters ps s (t.pump l) :=
  (keptByLink_alters hp).pump h

theorem tillSize_congr {s t : State} (h : t.shadow = s.shadow) (l : Lane) : t.tillSize l = s.tillSize l := by
  simp only [State.tillSize, State.tillSec, State.img, h]

theorem advRptr_till (s : State) (l : Lane) (n : Nat) : ((s.advRptr l n).lane l).till = { (s.lane l).till with
    rptr := ((s.lane l).till.rptr + n) % (2 * s.tillSize l), rptr2 := ((s.lane l).till.rptr + n) % (2 * s.tillSize l) } := by
  simp [State.advRptr]

theorem queueTx_till (s : State) (l : Lane) (is : List TxItem) : ((s.queueTx l is).lane l).till = (s.lane l).till := by
  simp [State.queueTx]

theorem queueTx_shadow (s : State) (l : Lane) (is : List TxItem) : (s.queueTx l is).shadow = s.shadow := by
  simp [State.queueTx]

theorem advRptr_shadow (s : State) (l : Lane) (n : Nat) : (s.advRptr l n).shadow = s.shadow := by simp [State.advRptr]

theorem Alters.queueTx {l : Lane} {ps : List Part} {s t : State} {is} (h : Alters ps s t) (hp : .lane l ∈ ps) :
    Alters ps s (t.queueTx l is) := h.modLrun hp

theorem SameFetch.queueTx {s t : State} (h : SameFetch s t) (l : Lane) (is : List TxItem) : SameFetch s (t.queueTx l is) := by
  unfold State.queueTx State.modLrun
  exact h.modLane l _

theorem SameFetch.advRptr {s t : State} (h : SameFetch s t) (l : Lane) (n : Nat) : SameFetch s (t.advRptr l n) := by
  unfold State.advRptr State.modTill
  exact h.modLane l _

theorem Alters.advRptr {l : Lane} {ps : List Part} {s t : State} {n} (h : Alters ps s t) (hp : .lane l ∈ ps) :
    Alters ps s (t.advRptr l n) := h.modTill hp

/-- RPTR after `n` payload words of slot `q` and, with its last, the trailer; nothing else of the pointers moves. -/
theorem fetchWords_till {s : State} {l : Lane} {q : Slot} {n : Nat} (hopen : s.fenced l (s.tillSec l).window = false)
    (hfit : 0 < n ∨ ((s.lane l).till.rptr % (2 * s.tillSize l) = (s.lane l).till.rptr ∧ (s.lane l).till.rptr2 = (s.lane l).till.rptr)) :
    ((s.fetchWords l q n).lane l).till.rptr =
        ((s.lane l).till.rptr + n + (if q.closed ∧ q.fetched + n = q.w then 4 else 0)) % (2 * s.tillSize l)
      ∧ ((s.fetchWords l q n).lane l).till.rptr2 = ((s.fetchWords l q n).lane l).till.rptr
      ∧ ((s.fetchWords l q n).lane l).till.wptr = (s.lane l).till.wptr
      ∧ ((s.fetchWords l q n).lane l).till.tails = (s.lane l).till.tails := by
  unfold State.fetchWords
  extract_lets win rd s1 s2 f s3
  have h1 : s1 = s := by simp [s1, win, State.fenceLine, hopen]
  have hsize : s2.tillSize l = s.tillSize l := tillSize_congr (by simp only [s2, h1]; split <;> simp [advRptr_shadow, queueTx_shadow]) l
  have h2 : (s2.lane l).till.rptr = ((s.lane l).till.rptr + n) % (2 * s.tillSize l) ∧ (s2.lane l).till.rptr2 = (s2.lane l).till.rptr
      ∧ (s2.lane l).till.wptr = (s.lane l).till.wptr ∧ (s2.lane l).till.tails = (s.lane l).till.tails := by
    simp only [s2, h1]
    split
    case isTrue h0 =>
      subst h0
      obtain hpos | ⟨hmod, htwo⟩ := hfit
      · omega
      · exact ⟨hmod.symm, htwo, rfl, rfl⟩
    case isFalse =>
      rw [advRptr_till, queueTx_till, tillSize_congr (queueTx_shadow ..)]
      exact ⟨rfl, rfl, rfl, rfl⟩
  obtain ⟨hr, hr2, hw, ht⟩ := h2
  simp only [Bool.and_eq_true, decide_eq_true_eq, f]
  split
  case isTrue hc =>
    simp only [s3, State.modTill_lane, advRptr_till, queueTx_till, hr, hw, ht]
    rw [tillSize_congr (queueTx_shadow ..), hsize, Nat.mod_add_mod]
    exact ⟨rfl, trivial, trivial, trivial⟩
  case isFalse hc => simp [hr, hr2, hw, ht]

theorem Alters.fetchWords {l : Lane} {ps : List Part} {s t : State} {q : Slot} {n : Nat} (h : Alters ps s t)
    (hp : .lane l ∈ ps) (hopen : t.fenced l (t.tillSec l).window = false) : Alters ps s (t.fetchWords l q n) := by
  unfold State.fetchWords
  extract_lets win rd s1 s2 f s3
  have h1 : s1 = t := by simp [s1, win, State.fenceLine, hopen]
  have h2 : Alters ps s s2 := by
    simp only [s2, h1]
    split
    · exact h
    · exact (h.queueTx hp).advRptr hp
  split
  · exact ((h2.queueTx hp).advRptr hp).modTill hp
  · exact h2.modTill hp

theorem SameFetch.noteGrants {s t : State} (h : SameFetch s t) (l : Lane) (gs : List C0Grant) : SameFetch s (t.noteGrants l gs) :=
  foldl_keeps (P := SameFetch s) (fun {t g} h => by
    dsimp only
    split
    · exact h
    · refine ⟨h.shadow, h.bank, Eq.trans ?_ h.tpos, Eq.trans ?_ h.marching, h.gang, h.twoLanes⟩
      · simp only [State.noteC0, State.modMem_mem]; split <;> rfl
      · simp only [State.noteC0, State.marching, State.modMem_mem, State.modMem_power]; split <;> rfl) gs h

theorem Alters.noteGrants {l : Lane} {ps : List Part} {s t : State} {gs} (h : Alters ps s t) (hp : .mem ∈ ps) :
    Alters ps s (t.noteGrants l gs) :=
  Alters.foldl (fun {t g} h => by
    dsimp only
    split
    · exact h
    · exact h.modMem hp) gs h

theorem noteGrants_lane (s : State) (l k : Lane) (gs : List C0Grant) : (s.noteGrants l gs).lane k = s.lane k :=
  foldl_keeps (P := fun t => t.lane k = s.lane k) (fun {t g} h => by
    dsimp only
    split
    · exact h
    · exact (State.modMem_lane ..).trans h) gs rfl

/-- The slot at the Till's front, as written as `seen` (R243). -/
def Slot.see (q : Slot) (seen : Nat) : Slot := { q with written := max q.written (min seen q.w) }

theorem seeWritten_slots {s : State} {l : Lane} {q : Slot} {qs : List Slot} (h : (s.lane l).till.slots = q :: qs) (w : Nat) :
    ((s.clearOut.seeWritten l w).lane l).till = { (s.lane l).till with slots := q.see w :: qs } := by
  simp [State.seeWritten, h, Slot.see]

/-- A fetch from an own window, in a state `x` of the command: RPTR, its copy, and the frame. -/
theorem fetch_outcome {s x : State} {l : Lane} {q : Slot} {n : Nat} (hs : s.Settled) (hfetch : SameFetch s x)
    (halters : Alters [.lane l, .mem] s.clearOut x) (hopen : s.fenced l (s.tillSec l).window = false)
    (hfit : 0 < n ∨ ((x.lane l).till.rptr % (2 * s.tillSize l) = (x.lane l).till.rptr ∧ (x.lane l).till.rptr2 = (x.lane l).till.rptr)) :
    ((s.after ((x.fetchWords l q n).pump l)).lane l).till.rptr =
        ((x.lane l).till.rptr + n + (if q.closed ∧ q.fetched + n = q.w then 4 else 0)) % (2 * s.tillSize l)
      ∧ ((s.after ((x.fetchWords l q n).pump l)).lane l).till.rptr2 = ((s.after ((x.fetchWords l q n).pump l)).lane l).till.rptr
      ∧ ((s.after ((x.fetchWords l q n).pump l)).lane l).till.wptr = (x.lane l).till.wptr
      ∧ ((s.after ((x.fetchWords l q n).pump l)).lane l).till.tails = (x.lane l).till.tails
      ∧ Frame [.lane l, .mem] s (s.after ((x.fetchWords l q n).pump l)) := by
  have hsize := tillSize_congr hfetch.shadow l
  have hopen' : x.fenced l (x.tillSec l).window = false := by
    rw [hfetch.fenced, State.tillSec, hfetch.img]
    exact hopen
  obtain ⟨hr, hr2, hw, ht⟩ := fetchWords_till (q := q) hopen' (hsize.symm ▸ hfit)
  refine ⟨?_, ?_, ?_, ?_, ((halters.fetchWords (by simp) hopen').pump (by simp)).frame hs⟩ <;>
    simp only [after_lane_till, pump_till, hr, hr2, hw, ht, hsize]

section fetches

variable {s : State} {l : Lane} {q : Slot} {qs : List Slot} {w n : Nat} {gs : List C0Grant}

theorem seeWritten_linkRuns : (s.clearOut.seeWritten l w).linkRuns l = s.linkRuns l := by
  simp [State.linkRuns, State.linkLive, State.seeWritten]

theorem burstRoom_congr {x y : LaneSt} (hq : y.lrun.txq = x.lrun.txq) (hk : y.link = x.link) : y.burstRoom = x.burstRoom := by
  unfold LaneSt.burstRoom LaneSt.bursts
  rw [hq, hk]

theorem seeWritten_burstRoom : ((s.clearOut.seeWritten l w).lane l).burstRoom = (s.lane l).burstRoom :=
  burstRoom_congr (by simp [State.seeWritten]) (by simp [State.seeWritten])

theorem sameFetch_seeWritten : SameFetch s (s.clearOut.seeWritten l w) := by
  unfold State.seeWritten
  exact (sameFetch_clearOut s).modLane l _

theorem Alters.seeWritten : Alters [.lane l, .mem] s.clearOut (s.clearOut.seeWritten l w) := (Alters.refl _ _).modTill (by simp)

theorem see_waiting : (q.see w).waiting = (if q.closed then q.w else min q.w (max q.written (min w q.w))) - q.fetched := rfl

theorem drainStart_eq (hslots : (s.lane l).till.slots = q :: qs) (hbegun : q.begun = false) (hfetched : q.fetched = 0)
    (hrun : s.linkRuns l = true) (hopen : s.fenced l (s.tillSec l).window = false)
    (hcut : q.closed = true ∨ min (s.tillSec l).cut q.w ≤ max q.written (min w q.w)) (hroom : (s.lane l).burstRoom = true)
    (hn : n = min 1024 (if q.closed then q.w else min q.w (max q.written (min w q.w)))) :
    ∃ is, s.clearOut.drainStart l w gs = (((((s.clearOut.seeWritten l w).noteGrants l gs).queueTx l is).advRptr l 16).fetchWords l
      { q.see w with begun := true, seams := [] } n).pump l := by
  have hcount : min 1024 (q.see w).waiting = n := by rw [see_waiting, hfetched, hn, Nat.sub_zero]
  have hcut' : ((s.clearOut.seeWritten l w).tillSec l).cut = (s.tillSec l).cut := by
    rw [State.tillSec, sameFetch_seeWritten.img, State.tillSec]
  have hfence : ∀ x : State, SameFetch s x → x.fenceLine l 3 ((s.clearOut.seeWritten l w).tillSec l).window = x := fun x hx => by
    rw [State.fenceLine, hx.fenced, State.tillSec, sameFetch_seeWritten.img, ← State.tillSec, hopen]
    rfl
  unfold State.drainStart
  simp only [seeWritten_slots hslots, hcount, seeWritten_linkRuns, seeWritten_burstRoom, hrun, hroom, hcut']
  have hstart : ((q.see w).closed || decide (min (s.tillSec l).cut (q.see w).w ≤ (q.see w).written)) = true := by
    simp only [Bool.or_eq_true, decide_eq_true_eq]
    exact hcut
  rw [if_neg (by rw [hstart, show (q.see w).begun = false from hbegun]; simp), hfence _ (sameFetch_seeWritten.noteGrants l gs)]
  exact ⟨_, rfl⟩

theorem drainStart_fetches (hs : s.Settled) (hslots : (s.lane l).till.slots = q :: qs) (hbegun : q.begun = false)
    (hfetched : q.fetched = 0) (hrun : s.linkRuns l = true) (hopen : s.fenced l (s.tillSec l).window = false)
    (hcut : q.closed = true ∨ min (s.tillSec l).cut q.w ≤ max q.written (min w q.w)) (hroom : (s.lane l).burstRoom = true)
    (hn : n = min 1024 (if q.closed then q.w else min q.w (max q.written (min w q.w)))) :
    ∃ t, exec (.tillLineDrainStart l ⟨w, gs⟩) s = .next t
      ∧ (t.lane l).till.rptr = ((s.lane l).till.rptr + 16 + n + (if q.closed ∧ n = q.w then 4 else 0)) % (2 * s.tillSize l)
      ∧ (t.lane l).till.rptr2 = (t.lane l).till.rptr ∧ (t.lane l).till.wptr = (s.lane l).till.wptr
      ∧ Frame [.lane l, .mem] s t := by
  obtain ⟨is, heq⟩ := drainStart_eq (gs := gs) hslots hbegun hfetched hrun hopen hcut hroom hn
  have heffect : exec (.tillLineDrainStart l ⟨w, gs⟩) s = .next (s.after (s.clearOut.drainStart l w gs)) := by
    rw [exec_tillLineDrainStart, execTillLineDrainStart, perform_after]
  rw [heq] at heffect
  have htill : (((((s.clearOut.seeWritten l w).noteGrants l gs).queueTx l is).advRptr l 16).lane l).till =
      { (s.lane l).till with slots := q.see w :: qs
                             rptr := ((s.lane l).till.rptr + 16) % (2 * s.tillSize l)
                             rptr2 := ((s.lane l).till.rptr + 16) % (2 * s.tillSize l) } := by
    rw [advRptr_till, queueTx_till, noteGrants_lane, seeWritten_slots hslots, tillSize_congr (queueTx_shadow ..),
      tillSize_congr (sameFetch_seeWritten.noteGrants l gs).shadow]
  obtain ⟨hr, hr2, hw, -, hframe⟩ := fetch_outcome (x := (((s.clearOut.seeWritten l w).noteGrants l gs).queueTx l is).advRptr l 16)
    (q := { q.see w with begun := true, seams := [] }) (n := n) hs
    (((sameFetch_seeWritten.noteGrants l gs).queueTx l is).advRptr l 16)
    (((Alters.seeWritten.noteGrants (by simp)).queueTx (by simp)).advRptr (by simp)) hopen
    (.inr (by rw [htill]; exact ⟨Nat.mod_mod _ _, rfl⟩))
  refine ⟨_, heffect, ?_, hr2, by rw [hw, htill], hframe⟩
  rw [hr, htill]
  simp [Slot.see, hfetched, Nat.mod_add_mod, Nat.add_assoc]

theorem burstFetch_fetches {fs : List C0Grant} (hs : s.Settled) (hslots : (s.lane l).till.slots = q :: qs)
    (hbegun : q.begun = true) (hrun : s.linkRuns l = true) (hopen : s.fenced l (s.tillSec l).window = false)
    (hroom : (s.lane l).burstRoom = true)
    (hn : n = min 1024 ((if q.closed then q.w else min q.w (max q.written (min w q.w))) - q.fetched)) (hpos : 0 < n)
    (hwhole : n = 1024 ∨ q.closed = true) : ∃ t, exec (.tillBurstFetch l w fs gs) s = .next t
      ∧ (t.lane l).till.rptr =
        ((s.lane l).till.rptr + n + (if q.closed ∧ q.fetched + n = q.w then 4 else 0)) % (2 * s.tillSize l)
      ∧ (t.lane l).till.rptr2 = (t.lane l).till.rptr ∧ (t.lane l).till.wptr = (s.lane l).till.wptr
      ∧ Frame [.lane l, .mem] s t := by
  have hcount : min 1024 (q.see w).waiting = n := by rw [see_waiting, hn]
  have heq : s.clearOut.burstFetch l w (fs ++ gs) =
      ((((s.clearOut.seeWritten l w).noteGrants l (fs ++ gs)).fetchWords l (q.see w) n).pump l) := by
    unfold State.burstFetch
    simp only [seeWritten_slots hslots, hcount, seeWritten_linkRuns, seeWritten_burstRoom, hrun, hroom]
    rw [if_neg]
    rcases hwhole with h | h <;> simp [Slot.see, hbegun, h]
  have heffect : exec (.tillBurstFetch l w fs gs) s = .next (s.after (s.clearOut.burstFetch l w (fs ++ gs))) := by
    rw [exec_tillBurstFetch, execTillBurstFetch, perform_after]
  rw [heq] at heffect
  have htill : (((s.clearOut.seeWritten l w).noteGrants l (fs ++ gs)).lane l).till = { (s.lane l).till with slots := q.see w :: qs } := by
    rw [noteGrants_lane, seeWritten_slots hslots]
  obtain ⟨hr, hr2, hw, -, hframe⟩ := fetch_outcome (q := q.see w) hs (sameFetch_seeWritten.noteGrants l (fs ++ gs))
    (Alters.seeWritten.noteGrants (by simp)) hopen (.inl hpos)
  exact ⟨_, heffect, by rw [hr, htill]; rfl, hr2, by rw [hw, htill], hframe⟩

/-- One more tail burst counted (R312). -/
def TillSt.countTail (t : TillSt) : TillSt := { t with tails := satInc 255 t.tails }

theorem tailFetch_fetches (hs : s.Settled) (hslots : (s.lane l).till.slots = q :: qs) (hbegun : q.begun = true)
    (hclosed : q.closed = false) (hrun : s.linkRuns l = true) (hopen : s.fenced l (s.tillSec l).window = false)
    (hroom : (s.lane l).burstRoom = true) (hn : n = min q.w (max q.written (min w q.w)) - q.fetched) (hpos : 0 < n)
    (hshort : n < 1024) : ∃ t, exec (.tillTailTimeout l ⟨w, gs⟩) s = .next t
      ∧ (t.lane l).till.rptr = ((s.lane l).till.rptr + n) % (2 * s.tillSize l)
      ∧ (t.lane l).till.rptr2 = (t.lane l).till.rptr ∧ (t.lane l).till.wptr = (s.lane l).till.wptr
      ∧ (t.lane l).till.tails = satInc 255 (s.lane l).till.tails ∧ Frame [.lane l, .mem] s t := by
  have hcount : (q.see w).waiting = n := by rw [see_waiting, hclosed, hn]; rfl
  have heq : s.clearOut.tailFetch l w gs = ((((((s.clearOut.seeWritten l w).modTill l
      TillSt.countTail).noteGrants l gs).fetchWords l (q.see w) n).pump l)) := by
    unfold State.tailFetch
    simp only [seeWritten_slots hslots, hcount, seeWritten_linkRuns, seeWritten_burstRoom, hrun, hroom]
    rw [if_neg]
    · rfl
    · rw [show (q.see w).begun = true from hbegun, show (q.see w).closed = false from hclosed]
      simpa using ⟨hpos.ne', hshort⟩
  have heffect : exec (.tillTailTimeout l ⟨w, gs⟩) s = .next (s.after (s.clearOut.tailFetch l w gs)) := by
    rw [exec_tillTailTimeout, execTillTailTimeout, perform_after]
  rw [heq] at heffect
  have htill : ((((s.clearOut.seeWritten l w).modTill l TillSt.countTail).noteGrants l gs).lane l).till =
      { (s.lane l).till with slots := q.see w :: qs, tails := satInc 255 (s.lane l).till.tails } := by
    rw [noteGrants_lane, State.modTill_lane]
    simp only [seeWritten_slots hslots, TillSt.countTail]
  have hfetch : SameFetch s ((s.clearOut.seeWritten l w).modTill l TillSt.countTail) := by
    unfold State.modTill
    exact sameFetch_seeWritten.modLane l _
  have halters : Alters [.lane l, .mem] s.clearOut ((s.clearOut.seeWritten l w).modTill l TillSt.countTail) :=
    Alters.seeWritten.modTill (by simp)
  obtain ⟨hr, hr2, hw, ht, hframe⟩ := fetch_outcome (q := q.see w) hs (hfetch.noteGrants l gs)
    (halters.noteGrants (gs := gs) (by simp)) hopen (.inl hpos)
  refine ⟨_, heffect, Eq.trans hr ?_, hr2, Eq.trans hw ?_, Eq.trans ht ?_, hframe⟩
  · rw [htill]; simp [Slot.see, hclosed]
  · rw [htill]
  · rw [htill]

end fetches

/-- Settles O38: each of the three fetches is the same step on the slot at the Till's front. -/
theorem drainFetchesFromTheTill : Obligations.DrainFetchesFromTheTill := by
  unfold Obligations.DrainFetchesFromTheTill
  exact ⟨fun l w n gs q qs s hs hslots hbegun hfetched hrun hopen hcut hroom hn =>
      drainStart_fetches hs hslots hbegun hfetched hrun hopen hcut hroom hn,
    fun l w n fs gs q qs s hs hslots hbegun hrun hopen hroom hn hpos hwhole =>
      burstFetch_fetches hs hslots hbegun hrun hopen hroom hn hpos hwhole,
    fun l w n gs q qs s hs hslots hbegun hclosed hrun hopen hroom hn hpos hshort =>
      tailFetch_fetches hs hslots hbegun hclosed hrun hopen hroom hn hpos hshort⟩

end Sys2Proof.Machine
end


section
/-!
SUPPORT. What the carriage, the light and a lane's line cycle leave alone: what a motion changes, and what a run's end and
a seam change of a lane beside its link and its Till.
-/

namespace Sys2Proof.Machine

/-! ### What only LUX changes: commits -/

namespace LuxKept

variable {P : State → Prop} (k : LuxKept P) {s : State}
include k

theorem stage {c} (h : P s) : P (s.stage c).1 := foldl_keeps (fun h => k _ _ (k.busSend h)) _ h

theorem stageFirst {p} (h : P s) : P (s.stageFirst p) := by
  unfold State.stageFirst
  dsimp only
  split
  · exact h
  · split
    · exact h
    · exact k _ _ (k.stage h)

theorem plan {c} (h : P s) : P (s.plan c) := by
  unfold State.plan
  refine k.stageFirst (k _ _ ?_)
  split
  · exact k.discard h
  · exact h

end LuxKept

/-! ### Motions -/

/-- The update touches a lane's axis alone. -/
def AxisPart (f : LaneSt → LaneSt) : Prop := ∀ x, f x = { x with axis := (f x).axis, arun := (f x).arun }

/-- `P` is kept by updates of a lane's axis. -/
structure KeptByAxis (l : Lane) (P : State → Prop) : Prop where
  lane : ∀ {s f}, AxisPart f → P s → P (State.modLane s l f)

namespace KeptByAxis

variable {l : Lane} {P : State → Prop} (k : KeptByAxis l P) {s : State}
include k

theorem axis {f} (h : P s) : P (s.modAxis l f) := k.lane (fun _ => rfl) h
theorem arun {f} (h : P s) : P (s.modArun l f) := k.lane (fun _ => rfl) h
theorem setMotion {m w} (h : P s) : P (s.setMotion l m w) := k.arun h

theorem brakeNow (h : P s) : P (s.brakeNow l) := by
  unfold State.brakeNow
  split
  · exact h
  · exact k.setMotion h

theorem stopAfter {n} (h : P s) : P (s.stopAfter l n) := by
  unfold State.stopAfter
  refine k.arun (k.axis ?_)
  split
  · exact h
  · split
    · exact h
    · exact k.setMotion h

theorem stopAtNext (h : P s) : P (s.stopAtNext l) := k.stopAfter h

theorem endCarriage (h : P s) : P (s.endCarriage l) := by
  unfold State.endCarriage
  split
  · exact h
  · split
    · exact h
    · exact h
    · exact h
    · exact k.brakeNow h

theorem abandonSeam (h : P s) : P (s.abandonSeam l) := by
  have h1 : P (s.modArun l (fun a => { a with retryDue := false, offset := 0 })) := k.arun h
  unfold State.abandonSeam
  dsimp only
  split
  · exact k.axis (k.brakeNow h1)
  · exact k.axis (k.brakeNow h1)
  · exact k.axis h1
  · exact k.axis h1
  · exact h1

end KeptByAxis

/-! ### A run's end and its seams -/

/-- What of a lane neither its line cycle nor its carriage touches: its link and the Till's words. -/
def LaneSt.wired (x : LaneSt) : LinkSt × LinkRun × List Slot × Nat × Nat := (x.link, x.lrun, x.till.slots, x.till.wptr, x.till.rptr)

/-- The update leaves a lane's link and its Till's words, and exposes no line. -/
def LinePart (f : LaneSt → LaneSt) : Prop := ∀ x, (f x).wired = x.wired ∧ (x.exposing = none → (f x).exposing = none)

/-- `P` is kept by such updates of the lanes, and by updates of LUX. -/
structure KeptByLines (P : State → Prop) : Prop where
  lane : ∀ {s l f}, LinePart f → P s → P (State.modLane s l f)
  lux : LuxKept P

namespace KeptByLines

variable {P : State → Prop} (k : KeptByLines P) {s : State} {l : Lane}
include k

theorem byAxis : KeptByAxis l P := ⟨fun hf h => k.lane (fun x => by rw [hf]; exact ⟨rfl, id⟩) h⟩

theorem mode {f} (h : P s) : P (s.modMode l f) := k.lane (fun _ => ⟨rfl, id⟩) h
theorem pix {f} (h : P s) : P (s.modPix l f) := k.lane (fun _ => ⟨rfl, id⟩) h
theorem axis {f} (h : P s) : P (s.modAxis l f) := k.lane (fun _ => ⟨rfl, id⟩) h
theorem arun {f} (h : P s) : P (s.modArun l f) := k.lane (fun _ => ⟨rfl, id⟩) h

theorem toMode {m} (h : P s) : P (s.toMode l m) := by
  unfold State.toMode
  split
  · exact h
  · unfold State.rearmLane
    exact k.lux _ _ (k.mode h)

theorem beginEnding (h : P s) : P (s.beginEnding l) := by
  unfold State.beginEnding
  extract_lets s1 s2 s3 s4
  have h3 : P s3 := k.axis (k.lane (fun _ => ⟨rfl, id⟩) (k.mode h))
  split
  · exact h3
  · refine k.lux.plan ?_
    unfold s4
    split
    · exact k.lux.discard h3
    · exact h3

theorem rewind {n m} (h : P s) : P (s.rewind l n m) := k.lane (fun _ => ⟨rfl, id⟩) h

theorem unexposeIf {b} (h : P s) : P (s.unexposeIf l b) := by
  unfold State.unexposeIf
  split
  · exact h
  · split
    · exact h
    · exact k.rewind (k.lane (fun _ => ⟨rfl, fun _ => rfl⟩) h)

theorem reSmoulder {b} (h : P s) : P (s.reSmoulder l b) := by
  unfold State.reSmoulder
  refine k.axis (k.byAxis.brakeNow (k.arun (foldl_keeps (fun {t j} h => ?_) _ h)))
  exact k.toMode (k.mode (k.lane (fun _ => ⟨rfl, id⟩) (k.unexposeIf h)))

theorem failSeam (h : P s) : P (s.failSeam l) := by
  unfold State.failSeam
  split
  · exact k.byAxis.abandonSeam h
  · split
    · exact k.reSmoulder h
    · exact h

end KeptByLines

theorem keptByLines_reading {α : Type} {g : State → α} {v : α} (hlane : ∀ s k f, LinePart f →
    g (State.modLane s k f) = g s) (hlux : ∀ s f, g (State.modLux s f) = g s) : KeptByLines (fun s => g s = v) where
  lane hf h := (hlane _ _ _ hf).trans h
  lux _ _ h := (hlux _ _).trans h

theorem failSeam_wired (s : State) (l k : Lane) : ((s.failSeam l).lane k).wired = (s.lane k).wired :=
  (keptByLines_reading (g := fun s => (s.lane k).wired) (fun s j f hf => by
    cases j <;> cases k <;> simp [State.modLane, State.lane, (hf _).1]) (fun s f => by simp)).failSeam rfl

theorem failSeam_log (s : State) (l : Lane) : (s.failSeam l).log = s.log :=
  (keptByLines_reading (g := State.log) (fun s j f _ => by simp) (fun s f => by simp)).failSeam rfl

end Sys2Proof.Machine
end


section
/-!
PROOFS. The loss of a link (R372, R373), and the limits of a resync and of an absent link (R365, R376).
-/

namespace Sys2Proof.Machine

variable {s t : State} {l : Lane}

/-! ### The link leaves UP -/

/-- The link back in TRAIN, its credit limit unknown (R339). -/
def LinkSt.lost (k : LinkSt) : LinkSt := { k with st := .train, resync := false, maxCred := 0 }

theorem lose_link (x : LaneSt) : x.lose.link = x.link := by
  unfold LaneSt.lose
  dsimp only
  split <;> rfl

/-- What the loss of a link changes first: its record, the link and its run. -/
theorem linkLost_effect (hup : (t.lane l).link.st = .up) (c : Nat) :
    ((t.linkLost l c).lane l).link = (t.lane l).link.lost ∧ ((t.linkLost l c).lane l).lrun.gotStatus = false
      ∧ (t.linkLost l c).log = (t.recordL l 0xA034 (if t.capturesRun l || t.closing l then 1 else 0) [c]).log := by
  unfold State.linkLost
  rw [if_neg (by simp [hup])]
  extract_lets s1 s2 s3
  have hlink : (s3.lane l).link = (t.lane l).link.lost := by
    simp [s3, s2, s1, State.linkTrain, lose_link, LinkSt.lost]
  have hgot : (s3.lane l).lrun.gotStatus = false := by simp [s3]
  have hlog : s3.log = s1.log := by simp [s3, s2, State.linkTrain]
  split
  · have hw := failSeam_wired s3 l l
    have hwl : ((s3.failSeam l).lane l).link = (s3.lane l).link := congrArg Prod.fst hw
    have hwr : ((s3.failSeam l).lane l).lrun = (s3.lane l).lrun := congrArg (fun w => w.2.1) hw
    exact ⟨hwl.trans hlink, (congrArg LinkRun.gotStatus hwr).trans hgot, (failSeam_log s3 l).trans hlog⟩
  · exact ⟨hlink, hgot, hlog⟩

/-- A link lost in a state of the command that has only its lane's link changed: as an effect on the settled state. -/
theorem lost_outcome (hs : s.Settled) (hroom : s.LogRoom) (hup : (t.lane l).link.st = .up) (hlog : t.log = s.log)
    (hcls : (t.capturesRun l || t.closing l) = (s.capturesRun l || s.closing l))
    (hrec : ∀ c n p d, t.mkRec c n p d = s.mkRec c n p d) (hbits : t.laneBits l = s.laneBits l) (c : Nat) :
    ((t.linkLost l c).lane l).link = (t.lane l).link.lost ∧ ((t.linkLost l c).lane l).lrun.gotStatus = false
      ∧ (t.linkLost l c).log.settle =
        s.log.plus (s.mkRec (0xA034 + laneOff l) (if s.capturesRun l || s.closing l then 1 else 0) (s.laneBits l) [c]) := by
  obtain ⟨hlink, hgot, hlog'⟩ := linkLost_effect hup c
  refine ⟨hlink, hgot, ?_⟩
  rw [hlog', hcls, State.recordL, hbits]
  exact record_plus hs hroom hlog (hrec _ _ _ _)

theorem clearOut_runs : (s.clearOut.capturesRun l || s.clearOut.closing l) = (s.capturesRun l || s.closing l) := by
  simp [State.capturesRun, State.closing, State.inRun]

theorem mgtOpen_runs : (s.mgtOpen.capturesRun l || s.mgtOpen.closing l) = (s.capturesRun l || s.closing l) := rfl

theorem clearOut_lost (hs : s.Settled) (hroom : s.LogRoom) (hup : (s.lane l).link.st = .up) (c : Nat) :
    ((s.after (s.clearOut.linkLost l c)).lane l).link.st = .train
      ∧ ((s.after (s.clearOut.linkLost l c)).lane l).lrun.gotStatus = false
      ∧ (s.after (s.clearOut.linkLost l c)).log =
        s.log.plus (s.mkRec (0xA034 + laneOff l) (if s.capturesRun l || s.closing l then 1 else 0) (s.laneBits l) [c]) := by
  obtain ⟨hlink, hgot, hlog⟩ := lost_outcome (t := s.clearOut) hs hroom (by simpa using hup) rfl clearOut_runs
    (fun _ _ _ _ => rfl) rfl c
  rw [after_lane_link, after_lane_lrun_gotStatus, after_log, hlink, hgot, hlog]
  exact ⟨rfl, rfl, rfl⟩

theorem creditTimeout_loses (hs : s.Settled) (hroom : s.LogRoom) (hup : (s.lane l).link.st = .up)
    (hint : s.clk.interval = false) : ∃ t, exec (.creditTimeout l) s = .next t ∧ (t.lane l).link.st = .train
      ∧ (t.lane l).lrun.gotStatus = false
      ∧ t.log = s.log.plus (s.mkRec (0xA034 + laneOff l) (if s.capturesRun l || s.closing l then 1 else 0) (s.laneBits l) [2]) := by
  have heffect : exec (.creditTimeout l) s = .next (s.after (s.clearOut.linkLost l 2)) := by
    simp [execCreditTimeout, perform_after, hint]
  exact ⟨_, heffect, clearOut_lost hs hroom hup 2⟩

theorem statusTimeout_loses (hs : s.Settled) (hroom : s.LogRoom) (hup : (s.lane l).link.st = .up)
    (hint : s.clk.interval = false) : ∃ t, exec (.statusTimeout l) s = .next t ∧ (t.lane l).link.st = .train
      ∧ (t.lane l).lrun.gotStatus = false
      ∧ t.log = s.log.plus (s.mkRec (0xA034 + laneOff l) (if s.capturesRun l || s.closing l then 1 else 0) (s.laneBits l) [3]) := by
  have heffect : exec (.statusTimeout l) s = .next (s.after (s.clearOut.linkLost l 3)) := by
    simp [execStatusTimeout, perform_after, hint]
  exact ⟨_, heffect, clearOut_lost hs hroom hup 3⟩

/-! ### Code groups (R372) -/

/-- `n` more invalid code groups counted. -/
def LinkSt.countCodes (n : Nat) (k : LinkSt) : LinkSt := { k with errCode := min 255 (k.errCode + n) }

/-- The groups that the loss of sync rests on are behind it. -/
def LinkRun.syncGone (r : LinkRun) : LinkRun := { r with kBad := [], kLock := false }

theorem kGroups_quiet {gs : List Nat} (hdown : (t.lane l).link.st ≠ .down) (hdetect : (t.lane l).link.st ≠ .detect)
    (hsync : syncLost ((t.lane l).lrun.kBad ++ gs) = false) :
    ∃ g, t.kGroups l gs = (t.modLink l (LinkSt.countCodes gs.length)).modLrun l g := by
  unfold State.kGroups
  have hkeep : ((t.modLink l (LinkSt.countCodes gs.length)).lane l).lrun = (t.lane l).lrun := by simp
  split
  · exact absurd ‹_› hdown
  · exact absurd ‹_› hdetect
  · dsimp only
    rw [if_pos]
    · exact ⟨_, rfl⟩
    · rw [State.modLink_lane]
      simp [hsync]

theorem kGroups_lost {gs : List Nat} (hup : (t.lane l).link.st = .up) (hint : t.clk.interval = false)
    (hsync : syncLost ((t.lane l).lrun.kBad ++ gs) = true) :
    t.kGroups l gs = ((t.modLink l (LinkSt.countCodes gs.length)).modLrun l LinkRun.syncGone).linkLost l 1 := by
  unfold State.kGroups
  rw [hup]
  dsimp only
  rw [if_neg (by rw [State.modLink_lane]; simp [hsync]), if_neg (by simp), if_neg (by simp [hint])]
  rfl

theorem kGroups_counted {gs : List Nat} (hs : s.Settled) (hdown : (s.lane l).link.st ≠ .down)
    (hdetect : (s.lane l).link.st ≠ .detect) (hsync : syncLost ((s.lane l).lrun.kBad ++ gs) = false) :
    ∃ t, exec (.kSyncLoss l gs) s = .next t
      ∧ (t.lane l).link = { (s.lane l).link with errCode := min 255 ((s.lane l).link.errCode + gs.length) }
      ∧ Frame [.lane l] s t := by
  obtain ⟨g, hg⟩ := kGroups_quiet (t := s.clearOut) (l := l) (gs := gs) (by simpa using hdown) (by simpa using hdetect)
    (by simpa using hsync)
  have heffect : exec (.kSyncLoss l gs) s = .next (s.after (s.clearOut.kGroups l gs)) := by
    rw [exec_kSyncLoss, execKSyncLoss, perform_after]
  rw [hg] at heffect
  exact ⟨_, heffect, by simp [LinkSt.countCodes], (((Alters.refl _ _).modLink (by simp)).modLrun (by simp)).frame hs⟩

theorem kGroups_loses {a b c d : Nat} (hs : s.Settled) (hroom : s.LogRoom) (hup : (s.lane l).link.st = .up)
    (hint : s.clk.interval = false) (hnone : (s.lane l).lrun.kBad = []) (hnear : d < a + 64) :
    ∃ t, exec (.kSyncLoss l [a, b, c, d]) s = .next t
      ∧ (t.lane l).link = { (s.lane l).link with
          st := .train, resync := false, maxCred := 0, errCode := min 255 ((s.lane l).link.errCode + 4) }
      ∧ (t.lane l).lrun.gotStatus = false
      ∧ t.log = s.log.plus (s.mkRec (0xA034 + laneOff l) (if s.capturesRun l || s.closing l then 1 else 0) (s.laneBits l) [1]) := by
  have hsync : syncLost ((s.lane l).lrun.kBad ++ [a, b, c, d]) = true := by simp [hnone, syncLost, hnear]
  have hg := kGroups_lost (t := s.clearOut) (l := l) (gs := [a, b, c, d]) (by simpa using hup) hint (by simpa using hsync)
  have heffect : exec (.kSyncLoss l [a, b, c, d]) s = .next (s.after (s.clearOut.kGroups l [a, b, c, d])) := by
    rw [exec_kSyncLoss, execKSyncLoss, perform_after]
  rw [hg] at heffect
  have hmode : ∀ k, (((s.clearOut.modLink l (LinkSt.countCodes 4)).modLrun l LinkRun.syncGone).lane k).mode = (s.lane k).mode :=
    fun k => by cases l <;> cases k <;> simp [State.lane]
  have hruns : (((s.clearOut.modLink l (LinkSt.countCodes 4)).modLrun l LinkRun.syncGone).capturesRun l
      || ((s.clearOut.modLink l (LinkSt.countCodes 4)).modLrun l LinkRun.syncGone).closing l) = (s.capturesRun l || s.closing l) := by
    simp [State.capturesRun, State.closing, State.inRun, LinkRun.syncGone]
  obtain ⟨hlink, hgot, hlog⟩ := lost_outcome (t := (s.clearOut.modLink l (LinkSt.countCodes 4)).modLrun l LinkRun.syncGone) (l := l)
    hs hroom (by simpa [LinkSt.countCodes] using hup) (by simp) hruns
    (mkRec_congr (by simp) (by simp) (fun k => by rw [hmode]) (by simp) (by simp) (by simp) (by simp) (by simp))
    (by simp [State.laneBits, State.partyBits]) 1
  refine ⟨_, heffect, ?_, ?_, ?_⟩
  · rw [after_lane_link]
    refine hlink.trans ?_
    simp [LinkSt.lost, LinkSt.countCodes]
  · rw [after_lane_lrun_gotStatus]
    exact hgot
  · rw [after_log]
    exact hlog

/-! ### The host's retrain -/

theorem applyWrite_till (l : Lane) {r : Req} (hu : r.unit = tillUnit l) (hne : r.items ≠ []) :
    s.applyWrite r = (s.tillWrite l r).mark (tillUnit l) := by
  have hloud : r.items.all (fun q => quietWord (tillUnit l) q.1) = false := by
    obtain ⟨q, qs, hq⟩ := List.exists_cons_of_ne_nil hne
    cases l <;> simp [hq, tillUnit, headUnit, quietWord]
  unfold State.applyWrite
  cases l <;> simp_all [tillUnit, headUnit, unitLane]

theorem tillWrite_retrain (l : Lane) (e : Nat) : s.tillWrite l (hostWrite (tillUnit l) 0x053 [1] e) = s.linkLost l 4 := by
  have hflush : (hostWrite (tillUnit l) 0x053 [1] e).sets 0x013 0 = false := by
    rw [Req.sets, Req.val, hostWrite_at_other (by decide)]
    rfl
  have hretrain : (hostWrite (tillUnit l) 0x053 [1] e).sets 0x053 0 = true := by
    simp only [Req.sets, Req.val, hostWrite_at_own]
    decide
  simp [State.tillWrite, hflush, hretrain]

theorem retrain_loses {e : Nat} (hs : s.Settled) (hroom : s.LogRoom) (hup : (s.lane l).link.st = .up)
    (ha : s.Accepts (hostWrite (tillUnit l) 0x053 [1] e)) : ∃ t, exec (.linkCtrlRetrain l e) s = .next t
      ∧ t.Replied (hostWrite (tillUnit l) 0x053 [1] e) [] ∧ (t.lane l).link.st = .train ∧ (t.lane l).lrun.gotStatus = false
      ∧ t.log = s.log.plus (s.mkRec (0xA034 + laneOff l) (if s.capturesRun l || s.closing l then 1 else 0) (s.laneBits l) [4]) := by
  have hap : (hostWrite (tillUnit l) 0x053 [1] e).aperture = false := by
    cases l <;> simp [Req.aperture, hostWrite_unit, tillUnit, headUnit]
  have heffect := (frameEffect_write (s := s.mgtOpen.clearOut) rfl hap 0 0).trans
    ((applyWrite_till l (hostWrite_unit ..) (by simp [hostWrite, Req.items])).trans
      (congrArg (State.mark · (tillUnit l)) (tillWrite_retrain l e)))
  obtain ⟨w, k, hexec, hreply⟩ := oneWrite_answered ha heffect
  obtain ⟨hlink, hgot, hlog⟩ := lost_outcome (t := s.mgtOpen.clearOut) (l := l) hs hroom (by simpa using hup) rfl
    (clearOut_runs (s := s.mgtOpen)) (fun _ _ _ _ => rfl) rfl 4
  refine ⟨_, hexec, hreply, ?_, ?_, ?_⟩
  · rw [answered_lane, after_lane_link, State.mark_lane, hlink]
    rfl
  · rw [answered_lane, after_lane_lrun_gotStatus, State.mark_lane, hgot]
  · rw [answered_log_settle, State.mark_log, hlog]

/-! ### A resync's limit, and an absent link (R365, R376) -/

theorem flushEnd_alone (hsolo : t.sys.gang = false) (e : RunEnd) : t.flushEnd l e =
    if t.capturesRun l then (t.flushTill l e.cause).stopRun l e
    else if t.closing l then (t.flushTill l e.cause).modLrun l (fun r => { r with ending := some e }) else t := by
  simp [State.flushEnd, State.partners, hsolo]

theorem resyncFail_alone (hsolo : t.sys.gang = false) (hlost : (t.lane l).lrun.lost = false) : t.resyncFail l =
    ((t.endResync l).recordL l 0xA037 2).flushEnd l { aborted := true, cause := 16, code := 0xA037 + laneOff l } := by
  simp [State.resyncFail, State.linkFault, State.endResync, State.recordL, hsolo, hlost]

theorem resyncTimeout_eq (hup : (s.lane l).link.st = .up) (hresync : (s.lane l).link.resync = true)
    (hint : s.clk.interval = false) : exec (.resyncTimeout l) s = .next (s.after (s.clearOut.resyncFail l)) := by
  simp [execResyncTimeout, perform_after, State.resyncLimit, hup, hresync, hint]

/-- The resync is over. -/
def LinkSt.resynced (k : LinkSt) : LinkSt := { k with resync := false }

theorem resyncTimeout_idle (hs : s.Settled) (hroom : s.LogRoom) (hup : (s.lane l).link.st = .up)
    (hresync : (s.lane l).link.resync = true) (hint : s.clk.interval = false) (hlost : (s.lane l).lrun.lost = false)
    (hrun : s.capturesRun l = false) (hclosed : (s.lane l).lrun.opened = false) (hsolo : s.sys.gang = false) :
    ∃ t, exec (.resyncTimeout l) s = .next t ∧ (t.lane l).link = { (s.lane l).link with resync := false }
      ∧ t.log = s.log.plus (s.mkRec (0xA037 + laneOff l) 2 (s.laneBits l) []) ∧ Frame [.lane l, .log] s t := by
  have hfail : s.clearOut.resyncFail l = (s.clearOut.endResync l).recordL l 0xA037 2 := by
    rw [resyncFail_alone (by simpa using hsolo) (by simpa using hlost), flushEnd_alone (by
      simpa [State.recordL, State.endResync] using hsolo), if_neg, if_neg]
    · simp [State.closing, State.recordL, State.endResync, hclosed]
    · simpa [State.capturesRun, State.inRun, State.recordL, State.endResync] using hrun
  have heffect := resyncTimeout_eq hup hresync hint
  rw [hfail] at heffect
  refine ⟨_, heffect, by simp [State.recordL, State.endResync], ?_, ?_⟩
  · rw [after_log, State.recordL, show (s.clearOut.endResync l).laneBits l = s.laneBits l by
      simp [State.laneBits, State.partyBits, State.endResync]]
    exact record_plus (t := s.clearOut.endResync l) hs hroom (by simp [State.endResync])
      (mkRec_congr (by simp [State.endResync]) (by simp [State.endResync]) (fun k => by
        cases l <;> cases k <;> simp [State.endResync, State.lane]) (by simp [State.endResync]) (by simp [State.endResync])
        (by simp [State.endResync]) (by simp [State.endResync]) (by simp [State.endResync]) _ _ _ _)
  · exact ((((Alters.refl _ _).modLink (by simp)).mark).recordL (by simp)).frame hs

/-- A Till and a link flushed: no slot waits, the pointers stand at 0, and the link's state is kept. -/
theorem flushTill_lane (t : State) (l : Lane) (c : Nat) : ((t.flushTill l c).lane l).till.slots = []
    ∧ ((t.flushTill l c).lane l).till.wptr = 0 ∧ ((t.flushTill l c).lane l).till.rptr = 0
    ∧ ((t.flushTill l c).lane l).link.resync = (t.lane l).link.resync := by
  have hkept : KeptByLink l (fun x => (x.lane l).till.slots = [] ∧ (x.lane l).till.wptr = 0 ∧ (x.lane l).till.rptr = 0
      ∧ (x.lane l).link.resync = (t.lane l).link.resync) :=
    ⟨fun {x f} hf h => by
      rw [State.modLane_lane, (hf _).2.2.1, (hf _).1]
      exact h, fun {x u} h => by rw [State.mark_lane]; exact h⟩
  unfold State.flushTill
  exact hkept.flushLink (by simp [State.clearTill, State.giveExposure, State.holdGate])

namespace KeptByLines

variable {P : State → Prop} (k : KeptByLines P)
include k

theorem stopCarriage (h : P t) : P (if t.sys.gang && l = .b then t else if (t.lane l).arun.why = .run then t.stopAtNext l else t.brakeNow l) := by
  split
  · exact h
  · split
    · exact k.byAxis.stopAtNext h
    · exact k.byAxis.brakeNow h

end KeptByLines

/-- A run stopped: its end is noted, and the link and the Till's words stand. -/
theorem stopRun_wired (t : State) (l : Lane) (e : RunEnd) :
    ((t.stopRun l e).lane l).wired = ((t.modLrun l (fun r => { r with ending := some e })).lane l).wired := by
  have hkept : KeptByLines (fun x => (x.lane l).wired = ((t.modLrun l (fun r => { r with ending := some e })).lane l).wired) :=
    keptByLines_reading (g := fun s => (s.lane l).wired) (fun s j f hf => by
      cases j <;> cases l <;> simp [State.modLane, State.lane, (hf _).1]) (fun s f => by simp)
  unfold State.stopRun
  exact hkept.stopCarriage (hkept.beginEnding (hkept.pix rfl))

theorem beginEnding_ending (t : State) (l : Lane) : ((t.beginEnding l).lane l).mode.ending = true := by
  have hkept : LuxKept (fun x => (x.lane l).mode.ending = true) := fun s f h => by simpa using h
  unfold State.beginEnding
  extract_lets s1 s2 s3 s4
  have h3 : (s3.lane l).mode.ending = true := by simp [s3, s2, s1]
  split
  · exact h3
  · refine hkept.plan ?_
    unfold s4
    split
    · exact hkept.discard h3
    · exact h3

theorem stopRun_ending (t : State) (l : Lane) (e : RunEnd) : ((t.stopRun l e).lane l).mode.ending = true := by
  have hkept : KeptByAxis l (fun x => (x.lane l).mode.ending = true) := ⟨fun {x f} hf h => by
    rw [State.modLane_lane, hf]
    exact h⟩
  unfold State.stopRun
  extract_lets s1 s2
  have h2 : (s2.lane l).mode.ending = true := beginEnding_ending ..
  split
  · exact h2
  · split
    · exact hkept.stopAtNext h2
    · exact hkept.brakeNow h2

theorem resyncTimeout_run (hup : (s.lane l).link.st = .up) (hresync : (s.lane l).link.resync = true)
    (hint : s.clk.interval = false) (hlost : (s.lane l).lrun.lost = false) (hrun : s.capturesRun l = true)
    (hsolo : s.sys.gang = false) : ∃ t, exec (.resyncTimeout l) s = .next t ∧ (t.lane l).link.resync = false
      ∧ (t.lane l).mode.ending = true ∧ (t.lane l).till.slots = [] ∧ (t.lane l).till.wptr = 0 ∧ (t.lane l).till.rptr = 0
      ∧ (t.lane l).lrun.ending = some { aborted := true, cause := 16, code := 0xA037 + laneOff l } := by
  have hfail : s.clearOut.resyncFail l = (((s.clearOut.endResync l).recordL l 0xA037 2).flushTill l 16).stopRun l
      { aborted := true, cause := 16, code := 0xA037 + laneOff l } := by
    rw [resyncFail_alone (by simpa using hsolo) (by simpa using hlost), flushEnd_alone (by
      simpa [State.recordL, State.endResync] using hsolo), if_pos]
    simpa [State.capturesRun, State.inRun, State.recordL, State.endResync] using hrun
  have heffect := resyncTimeout_eq hup hresync hint
  rw [hfail] at heffect
  obtain ⟨hslots, hwptr, hrptr, hsync⟩ := flushTill_lane ((s.clearOut.endResync l).recordL l 0xA037 2) l 16
  have hw := stopRun_wired (((s.clearOut.endResync l).recordL l 0xA037 2).flushTill l 16) l
    { aborted := true, cause := 16, code := 0xA037 + laneOff l }
  simp only [LaneSt.wired, State.modLrun_lane, Prod.mk.injEq] at hw
  obtain ⟨hwlink, hwrun, hwslots, hwwptr, hwrptr⟩ := hw
  refine ⟨_, heffect, ?_, ?_, ?_, ?_, ?_, ?_⟩
  · rw [after_lane_link, hwlink, hsync]
    simp [State.recordL, State.endResync]
  · rw [after_lane_mode, stopRun_ending]
  · rw [after_lane_till, hwslots, hslots]
  · rw [after_lane_till, hwwptr, hwptr]
  · rw [after_lane_till, hwrptr, hrptr]
  · rw [after_lane_lrun_ending, hwrun]

theorem linkAbort_ends (hlost : (s.lane l).lrun.lost = true) (hdown : (s.lane l).link.st ≠ .up)
    (hopened : (s.lane l).lrun.opened = true) : ∃ t, exec (.linkAbort l) s = .next t ∧ (t.lane l).lrun.opened = false
      ∧ (t.lane l).lrun.lost = false ∧ (t.lane l).lrun.txq = []
      ∧ (t.lane l).lrun.lastEnd = some { aborted := true, cause := 17, code := 0xA035 + laneOff l } := by
  have heffect : exec (.linkAbort l) s = .next (s.after (s.clearOut.linkAborts l)) := by
    simp [execLinkAbort, perform_after, hlost]
  refine ⟨_, heffect, ?_, ?_, ?_, ?_⟩ <;> simp [State.linkAborts, hdown, hopened]

/-- Settles O42: a link lost leads to TRAIN whatever the seam's carriage then does, and each limit ends the run. -/
theorem linkLossAndItsLimits : Obligations.LinkLossAndItsLimits := by
  unfold Obligations.LinkLossAndItsLimits
  exact ⟨fun l gs s hs hdown hdetect hsync => kGroups_counted hs hdown hdetect hsync,
    fun l a b c d s hs hroom hup hint hnone hnear => kGroups_loses hs hroom hup hint hnone hnear,
    fun l s hs hroom hup hint => creditTimeout_loses hs hroom hup hint,
    fun l s hs hroom hup hint => statusTimeout_loses hs hroom hup hint,
    fun l e s hs hroom hup ha => retrain_loses hs hroom hup ha,
    fun l s hs hroom hup hresync hint hlost hrun hclosed hsolo =>
      resyncTimeout_idle hs hroom hup hresync hint hlost hrun hclosed hsolo,
    fun l s hup hresync hint hlost hrun hsolo => resyncTimeout_run hup hresync hint hlost hrun hsolo,
    fun l s hlost hdown hopened => linkAbort_ends hlost hdown hopened⟩

end Sys2Proof.Machine
end


section
/-!
PROOFS. A light commit's point numbers the records that wait (R437, R553).
-/

namespace Sys2Proof.Machine

/-- A commit of management's whose frame has been sent. -/
def sentCommit : Commit := { party := 0, sent := some (1, []) }

/-- A commit near its point while a record waits to be numbered. -/
def State.commitWithFreshRecord : State :=
  (State.runAfterReset.modLux (fun x => { x with planned := [sentCommit], reb := [{}] })).modLog (fun g => { g with fresh := 1 })

theorem commitWithFreshRecord_numbers (t : State) (h : exec (.lightCommitPoint 0) State.commitWithFreshRecord = .next t) :
    t.log.fresh = 0 := by
  cases Host.Outcome.next.inj h
  rfl

/-- Refutes O47: the statement of the commit point holds for a state that is not settled too, and there the log does not
stay: the step numbers the record that waited. -/
theorem not_lightCommitIsSentAndTakesEffect : ¬ Obligations.LightCommitIsSentAndTakesEffect := by
  unfold Obligations.LightCommitIsSentAndTakesEffect
  rintro ⟨-, hpoint, -⟩
  obtain ⟨t, hexec, -, -, -, -, -, hlog, -⟩ :=
    hpoint 0 1 [] sentCommit State.commitWithFreshRecord rfl rfl rfl rfl (by decide)
  have hfresh := commitWithFreshRecord_numbers t hexec
  rw [hlog] at hfresh
  exact absurd hfresh (by decide)

end Sys2Proof.Machine
end


section
/-!
PROOFS. Lane requests: what decides them, and their refusal (R124, R125, R127, Table 4.3).
-/

namespace Sys2Proof.Machine

variable {s : State} {l : Lane}

/-! ### What a request's reasons read -/

section clearOut

variable (s)

theorem clearOut_laneFree : s.clearOut.laneFree = s.laneFree := funext fun k => by cases k <;> rfl

theorem clearOut_startOk (scene : Nat) : s.clearOut.startOk scene = s.startOk scene := rfl

theorem clearOut_linkReady : s.clearOut.linkReady = s.linkReady := funext fun k => by cases k <;> rfl

theorem clearOut_linksReady (l : Lane) (p : Program) : s.clearOut.linksReady l p = s.linksReady l p := by
  unfold State.linksReady
  rw [clearOut_linkReady]
  rfl

theorem clearOut_tempReady (l : Lane) : s.clearOut.tempReady l = s.tempReady l := by cases l <;> rfl

/-- What a command sends does not bear on a request. -/
theorem clearOut_refusal (l : Lane) (n : Nat) (host stable : Bool) :
    s.clearOut.refusal l n host stable = s.refusal l n host stable := by
  unfold State.refusal
  simp only [clearOut_laneFree, clearOut_startOk, clearOut_linksReady, clearOut_tempReady, clearOut_lane_sets, clearOut_lane_mode,
    clearOut_lane_axis]
  rfl

end clearOut

theorem ite_lt {p : Prop} [Decidable p] {a b n : Nat} (ha : a < n) (hb : b < n) : (if p then a else b) < n := by
  split
  · exact ha
  · exact hb

/-- A reason of Table 4.3. -/
theorem refusal_lt (s : State) (l : Lane) (n : Nat) (host stable : Bool) : s.refusal l n host stable < 16 := by
  unfold State.refusal
  refine ite_lt (by decide) (ite_lt (by decide) ?_)
  split
  · decide
  · iterate 14 refine ite_lt (by decide) ?_
    decide

/-! ### A refusal noted (R125) -/

/-- A lane's registers of a refused request. -/
def ModeSt.refused (n reason : Nat) (host : Bool) (y : ModeSt) : ModeSt :=
  { y with reason := reason, source := b2n host, refProg := n, refCount := satInc 127 y.refCount }

theorem refuse_eq (s : State) (l : Lane) {n reason : Nat} (host : Bool) (hn : n < 16) (hr : reason < 16) :
    s.refuse l n reason host = ((s.noteL l 0x8010 [reason + 16 * b2n host + 32 * n]).event (4 + laneNo l)).modMode l
      (ModeSt.refused n reason host) := by
  unfold State.refuse
  rw [Nat.mod_eq_of_lt hn, Nat.mod_eq_of_lt hr]
  rfl

theorem request_refused (s : State) (l : Lane) (n : Nat) (host stable : Bool) (h : s.refusal l n host stable ≠ 0) :
    s.request l n host stable = s.refuse l n (s.refusal l n host stable) host := by
  unfold State.request
  split
  · rename_i h0 _
    exact absurd h0 h
  · rfl

/-- What a refusal leaves, where the command has changed no more than pins before it. -/
theorem refused_outcome {x : State} {n reason : Nat} (hs : s.Settled) (hroom : s.LogRoom) (host : Bool) (hn : n < 16)
    (hr : reason < 16) (hlog : x.log = s.log) (hrec : ∀ c n p d, x.mkRec c n p d = s.mkRec c n p d)
    (hbits : x.laneBits l = s.laneBits l) :
    ((x.refuse l n reason host).lane l).mode = ModeSt.refused n reason host (x.lane l).mode
      ∧ (x.refuse l n reason host).log.settle =
        s.log.plus (s.mkRec (0x8010 + laneOff l) 0 (s.laneBits l) [reason + 16 * b2n host + 32 * n]) := by
  rw [refuse_eq x l host hn hr]
  refine ⟨by simp [State.noteL, State.recordL], ?_⟩
  rw [State.modMode_log, State.event_log, State.noteL, State.recordL, hbits]
  exact record_plus hs hroom hlog (hrec _ _ _ _)

theorem Alters.refuse {ps : List Part} {t : State} {n reason : Nat} {host : Bool} (h : Alters ps s t) (hn : n < 16) (hr : reason < 16)
    (hlane : .lane l ∈ ps) (hlog : .log ∈ ps) : Alters ps s (t.refuse l n reason host) := by
  rw [refuse_eq t l host hn hr]
  exact ((h.noteL hlog).event).modMode hlane

theorem setAbort_clearOut (high : Bool) : s.clearOut.setAbort l high = (s.setAbort l high).clearOut := by cases l <;> rfl

theorem Alters.setAbort {ps : List Part} {t : State} {high : Bool} (h : Alters ps s t) (hp : .pins ∈ ps) :
    Alters ps s (t.setAbort l high) := by
  unfold State.setAbort
  split
  · exact h.setPins hp
  · exact h.setPins hp

theorem scanReqPin_decided {n : Nat} {stable high : Bool} (hpins : s.pinsLive l = true) (hdecides : s.decides = true) :
    exec (.scanReqPin l n stable high) s =
      .next (s.after ((s.setAbort l high).clearOut.request l (n % 16) false stable)) := by
  have hpins' : s.clearOut.pinsLive l = true := hpins
  have hdecides' : (s.setAbort l high).clearOut.decides = true := by cases l <;> exact hdecides
  simp only [exec_scanReqPin, execScanReqPin, perform_after, hpins', Bool.not_true, Bool.false_eq_true, if_false,
    setAbort_clearOut, hdecides', if_true]

theorem scanReqPin_refused {n : Nat} {stable high : Bool} (hs : s.Settled) (hroom : s.LogRoom) (hpins : s.pinsLive l = true)
    (hdecides : s.decides = true) (hreason : (s.setAbort l high).refusal l (n % 16) false stable ≠ 0) :
    (s.setAbort l high).refusal l (n % 16) false stable < 16 ∧ ∃ t, exec (.scanReqPin l n stable high) s = .next t
      ∧ (t.lane l).mode = { (s.lane l).mode with
          reason := (s.setAbort l high).refusal l (n % 16) false stable, source := 0, refProg := n % 16
          refCount := satInc 127 (s.lane l).mode.refCount }
      ∧ t.log = s.log.plus (s.mkRec (0x8010 + laneOff l) 0 (s.laneBits l)
          [(s.setAbort l high).refusal l (n % 16) false stable + 32 * (n % 16)])
      ∧ t.pins = (s.setAbort l high).pins ∧ Frame [.lane l, .log, .pins] s t := by
  have hlt := refusal_lt (s.setAbort l high) l (n % 16) false stable
  have hn : n % 16 < 16 := Nat.mod_lt _ (by decide)
  have heffect := scanReqPin_decided (n := n) (stable := stable) (high := high) hpins hdecides
  rw [request_refused _ _ _ _ _ (by rwa [clearOut_refusal]), clearOut_refusal] at heffect
  generalize (s.setAbort l high).refusal l (n % 16) false stable = reason at *
  obtain ⟨hmode, hlog⟩ := refused_outcome (x := (s.setAbort l high).clearOut) (l := l) hs hroom false hn hlt (by cases l <;> rfl)
    (by cases l <;> exact fun _ _ _ _ => rfl) (by cases l <;> rfl)
  refine ⟨hlt, _, heffect, ?_, ?_, ?_, ?_⟩
  · rw [after_lane_mode, hmode]
    cases l <;> rfl
  · rw [after_log, hlog]
    rfl
  · rw [after_pins, refuse_eq _ l false hn hlt]
    simp [State.noteL, State.recordL]
  · refine Alters.frame (Alters.refuse ?_ hn hlt (by simp) (by simp)) hs
    rw [← setAbort_clearOut]
    exact (Alters.refl _ _).setAbort (by simp)

/-! ### The host's request (R127) -/

theorem applyWrite_req (l : Lane) (w e : Nat) : s.applyWrite (hostWrite (headUnit l) 1 [w] e) = s.reqWrite l w := by
  have hquiet : (hostWrite (headUnit l) 1 [w] e).items.all (fun q => quietWord (headUnit l) q.1) = true := by
    cases l <;> simp [hostWrite, Req.items, quietWord, headUnit]
  have hword : (hostWrite (headUnit l) 1 [w] e).at? 0x001 = some w := hostWrite_at_own ..
  have htrim : s.headTrim l (hostWrite (headUnit l) 1 [w] e) = s := by
    simp [State.headTrim, hostWrite, Req.items]
  have hhead : s.headWrite l (hostWrite (headUnit l) 1 [w] e) = s.reqWrite l w := by
    unfold State.headWrite
    rw [htrim, hword]
  have hunmarked : (if (hostWrite (headUnit l) 1 [w] e).items.all (fun q => quietWord (headUnit l) q.1) then
      s.headWrite l (hostWrite (headUnit l) 1 [w] e) else (s.headWrite l (hostWrite (headUnit l) 1 [w] e)).mark (headUnit l)) =
      s.reqWrite l w := by rw [if_pos hquiet, hhead]
  cases l <;> exact hunmarked

theorem headReq_effect {w e : Nat} (ha : s.Accepts (hostWrite (headUnit l) 1 [w] e)) :
    ∃ r k, s.oneWrite (headUnit l) 1 w e = .next (s.answered (s.mgtOpen.clearOut.reqWrite l w) r k)
      ∧ (s.answered (s.mgtOpen.clearOut.reqWrite l w) r k).Replied (hostWrite (headUnit l) 1 [w] e) [] := by
  have hap : (hostWrite (headUnit l) 1 [w] e).aperture = false := by
    cases l <;> simp [Req.aperture, hostWrite_unit, headUnit]
  exact oneWrite_answered ha ((frameEffect_write rfl hap 0 0).trans (applyWrite_req l w e))

/-- HEAD.REQ with GO, without ABORT and with it. -/
theorem reqWord_go {m : Nat} (hm : m < 16) : bit (m + 16) 5 = false ∧ bit (m + 16) 4 = true ∧ (m + 16) % 16 = m := by
  revert m
  decide

theorem reqWord_abortGo {m : Nat} (hm : m < 16) : bit (m + 48) 5 = true ∧ bit (m + 48) 4 = true ∧ (m + 48) % 16 = m := by
  revert m
  decide

theorem reqWrite_go (s : State) (l : Lane) (n : Nat) : s.reqWrite l (n % 16 + 16) = s.request l (n % 16) true true := by
  obtain ⟨habort, hgo, hprog⟩ := reqWord_go (Nat.mod_lt n (by decide : 16 > 0))
  simp [State.reqWrite, habort, hgo, hprog]

theorem reqWrite_abortGo (n : Nat) (hrun : s.capturesRun l = false) (hcal : s.acquiring l = false) :
    s.reqWrite l (n % 16 + 48) = s.refuse l (n % 16) 15 true := by
  obtain ⟨habort, hgo, hprog⟩ := reqWord_abortGo (Nat.mod_lt n (by decide : 16 > 0))
  have hstays : s.abort l 2 = s := by simp [State.abort, hrun, hcal]
  simp [State.reqWrite, habort, hgo, hprog, hstays]

theorem mgtOpen_refusal (n : Nat) (host stable : Bool) : s.mgtOpen.refusal l n host stable = s.refusal l n host stable := by
  unfold State.refusal
  rfl

theorem headReq_refused {w e n reason : Nat} (hs : s.Settled) (hroom : s.LogRoom) (ha : s.Accepts (hostWrite (headUnit l) 1 [w] e))
    (hn : n < 16) (hr : reason < 16) (heq : s.mgtOpen.clearOut.reqWrite l w = s.mgtOpen.clearOut.refuse l n reason true) :
    ∃ t, s.oneWrite (headUnit l) 1 w e = .next t ∧ t.Replied (hostWrite (headUnit l) 1 [w] e) []
      ∧ (t.lane l).mode = { (s.lane l).mode with
          reason := reason, source := 1, refProg := n, refCount := satInc 127 (s.lane l).mode.refCount }
      ∧ t.log = s.log.plus (s.mkRec (0x8010 + laneOff l) 0 (s.laneBits l) [reason + 16 + 32 * n])
      ∧ Frame [.lane l, .log] s t := by
  obtain ⟨r, k, hexec, hreply⟩ := headReq_effect ha
  rw [heq] at hexec hreply
  obtain ⟨hmode, hlog⟩ := refused_outcome (x := s.mgtOpen.clearOut) (l := l) hs hroom true hn hr rfl (fun _ _ _ _ => rfl) rfl
  refine ⟨_, hexec, hreply, ?_, ?_, ((Alters.refl _ _).refuse hn hr (by simp) (by simp)).frame_answered hs⟩
  · rw [answered_lane, after_lane_mode, hmode, clearOut_lane_mode]
    rfl
  · rw [answered_log_settle, hlog]
    rfl

/-- Settles O21: the pin's request and the host's two are refused the same way, each with its reason. -/
theorem refusedRequestIsNoted : Obligations.RefusedRequestIsNoted := by
  unfold Obligations.RefusedRequestIsNoted
  refine ⟨fun l n stable high s hs hroom hpins hdecides hreason => scanReqPin_refused hs hroom hpins hdecides hreason,
    fun l n e s hs hroom ha hreason => ?_, fun l n e s hs hroom hrun hcal ha => ?_⟩
  · refine headReq_refused hs hroom ha (Nat.mod_lt _ (by decide)) (refusal_lt ..) ?_
    refine (reqWrite_go _ l n).trans ?_
    rw [request_refused _ _ _ _ _ (by rwa [clearOut_refusal, mgtOpen_refusal]), clearOut_refusal, mgtOpen_refusal]
  · refine headReq_refused hs hroom ha (Nat.mod_lt _ (by decide)) (by decide) (reqWrite_abortGo n ?_ ?_)
    · simpa [State.capturesRun, State.inRun] using hrun
    · simpa [State.acquiring, State.inRun] using hcal

end Sys2Proof.Machine
end


section
/-!
PROOFS. Aborts (R121, R129, Table 12.8).
-/

namespace Sys2Proof.Machine

variable {s t : State} {l : Lane}

theorem keptAt_alters {ps : List Part} (hlane : .lane l ∈ ps) (hlux : .lux ∈ ps) (hlog : .log ∈ ps) : KeptAt l (Alters ps s) where
  lane _ h := h.modLane hlane
  lux h := h.modLux hlux
  log h := h.modLog hlog
  mark h := h.mark
  event h := h.event

/-- A run with no end yet, in no gang, takes its end from an abort. -/
theorem endRun_eq {e : RunEnd} (hsolo : t.sys.gang = false) (hrun : t.capturesRun l = true) (hnone : (t.lane l).lrun.ending = none) :
    t.endRun l e = (if (t.lane l).mode.entering || (t.lane l).mode.mode = .smoulder then
        ((t.modLrun l (fun r => { r with ending := some e })).beginEnding l).endCarriage l
      else if e.aborted then ((t.modLrun l (fun r => { r with ending := some e })).unexpose l).discardLane l
      else (t.modLrun l (fun r => { r with ending := some e })).unexpose l) := by
  have hopen : t.closing l = false := by
    simp only [State.capturesRun, State.inRun, Bool.and_eq_true, Bool.not_eq_true'] at hrun
    simp [State.closing, hrun.1.2]
  simp [State.endRun, State.partners, hsolo, hrun, hnone, hopen]

namespace KeptByLines

variable {P : State → Prop} (k : KeptByLines P)
include k

theorem endOfRun {e : RunEnd} (hsolo : t.sys.gang = false) (hrun : t.capturesRun l = true)
    (hnone : (t.lane l).lrun.ending = none) (h : P (t.modLrun l (fun r => { r with ending := some e }))) : P (t.endRun l e) := by
  rw [endRun_eq hsolo hrun hnone]
  split
  · exact k.byAxis.endCarriage (k.beginEnding h)
  · split
    · exact k.lux.discard (k.unexposeIf h)
    · exact k.unexposeIf h

end KeptByLines

theorem keptByLines_wired (x : LinkSt × LinkRun × List Slot × Nat × Nat) : KeptByLines (fun s => (s.lane l).wired = x) :=
  keptByLines_reading (g := fun s => (s.lane l).wired) (fun s j f hf => by
    cases j <;> cases l <;> simp [State.modLane, State.lane, (hf _).1]) (fun s f => by simp)

theorem keptByLines_log (x : LogSt) : KeptByLines (fun s => s.log = x) :=
  keptByLines_reading (g := State.log) (fun s j f _ => by simp) (fun s f => by simp)

theorem endRun_ending {e : RunEnd} (hsolo : t.sys.gang = false) (hrun : t.capturesRun l = true)
    (hnone : (t.lane l).lrun.ending = none) : ((t.endRun l e).lane l).lrun.ending = some e := by
  have hw := (keptByLines_wired (l := l) _).endOfRun (e := e) hsolo hrun hnone rfl
  have hlrun : ((t.endRun l e).lane l).lrun = ((t.modLrun l (fun r => { r with ending := some e })).lane l).lrun :=
    congrArg (fun w => w.2.1) hw
  simp [hlrun]

theorem endRun_log {e : RunEnd} (hsolo : t.sys.gang = false) (hrun : t.capturesRun l = true)
    (hnone : (t.lane l).lrun.ending = none) : (t.endRun l e).log = t.log :=
  (keptByLines_log _).endOfRun hsolo hrun hnone (by simp)

theorem not_calibrating_of_capturing {m : Mode} (h : capturing m = true) : calibrating m = false := by
  cases m <;> simp_all [capturing, calibrating]

/-- A lane that captures acquires no calibration. -/
theorem acquiring_of_captures (h : t.capturesRun l = true) : t.acquiring l = false := by
  simp only [State.capturesRun, Bool.and_eq_true] at h
  obtain ⟨-, hcap⟩ := h
  simp only [State.acquiring, Bool.and_eq_false_iff]
  right
  unfold ModeSt.work at hcap
  split at hcap
  case isTrue h => rw [h]; rfl
  case isFalse => exact not_calibrating_of_capturing hcap

theorem abort_eq {source : Nat} (hsolo : t.sys.gang = false) (hrun : t.capturesRun l = true)
    (hnone : (t.lane l).lrun.ending = none) :
    t.abort l source = (t.noteL l 0x8011 [source]).endRun l { aborted := true, cause := source } := by
  simp [State.abort, acquiring_of_captures hrun, hrun, hnone, State.abortNotes, hsolo, State.noteL, State.recordL]

/-- What an abort leaves, in a state of the command alike in log and context. -/
theorem abort_outcome {source : Nat} (hs : s.Settled) (hroom : s.LogRoom) (hsolo : t.sys.gang = false)
    (hrun : t.capturesRun l = true) (hnone : (t.lane l).lrun.ending = none) (hlog : t.log = s.log)
    (hrec : ∀ c n p d, t.mkRec c n p d = s.mkRec c n p d) (hbits : t.laneBits l = s.laneBits l) :
    ((t.abort l source).lane l).lrun.ending = some { aborted := true, cause := source }
      ∧ (t.abort l source).log.settle = s.log.plus (s.mkRec (0x8011 + laneOff l) 0 (s.laneBits l) [source]) := by
  have hrun' : (t.noteL l 0x8011 [source]).capturesRun l = true := by
    simpa [State.capturesRun, State.inRun, State.noteL, State.recordL] using hrun
  have hsolo' : (t.noteL l 0x8011 [source]).sys.gang = false := by simpa [State.noteL, State.recordL] using hsolo
  have hnone' : ((t.noteL l 0x8011 [source]).lane l).lrun.ending = none := by simpa [State.noteL, State.recordL] using hnone
  rw [abort_eq hsolo hrun hnone]
  refine ⟨endRun_ending hsolo' hrun' hnone', ?_⟩
  rw [endRun_log hsolo' hrun' hnone', State.noteL, State.recordL, hbits]
  exact record_plus hs hroom hlog (hrec _ _ _ _)

theorem Alters.abort {ps : List Part} {source : Nat} (h : Alters ps s t) (hsolo : t.sys.gang = false)
    (hrun : t.capturesRun l = true) (hnone : (t.lane l).lrun.ending = none) (hlane : .lane l ∈ ps) (hlux : .lux ∈ ps)
    (hlog : .log ∈ ps) : Alters ps s (t.abort l source) := by
  have k := keptAt_alters (s := s) hlane hlux hlog
  rw [abort_eq hsolo hrun hnone]
  exact k.endRun (by simpa [State.noteL, State.recordL] using hsolo) (k.noteL h)

theorem abortPin_eq {high : Bool} (hpins : s.pinsLive l = true) : exec (.abortPin ⟨l, high⟩) s =
    .next (s.after (if high && s.decides then (s.setAbort l high).clearOut.abort l 1 else (s.setAbort l high).clearOut)) := by
  have hpins' : s.clearOut.pinsLive l = true := hpins
  have hdecides : (s.setAbort l high).clearOut.decides = s.decides := by cases l <;> rfl
  simp only [exec_abortPin, execAbortPin, perform_after, hpins', Bool.not_true, Bool.false_eq_true, if_false, setAbort_clearOut,
    hdecides]

theorem abortHigh_congr (h : t.pins = s.pins) : t.abortHigh l = s.abortHigh l := by
  cases l <;> simp only [State.abortHigh, h]

theorem setAbort_capturesRun (high : Bool) : (s.setAbort l high).clearOut.capturesRun l = s.capturesRun l := by
  cases l <;> rfl

theorem abortPin_ends (hs : s.Settled) (hroom : s.LogRoom) (hpins : s.pinsLive l = true) (hdecides : s.decides = true)
    (hrun : s.capturesRun l = true) (hnone : (s.lane l).lrun.ending = none) (hsolo : s.sys.gang = false) :
    ∃ t, exec (.abortPin ⟨l, true⟩) s = .next t ∧ (t.lane l).lrun.ending = some { aborted := true, cause := 1 }
      ∧ t.log = s.log.plus (s.mkRec (0x8011 + laneOff l) 0 (s.laneBits l) [1])
      ∧ t.abortHigh l = true ∧ Frame [.lane l, .lux, .log, .pins] s t := by
  have heffect := abortPin_eq (high := true) hpins
  rw [hdecides, Bool.and_self, if_pos rfl] at heffect
  have hsolo' : (s.setAbort l true).clearOut.sys.gang = false := by cases l <;> exact hsolo
  have hrun' : (s.setAbort l true).clearOut.capturesRun l = true := (setAbort_capturesRun true).trans hrun
  have hnone' : ((s.setAbort l true).clearOut.lane l).lrun.ending = none := by cases l <;> exact hnone
  obtain ⟨hend, hlog⟩ := abort_outcome (source := 1) hs hroom hsolo' hrun' hnone' (by cases l <;> rfl)
    (by cases l <;> exact fun _ _ _ _ => rfl) (by cases l <;> rfl)
  have hpinsAfter : ((s.setAbort l true).clearOut.abort l 1).pins = (s.setAbort l true).pins :=
    (Alters.refl [.lane l, .lux, .log] _).abort hsolo' hrun' hnone' (by simp) (by simp) (by simp) .pins (by simp)
  refine ⟨_, heffect, ?_, ?_, ?_, ?_⟩
  · rw [after_lane_lrun_ending, hend]
  · rw [after_log, hlog]
  · have hpins : (s.after ((s.setAbort l true).clearOut.abort l 1)).pins = (s.setAbort l true).pins := by
      rw [after_pins, hpinsAfter]
    rw [abortHigh_congr hpins]
    cases l <;> rfl
  · refine Alters.frame (Alters.abort ?_ hsolo' hrun' hnone' (by simp) (by simp) (by simp)) hs
    rw [← setAbort_clearOut]
    exact (Alters.refl _ _).setAbort (by simp)

theorem abortPin_falls (hs : s.Settled) (hpins : s.pinsLive l = true) : ∃ t, exec (.abortPin ⟨l, false⟩) s = .next t
    ∧ t.pins = (s.setAbort l false).pins ∧ Frame [.pins] s t := by
  have heffect := abortPin_eq (high := false) hpins
  rw [Bool.false_and, if_neg (by decide), ← setAbort_clearOut] at heffect
  refine ⟨_, heffect, ?_, ((Alters.refl _ _).setAbort (by simp)).frame hs⟩
  rw [after_pins, setAbort_clearOut]
  rfl

theorem headReqAbort_ends {e : Nat} (hs : s.Settled) (hroom : s.LogRoom) (ha : s.Accepts (hostWrite (headUnit l) 1 [0x20] e))
    (hrun : s.capturesRun l = true) (hnone : (s.lane l).lrun.ending = none) (hsolo : s.sys.gang = false) :
    ∃ t, exec (.headReqAbort l e) s = .next t ∧ t.Replied (hostWrite (headUnit l) 1 [0x20] e) []
      ∧ (t.lane l).lrun.ending = some { aborted := true, cause := 2 }
      ∧ t.log = s.log.plus (s.mkRec (0x8011 + laneOff l) 0 (s.laneBits l) [2])
      ∧ Frame [.lane l, .lux, .log] s t := by
  obtain ⟨r, k, hexec, hreply⟩ := headReq_effect ha
  have heq : s.mgtOpen.clearOut.reqWrite l 0x20 = s.mgtOpen.clearOut.abort l 2 := by
    have habort : bit 0x20 5 = true := by decide
    have hgo : bit 0x20 4 = false := by decide
    simp [State.reqWrite, habort, hgo]
  rw [heq] at hexec hreply
  have hrun' : s.mgtOpen.clearOut.capturesRun l = true := by simpa [State.capturesRun, State.inRun] using hrun
  have hnone' : (s.mgtOpen.clearOut.lane l).lrun.ending = none := by simpa using hnone
  obtain ⟨hend, hlog⟩ := abort_outcome (l := l) (source := 2) (t := s.mgtOpen.clearOut) hs hroom hsolo hrun' hnone' rfl
    (fun _ _ _ _ => rfl) rfl
  refine ⟨_, hexec, hreply, ?_, ?_, ?_⟩
  · rw [answered_lane, after_lane_lrun_ending, hend]
  · rw [answered_log_settle, hlog]
  · have hsolo' : s.mgtOpen.clearOut.sys.gang = false := hsolo
    exact (Alters.abort (Alters.refl _ s.mgtOpen.clearOut) hsolo' hrun' hnone' (by simp) (by simp) (by simp)).frame_answered hs

/-- Settles O22: pin and host end the run through the same abort. -/
theorem abortEndsTheRun : Obligations.AbortEndsTheRun := by
  unfold Obligations.AbortEndsTheRun
  exact ⟨fun l s hs hroom hpins hdecides hrun hnone hsolo => abortPin_ends hs hroom hpins hdecides hrun hnone hsolo,
    fun l s hs hpins => abortPin_falls hs hpins,
    fun l e s hs hroom ha hrun hnone hsolo => headReqAbort_ends hs hroom ha hrun hnone hsolo⟩

end Sys2Proof.Machine
end


section
/-!
PROOFS. Phase A of a run: a request accepted (Tables 4.3, 4.4a, R306).
-/

namespace Sys2Proof.Machine

variable {s t : State} {l k : Lane} {p : Program}

theorem KeptAt.acceptLane {P : State → Prop} (kp : KeptAt l P) (h : P s) : P (s.acceptLane p l) := by
  have h1 : P (((s.clearTill l).modLane l (fun x => x.begin p)).toMode l (progMode p)) :=
    kp.toMode (kp.lane (fun _ => rfl) (kp.till h))
  unfold State.acceptLane
  dsimp only
  split
  · exact kp.cal h1
  · exact kp.sendFrame (kp.link h1)

/-- What a run's frames leave of its lane: its mode, Till and next line. -/
def LaneSt.begun (x : LaneSt) : ModeSt × TillSt × Nat := (x.mode, x.till, x.nextLine)

theorem keptByLink_begun (v : ModeSt × TillSt × Nat) : KeptByLink l (fun s => (s.lane l).begun = v) :=
  keptByLink_reading (g := fun s => (s.lane l).begun) (fun s f hf => by rw [State.modLane_lane, (hf _).1]; rfl)
    (fun s u => by rw [State.mark_lane])

/-- Lane `k` of state `t` runs program `p`, just accepted. -/
def State.Entering (t : State) (p : Program) (k : Lane) : Prop :=
  (t.lane k).mode.mode = progMode p ∧ (t.lane k).mode.entering = true ∧ (t.lane k).mode.prog = some p ∧ (t.lane k).till.slots = []
    ∧ (t.lane k).till.wptr = 0 ∧ (t.lane k).till.rptr = 0 ∧ (t.lane k).nextLine = 0

theorem entering_of_begun (h : (t.lane k).begun = (s.lane k).begun) (hs : s.Entering p k) : t.Entering p k := by
  simp only [LaneSt.begun, Prod.mk.injEq] at h
  obtain ⟨hmode, htill, hline⟩ := h
  unfold State.Entering
  rw [hmode, htill, hline]
  exact hs

/-- A lane that takes a mode. -/
theorem toMode_lane (s : State) (l : Lane) (m : Mode) : (s.toMode l m).lane l =
    { s.lane l with mode := { (s.lane l).mode with mode := m } } := by
  unfold State.toMode
  split
  case isTrue h => rw [← h]
  case isFalse => simp [State.rearmLane]

theorem acceptLane_enters (s : State) (l : Lane) (p : Program) : (s.acceptLane p l).Entering p l := by
  have h1 : (((s.clearTill l).modLane l (fun x => x.begin p)).toMode l (progMode p)).Entering p l := by
    simp [State.Entering, toMode_lane, State.clearTill, LaneSt.begin]
  unfold State.acceptLane
  dsimp only
  split
  · exact entering_of_begun (by simp [LaneSt.begun]) h1
  · refine entering_of_begun ?_ h1
    exact (keptByLink_begun _).sendFrame ((keptByLink_begun _).link (fun y => ⟨rfl, rfl⟩) rfl)

theorem keptAt_other (x : LaneSt) (hne : k ≠ l) : KeptAt l (fun s => s.lane k = x) where
  lane _ h := by cases k <;> cases l <;> simp_all [State.modLane, State.lane]
  lux h := by simpa using h
  log h := by simpa using h
  mark h := by rw [State.mark_lane]; exact h
  event h := by simpa using h

theorem keptAt_gang (b : Bool) : KeptAt l (fun s => s.sys.gang = b) where
  lane _ h := by simpa using h
  lux h := by simpa using h
  log h := by simpa using h
  mark h := by simpa using h
  event h := by simpa using h

theorem entering_congr (h : t.lane k = s.lane k) (hs : s.Entering p k) : t.Entering p k := by
  unfold State.Entering
  rw [h]
  exact hs

theorem acceptRun_enters (s : State) (l : Lane) (p : Program) : ∀ k ∈ progLanes l p, (s.acceptRun l p).Entering p k := by
  unfold State.acceptRun progLanes
  split
  case isTrue h6 =>
    intro k _
    simp only [List.foldl_cons, List.foldl_nil]
    have hb := acceptLane_enters (s.joinGang.acceptLane p .a) .b p
    cases k with
    | a =>
      refine entering_congr ?_ (acceptLane_enters s.joinGang .a p)
      exact (keptAt_other (l := .b) (k := .a) _ (by decide)).acceptLane rfl
    | b => exact hb
  case isFalse h6 =>
    intro k hk
    rw [List.mem_singleton] at hk
    subst hk
    simp only [List.foldl_cons, List.foldl_nil]
    exact acceptLane_enters s k p

theorem acceptRun_gang (s : State) (l : Lane) (p : Program) :
    (s.acceptRun l p).sys.gang = (s.sys.gang || decide (p.mode = 6)) := by
  have hone : ∀ (x : State) (j : Lane), (x.acceptLane p j).sys.gang = x.sys.gang := fun x j =>
    (keptAt_gang (l := j) _).acceptLane rfl
  unfold State.acceptRun progLanes
  split
  case isTrue h6 =>
    simp [hone, h6, State.joinGang]
  case isFalse h6 => simp [hone, h6]

theorem request_accepted {n : Nat} {host stable : Bool} (hreason : s.refusal l n host stable = 0)
    (hprog : s.shadow.programs.find? (fun q => q.num == n) = some p) : s.request l n host stable = s.acceptRun l p := by
  unfold State.request
  rw [hreason, hprog]
  rfl

/-- What of a state that has accepted a program stands after the command. -/
theorem entering_after (h : t.Entering p k) : ((s.after t).lane k).mode.mode = progMode p ∧ ((s.after t).lane k).mode.entering = true
    ∧ ((s.after t).lane k).mode.prog = some p ∧ ((s.after t).lane k).till.slots = [] ∧ ((s.after t).lane k).till.wptr = 0
    ∧ ((s.after t).lane k).till.rptr = 0 ∧ ((s.after t).lane k).nextLine = 0 := by
  unfold State.Entering at h
  simpa using h

theorem scanReqPin_accepted {n : Nat} {stable high : Bool} (hpins : s.pinsLive l = true) (hdecides : s.decides = true)
    (hreason : (s.setAbort l high).refusal l (n % 16) false stable = 0)
    (hprog : s.shadow.programs.find? (fun q => q.num == n % 16) = some p) :
    ∃ t, exec (.scanReqPin l n stable high) s = .next t ∧ t.sys.gang = (s.sys.gang || decide (p.mode = 6))
      ∧ ∀ k ∈ progLanes l p, (t.lane k).mode.mode = progMode p ∧ (t.lane k).mode.entering = true
        ∧ (t.lane k).mode.prog = some p ∧ (t.lane k).till.slots = [] ∧ (t.lane k).till.wptr = 0
        ∧ (t.lane k).till.rptr = 0 ∧ (t.lane k).nextLine = 0 := by
  have heffect := scanReqPin_decided (n := n) (stable := stable) (high := high) hpins hdecides
  have hprog' : (s.setAbort l high).clearOut.shadow.programs.find? (fun q => q.num == n % 16) = some p := by
    cases l <;> exact hprog
  rw [request_accepted (by rwa [clearOut_refusal]) hprog'] at heffect
  refine ⟨_, heffect, ?_, fun k hk => entering_after (acceptRun_enters _ l p k hk)⟩
  rw [after_sys_gang, acceptRun_gang]
  cases l <;> rfl

theorem headReqGo_accepted {n e : Nat} (ha : s.Accepts (hostWrite (headUnit l) 1 [n % 16 + 16] e))
    (hreason : s.refusal l (n % 16) true true = 0) (hprog : s.shadow.programs.find? (fun q => q.num == n % 16) = some p) :
    ∃ t, exec (.headReqGo l n false e) s = .next t ∧ t.Replied (hostWrite (headUnit l) 1 [n % 16 + 16] e) []
      ∧ t.sys.gang = (s.sys.gang || decide (p.mode = 6))
      ∧ ∀ k ∈ progLanes l p, (t.lane k).mode.mode = progMode p ∧ (t.lane k).mode.entering = true
        ∧ (t.lane k).mode.prog = some p ∧ (t.lane k).till.slots = [] ∧ (t.lane k).till.wptr = 0
        ∧ (t.lane k).till.rptr = 0 ∧ (t.lane k).nextLine = 0 := by
  obtain ⟨r, j, hexec, hreply⟩ := headReq_effect ha
  have heq : s.mgtOpen.clearOut.reqWrite l (n % 16 + 16) = s.mgtOpen.clearOut.acceptRun l p :=
    (reqWrite_go _ l n).trans (request_accepted (by rwa [clearOut_refusal, mgtOpen_refusal]) hprog)
  rw [heq] at hexec hreply
  refine ⟨_, hexec, hreply, ?_, fun k hk => ?_⟩
  · rw [show (s.answered (s.mgtOpen.clearOut.acceptRun l p) r j).sys.gang = (s.mgtOpen.after (s.mgtOpen.clearOut.acceptRun l p)).sys.gang
      from rfl, after_sys_gang, acceptRun_gang]
    rfl
  · rw [answered_lane]
    exact entering_after (acceptRun_enters _ l p k hk)

theorem scanReqPin_bringup {n : Nat} {stable high : Bool} (hs : s.Settled) (hpins : s.pinsLive l = true)
    (hphase : s.power.phase = .bringup) : ∃ t, exec (.scanReqPin l n stable high) s = .next t
      ∧ t.power = { s.power with refused := satInc 15 s.power.refused } ∧ t.pins = (s.setAbort l high).pins
      ∧ Frame [.power, .pins] s t := by
  have hpins' : s.clearOut.pinsLive l = true := hpins
  have heffect : exec (.scanReqPin l n stable high) s = .next (s.after ((s.clearOut.setAbort l high).modPower
      (fun p => { p with refused := satInc 15 p.refused }))) := by
    simp [execScanReqPin, perform_after, hpins', hphase, State.decides]
  refine ⟨_, heffect, ?_, ?_, (((Alters.refl _ _).setAbort (by simp)).modPower (by simp)).frame hs⟩
  · rw [after_power, State.modPower_power]
    cases l <;> rfl
  · rw [after_pins, State.modPower_pins, setAbort_clearOut]
    rfl

/-- Settles O20: an accepted request starts the program on each of its lanes, whoever asked for it. -/
theorem acceptedRequestStartsEntry : Obligations.AcceptedRequestStartsEntry := by
  unfold Obligations.AcceptedRequestStartsEntry
  exact ⟨fun l n stable high p s hpins hdecides hreason hprog => scanReqPin_accepted hpins hdecides hreason hprog,
    fun l n e p s ha hreason hprog => headReqGo_accepted ha hreason hprog,
    fun l n stable high s hs hpins hphase => scanReqPin_bringup hs hpins hphase⟩

end Sys2Proof.Machine
end


section
/-!
PROOFS. Re-broadcasts (R442), a silent head (R433, R457), and management light by the host (R419, R456).
-/

namespace Sys2Proof.Machine

variable {s t : State} {l : Lane} {p : Nat}

/-! ### What staging leaves of LUX -/

/-- The update leaves the re-broadcasts and their count, and takes no frame back. -/
def StagingPart (f : LuxSt → LuxSt) : Prop := ∀ x, (f x).reb = x.reb ∧ (f x).rebcast = x.rebcast ∧ x.bus ⊆ (f x).bus

/-- `P` is kept by such updates of LUX. -/
structure KeptByStaging (P : State → Prop) : Prop where
  lux : ∀ {s f}, StagingPart f → P s → P (State.modLux s f)

namespace KeptByStaging

variable {P : State → Prop} (k : KeptByStaging P)
include k

theorem modLightHead {a f} (h : P t) : P (t.modLightHead a f) := k.lux (fun _ => ⟨rfl, rfl, fun _ h => h⟩) h

theorem busSend {f} (h : P t) : P (t.busSend f) := by
  unfold State.busSend
  split
  · exact h
  · exact k.lux (fun _ => ⟨rfl, rfl, List.subset_append_left _ _⟩) h

theorem stageFirst (h : P t) : P (t.stageFirst p) := by
  unfold State.stageFirst
  dsimp only
  split
  · exact h
  · split
    · exact h
    · refine k.lux (fun _ => ⟨rfl, rfl, fun _ h => h⟩) ?_
      exact foldl_keeps (fun h => k.modLightHead (k.busSend h)) _ h

theorem dropFor {c} (h : P t) : P (t.dropFor c) := by
  unfold State.dropFor
  split
  · refine foldl_keeps (fun h => k.modLightHead h) _ ?_
    unfold State.sendDrop
    split
    · exact k.lux (fun _ => ⟨rfl, rfl, fun _ h => h⟩) h
    · exact k.busSend h
  · exact h

theorem unstage (h : P t) : P (t.unstage p) := by
  unfold State.unstage
  exact k.lux (fun _ => ⟨rfl, rfl, fun _ h => h⟩) (foldl_keeps (P := P) (fun h => k.dropFor h) _ h)

end KeptByStaging

theorem modReb_getD (t : State) {p : Nat} (hp : p < t.lux.reb.length) (f : Rebcast → Rebcast) :
    (t.modReb p f).lux.reb.getD p {} = f (t.lux.reb.getD p {}) := by
  simp [State.modReb, updAt, List.getD_eq_getElem?_getD, hp]

/-- Before its re-broadcast goes out: the re-broadcasts and their count as they were, the bus open. -/
def State.RebUntouched (s x : State) : Prop :=
  x.lux.reb = s.lux.reb ∧ x.lux.rebcast = s.lux.rebcast ∧ x.clk.interval = s.clk.interval ∧ x.pwr.busShort = s.pwr.busShort

theorem keptByStaging_untouched (s : State) : KeptByStaging s.RebUntouched :=
  ⟨fun {x f} hf h => by
    obtain ⟨hreb, hcount, -⟩ := hf x.lux
    unfold State.RebUntouched at *
    simpa [hreb, hcount] using h⟩

/-- Once it has gone out: the frame is on the bus, and the tries are counted. -/
def State.RebSent (x : State) (r : List Rebcast) (n : Nat) (f : List Nat) : Prop :=
  x.lux.reb = r ∧ x.lux.rebcast = n ∧ f ∈ x.lux.bus

theorem keptByStaging_sent (r : List Rebcast) (n : Nat) (f : List Nat) : KeptByStaging (State.RebSent · r n f) :=
  ⟨fun {x g} hg h => by
    obtain ⟨hreb, hcount, hbus⟩ := hg x.lux
    obtain ⟨h1, h2, h3⟩ := h
    refine ⟨?_, ?_, ?_⟩
    · rw [State.modLux_lux, hreb, h1]
    · rw [State.modLux_lux, hcount, h2]
    · rw [State.modLux_lux]
      exact hbus h3⟩

/-- The frame of a re-broadcast. -/
def Rebcast.frame (r : Rebcast) (p : Nat) : List Nat := commitFrame p r.num (r.tries + 1) r.mask

theorem rebroadcast_sends (hheads : ∃ a ∈ (t.lux.reb.getD p {}).heads, (t.lightHead a).barred = false)
    (hdue : (t.lux.reb.getD p {}).due = true) (hint : t.clk.interval = false) (hshort : t.pwr.busShort = false) :
    (t.rebroadcast p).RebSent (updAt t.lux.reb p (fun r => { r with tries := r.tries + 1, due := false }))
      (satInc 255 t.lux.rebcast) ((t.lux.reb.getD p {}).frame p) := by
  have hsome : ((t.lux.reb.getD p {}).heads.filter (fun a => !(t.lightHead a).barred)).isEmpty = false := by
    obtain ⟨a, ha, hbar⟩ := hheads
    rw [List.isEmpty_eq_false_iff_exists_mem]
    exact ⟨a, List.mem_filter.mpr ⟨ha, by simp [hbar]⟩⟩
  unfold State.rebroadcast
  extract_lets r hs s1 s2 s3 s4 s5
  have hgo : (hs.isEmpty || !r.due || t.clk.interval || t.pwr.busShort) = false := by
    rw [show hs.isEmpty = false from hsome, show r.due = true from hdue, hint, hshort]
    rfl
  rw [if_neg (by rw [hgo]; decide)]
  have h2 : t.RebUntouched s2 := foldl_keeps (fun h => (keptByStaging_untouched t).modLightHead ((keptByStaging_untouched t).busSend h)) _
    ((keptByStaging_untouched t).unstage ⟨rfl, rfl, rfl, rfl⟩)
  obtain ⟨hreb, hcount, hint2, hshort2⟩ := h2
  have h3 : s3 = s2.modLux (fun x => { x with bus := x.bus ++ [r.frame p] }) := by
    simp [s3, State.busSend, hint2, hshort2, hint, hshort, Rebcast.frame]
  have h4 : s4.RebSent (updAt t.lux.reb p (fun r => { r with tries := r.tries + 1, due := false }))
      (satInc 255 t.lux.rebcast) (r.frame p) := by
    simp [State.RebSent, s4, h3, State.modReb, hreb, hcount]
  have hk := keptByStaging_sent (updAt t.lux.reb p (fun r => { r with tries := r.tries + 1, due := false }))
    (satInc 255 t.lux.rebcast) (r.frame p)
  refine hk.stageFirst (foldl_keeps (P := fun x => x.RebSent _ _ _) (fun {x a} h => ?_) _ h4)
  split
  · exact h
  · exact hk.modLightHead (hk.busSend h)

theorem LuxKept.staging {P : State → Prop} (k : LuxKept P) : KeptByStaging P := ⟨fun _ h => k _ _ h⟩

theorem LuxKept.rebroadcast {P : State → Prop} (k : LuxKept P) (h : P t) : P (t.rebroadcast p) := by
  unfold State.rebroadcast
  extract_lets r hs s1 s2 s3 s4 s5
  have h2 : P s2 := foldl_keeps (P := P) (fun h => k.staging.modLightHead (k.busSend h)) _ (k.staging.unstage h)
  have h5 : P s5 := by
    refine foldl_keeps (P := P) (fun {x a} h => ?_) _ (k _ _ (k _ _ (k.busSend h2)))
    split
    · exact h
    · exact k.staging.modLightHead (k.busSend h)
  split
  · exact h
  · exact k.stageFirst h5

theorem lightRebroadcast_sends (hs : s.Settled) (hp : p < s.lux.reb.length)
    (hheads : ∃ a ∈ (s.lux.reb.getD p {}).heads, (s.lightHead a).barred = false) (hdue : (s.lux.reb.getD p {}).due = true)
    (hint : s.clk.interval = false) (hshort : s.pwr.busShort = false) :
    ∃ t, exec (.lightRebroadcast p) s = .next t ∧ t.lux.rebcast = satInc 255 s.lux.rebcast
      ∧ t.lux.reb.getD p {} = { s.lux.reb.getD p {} with tries := (s.lux.reb.getD p {}).tries + 1, due := false }
      ∧ commitFrame p (s.lux.reb.getD p {}).num ((s.lux.reb.getD p {}).tries + 1) (s.lux.reb.getD p {}).mask ∈ t.lux.bus
      ∧ Frame [.lux] s t := by
  have heffect : exec (.lightRebroadcast p) s = .next (s.after (s.clearOut.rebroadcast p)) := by
    rw [exec_lightRebroadcast, execLightRebroadcast, perform_after]
  obtain ⟨hreb, hcount, hbus⟩ := rebroadcast_sends (t := s.clearOut) hheads hdue hint hshort
  refine ⟨_, heffect, ?_, ?_, ?_, ((luxKept_alters _ _ (by simp)).rebroadcast (Alters.refl _ _)).frame hs⟩
  · rw [after_lux, hcount]
    rfl
  · rw [after_lux, hreb]
    simp [updAt, List.getD_eq_getElem?_getD, hp]
  · rw [after_lux]
    exact hbus

/-! ### A silent head (R433) -/

/-- The lane that a guarded owner is. -/
theorem guarded_owner {o : Nat} (h : s.guarded o = true) : o = 1 ∨ o = 2 := by
  simp only [State.guarded, Bool.or_eq_true, Bool.and_eq_true, decide_eq_true_eq] at h
  rcases h with ⟨h, -⟩ | ⟨h, -⟩
  · exact .inl h
  · exact .inr h

theorem headSilentTimeout_eq {a : Nat} (hlit : ((s.headRec a).map LightHeadRec.scanLit).getD false = true)
    (hguard : s.guarded (s.headOwner a) = true) (hreach : (s.lux.head.getD a {}).reach = false) :
    exec (.headSilentTimeout a) s = .next (s.after ((s.clearOut.record 0x6001 2 (s.partyBits (s.headOwner a))
      [emberHeadDetail a]).emberEnd (s.headOwner a))) := by
  have hcond : (((s.clearOut.headRec a).map LightHeadRec.scanLit).getD false && s.clearOut.guarded (s.clearOut.headOwner a)
      && !(s.clearOut.lightHead a).reach) = true := by
    rw [show s.clearOut.headRec a = s.headRec a from rfl, hlit, show s.clearOut.guarded (s.clearOut.headOwner a) = true from hguard,
      show (s.clearOut.lightHead a).reach = false from hreach]
    rfl
  rw [exec_headSilentTimeout, execHeadSilentTimeout, perform_after]
  simp only [hcond, if_true]
  rfl

theorem emberEnd_none {o : Nat} (hacqA : t.acquiring .a = false) (hacqB : t.acquiring .b = false) (hrunA : t.capturesRun .a = false)
    (hrunB : t.capturesRun .b = false) (hcloseA : t.closing .a = false) (hcloseB : t.closing .b = false) : t.emberEnd o = t := by
  unfold State.emberEnd
  dsimp only
  split
  · rfl
  · split <;> simp [hacqA, hacqB, hrunA, hrunB, hcloseA, hcloseB]

theorem record_runs (c n q : Nat) (d : List Nat) (l : Lane) : (s.clearOut.record c n q d).capturesRun l = s.capturesRun l
    ∧ (s.clearOut.record c n q d).acquiring l = s.acquiring l ∧ (s.clearOut.record c n q d).closing l = s.closing l := by
  simp [State.capturesRun, State.acquiring, State.closing, State.inRun]

theorem headSilent_idle {a : Nat} (hs : s.Settled) (hroom : s.LogRoom)
    (hlit : ((s.headRec a).map LightHeadRec.scanLit).getD false = true) (hguard : s.guarded (s.headOwner a) = true)
    (hreach : (s.lux.head.getD a {}).reach = false)
    (hidle : s.capturesRun .a = false ∧ s.capturesRun .b = false ∧ s.acquiring .a = false ∧ s.acquiring .b = false
      ∧ s.closing .a = false ∧ s.closing .b = false) : ∃ t, exec (.headSilentTimeout a) s = .next t
      ∧ t.log = s.log.plus (s.mkRec 0x6001 2 (s.partyBits (s.headOwner a)) [emberHeadDetail a]) ∧ Frame [.log] s t := by
  obtain ⟨hrunA, hrunB, hacqA, hacqB, hcloseA, hcloseB⟩ := hidle
  obtain ⟨hra, haa, hca⟩ := record_runs (s := s) 0x6001 2 (s.partyBits (s.headOwner a)) [emberHeadDetail a] .a
  obtain ⟨hrb, hab, hcb⟩ := record_runs (s := s) 0x6001 2 (s.partyBits (s.headOwner a)) [emberHeadDetail a] .b
  have heffect := headSilentTimeout_eq hlit hguard hreach
  rw [emberEnd_none (haa.trans hacqA) (hab.trans hacqB) (hra.trans hrunA) (hrb.trans hrunB) (hca.trans hcloseA) (hcb.trans hcloseB)]
    at heffect
  refine ⟨_, heffect, ?_, ((Alters.refl _ _).record (by simp)).frame hs⟩
  rw [after_log]
  exact record_settles (s := s.clearOut) hs.fresh_zero hroom _ _ _ _

/-- The update leaves a lane's mode, its run's end and its exposure. -/
def CutPart (f : LaneSt → LaneSt) : Prop :=
  ∀ x, (f x).mode = x.mode ∧ (f x).exposing = x.exposing ∧ (f x).lrun.ending = x.lrun.ending

/-- `P` is kept by such updates of the lane, and by epoch marks. -/
structure KeptByCut (l : Lane) (P : State → Prop) : Prop where
  lane : ∀ {s f}, CutPart f → P s → P (State.modLane s l f)
  mark : ∀ {s u}, P s → P (State.mark s u)

namespace KeptByCut

variable {P : State → Prop} (k : KeptByCut l P)
include k

theorem byLink : KeptByLink l P :=
  ⟨fun hf h => k.lane (fun x => by
    obtain ⟨heq, -, -, hend⟩ := hf x
    exact ⟨by rw [heq], by rw [heq], hend⟩) h, k.mark⟩

theorem till {f} (h : P t) : P (t.modTill l f) := k.lane (fun _ => ⟨rfl, rfl, rfl⟩) h

theorem setWptr {n} (h : P t) : P (t.setWptr l n) := by
  unfold State.setWptr
  exact k.till h

theorem releaseFrom {n} (h : P t) : P (t.releaseFrom l n) := by
  unfold State.releaseFrom
  dsimp only
  split
  · exact h
  · exact k.lane (fun _ => ⟨rfl, rfl, rfl⟩) (k.till (k.setWptr h))

theorem abandonLine {n c b} (h : P t) : P (t.abandonLine l n c b) := by
  have h1 := k.releaseFrom (n := n) h
  unfold State.abandonLine
  generalize t.releaseFrom l n = x at h1
  dsimp only
  split
  · exact k.byLink.lrun (fun _ => rfl) h1
  · split
    · exact k.byLink.sendFrame (k.byLink.lrun (fun _ => rfl) h1)
    · exact k.byLink.pump (k.byLink.lrun (fun _ => rfl) h1)

theorem dropReading {c} (h : P t) : P (t.dropReading l c) := by
  unfold State.dropReading
  split
  · exact h
  · exact k.abandonLine (k.lane (fun _ => ⟨rfl, rfl, rfl⟩) (k.lane (fun _ => ⟨rfl, rfl, rfl⟩) h))

theorem cutLines (h : P ((t.holdGate l).unexposeIf l (fun _ => false))) : P (t.cutLines l) := by
  unfold State.cutLines
  generalize (t.holdGate l).unexposeIf l (fun _ => false) = x at h
  dsimp only
  split
  · split
    · exact h
    · split
      · exact k.byLink.sendFrame (k.dropReading h)
      · exact k.dropReading h
  · exact h

end KeptByCut

/-- What a cut leaves of its lane: its mode and its run's end, and no exposure. -/
theorem cutLines_lane (t : State) (l : Lane) : ((t.cutLines l).lane l).mode = (t.lane l).mode
    ∧ ((t.cutLines l).lane l).exposing = none ∧ ((t.cutLines l).lane l).lrun.ending = (t.lane l).lrun.ending := by
  have k : KeptByCut l (fun x => (x.lane l).mode = (t.lane l).mode ∧ (x.lane l).exposing = none
      ∧ (x.lane l).lrun.ending = (t.lane l).lrun.ending) :=
    ⟨fun {x f} hf h => by
      obtain ⟨hm, he, hr⟩ := hf (x.lane l)
      rw [State.modLane_lane, hm, he, hr]
      exact h, fun {x u} h => by rw [State.mark_lane]; exact h⟩
  refine k.cutLines ?_
  unfold State.unexposeIf
  split
  case h_1 h => exact ⟨by simp [State.holdGate], h, by simp [State.holdGate]⟩
  case h_2 => simp [State.holdGate, State.rewind]

theorem cutLines_gang (t : State) (l : Lane) : (t.cutLines l).sys.gang = t.sys.gang := by
  have k : KeptByCut l (fun x => x.sys.gang = t.sys.gang) := ⟨fun _ h => by simpa using h, fun h => by simpa using h⟩
  refine k.cutLines ?_
  unfold State.unexposeIf
  split
  · simp [State.holdGate]
  · simp [State.holdGate, State.rewind]

theorem keptByLines_exposing : KeptByLines (fun s => (s.lane l).exposing = none) where
  lane {s j f} hf h := by
    cases j <;> cases l <;> simp_all [State.modLane, State.lane, LinePart]
  lux _ _ h := by simpa using h

theorem endRun_exposing {e : RunEnd} (hsolo : t.sys.gang = false) (hrun : t.capturesRun l = true)
    (hnone : (t.lane l).lrun.ending = none) (h : (t.lane l).exposing = none) : ((t.endRun l e).lane l).exposing = none :=
  keptByLines_exposing.endOfRun hsolo hrun hnone (by simpa using h)

theorem headSilent_ends {a : Nat} (hlit : ((s.headRec a).map LightHeadRec.scanLit).getD false = true)
    (hguard : s.guarded (s.headOwner a) = true) (hreach : (s.lux.head.getD a {}).reach = false)
    (howner : s.headOwner a = laneParty l) (hsolo : s.sys.gang = false) (hrun : s.capturesRun l = true)
    (hnone : (s.lane l).lrun.ending = none) : ∃ t, exec (.headSilentTimeout a) s = .next t
      ∧ (t.lane l).lrun.ending = some { aborted := true, cause := 3, code := 0x6001 } ∧ (t.lane l).exposing = none := by
  have heffect := headSilentTimeout_eq hlit hguard hreach
  obtain ⟨hr, hacq, -⟩ := record_runs (s := s) 0x6001 2 (s.partyBits (s.headOwner a)) [emberHeadDetail a] l
  have hsolo' : (s.clearOut.record 0x6001 2 (s.partyBits (s.headOwner a)) [emberHeadDetail a]).sys.gang = false := by simpa using hsolo
  have hnone' : ((s.clearOut.record 0x6001 2 (s.partyBits (s.headOwner a)) [emberHeadDetail a]).lane l).lrun.ending = none := by
    simpa using hnone
  have hrun' := hr.trans hrun
  have hacq' := acquiring_of_captures hrun'
  generalize s.clearOut.record 0x6001 2 (s.partyBits (s.headOwner a)) [emberHeadDetail a] = x at *
  have hlane : (if laneParty l = 2 then Lane.b else Lane.a) = l := by cases l <;> rfl
  have hnotzero : laneParty l ≠ 0 := by cases l <;> decide
  have hend : x.emberEnd (s.headOwner a) =
      ((x.noteL l 0x8011 [3]).cutLines l).endRun l { aborted := true, cause := 3, code := 0x6001 } := by
    unfold State.emberEnd
    rw [howner, hlane]
    dsimp only
    rw [if_neg hnotzero, if_neg (by simp [hacq']), if_neg (by simp [hrun']), hnone']
    simp [State.abortNotes, hsolo']
  rw [hend] at heffect
  obtain ⟨hmode, hexp, hending⟩ := cutLines_lane (x.noteL l 0x8011 [3]) l
  have hgang := cutLines_gang (x.noteL l 0x8011 [3]) l
  have hsolo2 : ((x.noteL l 0x8011 [3]).cutLines l).sys.gang = false := by
    rw [hgang]
    simpa [State.noteL, State.recordL] using hsolo'
  have hrun2 : ((x.noteL l 0x8011 [3]).cutLines l).capturesRun l = true := by
    simp only [State.capturesRun, State.inRun, hmode]
    simpa [State.capturesRun, State.inRun, State.noteL, State.recordL] using hrun'
  have hnone2 : (((x.noteL l 0x8011 [3]).cutLines l).lane l).lrun.ending = none := by
    rw [hending]
    simpa [State.noteL, State.recordL] using hnone'
  refine ⟨_, heffect, ?_, ?_⟩
  · rw [after_lane_lrun_ending, endRun_ending hsolo2 hrun2 hnone2]
  · rw [after_lane_exposing, endRun_exposing hsolo2 hrun2 hnone2 hexp]

/-! ### Management light by the host (R419, R456) -/

theorem applyWrite_lux {r : Req} (hu : r.unit = 6) (hne : r.items ≠ []) : s.applyWrite r = (s.luxWrite r).mark 6 := by
  have hloud : r.items.all (fun q => quietWord 6 q.1) = false := by
    obtain ⟨q, qs, hq⟩ := List.exists_cons_of_ne_nil hne
    simp [hq, quietWord]
  unfold State.applyWrite
  simp_all

/-- The management values that a write stages. -/
def LuxSt.stagedBy (r : Req) (x : LuxSt) : LuxSt :=
  { x with
    mstageCh := x.mstageCh.mapIdx (fun n v => r.put (0x0F0 + n) 4096 v)
    mstageHd := x.mstageHd.mapIdx (fun a v => if a = 0 then v else r.put (0x100 + a) 65536 v)
    mref := x.mref.mapIdx (fun k v => r.put (0x120 + k) 65536 v) }

theorem mctrl_put {o w e : Nat} (ho : o ≠ 0x128) (m v : Nat) : (hostWrite 6 0x128 [w] e).put o m v = v := by
  simp [Req.put, hostWrite_at_other ho]

theorem mctrl_sets (w e i : Nat) : (hostWrite 6 0x128 [w] e).sets 0x128 i = bit w i := by
  simp [Req.sets, Req.val, hostWrite_at_own]

/-- LUX.MCTRL alone stages no value of an item. -/
theorem mctrl_mgtCommit (w e : Nat) : (s.modLux (LuxSt.stagedBy (hostWrite 6 0x128 [w] e))).mgtCommit = s.mgtCommit := by
  have hch : ∀ n ∈ s.chansOf 0, (LuxSt.stagedBy (hostWrite 6 0x128 [w] e) s.lux).mstageCh.getD n 0 = s.lux.mstageCh.getD n 0 := by
    intro n hn
    have hlt : n < 8 := List.mem_range.mp (List.mem_filter.mp hn).1
    simp only [LuxSt.stagedBy, List.getD_eq_getElem?_getD, List.getElem?_mapIdx]
    cases s.lux.mstageCh[n]? <;> simp [mctrl_put (show 0x0F0 + n ≠ 0x128 by omega)]
  have hhd : ∀ a ∈ s.headsOf 0, (LuxSt.stagedBy (hostWrite 6 0x128 [w] e) s.lux).mstageHd.getD a 0 = s.lux.mstageHd.getD a 0 := by
    intro a ha
    have hlt : a < 32 := List.mem_range.mp (List.mem_of_mem_drop (List.mem_filter.mp ha).1)
    simp only [LuxSt.stagedBy, List.getD_eq_getElem?_getD, List.getElem?_mapIdx]
    cases s.lux.mstageHd[a]? <;> simp [mctrl_put (show 0x100 + a ≠ 0x128 by omega)]
  have hchans : (s.chansOf 0).map (fun n => (n, (LuxSt.stagedBy (hostWrite 6 0x128 [w] e) s.lux).mstageCh.getD n 0)) =
      (s.chansOf 0).map (fun n => (n, s.lux.mstageCh.getD n 0)) := List.map_congr_left fun n hn => by rw [hch n hn]
  have hheads : (s.headsOf 0).map (fun a => (a, (LuxSt.stagedBy (hostWrite 6 0x128 [w] e) s.lux).mstageHd.getD a 0)) =
      (s.headsOf 0).map (fun a => (a, s.lux.mstageHd.getD a 0)) := List.map_congr_left fun a ha => by rw [hhd a ha]
  exact congrArg₂ (fun c h => ({ party := 0, chans := c, heads := h } : Commit)) hchans hheads

theorem luxWrite_go (e : Nat) : s.luxWrite (hostWrite 6 0x128 [1] e) =
    (s.modLux (LuxSt.stagedBy (hostWrite 6 0x128 [1] e))).plan s.mgtCommit := by
  have h0 : bit 1 0 = true := by decide
  have h1 : bit 1 1 = false := by decide
  rw [← mctrl_mgtCommit (s := s) 1 e]
  simp only [State.luxWrite, mctrl_sets, h0, h1, if_true, Bool.false_eq_true, if_false]
  rfl

theorem luxWrite_rearm (e : Nat) : s.luxWrite (hostWrite 6 0x128 [2] e) =
    (s.modLux (LuxSt.stagedBy (hostWrite 6 0x128 [2] e))).rearmMgt := by
  have h0 : bit 2 0 = false := by decide
  have h1 : bit 2 1 = true := by decide
  simp only [State.luxWrite, mctrl_sets, h0, h1, if_true, Bool.false_eq_true, if_false]
  rfl

theorem mctrl_answered {w e : Nat} (ha : s.Accepts (hostWrite 6 0x128 [w] e)) :
    ∃ r k, s.oneWrite 6 0x128 w e = .next (s.answered ((s.mgtOpen.clearOut.luxWrite (hostWrite 6 0x128 [w] e)).mark 6) r k)
      ∧ (s.answered ((s.mgtOpen.clearOut.luxWrite (hostWrite 6 0x128 [w] e)).mark 6) r k).Replied (hostWrite 6 0x128 [w] e) [] :=
  oneWrite_answered ha ((frameEffect_write rfl rfl 0 0).trans (applyWrite_lux rfl (by simp [hostWrite, Req.items])))

/-- A commit that waits is still there once the party's first one is staged. -/
theorem stageFirst_planned {c : Commit} (hc : c ∈ t.lux.planned) : ∃ d ∈ (t.stageFirst p).lux.planned,
    d.party = c.party ∧ d.sent = c.sent ∧ d.chans = c.chans ∧ d.heads = c.heads := by
  unfold State.stageFirst
  dsimp only
  split
  · exact ⟨c, hc, rfl, rfl, rfl, rfl⟩
  case h_2 b hb =>
    split
    · exact ⟨c, hc, rfl, rfl, rfl, rfl⟩
    · have hkept : ((t.stage b).1).lux.planned = t.lux.planned :=
        foldl_keeps (P := fun x => x.lux.planned = t.lux.planned) (fun {x a} h => by
          simp only [State.modLightHead, State.modLux_lux, State.busSend]
          split <;> simpa using h) _ rfl
      obtain ⟨j, hj, rfl⟩ := List.getElem_of_mem hc
      simp only [State.modLux_lux, hkept]
      by_cases hij : t.lux.planned.findIdx (waits p) = j
      · subst hij
        have hbj : t.lux.planned[t.lux.planned.findIdx (waits p)] = b := by
          rw [List.getElem?_eq_getElem hj] at hb
          exact Option.some.inj hb
        refine ⟨(t.stage b).2, List.mem_iff_getElem.mpr ⟨_, by rw [List.length_set]; exact hj, List.getElem_set_self _⟩, ?_⟩
        rw [hbj]
        exact ⟨rfl, rfl, rfl, rfl⟩
      · exact ⟨_, List.mem_iff_getElem.mpr ⟨j, by simpa using hj, List.getElem_set_ne hij _⟩, rfl, rfl, rfl, rfl⟩

theorem mctrlGo_decides {e : Nat} (hs : s.Settled) (ha : s.Accepts (hostWrite 6 0x128 [1] e)) : ∃ t, exec (.luxMctrlGo e) s = .next t
    ∧ t.Replied (hostWrite 6 0x128 [1] e) []
    ∧ (∃ c ∈ t.lux.planned, c.party = 0 ∧ c.sent = none ∧ c.chans = (s.chansOf 0).map (fun n => (n, s.lux.mstageCh.getD n 0))
        ∧ c.heads = (s.headsOf 0).map (fun a => (a, s.lux.mstageHd.getD a 0)))
    ∧ Frame [.lux] s t := by
  obtain ⟨r, k, hexec, hreply⟩ := mctrl_answered ha
  rw [luxWrite_go] at hexec hreply
  refine ⟨_, hexec, hreply, ?_, ?_⟩
  · rw [answered_lux, State.mark_lux]
    exact stageFirst_planned (c := s.mgtOpen.clearOut.mgtCommit) (List.mem_append_right _ (List.mem_singleton_self _))
  · exact ((luxKept_alters _ _ (by simp)).plan ((Alters.refl _ _).modLux (by simp))).mark.frame_answered hs

theorem mapIdx_getD {α : Type} {xs : List α} {n : Nat} (hn : n < xs.length) (f : Nat → α → α) (d : α) :
    (xs.mapIdx f).getD n d = f n (xs.getD n d) := by
  simp [List.getD_eq_getElem?_getD, hn]

/-- A latched channel of the named owner is re-armed. -/
theorem rearm_ch (c : LightCh) (q : Prop) [Decidable q] : (if c.latch && q then { c with rearm := true } else c) =
    { c with rearm := c.rearm || (c.latch && decide q) } := by
  generalize (c.latch && decide q) = b
  cases b <;> simp

theorem rearm_head (h : LightHead) (q : Prop) [Decidable q] : (if h.latch && q then { h with rearm := true } else h) =
    { h with rearm := h.rearm || (h.latch && decide q) } := by
  generalize (h.latch && decide q) = b
  cases b <;> simp

theorem mctrlRearm_rearms {e : Nat} (hs : s.Settled) (ha : s.Accepts (hostWrite 6 0x128 [2] e)) :
    ∃ t, exec (.luxMctrlRearm e) s = .next t ∧ t.Replied (hostWrite 6 0x128 [2] e) []
    ∧ (∀ n, n < s.lux.ch.length → t.lux.ch.getD n {} = { s.lux.ch.getD n {} with
        rearm := (s.lux.ch.getD n {}).rearm || ((s.lux.ch.getD n {}).latch && decide (s.chOwner n = 0)) })
    ∧ (∀ a, a < s.lux.head.length → t.lux.head.getD a {} = { s.lux.head.getD a {} with
        rearm := (s.lux.head.getD a {}).rearm || ((s.lux.head.getD a {}).latch && decide (s.headOwner a = 0)) })
    ∧ t.lux.planned = s.lux.planned ∧ Frame [.lux] s t := by
  obtain ⟨r, k, hexec, hreply⟩ := mctrl_answered ha
  rw [luxWrite_rearm] at hexec hreply
  refine ⟨_, hexec, hreply, fun n hn => ?_, fun a hlt => ?_, ?_, ?_⟩
  · rw [answered_lux, State.mark_lux]
    exact (mapIdx_getD hn _ _).trans (rearm_ch _ _)
  · rw [answered_lux, State.mark_lux]
    exact (mapIdx_getD hlt _ _).trans (rearm_head _ _)
  · rw [answered_lux, State.mark_lux]
    rfl
  · exact (((Alters.refl _ _).modLux (by simp)).modLux (by simp)).mark.frame_answered hs

/-- Settles O49: a re-broadcast, a silent head's timeout and the two management commands, each through its own lemma. -/
theorem rebroadcastSilenceAndManagementLight : Obligations.RebroadcastSilenceAndManagementLight := by
  unfold Obligations.RebroadcastSilenceAndManagementLight
  exact ⟨⟨fun p s hs hp hheads hdue hint hshort => lightRebroadcast_sends hs hp hheads hdue hint hshort,
      fun a s hs hroom hlit hguard hreach hidle => headSilent_idle hs hroom hlit hguard hreach hidle,
      fun a l s hlit hguard hreach howner hsolo hrun hnone => headSilent_ends hlit hguard hreach howner hsolo hrun hnone⟩,
    fun e s hs ha => mctrlGo_decides hs ha, fun e s hs ha => mctrlRearm_rearms hs ha⟩

end Sys2Proof.Machine
end


section
/-!
PROOFS. SYS.MODE.SERVICE and debug halt (R109, R543 to R546).
-/

namespace Sys2Proof.Machine

variable {s t : State} {l : Lane}

theorem service_effect {on : Bool} {e : Nat} (hs : s.Settled) (ha : s.Accepts (hostWrite 0 0x026 [flag on 3] e))
    (hidle : s.mem.tstat = .none) : ∃ t, exec (.sysModeService on e) s = .next t
      ∧ t.Replied (hostWrite 0 0x026 [flag on 3] e) []
      ∧ t.sys.bare = { s.sys with service := on, serviceEnd := false }.bare ∧ Frame [.sys] s t := by
  obtain ⟨r, k, hexec, hreply⟩ := oneWrite_answered ha (frameEffect_service s.mgtOpen.clearOut (flag on 3) e 0)
  have hbit : bit (flag on 3) 3 = on := by cases on <;> decide
  have hwrite : s.mgtOpen.clearOut.serviceWrite on =
      s.mgtOpen.clearOut.modSys (fun y => { y with service := on, serviceEnd := false }) := by
    cases on <;> simp [State.serviceWrite, hidle]
  rw [hbit, hwrite] at hexec hreply
  refine ⟨_, hexec, hreply, ?_, (((Alters.refl _ _).modSys (by simp)).mark).frame_answered hs⟩
  rw [answered_sys_bare]
  rfl

/-! ### Debug halt -/

/-- The halt requested, on no lane yet. -/
def State.haltAsked (s : State) : State := s.modSys (fun y => { y with haltReq := true, haltPend := true })

theorem seamDue_idle {b : Nat} (hsolo : t.sys.gang = false) (hidle : (t.lane l).mode.mode = .idle) : t.seamDue l b = t := by
  have hrun : t.capturesRun l = false := by simp [State.capturesRun, State.inRun, hidle]
  have hopen : t.seamOpen l = false := by simp [State.seamOpen, hrun]
  simp [State.seamDue, hopen, State.partners, hsolo, hrun]

theorem haltLane_idle (hsolo : t.sys.gang = false) (hidle : (t.lane l).mode.mode = .idle) : t.haltLane l = t := by
  simp [State.haltLane, seamDue_idle hsolo hidle, hidle]

theorem foldl_fixed {α β : Type} {f : β → α → β} {b : β} (xs : List α) (h : ∀ x ∈ xs, f b x = b) : xs.foldl f b = b := by
  induction xs with
  | nil => rfl
  | cons x xs ih =>
    rw [List.foldl_cons, h x (by simp)]
    exact ih fun y hy => h y (by simp [hy])

/-- The lanes that the halt finds at their safe point are halted. -/
def State.haltLanes (t : State) (ls : List Lane) : State :=
  ls.foldl (fun s l => s.modMode l (fun y => { y with halted := true })) t

theorem haltLanes_lane (t : State) (ls : List Lane) (l : Lane) : (t.haltLanes ls).lane l =
    { t.lane l with mode := { (t.lane l).mode with halted := (t.lane l).mode.halted || decide (l ∈ ls) } } := by
  induction ls generalizing t with
  | nil => simp [State.haltLanes]
  | cons k ks ih =>
    refine (ih (t.modMode k (fun y => { y with halted := true }))).trans ?_
    by_cases hk : l = k
    · subst hk
      simp
    · have hother : (t.modMode k (fun y => { y with halted := true })).lane l = t.lane l := by
        cases k <;> cases l <;> simp_all [State.lane]
      rw [hother]
      simp [hk]

theorem haltLanes_alters (t : State) (ls : List Lane) : Alters [.lane .a, .lane .b] t (t.haltLanes ls) :=
  Alters.foldl (fun {x l} h => h.modMode (by cases l <;> simp)) ls (Alters.refl _ _)

theorem haltLanes_sys (t : State) (ls : List Lane) : (t.haltLanes ls).sys = t.sys :=
  foldl_keeps (P := fun x => x.sys = t.sys) (fun h => by simpa using h) _ rfl

theorem haltFold_idle {ls : List Lane} (h : ∀ l ∈ ls, (t.lane l).mode.mode = .idle) : ls.foldl (fun s l =>
      if s.atSafePoint l && (s.lane l).mode.mode != .none then s.modMode l (fun y => { y with halted := true }) else s) t =
    t.haltLanes ls := by
  induction ls generalizing t with
  | nil => rfl
  | cons k ks ih =>
    have hk := h k (by simp)
    have hmode : ∀ l, ((t.modMode k (fun y => { y with halted := true })).lane l).mode.mode = (t.lane l).mode.mode := fun l => by
      cases k <;> cases l <;> simp [State.lane]
    have hsafe : t.atSafePoint k = true := by simp [State.atSafePoint, hk]
    rw [List.foldl_cons, if_pos (by rw [hsafe, hk]; decide)]
    exact ih fun l hl => by rw [hmode]; exact h l (by simp [hl])

theorem cfgLanes_congr (h : t.ledger = s.ledger) : t.cfgLanes = s.cfgLanes := by
  have hcfg : t.configured = s.configured := funext fun l => by cases l <;> simp [State.configured, h]
  rw [State.cfgLanes, hcfg, State.cfgLanes]

/-- The halt complete (R544). -/
def State.haltComplete (t : State) : State :=
  ((t.modSys (fun y => { y with haltPend := false, haltActive := true })).note 0x0040).afterH

theorem haltSettle_idle (hreq : t.sys.haltReq = true) (hpend : t.sys.haltPend = true) (htally : t.mem.tstat = .none)
    (hidle : ∀ l ∈ t.cfgLanes, (t.lane l).mode.mode = .idle) : t.haltSettle = (t.haltLanes t.cfgLanes).haltComplete := by
  obtain ⟨hsys, hmem, hcfg⟩ : (t.haltLanes t.cfgLanes).sys = t.sys ∧ (t.haltLanes t.cfgLanes).mem = t.mem
      ∧ (t.haltLanes t.cfgLanes).cfgLanes = t.cfgLanes := by
    have hledger : (t.haltLanes t.cfgLanes).ledger = t.ledger :=
      foldl_keeps (P := fun x => x.ledger = t.ledger) (fun h => by simpa using h) _ rfl
    exact ⟨haltLanes_sys t t.cfgLanes, haltLanes_alters t t.cfgLanes .mem (by simp), cfgLanes_congr hledger⟩
  have hall : (t.haltLanes t.cfgLanes).cfgLanes.all (fun l => ((t.haltLanes t.cfgLanes).lane l).mode.halted) = true := by
    rw [hcfg, List.all_eq_true]
    intro l hl
    rw [haltLanes_lane]
    simp [hl]
  unfold State.haltSettle
  rw [if_neg (by simp [hreq]), haltFold_idle hidle]
  dsimp only
  rw [hall, hsys, hpend, State.tallyPaused, hmem, htally, if_pos (by simp)]
  rfl

theorem haltRequest_idle (hreq : t.sys.haltReq = false) (htally : t.mem.tstat = .none) (hsolo : t.sys.gang = false)
    (hidle : ∀ l, t.configured l = true → (t.lane l).mode.mode = .idle) :
    t.haltRequest = (t.haltAsked.haltLanes t.cfgLanes).haltComplete := by
  have hlane : ∀ l ∈ t.haltAsked.cfgLanes, (t.haltAsked.lane l).mode.mode = .idle := fun l hl => hidle l (mem_cfgLanes.mp hl)
  unfold State.haltRequest
  rw [if_neg (by simp [hreq])]
  refine (congrArg State.haltSettle (foldl_fixed _ fun l hl => haltLane_idle ?_ (hlane l hl))).trans ?_
  · exact hsolo
  · exact haltSettle_idle rfl rfl htally hlane

theorem afterH_alters {ps : List Part} (h : Alters ps s t) (ha : .lane .a ∈ ps) (hb : .lane .b ∈ ps) (hmem : .mem ∈ ps)
    (hlux : .lux ∈ ps) (hsys : .sys ∈ ps) : Alters ps s t.afterH :=
  h.trans fun p hp => by
    cases p with
    | lane l => cases l <;> [exact absurd ha hp; exact absurd hb hp]
    | mem => exact absurd hmem hp
    | lux => exact absurd hlux hp
    | sys => exact absurd hsys hp
    | ledger => exact ⟨rfl, rfl⟩
    | _ => rfl

theorem haltComplete_alters {ps : List Part} (h : Alters ps s t) (ha : .lane .a ∈ ps) (hb : .lane .b ∈ ps) (hmem : .mem ∈ ps)
    (hlux : .lux ∈ ps) (hsys : .sys ∈ ps) (hlog : .log ∈ ps) : Alters ps s t.haltComplete :=
  afterH_alters ((h.modSys hsys).note hlog) ha hb hmem hlux hsys

theorem haltComplete_lane (t : State) (l : Lane) : t.haltComplete.lane l = (t.lane l).afterH := by
  cases l <;> simp [State.haltComplete, State.afterH, State.lane, State.note]

theorem halt_effect {e : Nat} (hs : s.Settled) (hroom : s.LogRoom) (ha : s.Accepts (hostWrite 0 0x027 [1] e))
    (hreq : s.sys.haltReq = false) (htally : s.mem.tstat = .none)
    (hidle : ∀ l, s.configured l = true → (s.lane l).mode.mode = .idle) (hsolo : s.sys.gang = false) :
    ∃ t, exec (.sysHaltReq e) s = .next t ∧ t.Replied (hostWrite 0 0x027 [1] e) []
      ∧ t.sys.haltReq = true ∧ t.sys.haltPend = false ∧ t.sys.haltActive = true
      ∧ (∀ l, s.configured l = true → (t.lane l).mode = { (s.lane l).mode with halted := true })
      ∧ (∀ l, (t.lane l).link = { (s.lane l).link with errCode := 0, errDisc := 0 }
        ∧ (t.lane l).till = { (s.lane l).till with peak := 0 } ∧ (t.lane l).arun = (s.lane l).arun
        ∧ (t.lane l).axis = { (s.lane l).axis with moveLo := 0, moveHi := 0, moveProf := 0 })
      ∧ t.mem = { s.mem with c0Worst := 0, c0Port := 0, c1Worst := 0, c2Worst := 0, kind := false,
                             march := s.shadow.march, tfirst := 0, tlast := 511 }
      ∧ t.lux.crcErr = 0 ∧ t.lux.ch = s.lux.ch ∧ t.lux.planned = s.lux.planned
      ∧ (∃ r, t.log = s.log.plus r ∧ r.code = 0x0040 ∧ r.cls = 0 ∧ r.seq = nextSeq s.log.newest)
      ∧ Frame [.sys, .log, .mem, .lux, .lane .a, .lane .b] s t := by
  obtain ⟨r, k, hexec, hreply⟩ := oneWrite_answered ha (frameEffect_halt s.mgtOpen.clearOut 1 e 0)
  have hhalt : s.mgtOpen.clearOut.haltRequest =
      (s.mgtOpen.clearOut.haltAsked.haltLanes s.mgtOpen.clearOut.cfgLanes).haltComplete :=
    haltRequest_idle hreq htally hsolo fun l hl => by simpa using hidle l hl
  have hcfg : s.mgtOpen.clearOut.cfgLanes = s.cfgLanes := cfgLanes_congr rfl
  rw [if_pos (by decide), hhalt, hcfg] at hexec hreply
  generalize hx : s.mgtOpen.clearOut.haltAsked.haltLanes s.cfgLanes = x at hexec hreply
  have hkept : Alters [.lane .a, .lane .b] s.mgtOpen.clearOut.haltAsked x := by
    rw [← hx]
    exact haltLanes_alters _ _
  have hlane : ∀ l, x.lane l = { s.mgtOpen.clearOut.lane l with
      mode := { (s.mgtOpen.clearOut.lane l).mode with halted := (s.mgtOpen.clearOut.lane l).mode.halted || decide (l ∈ s.cfgLanes) } } :=
    fun l => by rw [← hx, haltLanes_lane]; rfl
  have hsys : x.sys = s.mgtOpen.clearOut.haltAsked.sys := by rw [← hx, haltLanes_sys]
  have hlog : x.log = s.log := hkept .log (by simp)
  have hmem : x.mem = s.mem := hkept .mem (by simp)
  have hlux : x.lux = s.mgtOpen.clearOut.lux := hkept .lux (by simp)
  have hledger : x.shadow = s.shadow := (hkept .ledger (by simp)).2
  have hbare : (s.answered (x.haltComplete.mark 0) r k).sys.bare = x.haltComplete.sys.bare := answered_sys_bare
  refine ⟨_, hexec, hreply, ?_, ?_, ?_, fun l hl => ?_, fun l => ?_, ?_, ?_, ?_, ?_, ?_, ?_⟩
  · refine (congrArg SysSt.haltReq hbare).trans ?_
    simp [SysSt.bare, State.haltComplete, State.afterH, State.note, hsys, State.haltAsked]
  · refine (congrArg SysSt.haltPend hbare).trans ?_
    simp [SysSt.bare, State.haltComplete, State.afterH, State.note]
  · refine (congrArg SysSt.haltActive hbare).trans ?_
    simp [SysSt.bare, State.haltComplete, State.afterH, State.note]
  · rw [answered_lane, after_lane_mode, State.mark_lane, haltComplete_lane, hlane]
    simp [LaneSt.afterH, mem_cfgLanes.mpr hl]
  · rw [answered_lane, after_lane_link, after_lane_till, after_lane_arun, after_lane_axis, State.mark_lane, haltComplete_lane, hlane]
    simp [LaneSt.afterH]
  · rw [answered_mem, State.mark_mem]
    simp [State.haltComplete, State.afterH, State.note, hmem, hledger]
  · rw [answered_lux, State.mark_lux]
    rfl
  · rw [answered_lux, State.mark_lux]
    simp [State.haltComplete, State.afterH, State.note, hlux]
  · rw [answered_lux, State.mark_lux]
    simp [State.haltComplete, State.afterH, State.note, hlux]
  · have hput : (s.answered (x.haltComplete.mark 0) r k).log = s.log.plus
        ((x.modSys (fun y => { y with haltPend := false, haltActive := true })).mkRec 0x0040 0 0 []) := by
      rw [answered_log_settle, State.mark_log]
      refine (record_settles (s := x.modSys (fun y => { y with haltPend := false, haltActive := true }))
        (by simpa [hlog] using hs.fresh_zero) (by simpa [State.LogRoom, hlog] using hroom) 0x0040 0 0 []).trans ?_
      rw [State.modSys_log, hlog]
    exact ⟨_, hput, rfl, rfl, by simp [State.mkRec, hlog]⟩
  · refine (Alters.mark (haltComplete_alters ?_ (by simp) (by simp) (by simp) (by simp) (by simp) (by simp))).frame_answered hs
    exact (((Alters.refl _ _).modSys (by simp))).trans (hkept.mono (by simp))


/-! ### Release (R546) -/

/-- The lanes no longer wait for the halt. -/
def State.forgetHalt (t : State) : State :=
  (t.modLane .a (fun x => { x with stopMask := dropHalt x.stopMask })).modLane .b (fun x =>
    { x with stopMask := dropHalt x.stopMask })

theorem haltRelease_eq (hreq : t.sys.haltReq = true) (htally : t.mem.tstat = .none) :
    t.haltRelease = (t.clearHalt.note 0x0041).forgetHalt := by
  unfold State.haltRelease
  rw [if_neg (by simp [hreq])]
  dsimp only
  rw [if_neg]
  · rfl
  · simp [State.clearHalt, State.note, htally]

theorem release_effect {e : Nat} (hs : s.Settled) (hroom : s.LogRoom) (ha : s.Accepts (hostWrite 0 0x027 [0] e))
    (hreq : s.sys.haltReq = true) (htally : s.mem.tstat = .none) :
    ∃ t, exec (.haltRelease e) s = .next t ∧ t.Replied (hostWrite 0 0x027 [0] e) []
      ∧ t.sys.haltReq = false ∧ t.sys.haltPend = false ∧ t.sys.haltActive = false
      ∧ (∀ l, (t.lane l).mode = { (s.lane l).mode with halted := false })
      ∧ (∃ r, t.log = s.log.plus r ∧ r.code = 0x0041 ∧ r.cls = 0 ∧ r.seq = nextSeq s.log.newest)
      ∧ Frame [.sys, .log, .lane .a, .lane .b] s t := by
  obtain ⟨r, k, hexec, hreply⟩ := oneWrite_answered ha (frameEffect_halt s.mgtOpen.clearOut 0 e 0)
  rw [if_neg (by decide), haltRelease_eq (t := s.mgtOpen.clearOut) hreq htally] at hexec hreply
  have hbare : (s.answered (((s.mgtOpen.clearOut.clearHalt.note 0x0041).forgetHalt).mark 0) r k).sys.bare =
      ((s.mgtOpen.clearOut.clearHalt.note 0x0041).forgetHalt).sys.bare := answered_sys_bare
  refine ⟨_, hexec, hreply, ?_, ?_, ?_, fun l => ?_, ?_, ?_⟩
  · refine (congrArg SysSt.haltReq hbare).trans ?_
    simp [SysSt.bare, State.forgetHalt, State.note, State.clearHalt]
  · refine (congrArg SysSt.haltPend hbare).trans ?_
    simp [SysSt.bare, State.forgetHalt, State.note, State.clearHalt]
  · refine (congrArg SysSt.haltActive hbare).trans ?_
    simp [SysSt.bare, State.forgetHalt, State.note, State.clearHalt]
  · rw [answered_lane, after_lane_mode, State.mark_lane]
    cases l <;> simp [State.forgetHalt, State.note, State.clearHalt, State.lane, State.mgtOpen]
  · have hput : (s.answered (((s.mgtOpen.clearOut.clearHalt.note 0x0041).forgetHalt).mark 0) r k).log = s.log.plus
        (s.mgtOpen.clearOut.clearHalt.mkRec 0x0041 0 0 []) := by
      rw [answered_log_settle, State.mark_log]
      simp only [State.forgetHalt, State.modLane_log]
      exact record_settles (s := s.mgtOpen.clearOut.clearHalt) hs.fresh_zero hroom 0x0041 0 0 []
    exact ⟨_, hput, rfl, rfl, rfl⟩
  · exact (((((((Alters.refl _ _).modSys (by simp)).modMode (by simp)).modMode (by simp)).note (by simp)).modLane (by simp)).modLane
      (by simp)).mark.frame_answered hs

/-- Settles O19: service and the halt's release are updates of SYS and the lanes, and the halt of idle lanes is complete. -/
theorem serviceAndHalt : Obligations.ServiceAndHalt := by
  unfold Obligations.ServiceAndHalt
  exact ⟨fun on e s hs ha hidle => service_effect hs ha hidle,
    fun e s hs hroom ha hreq htally hidle hsolo => halt_effect hs hroom ha hreq htally hidle hsolo,
    fun e s hs hroom ha hreq htally => release_effect hs hroom ha hreq htally⟩

end Sys2Proof.Machine
end


section
/-!
PROOFS. The host's power commands OFF, ERESET and LRESET (R94, R101, R103). What an engine reset does before it returns the
units to their reset values changes no trip, no time and no power state.
-/

namespace Sys2Proof.Machine

variable {s t : State} {l : Lane}

/-! ### What the end of a commit changes -/

/-- `P` is kept by what ends a lane's commit and lets the other lane begin its own. -/
structure KeptByCal (P : State → Prop) : Prop where
  cal   : ∀ {s l f}, P s → P (State.modCal s l f)
  flash : ∀ {s f}, P s → P (State.modFlash s f)
  log   : ∀ {s f}, P s → P (State.modLog s f)
  event : ∀ {s b}, P s → P (State.event s b)

namespace KeptByCal

variable {P : State → Prop} (k : KeptByCal P)
include k

theorem place {r} (h : P s) : P (s.place r).1 := k.event (k.log (f := fun _ => (s.log.put r).1) h)

theorem noteL {c d} (h : P s) : P (s.noteL l c d) := by
  unfold State.noteL State.recordL State.record
  dsimp only
  split
  · exact k.place (k.log (k.place h))
  · exact k.place h

theorem beginK2 (h : P s) : P (s.beginK2 l) := k.noteL (k.cal h)

theorem beginCommit (h : P s) : P (s.beginCommit l) := by
  unfold State.beginCommit
  dsimp only
  split
  · exact k.beginK2 (k.cal (k.cal h))
  · exact k.cal (k.cal h)

theorem nextCommitter (h : P s) : P s.nextCommitter := by
  unfold State.nextCommitter
  split
  · exact h
  · split
    · exact k.beginCommit h
    · split
      · exact k.beginCommit h
      · exact h

theorem endCal {n} (h : P s) : P (s.endCal l n) := k.nextCommitter (k.event (k.cal (k.flash h)))

theorem failOne {n} (h : P s) : P (s.failOne l n) := by
  unfold State.failOne
  dsimp only
  split
  · exact k.endCal (k.noteL h)
  · exact h

theorem abandonCoef (h : P s) : P (s.abandonCoef l) := by
  unfold State.abandonCoef
  split
  · exact h
  · split
    · exact k.endCal h
    · exact k.failOne h

theorem abandonCal (h : P s) : P (s.abandonCal l) := by
  unfold State.abandonCal
  dsimp only
  split
  · exact k.failOne (k.failOne (k.endCal h))
  · exact k.failOne (k.failOne h)

end KeptByCal

/-! ### What an engine reset begins with (R101) -/

/-- `P` is kept by stopping both lanes and unpowering the ports: no trip changes. -/
structure KeptByStop (P : State → Prop) : Prop where
  lane  : ∀ {s l f}, (∀ x : LaneSt, (f x).mode.trip = x.mode.trip) → P s → P (State.modLane s l f)
  lux   : ∀ {s f}, P s → P (State.modLux s f)
  log   : ∀ {s f}, P s → P (State.modLog s f)
  mark  : ∀ {s u}, P s → P (State.mark s u)
  event : ∀ {s b}, P s → P (State.event s b)
  flash : ∀ {s f}, P s → P (State.modFlash s f)
  mem   : ∀ {s f}, P s → P (State.modMem s f)
  bank  : ∀ {s : State} {m}, P s → P { s with bank := m }
  free  : ∀ {s}, P s → P (State.takeFree s)
  sys   : ∀ {s f}, P s → P (State.modSys s f)
  out   : ∀ {s o}, P s → P (State.setOut s o false)

namespace KeptByStop

variable {P : State → Prop} (k : KeptByStop P)
include k

theorem keptAt (l : Lane) : KeptAt l P where
  lane hf h := k.lane (fun x => congrArg Prod.fst (hf x)) h
  lux := k.lux
  log := k.log
  mark := k.mark
  event := k.event

theorem keptByCal : KeptByCal P where
  cal h := k.lane (fun _ => rfl) h
  flash := k.flash
  log := k.log
  event := k.event

theorem tallyReset (h : P s) : P s.tallyReset := by
  have hcut : P s.tallyCut := by
    unfold State.tallyCut
    split
    · exact h
    · dsimp only
      split
      · exact k.bank (k.mem ((k.keptAt .a).note h))
      · exact k.mem ((k.keptAt .a).note h)
  unfold State.tallyReset
  dsimp only
  split
  · exact k.mem hcut
  · exact hcut

theorem stopBoth {c n : Nat} {r : Bool} (h : P s) : P (s.stopBoth c r n) := by
  unfold State.stopBoth
  exact k.sys ((k.keptAt .b).stopLane k.bank k.mem k.free ((k.keptAt .a).stopLane k.bank k.mem k.free h))

theorem clearHalt (h : P s) : P s.clearHalt := by
  unfold State.clearHalt
  exact (k.keptAt .b).mode (f := fun y => { y with halted := false }) (fun _ => rfl)
    ((k.keptAt .a).mode (f := fun y => { y with halted := false }) (fun _ => rfl) (k.sys h))

theorem portsOff (h : P s) : P s.portsOff :=
  have hout : P s.outputsOff :=
    foldl_keeps (fun {_ l} h => (k.keptAt l).linkDown (k.out ((k.keptAt l).headOff k.out h))) _ h
  (k.keptAt .b).unpowerAxis ((k.keptAt .a).unpowerAxis hout)

end KeptByStop

/-- The trips, the timers and the power state stand. -/
theorem keptByStop_stands (ta tb : Bool) (p : PowerSt) (m : TmrSt) : KeptByStop (fun t =>
    t.laneA.mode.trip = ta ∧ t.laneB.mode.trip = tb ∧ t.power = p ∧ t.tmr = m) where
  lane {s l f} hf h := by
    obtain ⟨ha, hb, hp, hm⟩ := h
    cases l
    · exact ⟨(hf s.laneA).trans ha, hb, hp, hm⟩
    · exact ⟨ha, (hf s.laneB).trans hb, hp, hm⟩
  lux h := by simpa using h
  log h := by simpa using h
  mark h := by simpa using h
  event h := by simpa using h
  flash h := by simpa using h
  mem h := by simpa using h
  bank h := h
  free h := by simpa using h
  sys h := by simpa using h
  out h := by simpa [State.setOut] using h

/-- The state that an engine reset finds when its runs are stopped and its ports unpowered. -/
def State.stopped (s : State) (cause code : Nat) : State :=
  ((((((s.note 0x0020 (if cause = 2 then [2, code] else [1])).abandonCal .a).abandonCal .b).tallyReset.stopBoth 9 true
    (if cause = 2 then code else 0)).clearHalt).portsOff).lightsOff

theorem stopped_stands (s : State) (cause code : Nat) : (s.stopped cause code).laneA.mode.trip = s.laneA.mode.trip
    ∧ (s.stopped cause code).laneB.mode.trip = s.laneB.mode.trip ∧ (s.stopped cause code).power = s.power
    ∧ (s.stopped cause code).tmr = s.tmr := by
  have k := keptByStop_stands s.laneA.mode.trip s.laneB.mode.trip s.power s.tmr
  have hcal := k.keptByCal.abandonCal (l := .b) (k.keptByCal.abandonCal (l := .a)
    ((k.keptAt .a).note (c := 0x0020) (d := if cause = 2 then [2, code] else [1]) ⟨rfl, rfl, rfl, rfl⟩))
  have hports := k.portsOff (k.clearHalt (k.stopBoth (c := 9) (n := if cause = 2 then code else 0) (r := true) (k.tallyReset hcal)))
  unfold State.stopped State.lightsOff
  exact k.lux hports

theorem engineReset_eq {cause code : Nat} (hphase : s.power.phase = .run) :
    s.engineReset cause code = ((s.stopped cause code).afterE cause).markAll := by
  have hentry : ∀ d, (s.note 0x0020 d).endEntry = s.note 0x0020 d := fun d => by
    unfold State.endEntry
    rw [if_pos (by simp [hphase])]
  unfold State.engineReset State.stopped
  simp only [hentry]

/-- Marking every unit leaves everything but the marks. -/
theorem markAll_stands (s : State) : s.markAll.sys.bare = s.sys.bare ∧ s.markAll.power = s.power ∧ s.markAll.tmr = s.tmr
    ∧ ∀ l, s.markAll.lane l = s.lane l := by
  unfold State.markAll
  refine foldl_keeps (P := fun t => t.sys.bare = s.sys.bare ∧ t.power = s.power ∧ t.tmr = s.tmr ∧ ∀ l, t.lane l = s.lane l)
    (f := State.mark) (fun {t u} h => ?_) allUnits ⟨rfl, rfl, rfl, fun _ => rfl⟩
  obtain ⟨hsys, hpower, htmr, hlane⟩ := h
  exact ⟨hsys, hpower, htmr, fun l => (State.mark_lane t u l).trans (hlane l)⟩

theorem afterE_lane (s : State) (c : Nat) (l : Lane) : (s.afterE c).lane l = (s.lane l).afterE := by
  cases l <;> rfl

/-! ### LRESET (R103) -/

/-- What a lane's reset leaves alone: the power state and the other lane's mode. -/
theorem keptAt_around (l : Lane) (p : PowerSt) (m : ModeSt) :
    KeptAt l (fun t => t.power = p ∧ (t.lane (otherLane l)).mode = m) where
  lane _ h := by cases l <;> exact h
  lux h := by simpa using h
  log h := by simpa using h
  mark {s u} h := by rw [State.mark_lane]; exact h
  event h := by simpa using h

theorem keptByCal_modes (p : PowerSt) (j : Lane) (m : ModeSt) :
    KeptByCal (fun t => t.power = p ∧ (t.lane j).mode = m) where
  cal {s l f} h := by cases l <;> cases j <;> exact h
  flash h := by simpa using h
  log h := by simpa using h
  event h := by simpa using h

theorem lane_modLane_other {j : Lane} {f : LaneSt → LaneSt} (h : j ≠ l) : (t.modLane l f).lane j = t.lane j := by
  match l, j, h with
  | .a, .b, _ => rfl
  | .b, .a, _ => rfl

theorem masterWrite_lane (s : State) (l : Lane) (w o : Nat) (ws : List Nat) (j : Lane) :
    (s.masterWrite l w o ws).lane j = s.lane j := by
  unfold State.masterWrite
  split
  · rfl
  · unfold State.winWrite
    dsimp only
    split <;> rfl

theorem fenceNote_lane (s : State) (l : Lane) (m w : Nat) (j : Lane) : (s.fenceNote l m w).lane j = s.lane j := by
  unfold State.fenceNote
  split
  · simp [State.noteFence]
  · rfl

theorem replaceUntimed_mode (s : State) (l j : Lane) : ((s.replaceUntimed l).lane j).mode = (s.lane j).mode := by
  have hlane : ∀ {t : State} {f : LaneSt → LaneSt}, (∀ x, (f x).mode = x.mode) → (t.lane j).mode = (s.lane j).mode →
      ((t.modLane l f).lane j).mode = (s.lane j).mode := fun {t _} hf h => by
    by_cases hj : j = l
    · subst hj
      rw [State.modLane_lane, hf, h]
    · rw [lane_modLane_other hj]
      exact h
  have hset : ((s.replaceSet l).lane j).mode = (s.lane j).mode := by
    unfold State.replaceSet
    dsimp only
    split
    · rfl
    · refine hlane (fun _ => rfl) (hlane (fun _ => rfl) (foldl_keeps
        (P := fun t => (t.lane j).mode = (s.lane j).mode) (fun {t q} h => ?_) _ rfl))
      unfold State.putSet
      exact hlane (fun _ => rfl) (by rw [masterWrite_lane, fenceNote_lane, fenceNote_lane]; exact h)
  unfold State.replaceUntimed
  dsimp only
  split
  · exact hset
  · simpa [State.noteC1] using hset

theorem stopLane_mode (s : State) (l : Lane) (c d n : Nat) (r : Bool) : ((s.stopLane l c d r n).lane l).mode.mode = .none := by
  unfold State.stopLane
  dsimp only
  rw [replaceUntimed_mode, toMode_mode]

theorem headOff_mode (s : State) (l j : Lane) : ((s.headOff l).lane j).mode = (s.lane j).mode := by
  cases l <;> cases j <;> rfl

/-- A lane's reset in no gang: its record, the lane stopped, its head parked, its commits ended. -/
theorem laneReset_eq (hcfg : s.configured l = true) (hidle : (s.lane l).mode.reset = 0) (hsolo : s.sys.gang = false) :
    s.laneReset l = (((((s.record 0x0021 0 (s.laneBits l) [laneNo l]).stopLane l 8 5 true).headOff l).abandonCoef l).discard
      (ofLane l)).modMode l (fun y => { y with reset := 1 }) := by
  have hgang : (s.record 0x0021 0 (s.laneBits l) [laneNo l]).sys.gang = false := by simpa using hsolo
  unfold State.laneReset
  rw [if_neg (by simp [hcfg, hidle])]
  dsimp only
  rw [hgang, if_neg (by decide)]

theorem laneReset_around (hcfg : s.configured l = true) (hidle : (s.lane l).mode.reset = 0) (hsolo : s.sys.gang = false) :
    (s.laneReset l).power = s.power ∧ ((s.laneReset l).lane (otherLane l)).mode = (s.lane (otherLane l)).mode := by
  have k := keptAt_around l s.power (s.lane (otherLane l)).mode
  have kc := keptByCal_modes s.power (otherLane l) (s.lane (otherLane l)).mode
  have hrecord := k.record (c := 0x0021) (n := 0) (p := s.laneBits l) (d := [laneNo l]) ⟨rfl, rfl⟩
  have hstop := k.stopLane (c := 8) (d := 5) (r := true) (n := 0) (fun h => h) (fun h => by simpa using h)
    (fun h => by simpa using h) hrecord
  have hhead := k.headOff (fun h => by simpa [State.setOut] using h) hstop
  rw [laneReset_eq hcfg hidle hsolo]
  exact k.mode (fun _ => rfl) (k.discard (kc.abandonCoef hhead))

theorem laneReset_mode (hcfg : s.configured l = true) (hidle : (s.lane l).mode.reset = 0) (hsolo : s.sys.gang = false) :
    ((s.laneReset l).lane l).mode.mode = .none ∧ ((s.laneReset l).lane l).mode.reset = 1 := by
  rw [laneReset_eq hcfg hidle hsolo]
  generalize s.record 0x0021 0 (s.laneBits l) [laneNo l] = t
  have hhead : (((t.stopLane l 8 5 true).headOff l).lane l).mode.mode = .none := by
    rw [headOff_mode, stopLane_mode]
  have kc := keptByCal_modes ((t.stopLane l 8 5 true).headOff l).power l (((t.stopLane l 8 5 true).headOff l).lane l).mode
  have hcal := (kc.abandonCoef (l := l) ⟨rfl, rfl⟩).2
  refine ⟨?_, ?_⟩
  · rw [State.modMode_lane]
    show (State.lane _ l).mode.mode = _
    rw [discard_lane, hcal, hhead]
  · rw [State.modMode_lane]

theorem powerWrite_off (hphase : s.power.phase = .run) : s.powerWrite 2 = s.beginOff 2 := by
  simp [State.powerWrite, hphase, bit]

theorem powerWrite_ereset (hphase : s.power.phase = .run) : s.powerWrite 4 = s.engineReset 1 0 := by
  simp [State.powerWrite, State.resettable, hphase, bit]

theorem powerWrite_lreset (h : s.resettable = true) : s.powerWrite (if l = .a then 8 else 16) = s.laneReset l := by
  cases l <;> simp [State.powerWrite, h, bit]

/-- An engine reset by the host is denied outside RUN (R556 and the coincidences of 03). -/
theorem ereset_in_run {e : Nat} (ha : s.Accepts (hostWrite 0 0x021 [4] e)) : s.power.phase = .run := by
  have hdenied : s.denied (hostWrite 0 0x021 [4] e) = false := by
    by_contra hd
    have hstatus := ha.2
    unfold State.status at hstatus
    rw [Bool.not_eq_false] at hd
    simp only [hd, if_true] at hstatus
    split_ifs at hstatus
  by_contra hphase
  have : s.denied (hostWrite 0 0x021 [4] e) = true := by
    simp [State.denied, hostWrite, Req.items, State.wordDenied, State.sysDenied, bit, hphase]
  rw [this] at hdenied
  exact absurd hdenied (by decide)

theorem sysPowerOff_begins {e : Nat} (ha : s.Accepts (hostWrite 0 0x021 [2] e)) (hphase : s.power.phase = .run) :
    ∃ t, exec (.sysPowerOff e) s = .next t ∧ t.Replied (hostWrite 0 0x021 [2] e) []
      ∧ t.power = { s.power with phase := .powerDown, stage := 1, offSource := 2, offLatched := false, served := s.serving }
      ∧ t.sys.ready = false ∧ t.sys.haltReq = false := by
  obtain ⟨r, k, hexec, hreply⟩ := oneWrite_answered ha
    ((frameEffect_power s.mgtOpen.clearOut 2 e 0).trans (congrArg (State.mark · 0) (powerWrite_off hphase)))
  refine ⟨_, hexec, hreply, ?_, ?_, ?_⟩
  · rw [answered_power, State.mark_power, beginOff_power]
    rfl
  · rw [answered_ready, mark_ready, beginOff_ready]
  · rw [answered_haltReq, mark_haltReq, beginOff_haltReq]

theorem sysPowerEreset_begins {e : Nat} (ha : s.Accepts (hostWrite 0 0x021 [4] e)) :
    ∃ t, exec (.sysPowerEreset e) s = .next t ∧ t.Replied (hostWrite 0 0x021 [4] e) []
      ∧ t.power.phase = .engineReset ∧ t.power.stage = 6 ∧ t.power.eresetCause = 1
      ∧ t.power.startCause = s.power.startCause ∧ t.tmr.tsc = s.tmr.tsc
      ∧ t.sys.ready = false ∧ t.sys.safe = false ∧ t.sys.service = false ∧ t.sys.gang = false
      ∧ ∀ l, (t.lane l).mode.mode = .none ∧ (t.lane l).mode.trip = (s.lane l).mode.trip
        ∧ (t.lane l).head.supply = false ∧ (t.lane l).arun.energised = false := by
  have hphase := ereset_in_run ha
  have hreset : s.mgtOpen.clearOut.powerWrite 4 = ((s.mgtOpen.clearOut.stopped 1 0).afterE 1).markAll :=
    (powerWrite_ereset (s := s.mgtOpen.clearOut) hphase).trans (engineReset_eq (s := s.mgtOpen.clearOut) hphase)
  obtain ⟨r, k, hexec, hreply⟩ := oneWrite_answered ha
    ((frameEffect_power s.mgtOpen.clearOut 4 e 0).trans (congrArg (State.mark · 0) hreset))
  obtain ⟨hta, htb, hpower, htmr⟩ := stopped_stands s.mgtOpen.clearOut 1 0
  generalize s.mgtOpen.clearOut.stopped 1 0 = u at hta htb hpower htmr hexec hreply
  obtain ⟨hbare, hmpower, hmtmr, hmlane⟩ := markAll_stands (u.afterE 1)
  generalize (u.afterE 1).markAll = v at hbare hmpower hmtmr hmlane hexec hreply
  have htrip : ∀ l, (u.lane l).mode.trip = (s.lane l).mode.trip := fun l => by
    cases l
    · exact hta
    · exact htb
  have hlane : ∀ l, (v.lane l) = (u.lane l).afterE := fun l => (hmlane l).trans (afterE_lane u 1 l)
  have hsys : v.sys.ready = false ∧ v.sys.safe = false ∧ v.sys.service = false ∧ v.sys.gang = false :=
    ⟨congrArg SysSt.ready hbare, congrArg SysSt.safe hbare, congrArg SysSt.service hbare, congrArg SysSt.gang hbare⟩
  have htsc : v.tmr.tsc = s.tmr.tsc := congrArg TmrSt.tsc (hmtmr.trans htmr)
  have hcause : u.power.startCause = s.power.startCause := congrArg PowerSt.startCause hpower
  refine ⟨_, hexec, hreply, ?_, ?_, ?_, ?_, ?_, ?_, ?_, ?_, ?_, fun l => ?_⟩ <;>
    simp [hmpower, hsys, htsc, hcause, hlane, htrip, State.afterE, LaneSt.afterE]

/-- Settles O15: an accepted frame with one bit of SYS.POWER comes to the operation that the bit names. -/
theorem hostPowerCommands : Obligations.HostPowerCommands := by
  unfold Obligations.HostPowerCommands
  refine ⟨fun e s => sysPowerOff_begins, fun e s => sysPowerEreset_begins, ?_⟩
  intro l e s ha hres hcfg hidle hsolo
  obtain ⟨r, k, hexec, hreply⟩ := oneWrite_answered ha
    ((frameEffect_power s.mgtOpen.clearOut (if l = .a then 8 else 16) e 0).trans
      (congrArg (State.mark · 0) (powerWrite_lreset (s := s.mgtOpen.clearOut) (l := l) hres)))
  have hidle' : (s.mgtOpen.clearOut.lane l).mode.reset = 0 := by simpa using hidle
  have hmode := laneReset_mode (s := s.mgtOpen.clearOut) (l := l) hcfg hidle' hsolo
  have haround := laneReset_around (s := s.mgtOpen.clearOut) (l := l) hcfg hidle' hsolo
  refine ⟨_, by rw [exec_sysPowerLreset]; exact hexec, hreply, ?_, ?_, ?_, ?_⟩
  · simp [hmode.2]
  · simp [hmode.1]
  · simp [haround.2]
  · simp [haround.1]

end Sys2Proof.Machine
end


section
/-!
PROOFS. Bring-up step by step, the crystal that does not start, and the READY instant (R73, R79, R87, R168).
-/

namespace Sys2Proof.Machine

variable {s t : State} {l : Lane}

/-! ### The READY instant -/

theorem Alters.toMode {ps : List Part} {m : Mode} (h : Alters ps s t) (hlane : .lane l ∈ ps) (hlux : .lux ∈ ps) :
    Alters ps s (t.toMode l m) := by
  obtain ⟨f, g, heq⟩ := toMode_eq t l m
  rw [heq]
  exact (h.modMode hlane).modLux hlux

theorem Alters.clockHead {ps : List Part} (h : Alters ps s t) (hlane : .lane l ∈ ps) : Alters ps s (t.clockHead l) := by
  unfold State.clockHead
  split
  · exact h.modHead hlane
  · exact h.modHead hlane

theorem Alters.placeIdle {ps : List Part} (h : Alters ps s t) (hlane : ∀ l, .lane l ∈ ps) (hlux : .lux ∈ ps) :
    Alters ps s (t.placeIdle l) :=
  ((h.modMode (hlane l)).toMode (hlane l) hlux).clockHead (hlane l)

theorem Alters.groupStart {ps : List Part} {ns : List Nat} {own : Nat → Bool} (h : Alters ps s t) (htmr : .tmr ∈ ps) :
    Alters ps s (t.groupStart ns own) := by
  unfold State.groupStart
  exact Alters.foldl (fun h => h.trans ((updTimer_alters _).mono (by simpa using htmr))) _ h

/-- What the READY instant alters but for the power state and READY. -/
theorem placeLanes_alters (s : State) (ns : List Nat) : Alters [.lane .a, .lane .b, .lux, .tmr] s (s.placeLanes ns) := by
  have hplaced : Alters [.lane .a, .lane .b, .lux, .tmr] s (s.cfgLanes.foldl State.placeIdle s) :=
    Alters.foldl (fun h => h.placeIdle (fun l => by cases l <;> simp) (by simp)) _ (Alters.refl _ s)
  unfold State.placeLanes State.startTimers State.releaseTimers
  exact (((hplaced.modTmr (by simp)).groupStart (by simp)).mark).modTmr (by simp)

theorem clockHead_mode (s : State) (l j : Lane) : ((s.clockHead l).lane j).mode = (s.lane j).mode := by
  unfold State.clockHead
  split <;> cases l <;> cases j <;> rfl

theorem placeIdle_mode (s : State) (l : Lane) : ((s.placeIdle l).lane l).mode.mode = .idle := by
  rw [State.placeIdle, clockHead_mode, toMode_mode]

theorem placeIdle_other {j : Lane} (h : j ≠ l) : ((s.placeIdle l).lane j).mode = (s.lane j).mode := by
  have hj : j = otherLane l := by
    match l, j, h with
    | .a, .b, _ => rfl
    | .b, .a, _ => rfl
  rw [State.placeIdle, clockHead_mode, hj, toMode_other, ← hj]
  exact congrArg LaneSt.mode (lane_modLane_other h)

theorem foldl_placeIdle {j : Lane} (ls : List Lane) : ∀ {s : State}, j ∈ ls ∨ (s.lane j).mode.mode = .idle →
    ((ls.foldl State.placeIdle s).lane j).mode.mode = .idle := by
  induction ls with
  | nil => exact fun h => h.resolve_left (by simp)
  | cons l ls ih =>
    intro s h
    rw [List.foldl_cons]
    apply ih
    by_cases hj : j = l
    · exact Or.inr (hj ▸ placeIdle_mode s j)
    · rw [placeIdle_other hj]
      exact h.imp (fun hin => (List.mem_cons.mp hin).resolve_left hj) id

theorem placeLanes_mode (ns : List Nat) (hcfg : s.configured l = true) : ((s.placeLanes ns).lane l).mode.mode = .idle := by
  have hplaced := foldl_placeIdle (s := s) s.cfgLanes (Or.inl (mem_cfgLanes.mpr hcfg))
  have htimers : Alters [.tmr] (s.cfgLanes.foldl State.placeIdle s) (s.placeLanes ns) := by
    unfold State.placeLanes State.startTimers State.releaseTimers
    exact ((((Alters.refl _ _).modTmr (by simp)).groupStart (by simp)).mark).modTmr (by simp)
  have hlane : (s.placeLanes ns).lane l = (s.cfgLanes.foldl State.placeIdle s).lane l := htimers (.lane l) (by simp)
  rw [hlane]
  exact hplaced

/-! ### Timers held until their start (R503) -/

/-- No timer is held. -/
def State.NoneHeld (s : State) : Prop := ∀ n, n < 16 → ∀ t, s.tmr.ts[n]? = some t → t.held = false

theorem State.NoneHeld.getD (h : s.NoneHeld) {n : Nat} (hn : n < 16) : (s.tmr.ts.getD n { held := false }).held = false := by
  rw [List.getD_eq_getElem?_getD]
  cases hget : s.tmr.ts[n]? with
  | none => rfl
  | some t => exact h n hn t hget

/-- A timer released as R503 has it. -/
def Timer.released (tsc : Nat) (t : Timer) : Timer := { t with held := false, born := tsc }

theorem foldl_released (tsc : Nat) (ns : List Nat) : ∀ (ts : List Timer) (n : Nat),
    (n ∈ ns ∨ ∀ t, ts[n]? = some t → t.held = false) →
    ∀ t, (ns.foldl (fun ts n => ts.modify n (Timer.released tsc)) ts)[n]? = some t → t.held = false := by
  induction ns with
  | nil => exact fun ts n h => h.resolve_left (by simp)
  | cons k ns ih =>
    intro ts n h
    refine ih _ n ?_
    by_cases hk : k = n
    · subst hk
      refine Or.inr fun t ht => ?_
      rw [List.getElem?_modify] at ht
      obtain ⟨u, _, heq⟩ := Option.map_eq_some_iff.mp ht
      rw [← heq, if_pos rfl]
      rfl
    · refine h.imp (fun hin => (List.mem_cons.mp hin).resolve_left (Ne.symm hk)) (fun h t ht => ?_)
      rw [List.getElem?_modify] at ht
      exact h t (by simpa [hk] using ht)

theorem releaseTimers_ts (s : State) (ns : List Nat) : (s.releaseTimers ns).tmr.ts =
    ns.foldl (fun ts n => ts.modify n (Timer.released s.tmr.tsc)) s.tmr.ts := rfl

theorem releaseTimers_noneHeld {ns : List Nat} (hns : ∀ n, n < 16 → n ∈ ns) : (s.releaseTimers ns).NoneHeld := by
  intro n hn t ht
  rw [releaseTimers_ts] at ht
  exact foldl_released s.tmr.tsc ns s.tmr.ts n (Or.inl (hns n hn)) t ht

theorem setTimer_noneHeld {n : Nat} {x : Timer} (hx : n < s.tmr.ts.length → x.held = false) (h : s.NoneHeld) :
    (s.setTimer n x).NoneHeld := by
  have hset : ∀ y : Timer, y.held = x.held → ∀ m, m < 16 → ∀ t, (s.tmr.ts.set n y)[m]? = some t → t.held = false := by
    intro y hy m hm t ht
    by_cases hnm : n = m
    · subst hnm
      obtain ⟨hlt, heq⟩ := List.getElem?_eq_some_iff.mp ht
      rw [List.getElem_set_self] at heq
      rw [← heq, hy]
      exact hx (by simpa using hlt)
    · rw [List.getElem?_set_ne hnm] at ht
      exact h m hm t ht
  unfold State.setTimer
  split
  · intro m hm t ht
    rw [State.modTmr_tmr] at ht
    dsimp only at ht
    rw [List.getElem?_modify] at ht
    obtain ⟨u, hu, heq⟩ := Option.map_eq_some_iff.mp ht
    have hheld : u.held = false :=
      hset { x with cnt := x.cnt % 65536, rld := x.rld % 65536, cmp := x.cmp % 65536 } rfl m hm u hu
    rw [← heq]
    split
    · exact hheld
    · exact hheld
  · exact hset x rfl

theorem groupStart_noneHeld {ns : List Nat} {own : Nat → Bool} (hns : ∀ n ∈ ns, n < 16) (h : s.NoneHeld) :
    (s.groupStart ns own).NoneHeld := by
  have hfold : ∀ (xs : List Nat) (v : Nat → State → Timer → Timer), (∀ n ∈ xs, n < 16) → (∀ n u t, (v n u t).held = t.held) →
      ∀ {u : State}, u.NoneHeld → (xs.foldl (fun s n => s.updTimer n (v n s)) u).NoneHeld := by
    intro xs v hxs hv
    induction xs with
    | nil => exact fun h => h
    | cons n xs ih =>
      intro u hu
      refine ih (fun k hk => hxs k (List.mem_cons_of_mem n hk)) ?_
      have hx : n < u.tmr.ts.length → (v n u (u.timer n)).held = false := fun hlt => by
        have hget := hu n (hxs n (List.mem_cons_self ..)) _ (List.getElem?_eq_getElem hlt)
        rw [hv, State.timer]
        simp only [List.getD_eq_getElem?_getD, List.getElem?_eq_getElem hlt, Option.getD_some]
        split <;> exact hget
      have hset := setTimer_noneHeld hx hu
      unfold State.NoneHeld
      rw [updTimer_tmr]
      exact hset
  unfold State.groupStart
  exact hfold _ (fun n s t => { loadTimer t ((s.timerRec n).phase + (if s.cascaded n then 65536 * (s.timerRec (n + 1)).phase else 0)) with
    born := s.tmr.tsc }) (fun n hn => hns n (List.mem_of_mem_filter hn)) (fun _ _ _ => rfl) h

theorem placeLanes_noneHeld {ns : List Nat} (hns : ∀ n, n < 16 ↔ n ∈ ns) (s : State) : (s.placeLanes ns).NoneHeld := by
  unfold State.placeLanes State.startTimers
  generalize s.cfgLanes.foldl State.placeIdle s = u
  exact groupStart_noneHeld (own := fun _ => true) (fun n => (hns n).mpr) (releaseTimers_noneHeld (s := u) (fun n => (hns n).mp))

/-! ### READY -/

theorem goReady_power (s : State) (ns : List Nat) :
    (s.goReady ns).power = { s.power with phase := .run, stage := 0, stepDone := 12 } := by
  have hpower : ((s.modPower (fun p => { p with phase := .run, stage := 0, stepDone := 12 })).placeLanes ns).power = _ :=
    placeLanes_alters _ ns .power (by simp)
  unfold State.goReady
  rw [linkWake_both]
  simpa using hpower

theorem goReady_ready (s : State) (ns : List Nat) : (s.goReady ns).sys.ready = true := by
  unfold State.goReady
  rw [linkWake_both]
  simp

theorem goReady_mode (ns : List Nat) (hcfg : s.configured l = true) : ((s.goReady ns).lane l).mode.mode = .idle := by
  unfold State.goReady
  rw [linkWake_both_lane]
  have hmode := placeLanes_mode (s := s.modPower (fun p => { p with phase := .run, stage := 0, stepDone := 12 })) ns hcfg
  split <;> simpa using hmode

theorem goReady_noneHeld (s : State) : (s.goReady (List.range 16)).NoneHeld := by
  have hplaced := placeLanes_noneHeld (fun _ => List.mem_range.symm) (s.modPower (fun p => { p with phase := .run, stage := 0, stepDone := 12 }))
  unfold State.goReady
  rw [linkWake_both]
  generalize (s.modPower (fun p => { p with phase := .run, stage := 0, stepDone := 12 })).placeLanes (List.range 16) = u at hplaced ⊢
  unfold State.NoneHeld at hplaced ⊢
  simpa using hplaced

/-! ### FAULT_N (R571) -/

/-- In SAFE, and with a crystal that did not start, FAULT_N is low. -/
theorem State.PinsStand.faultN_low (h : t.PinsStand) (hoff : t.power.phase ≠ .off) (hsleep : t.power.phase ≠ .sleep)
    (hcause : t.sys.safe = true ∨ t.power.xtalHeld = true) : t.sys.faultN = false := by
  have hany : t.faultCauses.any id = true := by
    rcases hcause with h | h <;> simp [State.faultCauses, h]
  rw [h.1, State.faultPin, hany]
  split
  · exact absurd ‹_› hoff
  · exact absurd ‹_› hsleep
  · rfl

/-! ### The steps -/

theorem bringupStep_one {r : StepReport} (hstage : s.power.stage = 1) (hheld : s.power.heldStep1 = false)
    (hoff : s.power.offLatched = false) :
    s.bringupStep r = s.modPower (fun p => { p with stage := 2, stepDone := 1 }) := by
  simp [State.bringupStep, State.endStep, nextStep, hstage, hheld, hoff]
  rfl

theorem bringupStep_three {r : StepReport} (hphase : s.power.phase = .bringup) (hstage : s.power.stage = 3)
    (hoff : s.power.offLatched = false) : s.bringupStep r =
      (s.modClk (fun c => { c with locked := true, fcode := 2, attempts := 0 })).modPower (fun p =>
        { p with stage := 4, stepDone := 3 }) := by
  simp [State.bringupStep, State.endStep, nextStep, hphase, hstage, hoff]
  rfl

theorem bringupStep_twelve {r : StepReport} (hstage : s.power.stage = 12) (hoff : s.power.offLatched = false) :
    s.bringupStep r = (if s.power.phase = .bringup then s.modPower (fun p => { p with stepDone := 12, bringMs := min 4095 r.elapsedMs })
      else s.modPower (fun p => { p with stepDone := 12 })).goReady (List.range 16) := by
  simp only [State.bringupStep, hstage, hoff, State.endStep]
  by_cases hfull : s.power.phase = .bringup
  · simp [hfull, hstage, hoff]
    rfl
  · simp [hfull, hstage, hoff]

/-- Settles O10: each step is one operation; the READY instant is read off its parts. -/
theorem bringupStepsCrystalAndReady : Obligations.BringupStepsCrystalAndReady := by
  unfold Obligations.BringupStepsCrystalAndReady
  refine ⟨?_, ?_, ?_, ?_, ?_⟩
  · intro r s hs hphase hstage hint hheld hoff
    have heffect : exec (.bringupStepComplete r) s =
        .next (s.after (s.clearOut.modPower (fun p => { p with stage := 2, stepDone := 1 }))) := by
      rw [exec_bringupStepComplete, execBringupStepComplete, perform_after, if_pos (by simp [hphase, hint]),
        bringupStep_one (s := s.clearOut) hstage hheld hoff]
    exact ⟨_, heffect, by simp, frame_modPower hs _⟩
  · intro r s hs hphase hstage hint hoff
    have heffect : exec (.bringupStepComplete r) s =
        .next (s.after ((s.clearOut.modClk (fun c => { c with locked := true, fcode := 2, attempts := 0 })).modPower (fun p =>
          { p with stage := 4, stepDone := 3 }))) := by
      rw [exec_bringupStepComplete, execBringupStepComplete, perform_after, if_pos (by simp [hphase, hint]),
        bringupStep_three (s := s.clearOut) hphase hstage hoff]
    exact ⟨_, heffect, by simp, by simp,
      (((Alters.refl _ s.clearOut).modClk (by simp)).modPower (by simp)).frame hs⟩
  · intro s hs hroom hphase hstage hheld
    have heffect : exec .xtalFail s =
        .next (s.after ((s.clearOut.record 0x2001 4 s.safeBits).modPower (fun p => { p with xtalHeld := true }))) := by
      simp [execXtalFail, perform_after, hphase, hstage, hheld]
    have hpower : (s.after ((s.clearOut.record 0x2001 4 s.safeBits).modPower (fun p => { p with xtalHeld := true }))).power =
        { s.power with xtalHeld := true } := by simp
    refine ⟨_, heffect, hpower, ?_, (after_pinsStand _ _).faultN_low ?_ ?_ (Or.inr ?_),
      (((Alters.refl _ s.clearOut).record (by simp)).modPower (by simp)).frame hs⟩
    · rw [after_log, State.modPower_log]
      exact record_plus (t := s.clearOut) hs hroom rfl rfl
    · rw [hpower]; simp [hphase]
    · rw [hpower]; simp [hphase]
    · rw [hpower]
  · intro r s hstage hoff hint hphase
    have heffect : exec (.bringupStepComplete r) s = .next (s.after ((s.clearOut.modPower (fun p =>
        { p with stepDone := 12, bringMs := min 4095 r.elapsedMs })).goReady (List.range 16))) := by
      rw [exec_bringupStepComplete, execBringupStepComplete, perform_after, if_pos (by simp [hphase, hint]),
        bringupStep_twelve (s := s.clearOut) hstage hoff, if_pos (by simpa using hphase)]
    refine ⟨_, heffect, by simp [goReady_power], by simp [goReady_ready], fun l hcfg => ?_, fun n hn => ?_⟩
    · rw [after_lane_mode]
      exact goReady_mode (List.range 16) hcfg
    · rw [after_tmr]
      exact (goReady_noneHeld _).getD hn
  · intro r s hstage hoff hint hphase
    have heffect : exec (.engineReset r) s = .next (s.after ((s.clearOut.modPower (fun p =>
        { p with stepDone := 12 })).goReady (List.range 16))) := by
      rw [exec_engineReset, execEngineReset, perform_after, if_pos (by simp [hphase, hint]),
        bringupStep_twelve (s := s.clearOut) hstage hoff, if_neg (by simp [hphase])]
    refine ⟨_, heffect, by simp [goReady_power], by simp [goReady_ready], fun l hcfg => ?_, fun n hn => ?_⟩
    · rw [after_lane_mode]
      exact goReady_mode (List.range 16) hcfg
    · rw [after_tmr]
      exact (goReady_noneHeld _).getD hn

end Sys2Proof.Machine
end


section
/-!
PROOFS. Sleep entry and wake, stage by stage (Tables 3.4 and 3.5).
-/

namespace Sys2Proof.Machine

variable {s t : State} {l : Lane}

/-! ### Stages of entry (R84 to R86) -/

theorem sleepEntryStepDone_runs {us : Nat} (hphase : s.power.phase = .sleepEntry) (hint : s.clk.interval = false) :
    exec (.sleepEntryStepDone us) s = .next (s.after (s.clearOut.sleepStage us)) := by
  rw [exec_sleepEntryStepDone, execSleepEntryStepDone, perform_after, if_pos (by simp [hphase, hint])]

theorem sleepStage_last {us : Nat} (hstage : 5 ≤ s.power.stage) (hoff : s.power.offLatched = false)
    (hon : s.power.onLatched = false) : s.sleepStage us = s.afterS us := by
  have hstay : s.enterSleep us = s.afterS us := by
    have hoff' : (s.afterS us).power.offLatched = false := hoff
    have hon' : (s.afterS us).power.onLatched = false := hon
    simp [State.enterSleep, hoff', hon']
  unfold State.sleepStage
  dsimp only
  split <;> first | exact hstay | omega

theorem afterS_alters (s : State) (us : Nat) :
    Alters [.power, .sys, .clk, .pwr, .hist, .mem, .hk, .lux, .lane .a, .lane .b] s (s.afterS us) := by
  intro p hp
  cases p with
  | lane l => cases l <;> simp at hp
  | power | sys | clk | pwr | hist | mem | hk | lux => simp at hp
  | ledger => exact ⟨rfl, rfl⟩
  | pins | log | flash | bank | tmr | free => rfl

theorem afterS_sets (s : State) (us : Nat) (l : Lane) : ((s.afterS us).lane l).sets = (s.lane l).sets := by
  cases l <;> rfl

/-! ### Stages of the wake (R87 to R93) -/

theorem wakeSequenceStepDone_runs {r : StepReport} (hphase : s.power.phase = .wake) (hint : s.clk.interval = false) :
    exec (.wakeSequenceStepDone r) s = .next (s.after (s.clearOut.wakeStage r)) := by
  rw [exec_wakeSequenceStepDone, execWakeSequenceStepDone, perform_after, if_pos (by simp [hphase, hint])]

/-- The crystal running changes the timers and, the LF oscillator having failed, the log. -/
theorem crystalStable_alters (s : State) : Alters [.tmr, .log] s s.crystalStable := by
  have hback : Alters [.tmr, .log] s s.lfHandback := by
    unfold State.lfHandback
    extract_lets gap sleep failed s1 s2
    have h2 : Alters [.tmr, .log] s s2 := by
      unfold s2
      split
      · exact (((Alters.refl _ s).modTmr (by simp)).note (by simp)).mark
      · exact (Alters.refl _ s).modTmr (by simp)
    split
    · exact h2.note (by simp)
    · exact h2
  unfold State.crystalStable
  dsimp only
  split
  · exact hback
  · split
    · exact (Alters.refl _ s).modTmr (by simp)
    · exact (Alters.refl _ s).modTmr (by simp)

/-- A shadow that did not keep its contents: what survives the start from step 2 (R90, log 28). -/
theorem shadowLost_keeps (s : State) : s.shadowLost.power = { mains := s.power.mains, phase := .bringup, stage := 2, startCause := 4
                                                              resetCount := s.power.resetCount, offLatched := s.power.offLatched }
    ∧ s.shadowLost.log.store = (s.note 0x0012).log.store ∧ s.shadowLost.log.fresh = (s.note 0x0012).log.fresh
    ∧ s.shadowLost.tmr.tsc = s.tmr.tsc := by
  obtain ⟨f, n, hcut⟩ := cutFlash_eq (s.note 0x0012)
  unfold State.shadowLost
  rw [hcut]
  simp [State.blankP, State.blank]

theorem settle_store_congr {g h : LogSt} (hstore : g.store = h.store) (hfresh : g.fresh = h.fresh) :
    g.settle.store = h.settle.store := by
  simp only [LogSt.settle, hstore, hfresh]

theorem wakeReady_runs {us : Nat} {late : Bool} (hphase : s.power.phase = .wake) (hstage : s.power.stage = 8)
    (hoff : s.power.offLatched = false) : exec (.wakeReady us late) s = .next (s.after
      ((if late then (s.clearOut.modPower (fun p => { p with padUs := if late then 0 else us % 8192 })).note 0x0011
        else s.clearOut.modPower (fun p => { p with padUs := if late then 0 else us % 8192 })).markAll.goReady
          ((List.range 16).drop 4))) := by
  rw [exec_wakeReady, execWakeReady, perform_after]
  cases late <;> simp [hphase, hstage, hoff]

theorem wakeReady_ready {us : Nat} {late : Bool} (hphase : s.power.phase = .wake) (hstage : s.power.stage = 8)
    (hoff : s.power.offLatched = false) : ∃ t, exec (.wakeReady us late) s = .next t
      ∧ t.power = { s.power with phase := .run, stage := 0, stepDone := 12, padUs := if late then 0 else us % 8192 }
      ∧ t.sys.ready = true ∧ ∀ l, s.configured l = true → (t.lane l).mode.mode = .idle := by
  have hnoted : ∀ late : Bool, Alters [.log] (s.clearOut.modPower (fun p => { p with padUs := if late then 0 else us % 8192 }))
      (if late then (s.clearOut.modPower (fun p => { p with padUs := if late then 0 else us % 8192 })).note 0x0011
        else s.clearOut.modPower (fun p => { p with padUs := if late then 0 else us % 8192 })).markAll := fun late =>
    Alters.foldl (fun h => h.mark) _ (Alters.ite ((Alters.refl _ _).note (by simp)) (Alters.refl _ _))
  have hwhole := hnoted late
  refine ⟨_, wakeReady_runs hphase hstage hoff, ?_, ?_, fun l hcfg => ?_⟩
  · rw [after_power, goReady_power, hwhole .power (by simp)]
    rfl
  · rw [after_sys_ready, goReady_ready]
  · rw [after_lane_mode]
    obtain ⟨hledger, _⟩ := hwhole .ledger (by simp)
    refine goReady_mode _ ?_
    cases l <;> simpa [State.configured, hledger] using hcfg

/-- Settles O16: the stages that only wait, the last of the entry, the crystal, a lost shadow, and READY. -/
theorem sleepAndWakeStages : Obligations.SleepAndWakeStages := by
  unfold Obligations.SleepAndWakeStages
  refine ⟨?_, ?_, ?_, ?_, ?_, fun us late s => wakeReady_ready⟩
  · intro us s hs hphase hstage hint
    have hnext : s.clearOut.sleepStage us = s.clearOut.modPower (fun p => { p with stage := p.stage + 1 }) := by
      simp [State.sleepStage, hstage]
    refine ⟨_, sleepEntryStepDone_runs hphase hint, ?_, ?_⟩
    · simp [hnext, hstage]
    · rw [hnext]
      exact frame_modPower hs _
  · intro us s hs hphase hstage hint hoff hon
    have hlast := sleepStage_last (s := s.clearOut) (us := us) hstage hoff hon
    refine ⟨_, sleepEntryStepDone_runs hphase hint, ?_, ?_, fun l => ?_, ?_⟩
    · rw [after_power, hlast]
      rfl
    · rw [after_sys_mask, hlast]
      rfl
    · rw [after_lane_sets, hlast, afterS_sets]
      simp
    · rw [hlast]
      exact (afterS_alters s.clearOut us).frame hs
  · intro r s hs hphase hstage hint
    have hnext : s.clearOut.wakeStage r = s.clearOut.modPower (fun p => { p with stage := p.stage + 1 }) := by
      simp [State.wakeStage, hstage]
    refine ⟨_, wakeSequenceStepDone_runs hphase hint, ?_, ?_⟩
    · simp [hnext, hstage]
    · rw [hnext]
      exact frame_modPower hs _
  · intro r s hphase hstage hint
    have hnext : s.clearOut.wakeStage r = (s.clearOut.crystalStable.modClk (fun c =>
        { c with onRef := true, attempts := 0 })).modPower (fun p => { p with stage := p.stage + 1 }) := by
      simp [State.wakeStage, hstage]
    have hpower : s.clearOut.crystalStable.power = s.power := crystalStable_alters s.clearOut .power (by simp)
    have hclk : s.clearOut.crystalStable.clk = s.clk := crystalStable_alters s.clearOut .clk (by simp)
    refine ⟨_, wakeSequenceStepDone_runs hphase hint, ?_, ?_⟩
    · simp [hnext, hpower, hstage]
    · simp [hnext, hclk]
  · intro r s hs hroom hphase hstage hint hlost
    have hnext : s.clearOut.wakeStage r = s.clearOut.shadowLost := by
      simp [State.wakeStage, hstage, hlost]
    obtain ⟨hpower, hstore, hfresh, htsc⟩ := shadowLost_keeps s.clearOut
    have hplus : (s.clearOut.note 0x0012).log.settle = s.log.plus (s.mkRec 0x0012 0 0 []) :=
      record_plus (t := s.clearOut) hs hroom rfl rfl
    refine ⟨_, wakeSequenceStepDone_runs hphase hint, ?_, ?_, ?_⟩
    · rw [after_power, hnext, hpower]
      rfl
    · rw [after_log, hnext, settle_store_congr hstore hfresh, hplus]
      rfl
    · rw [after_tmr, hnext, htsc]
      rfl

end Sys2Proof.Machine
end


section
/-!
PROOFS. Power-downs phase by phase: the orderly one's, PFW, and the timed stages of a mains loss (Tables 3.7 and 6.2).
-/

namespace Sys2Proof.Machine

variable {s t : State} {l : Lane}

/-! ### What a run that ends changes, its lights off -/

/-- `P` is kept by what ends the runs and commits at PFW: the channels' lights stand, and no line begins an exposure. -/
structure KeptInDark (P : State → Prop) : Prop where
  lane  : ∀ {s l f}, (∀ x : LaneSt, x.exposing = none → (f x).exposing = none) → P s → P (State.modLane s l f)
  lux   : ∀ {s f}, (∀ x : LuxSt, (f x).ch = x.ch) → P s → P (State.modLux s f)
  log   : ∀ {s f}, P s → P (State.modLog s f)
  event : ∀ {s b}, P s → P (State.event s b)
  flash : ∀ {s f}, P s → P (State.modFlash s f)
  mem   : ∀ {s f}, P s → P (State.modMem s f)
  bank  : ∀ {s : State} {m}, P s → P { s with bank := m }
  free  : ∀ {s : State} {n}, P s → P { s with free := n }

namespace KeptInDark

variable {P : State → Prop} (k : KeptInDark P)
include k

theorem keptByCal : KeptByCal P where
  cal h := k.lane (fun _ => id) h
  flash := k.flash
  log := k.log
  event := k.event

theorem note {c d} (h : P s) : P (s.note c d) := by
  unfold State.note State.record
  dsimp only
  split
  · exact k.keptByCal.place (k.log (k.keptByCal.place h))
  · exact k.keptByCal.place h

theorem modLightHead {a f} (h : P s) : P (s.modLightHead a f) := k.lux (fun _ => rfl) h
theorem setMotion {m w} (h : P s) : P (s.setMotion l m w) := by
  unfold State.setMotion
  exact k.lane (fun _ => id) h
theorem lrun {f} (h : P s) : P (s.modLrun l f) := k.lane (fun _ => id) h
theorem axis {f} (h : P s) : P (s.modAxis l f) := k.lane (fun _ => id) h

theorem busSend {b} (h : P s) : P (s.busSend b) := by
  unfold State.busSend
  split
  · exact h
  · exact k.lux (fun _ => rfl) h

theorem stageFirst {p} (h : P s) : P (s.stageFirst p) := by
  unfold State.stageFirst
  dsimp only
  split
  · exact h
  · split
    · exact h
    · exact k.lux (fun _ => rfl) (foldl_keeps (fun h => k.modLightHead (k.busSend h)) _ h)

theorem dropFor {c} (h : P s) : P (s.dropFor c) := by
  unfold State.dropFor
  split
  · refine foldl_keeps (fun h => k.modLightHead h) _ ?_
    unfold State.sendDrop
    split
    · exact k.lux (fun _ => rfl) h
    · exact k.busSend h
  · exact h

theorem discard {f} (h : P s) : P (s.discard f) := by
  unfold State.discard
  exact k.lux (fun _ => rfl) (foldl_keeps (fun h => k.dropFor h) _ h)

theorem plan {c} (h : P s) : P (s.plan c) := by
  unfold State.plan
  refine k.stageFirst (k.lux (fun _ => rfl) ?_)
  split
  · exact k.discard h
  · exact h

theorem beginEnding (h : P s) : P (s.beginEnding l) := by
  unfold State.beginEnding
  extract_lets s1 s2 s3 s4
  have h3 : P s3 := k.lane (fun _ => id) (k.lane (fun _ => id) (k.lane (fun _ => id) h))
  split
  · exact h3
  · refine k.plan ?_
    unfold s4
    split
    · exact k.discard h3
    · exact h3

theorem giveExposure (h : P s) : P (s.giveExposure l) := k.lane (fun _ _ => rfl) (k.lane (fun _ => id) h)

theorem brakeNow (h : P s) : P (s.brakeNow l) := by
  unfold State.brakeNow
  split
  · exact h
  · exact k.setMotion h

theorem voidCal {c} (h : P s) : P (s.voidCal l c) := by
  unfold State.voidCal
  split
  · have hcal := k.lane (l := l) (f := fun x => { x with pix := { x.pix with active := false } }) (fun _ => id)
      (k.keptByCal.cal (l := l) (f := fun c =>
        { c with state := if c.state = 1 then 0 else c.state, result := 4, acqKind := 0 }) (k.keptByCal.noteL (l := l) (c := 0x9034) (d := [c]) h))
    exact k.brakeNow (k.lane (fun _ => id) (k.giveExposure (k.beginEnding (k.discard hcal))))
  · exact h

theorem cutFlash (h : P s) : P s.cutFlash := by
  obtain ⟨f, n, hcut⟩ := cutFlash_eq s
  rw [hcut]
  exact k.flash (s := { s with free := n }) (f := fun _ => f) (k.free h)

theorem endErase (h : P s) : P s.endErase := by
  unfold State.endErase
  split
  · split
    · exact k.note (k.cutFlash h)
    · exact h
  · exact h

theorem guardCal (h : P s) : P s.guardCal := by
  have hgo : ∀ {s : State} {l : Lane}, P s → P (if s.calOpBusy l then s else s.failOne l 3) := fun h => by
    split
    · exact h
    · exact k.keptByCal.failOne h
  unfold State.guardCal
  dsimp only
  split
  · exact hgo (hgo (hgo (hgo h)))
  · exact h

theorem tallyCut (h : P s) : P s.tallyCut := by
  unfold State.tallyCut
  split
  · exact h
  · dsimp only
    split
    · exact k.bank (k.mem (k.note h))
    · exact k.mem (k.note h)

end KeptInDark

/-! ### PFW (R182 to R185) -/

/-- What the ends of the runs leave standing. -/
structure State.InDark (p : PowerSt) (ready service pfw : Bool) (ch : List LightCh) (s : State) : Prop where
  power   : s.power = p
  ready   : s.sys.ready = ready
  service : s.sys.service = service
  pfw     : s.pwr.pfw = pfw
  ch      : s.lux.ch = ch

theorem keptInDark_inDark (p : PowerSt) (ready service pfw : Bool) (ch : List LightCh) :
    KeptInDark (State.InDark p ready service pfw ch) where
  lane _ h := ⟨by simp [h.power], by simp [h.ready], by simp [h.service], by simp [h.pfw], by simp [h.ch]⟩
  lux hf h := ⟨by simp [h.power], by simp [h.ready], by simp [h.service], by simp [h.pfw], by simp [hf, h.ch]⟩
  log h := ⟨by simp [h.power], by simp [h.ready], by simp [h.service], by simp [h.pfw], by simp [h.ch]⟩
  event h := ⟨by simp [h.power], by simp [h.ready], by simp [h.service], by simp [h.pfw], by simp [h.ch]⟩
  flash h := ⟨by simp [h.power], by simp [h.ready], by simp [h.service], by simp [h.pfw], by simp [h.ch]⟩
  mem h := ⟨by simp [h.power], by simp [h.ready], by simp [h.service], by simp [h.pfw], by simp [h.ch]⟩
  bank h := ⟨h.power, h.ready, h.service, h.pfw, h.ch⟩
  free h := ⟨h.power, h.ready, h.service, h.pfw, h.ch⟩

theorem keptInDark_exposing (l : Lane) : KeptInDark (fun t => (t.lane l).exposing = none) where
  lane {s k f} hf h := by
    by_cases hk : l = k
    · subst hk
      rw [State.modLane_lane]
      exact hf _ h
    · rw [lane_modLane_other hk]
      exact h
  lux _ h := by simpa using h
  log h := by simpa using h
  event h := by simpa using h
  flash h := by simpa using h
  mem h := by simpa using h
  bank h := by cases l <;> exact h
  free h := by cases l <;> exact h

/-- The end that PFW gives a run. -/
def pfwEnd : RunEnd := { aborted := true, cause := 7, pfw := true }

/-- A lane's part in PFW: its calibration run void, its exposure given up, its run ending, its axis frozen. -/
def State.pfwLane (s : State) (l : Lane) : State :=
  let s := if s.acquiring l then s.voidCal l 1 else s
  let s := (s.giveExposure l).modLane l (fun x => { x with capture := false })
  let s := if s.capturesRun l then
      (s.modLrun l (fun r => { r with ending := some pfwEnd })).beginEnding l
    else if (s.lane l).mode.ending && (s.lane l).lrun.opened then
      s.modLrun l (fun r => { r with ending := some pfwEnd })
    else s
  (s.modLux (fun x => { x with planned := [] })).freezeAxis l true |>.modAxis l (fun a => { a with refLost := true })

/-- The lights at zero, with the frames that say so. -/
def State.pfwLights (s : State) (bus : Bool) : State :=
  (if bus then (s.busSend zeroFrame).busSend zeroFrame else s).lightsOff

/-- The power state as PFW begins a mains-loss power-down. -/
def PowerSt.afterPfw (p : PowerSt) (served : Bool) : PowerSt :=
  { p with phase := .mainsLoss, stage := 0, mains := false, offCancel := false, served := served }

/-- READY and SERVICE gone, the halt released, the mains-loss power-down begun. -/
def State.pfwBegun (s : State) : State :=
  let s := s.clearHalt.modSys (fun y => { y with ready := false, service := false, serviceEnd := false })
  let s := s.modPwr (fun p => { p with pfw := true })
  s.modPower (fun p => { p with phase := .mainsLoss, stage := 0, mains := false, offCancel := false, served := s.serving })

theorem beginPfw_eq (s : State) : s.beginPfw =
    [Lane.a, Lane.b].foldl State.pfwLane ((((((s.note 0x1001).endEntry.endMove .a).endMove .b).pfwBegun.pfwLights
      s.busDriven).endErase.guardCal).tallyCut) := rfl

namespace KeptInDark

variable {P : State → Prop} (k : KeptInDark P)
include k

/-- The rest of a lane's part, once its exposure is given up. -/
theorem pfwLane_rest {u : State} (h : P u) : P (((if u.capturesRun l then
      (u.modLrun l (fun r => { r with ending := some pfwEnd })).beginEnding l
    else if (u.lane l).mode.ending && (u.lane l).lrun.opened then
      u.modLrun l (fun r => { r with ending := some pfwEnd })
    else u).modLux (fun x => { x with planned := [] })).freezeAxis l true |>.modAxis l (fun a => { a with refLost := true })) := by
  have hend : P (if u.capturesRun l then (u.modLrun l (fun r => { r with ending := some pfwEnd })).beginEnding l
      else if (u.lane l).mode.ending && (u.lane l).lrun.opened then u.modLrun l (fun r => { r with ending := some pfwEnd })
      else u) := by
    split
    · exact k.beginEnding (k.lrun h)
    · split
      · exact k.lrun h
      · exact h
  unfold State.freezeAxis
  exact k.axis (k.axis (k.setMotion (k.lux (fun _ => rfl) hend)))

theorem pfwLane (h : P s) : P (s.pfwLane l) := by
  have hvoid : P (if s.acquiring l then s.voidCal l 1 else s) := by
    split
    · exact k.voidCal h
    · exact h
  unfold State.pfwLane
  exact k.pfwLane_rest (k.lane (fun _ => id) (k.giveExposure hvoid))

end KeptInDark

theorem pfwLane_exposing (s : State) (l : Lane) : ((s.pfwLane l).lane l).exposing = none := by
  unfold State.pfwLane
  refine (keptInDark_exposing l).pfwLane_rest ?_
  rw [State.modLane_lane]
  unfold State.giveExposure
  rw [State.modLane_lane]

theorem pfwBegun_inDark (s : State) : s.pfwBegun.InDark
    (s.power.afterPfw s.serving) false false true
      s.lux.ch :=
  ⟨rfl, rfl, rfl, rfl, rfl⟩

theorem lightsOff_dark (s : State) (n : Nat) : (s.lightsOff.lux.ch.getD n {}).drive = 0 := by
  simp only [State.lightsOff, State.modLux_lux, List.getD_eq_getElem?_getD, List.getElem?_map]
  cases s.lux.ch[n]? <;> rfl

/-- PFW in RUN: what every lane's part finds, and what it leaves. -/
theorem beginPfw_inDark (hphase : s.power.phase = .run) : ∃ ch : List LightCh, (∀ n, (ch.getD n {}).drive = 0) ∧ s.beginPfw.InDark
    (s.power.afterPfw s.serving) false false true ch
    ∧ ∀ l, (s.beginPfw.lane l).exposing = none := by
  rw [beginPfw_eq]
  generalize hmoved : ((s.note 0x1001).endEntry.endMove .a).endMove .b = u
  have hpower : u.power = s.power := by
    have hentry : (s.note 0x1001).endEntry = s.note 0x1001 := by
      unfold State.endEntry
      rw [if_pos (by simp [hphase])]
    rw [← hmoved, hentry]
    exact (kept_power s).endMove ((kept_power s).endMove ((kept_power s).note rfl))
  have hserving : u.serving = s.serving := by simp only [State.serving, hpower]
  have hlights : (u.pfwBegun.pfwLights s.busDriven).InDark (s.power.afterPfw s.serving) false false true
      (u.pfwBegun.pfwLights s.busDriven).lux.ch := by
    have hbegun := pfwBegun_inDark u
    rw [hpower, hserving] at hbegun
    have k := keptInDark_inDark (s.power.afterPfw s.serving) false false true u.lux.ch
    have hbus : (if s.busDriven then (u.pfwBegun.busSend zeroFrame).busSend zeroFrame else u.pfwBegun).InDark (s.power.afterPfw s.serving) false false true u.lux.ch := by
      split
      · exact k.busSend (k.busSend hbegun)
      · exact hbegun
    exact ⟨hbus.power, hbus.ready, hbus.service, hbus.pfw, rfl⟩
  have hdark : ∀ n, ((u.pfwBegun.pfwLights s.busDriven).lux.ch.getD n {}).drive = 0 := fun n => lightsOff_dark _ n
  generalize u.pfwBegun.pfwLights s.busDriven = v at hlights hdark ⊢
  have k := keptInDark_inDark (s.power.afterPfw s.serving) false false true v.lux.ch
  have hcut := k.tallyCut (k.guardCal (k.endErase hlights))
  generalize v.endErase.guardCal.tallyCut = w at hcut ⊢
  rw [List.foldl_cons, List.foldl_cons, List.foldl_nil]
  refine ⟨v.lux.ch, hdark, k.pfwLane (k.pfwLane hcut), fun l => ?_⟩
  cases l with
  | a => exact (keptInDark_exposing .a).pfwLane (pfwLane_exposing w .a)
  | b => exact pfwLane_exposing _ .b

theorem pfw_in_run (hphase : s.power.phase = .run) : ∃ t, exec .pfw s = .next t
    ∧ t.power = { s.power with phase := .mainsLoss, stage := 0, mains := false, served := s.serving, offCancel := false }
    ∧ t.pwr.pfw = true ∧ t.sys.ready = false ∧ t.sys.service = false ∧ (∀ n, (t.lux.ch.getD n {}).drive = 0)
    ∧ ∀ l, (t.lane l).exposing = none := by
  have heffect : exec .pfw s = .next (s.after s.clearOut.beginPfw) := by
    rw [exec_pfw, execPfw, perform_after]
    simp [hphase]
  obtain ⟨ch, hdark, hin, hexposing⟩ := beginPfw_inDark (s := s.clearOut) hphase
  refine ⟨_, heffect, ?_, ?_, ?_, ?_, fun n => ?_, fun l => ?_⟩
  · rw [after_power, hin.power]
    rfl
  · rw [after_pwr, hin.pfw]
  · rw [after_sys_ready, hin.ready]
  · rw [after_sys_service, hin.service]
  · rw [after_lux, hin.ch]
    exact hdark n
  · rw [after_lane_exposing]
    exact hexposing l

/-! ### The stages -/

theorem powerDownPhaseEnd_runs (hphase : s.power.phase = .powerDown) (hstage : s.power.stage ≠ 3) (hint : s.clk.interval = false)
    (hcancel : s.power.offCancel = false) : exec .powerDownPhaseEnd s = .next (s.after s.clearOut.offPhase) := by
  rw [exec_powerDownPhaseEnd, execPowerDownPhaseEnd, perform_after]
  simp [hphase, hstage, hint, hcancel]

theorem pfwStageDeadline_runs (hphase : s.power.phase = .mainsLoss) (hint : s.clk.interval = false) :
    exec .pfwStageDeadline s = .next (s.after s.clearOut.pfwStage) := by
  rw [exec_pfwStageDeadline, execPfwStageDeadline, perform_after, if_pos (by simp [hphase, hint])]

theorem offPhase_last (hstage : 5 ≤ s.power.stage) : s.offPhase = s.toOff := by
  unfold State.offPhase
  dsimp only
  split <;> first | rfl | omega

theorem pfwStage_last (hstage : 4 ≤ s.power.stage) : s.pfwStage = s.toOff := by
  unfold State.pfwStage
  dsimp only
  split <;> first | rfl | omega

/-- Nothing but U20 is kept into OFF. -/
theorem toOff_keeps (hon : s.power.onLatched = false) : (s.after s.clearOut.toOff).power = { mains := s.power.mains }
    ∧ (s.after s.clearOut.toOff).flash.dev = s.flash.dev
    ∧ (s.flash.op = none → (s.after s.clearOut.toOff).flash.cells = s.flash.cells)
    ∧ ∀ p, p ∉ [Part.power, .pins, .flash, .free] → Part.same State.reset (s.after s.clearOut.toOff) p := by
  obtain ⟨f, n, hcut⟩ := cutFlash_eq s.clearOut
  have hpower : s.clearOut.cutFlash.power = s.power := by rw [hcut]; rfl
  have hoff : s.clearOut.toOff = s.clearOut.cutFlash.blank := by
    simp [State.toOff, hpower, hon]
  rw [hoff]
  refine ⟨?_, ?_, fun hop => ?_, fun p hp => ?_⟩
  · simp [State.blank, hpower]
  · simp [State.blank, cutFlash_dev]
  · rw [cutFlash_of_no_op (s := s.clearOut) hop]
    simp [State.blank]
  · have hsame : s.clearOut.cutFlash.blank.modPower id = s.clearOut.cutFlash.blank := rfl
    rw [← hsame]
    exact same_reset_after_blank s s.clearOut.cutFlash id p hp

/-! ### The ports at 56 ms (R186) -/

/-- The bus and the windings stand as they were. -/
def State.wound (s : State) (l : Lane) : Bool × Bool × AxisSt := (s.pwr.busOk, (s.lane l).arun.energised, (s.lane l).axis)

theorem lose_wound (x : LaneSt) : x.lose.arun = x.arun ∧ x.lose.axis = x.axis := by
  unfold LaneSt.lose
  dsimp only
  split <;> exact ⟨rfl, rfl⟩

theorem wound_modLane {f : LaneSt → LaneSt} (hf : ∀ x, (f x).arun = x.arun ∧ (f x).axis = x.axis) (k : Lane) :
    (s.modLane k f).wound l = s.wound l := by
  unfold State.wound
  rw [State.modLane_pwr]
  by_cases hk : l = k
  · subst hk
    rw [State.modLane_lane, (hf _).1, (hf _).2]
  · rw [lane_modLane_other hk]

theorem wound_setOut (o : Output) (b : Bool) : (s.setOut o b).wound l = s.wound l := by
  cases l <;> rfl

theorem wound_headOff (k : Lane) : (s.headOff k).wound l = s.wound l := by
  cases l <;> cases k <;> rfl

theorem wound_linkDown (k : Lane) : (s.linkDown k).wound l = s.wound l := by
  have hlink : ∀ {t : State} {f : LinkSt → LinkSt}, (t.modLink k f).wound l = t.wound l := fun {_ _} => by
    refine wound_modLane ?_ k
    exact fun _ => ⟨rfl, rfl⟩
  have hlrun : ∀ {t : State} {f : LinkRun → LinkRun}, (t.modLrun k f).wound l = t.wound l := fun {_ _} => by
    refine wound_modLane ?_ k
    exact fun _ => ⟨rfl, rfl⟩
  unfold State.linkDown
  dsimp only
  rw [hlrun, wound_modLane lose_wound, hlink]

/-- A lane's ports unpowered. -/
def State.portOff (s : State) (k : Lane) : State := ((s.headOff k).setOut (magOut k) false).linkDown k

theorem outputsOff_eq (s : State) : s.outputsOff = (s.portOff .a).portOff .b := by
  rw [State.outputsOff, List.foldl_cons, List.foldl_cons, List.foldl_nil, State.portOff, State.portOff]

theorem portOff_wound (k : Lane) : (s.portOff k).wound l = s.wound l :=
  (wound_linkDown k).trans ((wound_setOut (magOut k) false).trans (wound_headOff k))

theorem portOff_power (s : State) (k : Lane) : (s.portOff k).power = s.power := by
  simp [State.portOff, State.linkDown, State.headOff, State.setOut]

theorem portOff_pwr (s : State) (k : Lane) : (s.portOff k).pwr = ((s.setOut (headOut k) false).setOut (magOut k) false).pwr := by
  simp [State.portOff, State.linkDown, State.headOff, State.setOut]

/-- Every switched output is off. -/
theorem allOff (s : State) (o : Output) : (s.outputsOff.setOut .aux false).outOn o = false := by
  have hoff : ∀ (t u : State) (o : Output), t.pwr = u.pwr → (t.setOut o false).pwr = (u.setOut o false).pwr := fun t u o h => by
    simp only [State.setOut, State.modPwr_pwr, h]
  have hpwr : (s.outputsOff.setOut .aux false).pwr = (((((s.setOut .headA false).setOut .magA false).setOut .headB false).setOut
      .magB false).setOut .aux false).pwr := by
    rw [outputsOff_eq]
    refine hoff _ _ _ ((portOff_pwr _ .b).trans ?_)
    exact hoff _ _ _ (hoff _ _ _ (portOff_pwr s .a))
  rw [State.outOn, hpwr]
  cases o <;> simp [State.setOut, outIdx, List.getD_eq_getElem?_getD, List.getElem?_set] <;> split <;> rfl

/-- Settles O17: the stages that only wait, PFW, the ports off at 56 ms, and OFF. -/
theorem powerDownPhases : Obligations.PowerDownPhases := by
  unfold Obligations.PowerDownPhases
  refine ⟨?_, ?_, fun s => pfw_in_run, ?_, ?_, ?_⟩
  · intro s hs hphase hstage hint hcancel
    have hnext : s.clearOut.offPhase = s.clearOut.modPower (fun p => { p with stage := p.stage + 1 }) := by
      simp [State.offPhase, hstage]
    refine ⟨_, powerDownPhaseEnd_runs hphase (by omega) hint hcancel, ?_, ?_⟩
    · simp [hnext, hstage]
    · rw [hnext]
      exact frame_modPower hs _
  · intro s hphase hstage hint hcancel hon
    refine ⟨_, powerDownPhaseEnd_runs hphase (by omega) hint hcancel, ?_⟩
    rw [offPhase_last (s := s.clearOut) hstage]
    exact toOff_keeps hon
  · intro s hs hphase hstage hint
    have hnext : s.clearOut.pfwStage = s.clearOut.modPower (fun p => { p with stage := p.stage + 1 }) := by
      simp [State.pfwStage, hstage]
    refine ⟨_, pfwStageDeadline_runs hphase hint, ?_, ?_⟩
    · simp [hnext, hstage]
    · rw [hnext]
      exact frame_modPower hs _
  · intro s hphase hstage hint
    have hnext : s.clearOut.pfwStage =
        (s.clearOut.outputsOff.setOut .aux false).modPower (fun p => { p with stage := p.stage + 1 }) := by
      simp [State.pfwStage, hstage]
    have hpower : (s.clearOut.outputsOff.setOut .aux false).power = s.power := by
      rw [outputsOff_eq, State.setOut, State.modPwr_power, portOff_power, portOff_power, State.clearOut_power]
    have hwound : ∀ l, (s.clearOut.outputsOff.setOut .aux false).wound l = s.wound l := fun l => by
      rw [outputsOff_eq, wound_setOut, portOff_wound, portOff_wound]
      cases l <;> rfl
    refine ⟨_, pfwStageDeadline_runs hphase hint, ?_, fun o => ?_, ?_, fun l => ⟨?_, ?_⟩⟩
    · simp [hnext, hpower, hstage]
    · rw [hnext, State.outOn, after_pwr, State.modPower_pwr]
      exact allOff s.clearOut o
    · rw [hnext, after_pwr, State.modPower_pwr]
      exact congrArg Prod.fst (hwound .a)
    · rw [hnext, after_lane_arun, State.modPower_lane]
      exact congrArg (fun x => x.2.1) (hwound l)
    · rw [hnext, after_lane_axis, State.modPower_lane]
      exact congrArg (fun x => x.2.2) (hwound l)
  · intro s hphase hstage hint hon
    refine ⟨_, pfwStageDeadline_runs hphase hint, ?_⟩
    rw [pfwStage_last (s := s.clearOut) hstage]
    exact toOff_keeps hon

end Sys2Proof.Machine
end


section
/-!
PROOFS. The anchor edge and the spread pattern (R139, R144, R149, R150, R161, R164).
-/

namespace Sys2Proof.Machine

variable {s t : State} {l : Lane}

/-! ### What runs, records and U20 commands alter -/

/-- The parts that the ends of runs and the commands held back alter: none of clock, timers, power and memories. -/
def sundry : List Part := [.sys, .log, .flash, .mem, .pwr, .hk, .lux, .lane .a, .lane .b]

theorem mem_sundry_lane (l : Lane) : .lane l ∈ sundry := by
  cases l <;> simp [sundry]

theorem kept_sundry (s : State) : Kept (Alters sundry s) where
  lane h := h.modLane (mem_sundry_lane _)
  lux h := h.modLux (by simp [sundry])
  log h := h.modLog (by simp [sundry])
  mark h := h.mark
  event h := h.event
  gang h := h.modSys (by simp [sundry])
  out h := h.modPwr (by simp [sundry])

namespace Alters

/-! ### U20 (R275, R562) -/

theorem openSector {n} (h : Alters sundry s t) : Alters sundry s (t.openSector n) := by
  have hissue : ∀ {t op}, Alters sundry s t → Alters sundry s (t.issue op) := fun h => h.modFlash (by simp [sundry])
  unfold State.openSector
  dsimp only
  split
  · exact hissue h
  · refine hissue ?_
    unfold State.noteReclaim
    split
    · exact h
    · exact (h.note (by simp [sundry])).modFlash (by simp [sundry])

theorem programPage (h : Alters sundry s t) : Alters sundry s t.programPage := by
  unfold State.programPage
  dsimp only
  split
  · exact h
  · exact (h.modLog (by simp [sundry])).modFlash (by simp [sundry])

theorem eraseAhead {n} (h : Alters sundry s t) : Alters sundry s (t.eraseAhead n) := by
  unfold State.eraseAhead
  split
  · exact (h.modLog (by simp [sundry])).modFlash (by simp [sundry])
  · exact h.modLog (by simp [sundry])

theorem ringStep (h : Alters sundry s t) : Alters sundry s t.ringStep := by
  have hlog : Alters sundry s (t.modLog LogSt.settle) := h.modLog (by simp [sundry])
  unfold State.ringStep
  dsimp only
  split
  · exact hlog
  · split
    · exact hlog.eraseAhead
    · split
      · exact hlog.openSector
      · split
        · exact hlog
        · split
          · exact hlog.openSector
          · exact hlog.programPage

theorem calOp (h : Alters sundry s t) : Alters sundry s (t.calOp l) := by
  have hissue : ∀ op, Alters sundry s (t.issue op) := fun _ => h.modFlash (by simp [sundry])
  unfold State.calOp
  dsimp only
  split
  · exact h
  · split
    · exact hissue _
    · split
      · exact hissue _
      · split
        · exact hissue _
        · exact h

theorem flashNext (h : Alters sundry s t) : Alters sundry s t.flashNext := by
  unfold State.flashNext
  dsimp only
  split
  · exact h.ringStep
  · exact h.ringStep.calOp.calOp

/-! ### Debug halt (R544) -/

theorem haltSettle (h : Alters sundry s t) : Alters sundry s t.haltSettle := by
  unfold State.haltSettle
  split
  · exact h
  · extract_lets s1
    have h1 : Alters sundry s s1 := Alters.foldl (fun {t l} h => by
      split
      · exact h.modMode (mem_sundry_lane l)
      · exact h) _ h
    split
    · exact afterH_alters ((h1.modSys (by simp [sundry])).note (by simp [sundry])) (by simp [sundry]) (by simp [sundry])
        (by simp [sundry]) (by simp [sundry]) (by simp [sundry])
    · exact h1

/-! ### What an interval held back (R141, R277, R444) -/

theorem framesOwed (h : Alters sundry s t) : Alters sundry s t.framesOwed := by
  have k := kept_sundry s
  have hdrops : Alters sundry s (t.lux.dropDue.foldl (fun s h => s.busSend (dropFrame h)) (t.modLux (fun x => { x with dropDue := [] }))) :=
    Alters.foldl (fun h => k.busSend h) _ (h.modLux (by simp [sundry]))
  unfold State.framesOwed
  refine Alters.foldl (fun {t a} h => ?_) _ hdrops
  split
  · exact k.modLightHead (k.busSend h)
  · exact h

theorem lossesDue (h : Alters sundry s t) : Alters sundry s (t.lossesDue l) := by
  have k := kept_sundry s
  have hptr : ∀ {t : State} {n : Nat}, Alters sundry s t → Alters sundry s (t.ptrMismatch l n) := fun {t n} h => by
    unfold State.ptrMismatch
    extract_lets open_ code s1 s2
    have h2 : Alters sundry s s2 := k.till (k.recordL h)
    split
    · exact k.voidCal (k.clearTill h2)
    · split
      · exact k.flushTill (k.gangAbort h2)
      · split
        · exact k.flushEnd h2
        · exact k.clearTill h2
  have hlost : ∀ {t : State}, Alters sundry s t → Alters sundry s (t.linkLost l 1) := fun {t} h => by
    unfold State.linkLost
    split
    · exact h
    · extract_lets s1 s2 s3
      have h3 : Alters sundry s s3 := k.lrun (k.link (k.lane (k.linkTrain (k.recordL h))))
      split
      · exact k.failSeam h3
      · exact h3
  unfold State.lossesDue
  extract_lets r s1 s2
  have h1 : Alters sundry s s1 := k.lrun h
  have h2 : Alters sundry s s2 := by
    unfold s2
    split
    · exact h1
    · exact hptr h1
  split
  · exact hlost h2
  · exact h2

theorem afterInterval (h : Alters sundry s t) : Alters sundry s t.afterInterval := by
  have k := kept_sundry s
  have hstaged : Alters sundry s ([0, 1, 2, 3].foldl State.stageFirst t.framesOwed) :=
    Alters.foldl (fun h => k.stageFirst h) _ h.framesOwed
  have hretry : ∀ {t : State}, Alters sundry s t → Alters sundry s t.retryIssue := fun h => by
    unfold State.retryIssue
    exact h.modFlash (by simp [sundry])
  unfold State.afterInterval
  exact haltSettle (k.pump (k.pump (flashNext (hretry (lossesDue (lossesDue hstaged))))))

theorem doomConv (h : Alters sundry s t) : Alters sundry s t.doomConv := by
  unfold State.doomConv
  exact h.modHk (by simp [sundry])

theorem restartEntry (h : Alters sundry s t) : Alters sundry s (t.restartEntry l) := by
  have k := kept_sundry s
  unfold State.restartEntry
  dsimp only
  split
  · exact h
  · exact h
  · exact h
  · split
    · exact k.mode h
    · exact k.plan (k.mode h)
  · exact h

end Alters

/-! ### The anchor edge -/

/-- The alignment shown. -/
def ClkSt.aligned (c : ClkSt) (us : Nat) (ps : Int) : ClkSt := { c with alignUs := min 255 us, alignPs := ps }

/-- The alignment shown, and the core off the reference. -/
def ClkSt.offRef (c : ClkSt) (us : Nat) (ps : Int) : ClkSt := { c.aligned us ps with onRef := false, attempts := 0 }

/-- Every lane's shutter open to its next line cycle (R140), conversions discarded, and what the interval held back. -/
def State.resumed (s : State) : State :=
  ((s.modLane .a (fun x => { x with shut := false })).modLane .b (fun x => { x with shut := false })).doomConv.afterInterval

theorem resumed_alters (s : State) : Alters sundry s s.resumed := by
  unfold State.resumed
  exact ((((Alters.refl _ s).modLane (mem_sundry_lane .a)).modLane (mem_sundry_lane .b)).doomConv).afterInterval

theorem anchor_first {us : Nat} {ps d : Int} (hlocked : s.clk.locked = true) (hint : s.clk.interval = false)
    (hfirst : (s.power.phase = .bringup ∧ s.power.stage = 3) ∨ (s.power.phase = .wake ∧ s.power.stage = 2)) :
    s.anchor us ps d = s.modClk (fun c => c.aligned us ps) := by
  have hint' : (s.modClk (fun c => c.aligned us ps)).clk.interval = false := hint
  rcases hfirst with ⟨hphase, hstage⟩ | ⟨hphase, hstage⟩ <;>
    · unfold State.anchor
      rw [if_neg (by simp [hlocked, hphase, hstage])]
      exact if_pos (congrArg Bool.not hint')

theorem anchor_interval {us : Nat} {ps d : Int} (hlocked : s.clk.locked = true) (hint : s.clk.interval = true) :
    s.anchor us ps d =
      (let u := s.modClk (fun c => c.offRef us ps)
       let u := if s.clk.hold then u.holdEnd d else u
       (if u.clk.pause then u.commitEnd else u).resumed) := by
  have hint' : (s.modClk (fun c => c.aligned us ps)).clk.interval = true := hint
  unfold State.anchor
  rw [if_neg (by simp [hlocked, hint])]
  exact if_neg (by rw [show (s.modClk fun c => { c with alignUs := min 255 us, alignPs := ps }).clk.interval = true from hint']; decide)

/-- The end of a clock commit: the clock in force, and the records of it. -/
theorem commitEnd_keeps (s : State) : s.commitEnd.clk.onRef = s.clk.onRef ∧ s.commitEnd.clk.pause = false
    ∧ s.commitEnd.clk.fcode = s.clk.nextF ∧ s.commitEnd.clk.attempts = s.clk.attempts ∧ s.commitEnd.clk.alignUs = s.clk.alignUs
    ∧ s.commitEnd.clk.alignPs = s.clk.alignPs ∧ s.commitEnd.tmr.tsc = s.tmr.tsc ∧ s.commitEnd.power = s.power := by
  unfold State.commitEnd State.judgeBand
  dsimp only
  split <;> simp [State.setBand, State.carryPre]

/-- The end of a holdover: its length and drift in the clock, and the entries restarted. -/
theorem holdEnd_keeps (s : State) (d : Int) : (s.holdEnd d).clk =
      { s.clk with hold := false, holdUs := min 65535 (s.age s.clk.tripTsc / 25), drift := d }
    ∧ (s.holdEnd d).tmr = s.tmr ∧ (s.holdEnd d).power = s.power := by
  have halters : Alters sundry (s.modClk (fun c => { c with hold := false, holdUs := min 65535 (s.age s.clk.tripTsc / 25), drift := d }))
      (s.holdEnd d) := by
    unfold State.holdEnd
    exact ((Alters.refl _ _).modHk (by simp [sundry])).restartEntry.restartEntry
  exact ⟨halters .clk (by simp [sundry]), halters .tmr (by simp [sundry]), halters .power (by simp [sundry])⟩

theorem anchorEdge_commit {us : Nat} {ps d : Int} (hlocked : s.clk.locked = true) (hint : s.clk.interval = true)
    (hhold : s.clk.hold = false) (hpause : s.clk.pause = true) : ∃ t, exec (.anchorEdge us ps d) s = .next t
      ∧ t.clk.onRef = false ∧ t.clk.pause = false ∧ t.clk.fcode = s.clk.nextF ∧ t.clk.attempts = 0
      ∧ t.clk.alignUs = min 255 us ∧ t.clk.alignPs = ps ∧ t.tmr.tsc = s.tmr.tsc ∧ t.power = s.power := by
  have heffect : exec (.anchorEdge us ps d) s = .next (s.after ((s.clearOut.modClk (fun c => c.offRef us ps)).commitEnd.resumed)) := by
    have hanchor := anchor_interval (s := s.clearOut) (us := us) (ps := ps) (d := d) hlocked hint
    simp only [State.clearOut_clk, hhold, Bool.false_eq_true, if_false] at hanchor
    have hpause' : (s.clearOut.modClk (fun c => c.offRef us ps)).clk.pause = true := hpause
    rw [if_pos hpause'] at hanchor
    rw [exec_anchorEdge, execAnchorEdge, perform_after, hanchor]
  obtain ⟨honRef, hpaused, hfcode, hattempts, hus, hps, htsc, hpower⟩ := commitEnd_keeps
    (s.clearOut.modClk (fun c => c.offRef us ps))
  generalize (s.clearOut.modClk (fun c => c.offRef us ps)).commitEnd = u at *
  have hclk : u.resumed.clk = u.clk := resumed_alters u .clk (by simp [sundry])
  have htmr : u.resumed.tmr = u.tmr := resumed_alters u .tmr (by simp [sundry])
  have hpow : u.resumed.power = u.power := resumed_alters u .power (by simp [sundry])
  refine ⟨_, heffect, ?_⟩
  simp only [after_clk, after_tmr, after_power, hclk, htmr, hpow]
  exact ⟨honRef, hpaused, hfcode, hattempts, hus, hps, htsc, hpower⟩

theorem age_of_le (h : s.clk.tripTsc ≤ s.tmr.tsc) (hlt : s.tmr.tsc < 2 ^ 48) : s.age s.clk.tripTsc = s.tmr.tsc - s.clk.tripTsc := by
  unfold State.age
  omega

theorem anchorEdge_holdover {us : Nat} {ps d : Int} (hlocked : s.clk.locked = true) (hint : s.clk.interval = true)
    (hhold : s.clk.hold = true) (hpause : s.clk.pause = false) (hage : s.clk.tripTsc ≤ s.tmr.tsc) (hlt : s.tmr.tsc < 2 ^ 48) :
    ∃ t, exec (.anchorEdge us ps d) s = .next t
      ∧ t.clk = { s.clk with
          onRef := false, hold := false, attempts := 0, alignUs := min 255 us, alignPs := ps, drift := d
          holdUs := min 65535 ((s.tmr.tsc - s.clk.tripTsc) / 25) }
      ∧ t.tmr.tsc = s.tmr.tsc ∧ t.power = s.power := by
  obtain ⟨hclk, htmr, hpower⟩ := holdEnd_keeps
    (s.clearOut.modClk (fun c => c.offRef us ps)) d
  have hnopause : ((s.clearOut.modClk (fun c => c.offRef us ps)).holdEnd d).clk.pause = false := by
    rw [hclk]
    exact hpause
  have heffect : exec (.anchorEdge us ps d) s = .next (s.after (((s.clearOut.modClk (fun c => c.offRef us ps)).holdEnd d).resumed)) := by
    have hanchor := anchor_interval (s := s.clearOut) (us := us) (ps := ps) (d := d) hlocked hint
    simp only [State.clearOut_clk, hhold, if_true] at hanchor
    rw [if_neg (by rw [hnopause]; decide)] at hanchor
    rw [exec_anchorEdge, execAnchorEdge, perform_after, hanchor]
  generalize (s.clearOut.modClk (fun c => c.offRef us ps)).holdEnd d = u at *
  have hage' : (s.clearOut.modClk (fun c => c.offRef us ps)).age s.clk.tripTsc =
      s.tmr.tsc - s.clk.tripTsc := age_of_le hage hlt
  refine ⟨_, heffect, ?_, ?_, ?_⟩
  · rw [after_clk, resumed_alters u .clk (by simp [sundry]), hclk]
    have hlength : min 65535 ((s.clearOut.modClk (fun c => c.offRef us ps)).age s.clk.tripTsc / 25) =
        min 65535 ((s.tmr.tsc - s.clk.tripTsc) / 25) := by rw [hage']
    exact congrArg (fun n => { s.clk.offRef us ps with hold := false, holdUs := n, drift := d }) hlength
  · rw [after_tmr, resumed_alters u .tmr (by simp [sundry]), htmr]
    rfl
  · rw [after_power, resumed_alters u .power (by simp [sundry]), hpower]
    rfl

/-! ### The spread pattern (R149, R150) -/

theorem spreadPatternChange_effect (hs : s.Settled) {n : Nat} (hnext : s.patternNext = n) :
    ∃ t, exec .spreadPatternChange s = .next t ∧ t.clk = { s.clk with pattern := n } ∧ Frame [.clk] s t := by
  have heffect : exec .spreadPatternChange s = .next (s.after (s.clearOut.modClk (fun c => { c with pattern := n }))) := by
    have hnext' : s.clearOut.patternNext = n := hnext
    rw [exec_spreadPatternChange, execSpreadPatternChange, perform_after, hnext']
  exact ⟨_, heffect, by simp, ((Alters.refl _ s.clearOut).modClk (by simp)).frame hs⟩

theorem patternNext_off (h : s.clk.spread = 0 ∨ s.sys.safe = true ∨ s.clk.hold = true ∨ s.clk.onRef = true
    ∨ s.clk.locked = false ∨ ((s.power.phase = .bringup ∨ s.power.phase = .engineReset) ∧ s.power.stepDone < 6)) :
    s.patternNext = 0 := by
  have hdue : s.patternDue = 0 := by
    unfold State.patternDue
    refine if_pos ?_
    rcases h with h | h | h | h | h | ⟨hphase | hphase, hstep⟩
    · simp [h]
    · simp [h]
    · simp [h]
    · simp [h]
    · simp [h]
    · simp [hphase, hstep]
    · simp [hphase, hstep]
  simp [State.patternNext, hdue]

theorem patternDue_on (hspread : s.clk.spread ≠ 0) (hsafe : s.sys.safe = false) (hhold : s.clk.hold = false)
    (href : s.clk.onRef = false) (hlocked : s.clk.locked = true) (hbring : s.power.phase ≠ .bringup)
    (hreset : s.power.phase ≠ .engineReset) : s.patternDue =
      if [s.laneA, s.laneB].any (fun x => x.mode.mode != .none && x.mode.mode != .idle) then 2 else 1 := by
  unfold State.patternDue
  refine if_neg ?_
  cases hphase : s.power.phase <;> simp_all

/-- Settles O26: the first alignment, a commit's and a holdover's anchor edge, and the patterns. -/
theorem anchorEdgeAndSpread : Obligations.AnchorEdgeAndSpread := by
  unfold Obligations.AnchorEdgeAndSpread
  refine ⟨?_, fun us ps d s => anchorEdge_commit, fun us ps d s => anchorEdge_holdover,
    fun s hs h => spreadPatternChange_effect hs (patternNext_off h), ?_, ?_⟩
  · intro us ps d s hs hlocked hint hfirst
    have heffect : exec (.anchorEdge us ps d) s = .next (s.after (s.clearOut.modClk (fun c => c.aligned us ps))) := by
      rw [exec_anchorEdge, execAnchorEdge, perform_after, anchor_first (s := s.clearOut) hlocked hint hfirst]
    exact ⟨_, heffect, by rw [after_clk]; rfl, ((Alters.refl _ s.clearOut).modClk (by simp)).frame hs⟩
  · intro s hs hspread hsafe hhold href hlocked hbring hreset hlanes
    have hdue := patternDue_on hspread hsafe hhold href hlocked hbring hreset
    have ha : (s.laneA.mode.mode = .none ∨ s.laneA.mode.mode = .idle) := hlanes .a
    have hb : (s.laneB.mode.mode = .none ∨ s.laneB.mode.mode = .idle) := hlanes .b
    rw [if_neg (by simp only [List.any_cons, List.any_nil]; rcases ha with ha | ha <;> rcases hb with hb | hb <;> simp [ha, hb])] at hdue
    exact spreadPatternChange_effect hs (by simp [State.patternNext, hdue])
  · intro l s hs hspread hsafe hhold href hlocked hbring hreset hnone hidle
    have hdue := patternDue_on hspread hsafe hhold href hlocked hbring hreset
    have hany : [s.laneA, s.laneB].any (fun x => x.mode.mode != .none && x.mode.mode != .idle) = true := by
      rw [List.any_eq_true]
      exact ⟨s.lane l, by cases l <;> simp [State.lane], by simp [hnone, hidle]⟩
    rw [if_pos hany] at hdue
    exact spreadPatternChange_effect hs (by simp [State.patternNext, hdue])

end Sys2Proof.Machine
end


section
/-!
PROOFS. SAFE and what it leaves standing (R553 to R556), and the clock commit with the locks and their attempts (R138, R141,
R143, R144, R161, R166).
-/

namespace Sys2Proof.Machine

variable {s t : State} {l : Lane}

/-! ### What SAFE alters -/

/-- The parts that stopping both lanes and unpowering the ports alter. -/
def stopParts : List Part := .bank :: .free :: sundry

theorem mem_stopParts_lane (l : Lane) : .lane l ∈ stopParts := by
  cases l <;> simp [stopParts, sundry]

theorem keptByStop_alters (s : State) : KeptByStop (Alters stopParts s) where
  lane _ h := h.modLane (mem_stopParts_lane _)
  lux h := h.modLux (by simp [stopParts, sundry])
  log h := h.modLog (by simp [stopParts, sundry])
  mark h := h.mark
  event h := h.event
  flash h := h.modFlash (by simp [stopParts, sundry])
  mem h := h.modMem (by simp [stopParts, sundry])
  bank h := h.setBank (by simp [stopParts])
  free h := h.takeFree (by simp [stopParts])
  sys h := h.modSys (by simp [stopParts, sundry])
  out h := h.modPwr (by simp [stopParts, sundry])

theorem endEntry_alters (s : State) : Alters [.tmr, .log] s s.endEntry := by
  have hbad : ∀ {t n}, Alters [.tmr, .log] s t → Alters [.tmr, .log] s (t.lfBad n) := fun {t n} h => by
    unfold State.lfBad
    split
    · exact ((h.modTmr (by simp)).mark).note (by simp)
    · exact h.note (by simp)
  unfold State.endEntry
  split
  · exact Alters.refl _ s
  · split
    · exact crystalStable_alters s
    · dsimp only
      split
      · exact hbad ((Alters.refl _ s).modTmr (by simp))
      · exact (Alters.refl _ s).modTmr (by simp)

theorem endEntry_fixed (h : s.power.phase ≠ .sleepEntry) : s.endEntry = s := by
  unfold State.endEntry
  exact if_pos (by simpa using h)

/-- The lanes stopped, the ports unpowered and the lights off, as SAFE has them. -/
def State.quenched (s : State) (cause : Nat) : State := ((s.stopBoth 9 false cause).clearHalt).portsOff.lightsOff

theorem quenched_alters (s : State) (cause : Nat) : Alters stopParts s (s.quenched cause) := by
  have k := keptByStop_alters s
  unfold State.quenched State.lightsOff
  exact k.lux (k.portsOff (k.clearHalt (k.stopBoth (Alters.refl _ s))))

/-- A power-down goes on in SAFE, but for one that WAKE has cancelled (R96). -/
def PowerSt.goesOn (p : PowerSt) : Bool := (p.phase = .powerDown && !p.offCancel) || p.phase = .mainsLoss

/-- The state in SAFE, before its record. -/
def State.safed (s : State) : State :=
  let s := (s.modClk (fun c => { c with pattern := 0 })).modSys (fun y =>
    { y with safe := true, service := false, serviceEnd := false, ready := false })
  if s.power.goesOn then s else s.modPower (fun p => { p with phase := .run, stage := 0, offCancel := false })

/-- The records of SAFE, that of a holdover without a reference among them (R165). -/
def State.safeNoted (s : State) (cause b : Nat) : State :=
  let s := if s.clk.hold && s.clk.refLost && cause != 0x2003 then s.record 0x2003 4 b else s
  s.record 0x0030 4 b [cause]

theorem enterSafe_eq (s : State) (cause : Nat) :
    s.enterSafe cause = (s.endEntry.quenched cause).safed.safeNoted cause s.safeBits := by
  unfold State.enterSafe State.quenched
  dsimp only
  generalize ((s.endEntry.stopBoth 9 false cause).clearHalt).portsOff.lightsOff = u
  rfl

theorem enterSafe_alters (s : State) (cause : Nat) : Alters [.log] (s.endEntry.quenched cause).safed (s.enterSafe cause) := by
  rw [enterSafe_eq]
  unfold State.safeNoted
  exact (Alters.ite ((Alters.refl _ _).record (by simp)) (Alters.refl _ _)).record (by simp)

/-- SAFE, on the clock `c`, in a phase in which the pins stand. -/
structure State.InSafe (c : ClkSt) (s : State) : Prop where
  safe  : s.sys.safe = true
  ready : s.sys.ready = false
  clk   : s.clk = c
  off   : s.power.phase ≠ .off
  sleep : s.power.phase ≠ .sleep

theorem safed_inSafe (s : State) : s.safed.InSafe { s.clk with pattern := 0 } := by
  unfold State.safed
  dsimp only
  split
  · rename_i hon
    have hphase : s.power.phase = .powerDown ∨ s.power.phase = .mainsLoss := by
      simp only [PowerSt.goesOn, State.modSys_power, State.modClk_power, Bool.or_eq_true, Bool.and_eq_true] at hon
      exact hon.imp (fun h => of_decide_eq_true h.1) of_decide_eq_true
    refine ⟨by simp, by simp, by simp, ?_, ?_⟩ <;> rcases hphase with h | h <;> simp [h]
  · exact ⟨by simp, by simp, by simp, by simp, by simp⟩

theorem Alters.inSafe {c : ClkSt} (h : Alters [.log] s t) (hs : s.InSafe c) : t.InSafe c := by
  have hsys : t.sys.bare = s.sys.bare := h .sys (by simp)
  have hclk : t.clk = s.clk := h .clk (by simp)
  have hpower : t.power = s.power := h .power (by simp)
  exact ⟨(congrArg SysSt.safe hsys).trans hs.safe, (congrArg SysSt.ready hsys).trans hs.ready, hclk.trans hs.clk,
    hpower ▸ hs.off, hpower ▸ hs.sleep⟩

/-- SAFE entered keeps the clock but for the spread pattern. -/
theorem enterSafe_inSafe (s : State) (cause : Nat) : (s.enterSafe cause).InSafe { s.clk with pattern := 0 } := by
  have hentry : s.endEntry.clk = s.clk := endEntry_alters s .clk (by simp)
  have hquenched : (s.endEntry.quenched cause).clk = s.endEntry.clk := quenched_alters s.endEntry cause .clk (by simp [stopParts, sundry])
  have h := (enterSafe_alters s cause).inSafe (safed_inSafe (s.endEntry.quenched cause))
  rwa [hquenched, hentry] at h

theorem engineSafe_inSafe {code : Nat} {d : List Nat} (h : s.sys.safe = false) :
    (s.engineSafe code d).InSafe { s.clk with pattern := 0 } := by
  unfold State.engineSafe
  rw [if_neg (by simp [h])]
  have hsafe := enterSafe_inSafe (s.record code 4 s.safeBits d) code
  rwa [State.record_clk] at hsafe

/-- FAULT_N is low in SAFE (R571). -/
theorem State.InSafe.faultN_low {c : ClkSt} (h : t.InSafe c) (s : State) : (s.after t).sys.faultN = false := by
  refine (after_pinsStand s t).faultN_low ?_ ?_ (Or.inl ?_)
  · rw [after_power]; exact h.off
  · rw [after_power]; exact h.sleep
  · rw [after_sys_safe]; exact h.safe

/-! ### OFF_REQ latched before SAFE (R98, Table 3.8) -/

theorem kept_safe (b : Bool) : Kept (fun t => t.sys.safe = b) where
  lane h := by simpa using h
  lux h := by simpa using h
  log h := by simpa using h
  mark h := h
  event h := by simpa using h
  gang h := h
  out h := by simpa [State.setOut] using h

theorem kept_inSafe (c : ClkSt) : Kept (State.InSafe c) where
  lane h := ⟨by simp [h.safe], by simp [h.ready], by simp [h.clk], by simp [h.off], by simp [h.sleep]⟩
  lux h := ⟨by simp [h.safe], by simp [h.ready], by simp [h.clk], by simp [h.off], by simp [h.sleep]⟩
  log h := ⟨by simp [h.safe], by simp [h.ready], by simp [h.clk], by simp [h.off], by simp [h.sleep]⟩
  mark h := ⟨h.safe, h.ready, h.clk, h.off, h.sleep⟩
  event h := ⟨by simp [h.safe], by simp [h.ready], by simp [h.clk], by simp [h.off], by simp [h.sleep]⟩
  gang h := ⟨h.safe, h.ready, h.clk, h.off, h.sleep⟩
  out h := ⟨h.safe, h.ready, h.clk, h.off, h.sleep⟩

theorem abandonStart_inSafe {c : ClkSt} {n : Nat} (h : s.InSafe c) : (s.abandonStart n).InSafe c := by
  have k := kept_inSafe c
  have hoff := k.out (o := .aux) (k.lightsOff (k.portsOff (k.note (c := 0x0010) (d := [n]) h)))
  unfold State.abandonStart
  dsimp only
  generalize (s.note 0x0010 [n]).portsOff.lightsOff.setOut .aux false = u at hoff ⊢
  exact ⟨by simp [hoff.safe], by simp [hoff.ready], by simp [hoff.clk], by simp, by simp⟩

theorem beginOff_inSafe {c : ClkSt} {n : Nat} (h : s.InSafe c) : (s.beginOff n).InSafe c := by
  have k := kept_inSafe c
  have hhalt : s.clearHalt.InSafe c := by
    unfold State.clearHalt
    exact k.mode (k.mode (s := s.modSys (fun y => { y with haltReq := false, haltPend := false, haltActive := false }))
      ⟨h.safe, h.ready, h.clk, h.off, h.sleep⟩)
  unfold State.beginOff
  generalize s.clearHalt = u at hhalt ⊢
  refine k.stopRuns (fun {u b} (h : u.InSafe c) => ⟨h.safe, h.ready, h.clk, h.off, h.sleep⟩)
    (fun {u} (h : u.InSafe c) => ⟨h.safe, h.ready, h.clk, h.off, h.sleep⟩) ?_
  exact ⟨by simp [hhalt.safe], by simp, by simp [hhalt.clk], by simp, by simp⟩

theorem offInSafe_inSafe {c : ClkSt} {was : Phase} {n : Nat} (h : s.InSafe c) : (s.offInSafe was n).InSafe c := by
  have hlatched : (s.latchedOff n).InSafe c := by
    unfold State.latchedOff
    split
    · exact abandonStart_inSafe h
    · exact h
  unfold State.offInSafe
  split
  · exact hlatched
  · exact hlatched
  · split
    · exact beginOff_inSafe h
    · exact h

/-! ### The clock commit (R143, R144) -/

/-- The clock as a commit begins. -/
def ClkSt.committing (c : ClkSt) : ClkSt :=
  { c with pause := true, onRef := true, locked := false, pattern := 0, attempts := 0, oldF := c.fcode }

/-- A conversion in progress is to be discarded. -/
def HkConv.doom (c : HkConv) : HkConv := { c with doomed := c.doomed || c.running || c.checking }

/-- What was being read is not published. -/
def LaneSt.parked (x : LaneSt) : LaneSt := { x with head := { x.head with readout := none } }

theorem parkOutputs_lane (s : State) (l : Lane) : s.parkOutputs.lane l = (s.lane l).parked := by
  cases l <;> rfl

theorem Alters.parkOutputs {ps : List Part} (h : Alters ps s t) (ha : .lane .a ∈ ps) (hb : .lane .b ∈ ps) :
    Alters ps s t.parkOutputs := (h.modHead ha).modHead hb

theorem applyWrite_clk {r : Req} (hu : r.unit = 2) (hne : r.items ≠ []) : s.applyWrite r = (s.clkWrite r).mark 2 := by
  have hloud : r.items.all (fun q => quietWord 2 q.1) = false := by
    obtain ⟨q, qs, hq⟩ := List.exists_cons_of_ne_nil hne
    simp [hq, quietWord]
  unfold State.applyWrite
  simp_all

theorem clkWrite_commit (s : State) (e : Nat) : s.clkWrite (hostWrite 2 2 [1] e) = s.beginClkCommit := by
  have hnext : ∀ n, (hostWrite 2 2 [1] e).put 0x001 4 n = n := fun n => by
    rw [Req.put, hostWrite_at_other (by decide)]
    rfl
  have hset : (hostWrite 2 2 [1] e).sets 0x002 0 = true := by
    simp [Req.sets, Req.val, hostWrite_at_own, bit]
  unfold State.clkWrite
  simp only [hnext, hset, if_true]
  rfl

theorem beginClkCommit_alters (s : State) : Alters [.clk, .hk, .lane .a, .lane .b] s s.beginClkCommit := by
  unfold State.beginClkCommit State.doomConv
  exact (((Alters.refl _ s).modClk (by simp)).modHk (by simp)).parkOutputs (by simp) (by simp)

theorem parked_bare (x y : LaneSt) (h : x.bare = y.bare) : x.parked.bare = y.parked.bare :=
  congrArg LaneSt.parked h

theorem clkCtrlCommit_effect {e : Nat} (hs : s.Settled) (ha : s.Accepts (hostWrite 2 2 [1] e)) :
    ∃ t, exec (.clkCtrlCommit e) s = .next t ∧ t.Replied (hostWrite 2 2 [1] e) [] ∧ t.clk = s.clk.committing
      ∧ t.hk = { s.hk with a := s.hk.a.doom, b := s.hk.b.doom } ∧ (∀ l, (t.lane l).bare = (s.lane l).parked.bare)
      ∧ Frame [.clk, .hk, .lane .a, .lane .b] s t := by
  have heffect := (frameEffect_write (s := s.mgtOpen.clearOut) (r := hostWrite 2 2 [1] e) rfl rfl 0 0).trans
    ((applyWrite_clk (s := s.mgtOpen.clearOut) (r := hostWrite 2 2 [1] e) rfl (by simp [hostWrite, Req.items])).trans
      (congrArg (State.mark · 2) (clkWrite_commit s.mgtOpen.clearOut e)))
  obtain ⟨w, k, hexec, hreply⟩ := oneWrite_answered ha heffect
  refine ⟨_, hexec, hreply, by rw [answered_clk]; rfl, by rw [answered_hk]; rfl, fun l => ?_,
    (beginClkCommit_alters s.mgtOpen.clearOut).mark.frame_answered hs⟩
  rw [answered_lane, after_lane_bare, State.mark_lane]
  unfold State.beginClkCommit
  rw [parkOutputs_lane]
  refine parked_bare _ _ ?_
  simp [State.doomConv]

/-! ### Lock and its attempts (R138, R161, R166) -/

theorem lockGood_eq {us : Nat} (hlocking : s.locking = true) (honce : s.clk.hold = false ∨ s.clk.attempts = 0) :
    s.lockGood us = s.modClk (fun c => { c with
      locked := true, lockUs := min 255 us, tries := if c.hold then s.clk.attempts + 1 else c.tries }) := by
  unfold State.lockGood
  rw [hlocking]
  rcases honce with h | h
  · simp [h]
  · simp [h]

theorem lockBad_again (hlocking : s.locking = true) (hfew : s.clk.attempts < 2) : s.lockBad = s.modClk (fun c =>
    { c with attempts := s.clk.attempts + 1, tries := if c.hold then s.clk.attempts + 1 else c.tries }) := by
  unfold State.lockBad
  rw [hlocking, if_neg (by decide)]
  exact if_pos (by omega)

theorem lockBad_inSafe (hlocking : s.locking = true) (hmany : 2 ≤ s.clk.attempts) (hsafe : s.sys.safe = false) :
    ∃ c, s.lockBad.InSafe c ∧ c.onRef = true ∧ c.pause = false := by
  unfold State.lockBad
  rw [hlocking]
  dsimp only
  rw [if_neg (by decide), if_neg (by omega)]
  refine ⟨_, offInSafe_inSafe (engineSafe_inSafe (by simpa using hsafe)), by simp, by simp⟩

/-- Settles O25: the commit's write, the lock, a failed attempt and the third one. -/
theorem clockCommitAndLock : Obligations.ClockCommitAndLock := by
  unfold Obligations.ClockCommitAndLock
  refine ⟨fun e s => clkCtrlCommit_effect, ?_, ?_, ?_⟩
  · intro us s hs hlocking honce
    have heffect : exec (.pllLock us) s = .next (s.after (s.clearOut.lockGood us)) := by
      rw [exec_pllLock, execPllLock, perform_after]
    rw [lockGood_eq (s := s.clearOut) hlocking honce] at heffect
    exact ⟨_, heffect, by rw [after_clk]; rfl, ((Alters.refl _ s.clearOut).modClk (by simp)).frame hs⟩
  · intro s hs hlocking hfew
    have heffect : exec .pllLockTimeout s = .next (s.after s.clearOut.lockBad) := by
      rw [exec_pllLockTimeout, execPllLockTimeout, perform_after]
    rw [lockBad_again (s := s.clearOut) hlocking hfew] at heffect
    exact ⟨_, heffect, by rw [after_clk]; rfl, ((Alters.refl _ s.clearOut).modClk (by simp)).frame hs⟩
  · intro s hlocking hmany hsafe
    have heffect : exec .pllLockTimeout s = .next (s.after s.clearOut.lockBad) := by
      rw [exec_pllLockTimeout, execPllLockTimeout, perform_after]
    obtain ⟨c, hin, href, hpause⟩ := lockBad_inSafe (s := s.clearOut) hlocking hmany hsafe
    refine ⟨_, heffect, ?_, ?_, hin.faultN_low s, ?_, ?_⟩
    · rw [after_sys_safe, hin.safe]
    · rw [after_sys_ready, hin.ready]
    · rw [after_clk, hin.clk, href]
    · rw [after_clk, hin.clk, hpause]

end Sys2Proof.Machine
end


section
/-!
PROOFS. Holdover: the trip lane by lane, the line limit, and the switch (R152 to R165).
-/

namespace Sys2Proof.Machine

variable {s t : State} {l : Lane}

/-! ### What sending alters -/

/-- The update touches what a lane sends and stores alone: its Till, its link and the seams that it owes. -/
def SendPart (f : LaneSt → LaneSt) : Prop :=
  ∀ x, f x = { x with till := (f x).till, link := (f x).link, lrun := (f x).lrun, owedSeams := (f x).owedSeams }

/-- `P` is kept by such updates of a lane, and by epoch marks. -/
structure KeptBySending (l : Lane) (P : State → Prop) : Prop where
  lane : ∀ {s f}, SendPart f → P s → P (State.modLane s l f)
  mark : ∀ {s u}, P s → P (State.mark s u)

namespace KeptBySending

variable {P : State → Prop} (k : KeptBySending l P)
include k

theorem byLink : KeptByLink l P := ⟨fun hf h => k.lane (fun x => by rw [(hf x).1]) h, k.mark⟩

theorem till {f} (h : P t) : P (t.modTill l f) := k.lane (fun _ => rfl) h
theorem lrun {f} (h : P t) : P (t.modLrun l f) := k.lane (fun _ => rfl) h

theorem releaseFrom {n} (h : P t) : P (t.releaseFrom l n) := by
  unfold State.releaseFrom State.setWptr
  dsimp only
  split
  · exact h
  · exact k.lane (fun _ => rfl) (k.till (k.till h))

theorem abandonLine {n c b} (h : P t) : P (t.abandonLine l n c b) := by
  have h1 := k.releaseFrom (n := n) h
  unfold State.abandonLine
  generalize t.releaseFrom l n = x at h1
  dsimp only
  split
  · exact k.lrun h1
  · split
    · exact k.byLink.sendFrame (k.lrun h1)
    · exact k.byLink.pump (k.lrun h1)

end KeptBySending

/-- A lane's exposure and read-out, and its motion. -/
def LaneSt.working (x : LaneSt) : Option LineCtx × Option LineCtx × Option Motion := (x.exposing, x.reading, x.arun.motion)

/-- Sending on either lane leaves every lane's work as it was. -/
theorem keptBySending_working (l j : Lane) (v : Option LineCtx × Option LineCtx × Option Motion) :
    KeptBySending l (fun t => (t.lane j).working = v) where
  lane {s f} hf h := by
    by_cases hj : j = l
    · subst hj
      rw [State.modLane_lane, hf (s.lane j)]
      exact h
    · rw [lane_modLane_other hj]
      exact h
  mark h := by rw [State.mark_lane]; exact h

theorem abandonLine_working (t : State) (l : Lane) (n c : Nat) (b : Bool) (j : Lane) :
    ((t.abandonLine l n c b).lane j).working = (t.lane j).working := (keptBySending_working l j _).abandonLine rfl

/-! ### Exposures taken back -/

/-- An exposure taken back is given up, or stands: nothing else of the lane's run changes. -/
structure TakenBack (x y : LaneSt) : Prop where
  exposing : y.exposing = x.exposing ∨ y.exposing = none
  mode     : y.mode = x.mode
  cal      : y.cal = x.cal
  head     : y.head = x.head
  reading  : y.reading = x.reading
  stopMask : y.stopMask = x.stopMask
  arun     : y.arun = x.arun

theorem TakenBack.refl (x : LaneSt) : TakenBack x x := ⟨Or.inl rfl, rfl, rfl, rfl, rfl, rfl, rfl⟩

theorem unexposeIf_takenBack (s : State) (l : Lane) (b : LineCtx → Bool) :
    Alters [.lane l] s (s.unexposeIf l b) ∧ TakenBack (s.lane l) ((s.unexposeIf l b).lane l) := by
  unfold State.unexposeIf
  split
  · exact ⟨Alters.refl _ s, TakenBack.refl _⟩
  · split
    · exact ⟨Alters.refl _ s, TakenBack.refl _⟩
    · refine ⟨((Alters.refl _ s).modLane (by simp)).modLane (by simp), ?_⟩
      unfold State.rewind
      rw [State.modLane_lane, State.modLane_lane]
      exact ⟨Or.inr rfl, rfl, rfl, rfl, rfl, rfl, rfl⟩

/-! ### A lane at the trip (R154, R155) -/

/-- A line that stays is marked suspect, and no capture begins. -/
def LaneSt.tripped (x : LaneSt) : LaneSt :=
  { x with
    exposing := x.exposing.map (fun c => { c with suspect := true }), reading := x.reading.map (fun c => { c with suspect := true })
    capture := false }

theorem tripLane_solo (hsolo : s.sys.gang = false) (hacq : s.acquiring l = false) (henter : (s.lane l).mode.entering = false)
    (hseam : s.seamOpen l = false) : s.tripLane l = ((s.unexposeAt l).modLane l LaneSt.tripped).seamDue l 2 := by
  unfold State.tripLane
  simp only [hacq, henter, hseam, hsolo, Bool.false_and, Bool.false_eq_true, if_false]
  have hgang : ((s.unexposeAt l).modLane l LaneSt.tripped).sys.gang = false := by
    rw [State.modLane_sys]
    exact (congrArg SysSt.gang ((unexposeIf_takenBack s l _).1 .sys (by simp))).trans hsolo
  exact if_neg (fun h => absurd (hgang.symm.trans (Bool.and_eq_true_iff.mp h).1) (by decide))

theorem seamOpen_tripped (hsolo : s.sys.gang = false) (hseam : s.seamOpen l = false) :
    ((s.unexposeAt l).modLane l LaneSt.tripped).seamOpen l = false := by
  obtain ⟨halters, hback⟩ := unexposeIf_takenBack s l (fun c => decide ((s.lane l).head.period < s.cyclesOf c + (s.lane l).head.tInt))
  have hgang : (s.unexposeAt l).sys.gang = false := (congrArg SysSt.gang (halters .sys (by simp))).trans hsolo
  have htmr : (s.unexposeAt l).tmr = s.tmr := halters .tmr (by simp)
  have hclk : (s.unexposeAt l).clk = s.clk := halters .clk (by simp)
  have hmode : ((s.unexposeAt l).lane l).mode = (s.lane l).mode := hback.mode
  have harun : ((s.unexposeAt l).lane l).arun = (s.lane l).arun := hback.arun
  have hhead : ((s.unexposeAt l).lane l).head = (s.lane l).head := hback.head
  have hexp : ((s.unexposeAt l).lane l).exposing = (s.lane l).exposing ∨ ((s.unexposeAt l).lane l).exposing = none := hback.exposing
  simp only [State.seamOpen, State.carriage, hsolo, State.modLane_sys, hgang, Bool.false_eq_true, if_false, State.modLane_lane,
    LaneSt.tripped, State.capturesRun, State.inRun, hmode, harun, State.exposed, State.cyclesOf, State.age, State.modLane_tmr,
    State.modLane_clk, htmr, hclk, hhead] at hseam ⊢
  rcases hexp with h | h
  · rw [h]
    cases hc : (s.lane l).exposing with
    | none => simp
    | some c => simpa [hc] using hseam
  · rw [h]
    simp

/-- A seam called for on a lane with no open seam, in no gang. -/
theorem seamDue_solo {b : Nat} (hsolo : s.sys.gang = false) (hseam : s.seamOpen l = false) : s.seamDue l b =
    if !s.capturesRun l then s
    else if (s.lane l).mode.mode = .smoulder then
      (if b = 16 && (s.lane l).axis.phase = .approach then s.modArun l (fun a => { a with mask := a.mask ||| b })
        else (s.modArun l (fun a => { a with mask := a.mask ||| b })).abandonSeam l)
    else s.modLane l (fun x => { x with stopMask := some ((x.stopMask.getD 0) ||| b) }) := by
  unfold State.seamDue State.partners
  rw [hseam, hsolo]
  simp

theorem seamDue_mode {b : Nat} (hsolo : s.sys.gang = false) (hseam : s.seamOpen l = false) :
    ((s.seamDue l b).lane l).mode = (s.lane l).mode := by
  have hkept : KeptByAxis l (fun t => (t.lane l).mode = (s.lane l).mode) :=
    ⟨fun {t f} hf h => by rw [State.modLane_lane, hf (t.lane l)]; exact h⟩
  rw [seamDue_solo hsolo hseam]
  split
  · rfl
  · split
    · split
      · exact hkept.arun rfl
      · exact hkept.abandonSeam (hkept.arun rfl)
    · rw [State.modLane_lane]

theorem brakeNow_mode (s : State) (l j : Lane) : ((s.brakeNow l).lane j).mode = (s.lane j).mode := by
  unfold State.brakeNow
  split
  · rfl
  · cases l <;> cases j <;> rfl

theorem tripLane_entering (hsolo : s.sys.gang = false) (henter : (s.lane l).mode.entering = true) :
    s.tripLane l = s.brakeNow l := by
  unfold State.tripLane
  rw [if_neg (by simp [henter]), if_pos henter, if_neg (by simp [hsolo])]

/-- The lane as the seam's call finds it. -/
theorem tripped_lane (s : State) (l : Lane) : ∃ x, TakenBack (s.lane l) x
    ∧ ((s.unexposeAt l).modLane l LaneSt.tripped).lane l = x.tripped :=
  ⟨_, (unexposeIf_takenBack s l _).2, by rw [State.modLane_lane]; rfl⟩

theorem tripped_gang (hsolo : s.sys.gang = false) : ((s.unexposeAt l).modLane l LaneSt.tripped).sys.gang = false := by
  rw [State.modLane_sys]
  exact (congrArg SysSt.gang ((unexposeIf_takenBack s l _).1 .sys (by simp))).trans hsolo

theorem tripLane_mode (hsolo : s.sys.gang = false) (hcase : (s.lane l).mode.entering = true
    ∨ (s.acquiring l = false ∧ s.seamOpen l = false)) : ((s.tripLane l).lane l).mode = (s.lane l).mode := by
  cases henter : (s.lane l).mode.entering
  · obtain ⟨hacq, hseam⟩ := hcase.resolve_left (by simp [henter])
    obtain ⟨x, hback, hlane⟩ := tripped_lane s l
    rw [tripLane_solo hsolo hacq henter hseam, seamDue_mode (tripped_gang hsolo) (seamOpen_tripped hsolo hseam), hlane]
    exact hback.mode
  · rw [tripLane_entering hsolo henter, brakeNow_mode]

theorem acquiring_false_of_captures (hrun : s.capturesRun l = true) : s.acquiring l = false := by
  simp only [State.capturesRun, State.acquiring, Bool.and_eq_true] at *
  cases hmode : (s.lane l).mode.mode <;> simp_all [ModeSt.work, capturing, calibrating]

theorem capturesRun_tripped : ((s.unexposeAt l).modLane l LaneSt.tripped).capturesRun l = s.capturesRun l := by
  obtain ⟨x, hback, hlane⟩ := tripped_lane s l
  simp only [State.capturesRun, State.inRun, hlane, LaneSt.tripped, hback.mode]

theorem tripLane_capturing (hsolo : s.sys.gang = false) (hrun : s.capturesRun l = true)
    (henter : (s.lane l).mode.entering = false) (hseam : s.seamOpen l = false) (hmode : (s.lane l).mode.mode ≠ .smoulder) :
    ((s.tripLane l).lane l).stopMask = some (((s.lane l).stopMask.getD 0) ||| 2)
      ∧ ((s.tripLane l).lane l).reading = (s.lane l).reading.map (fun c => { c with suspect := true }) := by
  obtain ⟨x, hback, hlane⟩ := tripped_lane s l
  rw [tripLane_solo hsolo (acquiring_false_of_captures hrun) henter hseam,
    seamDue_solo (tripped_gang hsolo) (seamOpen_tripped hsolo hseam), capturesRun_tripped, hrun, hlane,
    if_neg (by decide), if_neg (by simpa [LaneSt.tripped, hback.mode] using hmode), State.modLane_lane, hlane]
  simp [LaneSt.tripped, hback.stopMask, hback.reading]

theorem abandonSeam_mask (s : State) (l : Lane) : ((s.abandonSeam l).lane l).arun.mask = (s.lane l).arun.mask := by
  have hbrake : ∀ t : State, ((t.brakeNow l).lane l).arun.mask = (t.lane l).arun.mask := fun t => by
    unfold State.brakeNow State.setMotion
    split
    · rfl
    · rw [State.modArun_lane]
  unfold State.abandonSeam
  dsimp only
  split
  · rw [State.modAxis_lane]
    exact (hbrake _).trans (by rw [State.modArun_lane])
  · rw [State.modAxis_lane]
    exact (hbrake _).trans (by rw [State.modArun_lane])
  · rw [State.modAxis_lane, State.modArun_lane]
  · rw [State.modAxis_lane, State.modArun_lane]
  · rw [State.modArun_lane]

theorem tripLane_smoulder (hsolo : s.sys.gang = false) (hrun : s.capturesRun l = true)
    (henter : (s.lane l).mode.entering = false) (hseam : s.seamOpen l = false) (hmode : (s.lane l).mode.mode = .smoulder) :
    ((s.tripLane l).lane l).arun.mask = ((s.lane l).arun.mask ||| 2) := by
  obtain ⟨x, hback, hlane⟩ := tripped_lane s l
  rw [tripLane_solo hsolo (acquiring_false_of_captures hrun) henter hseam,
    seamDue_solo (tripped_gang hsolo) (seamOpen_tripped hsolo hseam), capturesRun_tripped, hrun, hlane,
    if_neg (by decide), if_pos (by simpa [LaneSt.tripped, hback.mode] using hmode), if_neg (by simp), abandonSeam_mask,
    State.modArun_lane, hlane]
  simp [LaneSt.tripped, hback.arun]

/-! ### A calibration run at the trip (R120) -/

/-- A lane's mode and its commits. -/
def LaneSt.modeCal (x : LaneSt) : ModeSt × CalSt := (x.mode, x.cal)

/-- A mode that is ending, in no entry. -/
def ModeSt.ended (y : ModeSt) : ModeSt := { y with ending := true, entering := false, entry := none }

theorem beginEnding_modeCal (t : State) (l : Lane) :
    ((t.beginEnding l).lane l).modeCal = ((t.lane l).mode.ended, (t.lane l).cal) := by
  have hkept : LuxKept (fun x => (x.lane l).modeCal = ((t.lane l).mode.ended, (t.lane l).cal)) := fun s f h => by simpa using h
  unfold State.beginEnding
  extract_lets s1 s2 s3 s4
  have h3 : (s3.lane l).modeCal = ((t.lane l).mode.ended, (t.lane l).cal) := by
    simp [s3, s2, s1, LaneSt.modeCal, ModeSt.ended]
  split
  · exact h3
  · refine hkept.plan ?_
    unfold s4
    split
    · exact hkept.discard h3
    · exact h3

theorem voidCal_modeCal {c : Nat} (hacq : s.acquiring l = true) : ∃ k, k.result = 4
    ∧ ((s.voidCal l c).lane l).modeCal = ((s.lane l).mode.ended, k) := by
  have hkept : ∀ v, KeptByAxis l (fun t => (t.lane l).modeCal = v) := fun v =>
    ⟨fun {t f} hf h => by rw [State.modLane_lane, hf (t.lane l)]; exact h⟩
  unfold State.voidCal
  rw [if_pos hacq]
  extract_lets s1 s2
  have h2 : (s2.lane l).modeCal = ((s.lane l).mode.ended, (s1.lane l).cal) := by
    refine (beginEnding_modeCal _ l).trans ?_
    rw [State.discardLane, discard_lane, State.modPix_lane]
    simp [s1]
  refine ⟨(s1.lane l).cal, by simp [s1], (hkept _).brakeNow ?_⟩
  unfold State.giveExposure State.holdGate
  rw [State.modLane_lane, State.modLane_lane, State.modLane_lane]
  exact h2

theorem acquiring_takenBack (hback : TakenBack (s.lane l) (t.lane l)) : t.acquiring l = s.acquiring l := by
  simp only [State.acquiring, State.inRun, hback.mode]

theorem tripLane_acquiring (hacq : s.acquiring l = true) (henter : (s.lane l).mode.entering = false) :
    ((s.tripLane l).lane l).mode.mode = (s.lane l).mode.mode ∧ ((s.tripLane l).lane l).mode.ending = true
      ∧ ((s.tripLane l).lane l).cal.result = 4 := by
  have hback : TakenBack (s.lane l) ((s.unexposeAt l).lane l) := (unexposeIf_takenBack s l _).2
  obtain ⟨k, hresult, hlane⟩ := voidCal_modeCal (s := s.unexposeAt l) (c := 2) ((acquiring_takenBack hback).trans hacq)
  unfold State.tripLane
  rw [if_pos (by simp [hacq, henter])]
  have hmode : (((s.unexposeAt l).voidCal l 2).lane l).mode = ((s.unexposeAt l).lane l).mode.ended := congrArg Prod.fst hlane
  have hcal : (((s.unexposeAt l).voidCal l 2).lane l).cal = k := congrArg Prod.snd hlane
  rw [hmode, hcal, hback.mode]
  exact ⟨rfl, rfl, hresult⟩

/-! ### The trip (R153 to R158) -/

theorem keptAt_reSmoulder {P : State → Prop} {b : Nat} (k : KeptAt l P) (hsolo : s.sys.gang = false) (h : P s) :
    P (s.reSmoulder l b) := by
  unfold State.reSmoulder State.partners State.carriage
  simp only [hsolo, Bool.false_eq_true, if_false, List.foldl_cons, List.foldl_nil]
  exact k.axis (k.brakeNow (k.arun (k.toMode (k.mode (fun _ => rfl) (k.lane (fun _ => rfl) (k.unexposeIf h))))))

theorem keptAt_abandonSeam {P : State → Prop} (k : KeptAt l P) (h : P s) : P (s.abandonSeam l) := by
  unfold State.abandonSeam
  dsimp only
  split
  · exact k.axis (k.brakeNow (k.arun h))
  · exact k.axis (k.brakeNow (k.arun h))
  · exact k.axis (k.arun h)
  · exact k.axis (k.arun h)
  · exact k.arun h

theorem keptAt_seamDue {P : State → Prop} {b : Nat} (k : KeptAt l P) (hsolo : s.sys.gang = false) (h : P s) :
    P (s.seamDue l b) := by
  cases hseam : s.seamOpen l
  · rw [seamDue_solo hsolo hseam]
    split
    · exact h
    · split
      · split
        · exact k.arun h
        · exact keptAt_abandonSeam k (k.arun h)
      · exact k.lane (fun _ => rfl) h
  · unfold State.seamDue
    rw [if_pos hseam]
    exact keptAt_reSmoulder k hsolo h

theorem keptAt_tripLane {P : State → Prop} (k : KeptAt l P) (hsolo : s.sys.gang = false) (h : P s) : P (s.tripLane l) := by
  unfold State.tripLane
  extract_lets s1 mark s2
  have h2 : P s2 := k.lane (fun _ => rfl) (k.unexposeIf h)
  split
  · exact k.voidCal (k.unexposeIf h)
  · split
    · split
      · exact h
      · exact k.brakeNow h
    · split
      · split
        · exact h
        · exact keptAt_reSmoulder k hsolo h
      · split
        · exact h2
        · exact keptAt_seamDue k (tripped_gang hsolo) h2

/-- The clock at the trip. -/
def ClkSt.tripped (c : ClkSt) (drift : Int) (ref : Bool) (tsc : Nat) : ClkSt :=
  { c with hold := true, locked := false, pattern := 0, refLost := ref, tripTsc := tsc, holds := satInc 255 c.holds, drift := drift }

/-- The trip before the lanes take it: the clock, and the record. -/
def State.tripNoted (s : State) (drift : Int) (ref : Bool) : State :=
  let ls := s.holdLanes.filter (fun l => !(s.lane l).mode.entering && (s.lane l).mode.mode != .smoulder)
  (s.modClk (fun c => c.tripped drift ref s.tmr.tsc)).record 0x2004 (if ls.isEmpty then 0 else 1)
    ((s.modClk (fun c => c.tripped drift ref s.tmr.tsc)).maskParties ls) [State.laneMask ls, unsigned 16 drift]

/-- What the trip does once the lanes have taken it. -/
def State.tripEnd (s : State) : State :=
  ((s.discard (fun c => c.phaseC || (c.group.isSome && c.party != 0))).modLux (fun x =>
    { x with planned := x.planned.map (fun c => { c with phaseC := false }) })).doomConv

theorem clockTrip_eq (s : State) (d : Int) (ref : Bool) :
    s.clockTrip d ref = (((s.tripNoted d ref).tripLane .a).tripLane .b).tripEnd := by
  unfold State.clockTrip State.tripNoted ClkSt.tripped
  dsimp only
  generalize (State.tripLane _ .a).tripLane .b = u
  rfl

theorem tripEnd_lane (s : State) (l : Lane) : s.tripEnd.lane l = s.lane l := by
  unfold State.tripEnd State.doomConv
  rw [State.modHk_lane, State.modLux_lane, discard_lane]

/-- A lane takes the trip alone: what the other one does leaves it as it is. -/
theorem clockTrip_lane (d : Int) (ref : Bool) (hsolo : s.sys.gang = false) : ∃ u : State, u.sys.gang = false ∧ u.lane l = s.lane l
    ∧ u.tmr = s.tmr ∧ u.clk = s.clk.tripped d ref s.tmr.tsc ∧ (s.clockTrip d ref).lane l = (u.tripLane l).lane l := by
  have hgang : (s.tripNoted d ref).sys.gang = false := by simpa [State.tripNoted] using hsolo
  have hlane : ∀ j, (s.tripNoted d ref).lane j = s.lane j := fun j => by simp [State.tripNoted]
  have htmr : (s.tripNoted d ref).tmr = s.tmr := by simp [State.tripNoted]
  have hclk : (s.tripNoted d ref).clk = s.clk.tripped d ref s.tmr.tsc := by simp [State.tripNoted]
  have hgangA : ((s.tripNoted d ref).tripLane .a).sys.gang = false := keptAt_tripLane (keptAt_gang false) hgang hgang
  rw [clockTrip_eq]
  generalize s.tripNoted d ref = v at *
  cases l with
  | a =>
    refine ⟨v, hgang, hlane .a, htmr, hclk, ?_⟩
    rw [tripEnd_lane]
    exact keptAt_tripLane (keptAt_other _ (by decide)) hgangA rfl
  | b =>
    have halters : Alters [.lane .a, .lux, .log] v (v.tripLane .a) :=
      keptAt_tripLane (keptAt_alters (by simp) (by simp) (by simp)) hgang (Alters.refl _ v)
    refine ⟨v.tripLane .a, hgangA, ?_, ?_, ?_, tripEnd_lane _ _⟩
    · exact (keptAt_tripLane (keptAt_other _ (by decide)) hgang rfl : (v.tripLane .a).lane .b = v.lane .b).trans (hlane .b)
    · exact Eq.trans (show (v.tripLane .a).tmr = v.tmr from halters .tmr (by simp)) htmr
    · exact Eq.trans (show (v.tripLane .a).clk = v.clk from halters .clk (by simp)) hclk

theorem Kept.tripLane {P : State → Prop} (k : Kept P) (h : P s) : P (s.tripLane l) := by
  unfold State.tripLane
  extract_lets s1 mark s2
  have h2 : P s2 := k.lane (k.unexposeIf h)
  split
  · exact k.voidCal (k.unexposeIf h)
  · split
    · split
      · exact h
      · exact k.brakeNow h
    · split
      · split
        · exact h
        · exact k.reSmoulder h
      · split
        · exact h2
        · exact k.seamDue h2

/-- The trip alters the clock as R153 has it, and sundry parts. -/
theorem clockTrip_alters (s : State) (d : Int) (ref : Bool) :
    Alters sundry (s.modClk (fun c => c.tripped d ref s.tmr.tsc)) (s.clockTrip d ref) := by
  have k := kept_sundry (s.modClk (fun c => c.tripped d ref s.tmr.tsc))
  rw [clockTrip_eq]
  unfold State.tripEnd
  exact Alters.doomConv (k.lux (k.discard (k.tripLane (k.tripLane (k.record (Alters.refl _ _))))))

/-- U20 is left alone. -/
theorem clockTrip_flash (s : State) (d : Int) (ref : Bool) : (s.clockTrip d ref).flash = s.flash := by
  have k := kept_flash s
  rw [clockTrip_eq]
  unfold State.tripEnd State.doomConv
  rw [State.modHk_flash]
  exact k.lux (k.discard (k.tripLane (k.tripLane (by simp [State.tripNoted]))))

theorem seamOpen_congr (hlane : t.lane l = s.lane l) (hgang : t.sys.gang = false) (hsolo : s.sys.gang = false)
    (htmr : t.tmr = s.tmr) (hfcode : t.clk.fcode = s.clk.fcode) : t.seamOpen l = s.seamOpen l := by
  simp only [State.seamOpen, State.carriage, hgang, hsolo, Bool.false_eq_true, if_false, State.capturesRun, State.inRun, hlane,
    State.exposed, State.cyclesOf, State.age, htmr, hfcode]

theorem holdoverTrip_runs {d : Int} (h : s.canTrip = true) :
    exec (.holdoverTrip d) s = .next (s.after (s.clearOut.clockTrip d false)) := by
  have h' : s.clearOut.canTrip = true := h
  rw [exec_holdoverTrip, execHoldoverTrip, perform_after, if_pos h']

/-- What the trip makes of a lane, its other lane elsewhere. -/
theorem holdoverTrip_lane {d : Int} (l : Lane) (h : s.canTrip = true) (hsolo : s.sys.gang = false) : ∃ t, exec (.holdoverTrip d) s = .next t
    ∧ ((s.lane l).mode.mode = .none ∨ (s.lane l).mode.mode = .idle → (t.lane l).mode = (s.lane l).mode)
    ∧ (s.acquiring l = true → (s.lane l).mode.entering = false →
      (t.lane l).mode.mode = (s.lane l).mode.mode ∧ (t.lane l).mode.ending = true ∧ (t.lane l).cal.result = 4)
    ∧ (s.acquiring l = false → (s.lane l).mode.entering = false → s.seamOpen l = false → (t.lane l).mode = (s.lane l).mode)
    ∧ ((s.lane l).mode.entering = true → (t.lane l).mode = (s.lane l).mode)
    ∧ (s.capturesRun l = true → (s.lane l).mode.entering = false → s.seamOpen l = false → (s.lane l).mode.mode ≠ .smoulder →
      (t.lane l).stopMask = some (((s.lane l).stopMask.getD 0) ||| 2)
      ∧ (t.lane l).reading = (s.lane l).reading.map (fun c => { c with suspect := true }))
    ∧ (s.capturesRun l = true → (s.lane l).mode.mode = .smoulder → s.seamOpen l = false →
      (s.lane l).mode.entering = false → (t.lane l).arun.mask = ((s.lane l).arun.mask ||| 2)) := by
  obtain ⟨u, hgang, hlane, htmr, hclk, htrip⟩ := clockTrip_lane (s := s.clearOut) (l := l) d false hsolo
  have hmode : (u.lane l).mode = (s.lane l).mode := by rw [hlane, clearOut_lane_mode]
  have hacq : u.acquiring l = s.acquiring l := by simp only [State.acquiring, State.inRun, hmode]
  have hrun : u.capturesRun l = s.capturesRun l := by simp only [State.capturesRun, State.inRun, hmode]
  have hseam : u.seamOpen l = s.seamOpen l := by
    have hfound : s.clearOut.seamOpen l = s.seamOpen l := by
      cases l <;> cases hg : s.sys.gang <;> simp [State.seamOpen, State.carriage, hg, State.capturesRun, State.inRun,
        State.exposed, State.cyclesOf, State.age]
    rw [← hfound]
    exact seamOpen_congr hlane hgang hsolo htmr (by rw [hclk]; rfl)
  refine ⟨_, holdoverTrip_runs h, fun hm => ?_, fun h1 h2 => ?_, fun h1 h2 h3 => ?_, fun h1 => ?_, fun h1 h2 h3 h4 => ?_,
    fun h1 h2 h3 h4 => ?_⟩
  · have hnot : s.acquiring l = false ∧ s.capturesRun l = false := by
      rcases hm with hm | hm <;> simp [State.acquiring, State.capturesRun, State.inRun, hm]
    have hclosed : u.seamOpen l = false := by simp [State.seamOpen, hrun, hnot.2]
    rw [after_lane_mode, htrip, tripLane_mode hgang (Or.inr ⟨hacq.trans hnot.1, hclosed⟩), hmode]
  · rw [after_lane_mode, after_lane_cal, htrip, ← hmode]
    exact tripLane_acquiring (hacq.trans h1) (by rw [hmode]; exact h2)
  · rw [after_lane_mode, htrip, tripLane_mode hgang (Or.inr ⟨hacq.trans h1, hseam.trans h3⟩), hmode]
  · rw [after_lane_mode, htrip, tripLane_mode hgang (Or.inl (by rw [hmode]; exact h1)), hmode]
  · have hcap := tripLane_capturing hgang (hrun.trans h1) (by rw [hmode]; exact h2) (hseam.trans h3) (by rw [hmode]; exact h4)
    rw [hlane, clearOut_lane_stopMask, clearOut_lane_reading] at hcap
    rw [after_lane_stopMask, after_lane_reading, htrip]
    exact hcap
  · have hmask := tripLane_smoulder hgang (hrun.trans h1) (by rw [hmode]; exact h4) (hseam.trans h3) (by rw [hmode]; exact h2)
    rw [hlane, clearOut_lane_arun] at hmask
    rw [after_lane_arun, htrip]
    exact hmask

/-! ### The line limit (R156) -/

/-- A line dropped gives its number to the next; a line before it stays. -/
theorem dropFrom_lane {c : LineCtx} {n : Nat} {b : Bool} :
    ((s.dropFrom l c n b).lane l).exposing = none
      ∧ ((s.dropFrom l c n b).lane l).reading = (s.lane l).reading.filter (fun r => r.num < c.num)
      ∧ ((s.dropFrom l c n b).lane l).nextLine = c.num ∧ ((s.dropFrom l c n b).lane l).resumed = true := by
  have hread : ∀ k, ((s.abandonLine k c.num n b).lane l).reading = (s.lane l).reading := fun k =>
    congrArg (fun x => x.2.1) (abandonLine_working s k c.num n b l)
  unfold State.dropFrom
  extract_lets carrier s1 s2
  have hread1 : (s1.lane l).reading = (s.lane l).reading := hread carrier
  unfold s2 State.rewind State.giveExposure State.holdGate
  simp only [State.modPix_lane, State.modLane_lane, LaneSt.giveUp, hread1]
  exact ⟨trivial, trivial, trivial, trivial⟩

theorem dropFrom_clk {c : LineCtx} {n : Nat} {b : Bool} : (s.dropFrom l c n b).clk = s.clk := by
  have k := kept_clk s
  unfold State.dropFrom
  exact k.pix (k.rewind (k.lane (k.giveExposure (k.abandonLine rfl))))

theorem holdoverLineLimit_runs (hhold : s.clk.hold = true) (href : s.clk.onRef = false) (hrun : s.capturesRun l = true) :
    exec (.holdoverLineLimit l) s = .next (s.after (s.clearOut.lineLimit l)) := by
  have hrun' : s.clearOut.capturesRun l = true := by
    rw [← hrun]
    simp [State.capturesRun, State.inRun]
  rw [exec_holdoverLineLimit, execHoldoverLineLimit, perform_after, if_pos (by simp [hhold, href, hrun'])]

/-- What the line limit leaves of a lane whose line `c` it ends. -/
theorem lineLimit_drops {c : LineCtx} (hdrop : s.clearOut.lineLimit l = s.clearOut.dropFrom l c 19 true) :
    ((s.after (s.clearOut.lineLimit l)).lane l).exposing = none
      ∧ ((s.after (s.clearOut.lineLimit l)).lane l).reading = (s.lane l).reading.filter (fun r => r.num < c.num)
      ∧ ((s.after (s.clearOut.lineLimit l)).lane l).nextLine = c.num
      ∧ ((s.after (s.clearOut.lineLimit l)).lane l).resumed = true ∧ (s.after (s.clearOut.lineLimit l)).clk = s.clk := by
  have hlane := dropFrom_lane (s := s.clearOut) (l := l) (c := c) (n := 19) (b := true)
  rw [clearOut_lane_reading] at hlane
  rw [after_lane_exposing, after_lane_reading, after_lane_nextLine, after_lane_resumed, after_clk, hdrop, dropFrom_clk]
  obtain ⟨hexp, hread, hnext, hres⟩ := hlane
  exact ⟨hexp, hread, hnext, hres, rfl⟩

theorem filter_own (c : LineCtx) : (some c).filter (fun r => decide (r.num < c.num)) = none := by
  simp [Option.filter]

/-! ### The switch (R159, R165) -/

theorem holdoverSwitch_runs (hquiet : s.holdQuiet = true) : exec .holdoverSwitch s = .next (s.after s.clearOut.holdSwitch) := by
  have hquiet' : s.clearOut.holdQuiet = true := hquiet
  rw [exec_holdoverSwitch, execHoldoverSwitch, perform_after, if_pos hquiet']

theorem holdSwitch_ref (hhold : s.clk.hold = true) (href : s.clk.onRef = false) (hlost : s.clk.refLost = false) :
    s.holdSwitch = (s.modClk (fun c => { c with onRef := true, attempts := 0 })).parkOutputs := by
  simp [State.holdSwitch, hhold, href, hlost]

theorem holdSwitch_lost (hhold : s.clk.hold = true) (href : s.clk.onRef = false) (hlost : s.clk.refLost = true)
    (hsafe : s.sys.safe = false) : s.holdSwitch = s.engineSafe 0x2003 := by
  simp [State.holdSwitch, hhold, href, hlost, hsafe, State.refLostSafe]

/-- Settles O27: the trip, a lane at the trip, the three cases of the line limit, and both switches. -/
theorem holdoverTripAndSwitch : Obligations.HoldoverTripAndSwitch := by
  unfold Obligations.HoldoverTripAndSwitch
  refine ⟨?_, fun l d s => holdoverTrip_lane l, ?_, ?_, ?_, ?_, ?_⟩
  · intro d s hcan
    have halters := clockTrip_alters s.clearOut d false
    refine ⟨_, holdoverTrip_runs hcan, ?_, ?_, ?_, ?_, ?_⟩
    · rw [after_clk, halters .clk (by simp [sundry])]
      rfl
    · rw [after_power, halters .power (by simp [sundry])]
      rfl
    · rw [after_tmr, halters .tmr (by simp [sundry])]
      rfl
    · rw [after_flash, clockTrip_flash]
      rfl
    · rw [after_bank, halters .bank (by simp [sundry])]
      rfl
  · intro l c s hhold href hrun hsolo hread hout
    have hread' : (s.clearOut.lane l).reading = some c := by rw [clearOut_lane_reading]; exact hread
    have hout' : s.clearOut.pixelsOut l c = false := by rw [← hout]; cases l <;> rfl
    have hdrop : s.clearOut.lineLimit l = s.clearOut.dropFrom l c 19 true := by
      unfold State.lineLimit
      rw [hread']
      simp [hout']
    obtain ⟨hexp, hr, hnext, hres, hclk⟩ := lineLimit_drops hdrop
    exact ⟨_, holdoverLineLimit_runs hhold href hrun, hexp, by rw [hr, hread, filter_own], hnext, hres, hclk⟩
  · intro l c e s hhold href hrun hsolo hread hout hexp0 hlt
    have hread' : (s.clearOut.lane l).reading = some c := by rw [clearOut_lane_reading]; exact hread
    have hexp' : (s.clearOut.lane l).exposing = some e := by rw [clearOut_lane_exposing]; exact hexp0
    have hout' : s.clearOut.pixelsOut l c = true := by rw [← hout]; cases l <;> rfl
    have hdrop : s.clearOut.lineLimit l = s.clearOut.dropFrom l e 19 true := by
      unfold State.lineLimit
      rw [hread', hexp']
      simp [hout']
    obtain ⟨hexp, hr, hnext, hres, hclk⟩ := lineLimit_drops hdrop
    exact ⟨_, holdoverLineLimit_runs hhold href hrun, hexp, by rw [hr, hread]; simp [Option.filter, hlt], hnext, hres, hclk⟩
  · intro l e s hhold href hrun hsolo hread hexp0
    have hread' : (s.clearOut.lane l).reading = none := by rw [clearOut_lane_reading]; exact hread
    have hexp' : (s.clearOut.lane l).exposing = some e := by rw [clearOut_lane_exposing]; exact hexp0
    have hdrop : s.clearOut.lineLimit l = s.clearOut.dropFrom l e 19 true := by
      unfold State.lineLimit
      rw [hread', hexp']
    obtain ⟨hexp, hr, hnext, hres, hclk⟩ := lineLimit_drops hdrop
    exact ⟨_, holdoverLineLimit_runs hhold href hrun, hexp, by rw [hr, hread]; rfl, hnext, hres, hclk⟩
  · intro s hs hhold href hsafe hquiet hlost
    have heffect := holdoverSwitch_runs hquiet
    rw [holdSwitch_ref (s := s.clearOut) hhold href hlost] at heffect
    refine ⟨_, heffect, by rw [after_clk]; rfl, fun l => ?_,
      (((Alters.refl _ s.clearOut).modClk (by simp)).parkOutputs (by simp) (by simp)).frame hs⟩
    rw [after_lane_bare, parkOutputs_lane]
    exact parked_bare _ _ (by simp)
  · intro s hhold href hsafe hquiet hlost
    have heffect := holdoverSwitch_runs hquiet
    rw [holdSwitch_lost (s := s.clearOut) hhold href hlost hsafe] at heffect
    have hin := engineSafe_inSafe (s := s.clearOut) (code := 0x2003) (d := []) hsafe
    exact ⟨_, heffect, by rw [after_sys_safe, hin.safe], by rw [after_sys_ready, hin.ready], hin.faultN_low s⟩

end Sys2Proof.Machine
end


section
/-!
PROOFS. The end of everything in progress at trip + 8 ms, and the loss of the reference (R159, R160, R165). A lane at rest
stays at rest: nothing that ends a run begins an exposure, a read-out or a motion.
-/

namespace Sys2Proof.Machine

variable {s t : State} {l : Lane}

/-! ### What begins no work -/

/-- The update begins no exposure, no read-out and no motion. -/
def RestPart (f : LaneSt → LaneSt) : Prop := ∀ x, (x.exposing = none → (f x).exposing = none)
  ∧ (x.reading = none → (f x).reading = none) ∧ (x.arun.motion = none → (f x).arun.motion = none)

theorem restPart_same {f : LaneSt → LaneSt} (h : ∀ x, (f x).working = x.working) : RestPart f := fun x =>
  ⟨fun hx => (congrArg Prod.fst (h x)).trans hx, fun hx => (congrArg (fun y => y.2.1) (h x)).trans hx,
    fun hx => (congrArg (fun y => y.2.2) (h x)).trans hx⟩

/-- `P` is kept by such updates, by a motion that brakes and by one that is to stop. -/
structure KeptAtRest (P : State → Prop) : Prop where
  lane  : ∀ {s l f}, RestPart f → P s → P (State.modLane s l f)
  lux   : ∀ {s f}, P s → P (State.modLux s f)
  log   : ∀ {s f}, P s → P (State.modLog s f)
  mark  : ∀ {s u}, P s → P (State.mark s u)
  event : ∀ {s b}, P s → P (State.event s b)
  brake : ∀ {s l}, P s → P (State.brakeNow s l)
  stop  : ∀ {s l n}, P s → P (State.stopAfter s l n)

namespace KeptAtRest

variable {P : State → Prop} (k : KeptAtRest P)
include k

theorem same {f} (hf : ∀ x : LaneSt, (f x).working = x.working) (h : P s) : P (s.modLane l f) := k.lane (restPart_same hf) h
theorem mode {f} (h : P s) : P (s.modMode l f) := k.same (fun _ => rfl) h
theorem pix {f} (h : P s) : P (s.modPix l f) := k.same (fun _ => rfl) h
theorem cal {f} (h : P s) : P (s.modCal l f) := k.same (fun _ => rfl) h
theorem lrun {f} (h : P s) : P (s.modLrun l f) := k.same (fun _ => rfl) h
theorem axis {f} (h : P s) : P (s.modAxis l f) := k.same (fun _ => rfl) h

theorem bySending : KeptBySending l P := ⟨fun hf h => k.same (fun x => by rw [hf x]; rfl) h, k.mark⟩

theorem record {c n p d} (h : P s) : P (s.record c n p d) := by
  have hplace : ∀ {s : State} {r}, P s → P (s.place r).1 := fun {s r} h => k.event (k.log (f := fun _ => (s.log.put r).1) h)
  unfold State.record
  dsimp only
  split
  · exact hplace (k.log (hplace h))
  · exact hplace h

theorem luxKept : LuxKept P := fun _ _ h => k.lux h

theorem beginEnding (h : P s) : P (s.beginEnding l) := by
  unfold State.beginEnding
  extract_lets s1 s2 s3 s4
  have h3 : P s3 := k.axis (k.same (fun _ => rfl) (k.mode h))
  split
  · exact h3
  · refine k.luxKept.plan ?_
    unfold s4
    split
    · exact k.luxKept.discard h3
    · exact h3

theorem endCarriage (h : P s) : P (s.endCarriage l) := by
  unfold State.endCarriage
  split
  · exact h
  · split
    · exact h
    · exact h
    · exact h
    · exact k.brake h

theorem stopRun {e} (h : P s) : P (s.stopRun l e) := by
  unfold State.stopRun
  extract_lets s1 s2
  have h2 : P s2 := k.beginEnding (k.pix (k.lrun h))
  split
  · exact h2
  · split
    · exact k.stop h2
    · exact k.brake h2

theorem unexposeIf {b} (h : P s) : P (s.unexposeIf l b) := by
  unfold State.unexposeIf State.rewind
  split
  · exact h
  · split
    · exact h
    · exact k.same (fun _ => rfl) (k.lane (fun _ => ⟨fun _ => rfl, id, id⟩) h)

theorem giveExposure (h : P s) : P (s.giveExposure l) :=
  k.lane (fun _ => ⟨fun _ => rfl, id, id⟩) (k.same (fun _ => rfl) h)

theorem dropReading (h : P s) : P (s.modLane l (fun x => { x with reading := none })) := k.lane (fun _ => ⟨id, fun _ => rfl, id⟩) h

theorem endRun {e} (h : P s) : P (s.endRun l e) := by
  unfold State.endRun
  refine foldl_keeps (fun {s x} h => ?_) _ h
  dsimp only
  split
  · split
    · split
      · exact k.luxKept.discard (k.lrun h)
      · exact k.lrun h
    · exact h
  · split
    · exact h
    · split
      · exact k.endCarriage (k.beginEnding (k.lrun h))
      · split
        · exact k.luxKept.discard (k.unexposeIf (k.lrun h))
        · exact k.unexposeIf (k.lrun h)

theorem voidCal {c} (h : P s) : P (s.voidCal l c) := by
  unfold State.voidCal
  split
  · have hnoted : P ((s.noteL l 0x9034 [c]).modCal l (fun c =>
        { c with state := if c.state = 1 then 0 else c.state, result := 4, acqKind := 0 })) := k.cal (k.record h)
    exact k.brake (k.dropReading (k.giveExposure (k.beginEnding (k.luxKept.discard (k.pix hnoted)))))
  · exact h

theorem dropFlight {c} (h : P s) : P (s.dropFlight c) := by
  unfold State.dropFlight
  split
  · exact h
  · extract_lets carrier open_ s1 s2
    have h1 : P s1 := k.lrun (k.bySending.releaseFrom h)
    have h2 : P s2 := by
      unfold s2
      split
      · exact h1
      · exact k.lrun h1
    exact foldl_keeps (fun h => k.bySending.byLink.sendFrame h) _ h2

theorem gangAbort {c} (h : P s) : P (s.gangAbort l c) := by
  have hnoted : P (if s.gangOver then s else s.recordL .a 0x8012 2 [laneNo l]) := by
    split
    · exact h
    · exact k.record h
  unfold State.gangAbort
  split
  · exact h
  · refine foldl_keeps (fun {s x} h => ?_) _ (k.dropFlight hnoted)
    have h1 : P ((s.giveExposure x).modLane x (fun x => { x with reading := none })) := k.dropReading (k.giveExposure h)
    dsimp only
    split
    · exact k.stopRun h1
    · split
      · exact k.lrun (k.pix h1)
      · exact k.pix h1

theorem abortFault {a c} (h : P s) : P (s.abortFault l a c) := by
  unfold State.abortFault
  split
  · exact k.gangAbort h
  · split
    · exact k.voidCal h
    · exact k.endRun h

theorem dropFrom {c n b} (h : P s) : P (s.dropFrom l c n b) := by
  unfold State.dropFrom State.rewind
  refine k.pix (k.same (fun _ => rfl) (k.lane (fun x => ⟨id, fun hr => ?_, id⟩) (k.giveExposure (k.bySending.abandonLine h))))
  simp [hr]

theorem dropLine {n b} (h : P s) : P (s.dropLine l n b) := by
  unfold State.dropLine
  split
  · exact h
  · exact k.dropFrom h

theorem freezeAxis {b} (h : P s) : P (s.freezeAxis l b) := by
  unfold State.freezeAxis State.setMotion
  exact k.axis (k.lane (fun _ => ⟨id, id, fun _ => rfl⟩) h)

theorem toMode {m} (h : P s) : P (s.toMode l m) := by
  unfold State.toMode State.rearmLane
  split
  · exact h
  · exact k.lux (k.mode h)

theorem reSmoulder {b} (h : P s) : P (s.reSmoulder l b) := by
  have hlanes : P ((s.partners l).foldl (fun s j =>
      let s := (s.unexposeIf j (fun _ => false)).modLane j (fun x => { x with
        owedSeams := x.owedSeams.dropLast, afterSeam := false, capture := false, stopMask := none
        arun := { x.arun with mask := x.arun.mask ||| b } })
      (s.modMode j (fun y => { y with origin := y.mode })).toMode j .smoulder) s) := by
    refine foldl_keeps (fun {t j} h => ?_) _ h
    exact k.toMode (k.mode (k.same (fun _ => rfl) (k.unexposeIf h)))
  unfold State.reSmoulder
  exact k.axis (k.brake (k.same (fun _ => rfl) hlanes))

theorem abandonSeam (h : P s) : P (s.abandonSeam l) := by
  have h1 : P (s.modArun l (fun a => { a with retryDue := false, offset := 0 })) := k.same (fun _ => rfl) h
  unfold State.abandonSeam
  dsimp only
  split
  · exact k.axis (k.brake h1)
  · exact k.axis (k.brake h1)
  · exact k.axis h1
  · exact k.axis h1
  · exact h1

theorem seamDue {b} (h : P s) : P (s.seamDue l b) := by
  unfold State.seamDue
  split
  · exact k.reSmoulder h
  · refine foldl_keeps (fun {s j} h => ?_) _ h
    split
    · exact h
    · split
      · dsimp only
        split
        · exact k.same (fun _ => rfl) h
        · exact k.abandonSeam (k.same (fun _ => rfl) h)
      · exact k.same (fun _ => rfl) h

theorem tripLane (h : P s) : P (s.tripLane l) := by
  unfold State.tripLane
  extract_lets s1 mark s2
  have h2 : P s2 := k.lane (fun x => ⟨fun hx => by simp [hx], fun hx => by simp [hx], id⟩) (k.unexposeIf h)
  split
  · exact k.voidCal (k.unexposeIf h)
  · split
    · split
      · exact h
      · exact k.brake h
    · split
      · split
        · exact h
        · exact k.reSmoulder h
      · split
        · exact h2
        · exact k.seamDue h2

end KeptAtRest

/-! ### Rest, lane by lane -/

/-- A reading of a lane's work that no update of `RestPart` takes away. -/
theorem keptAtRest_lane {q : LaneSt → Prop} (j : Lane) (hq : ∀ {f x}, RestPart f → q x → q (f x))
    (hbrake : ∀ x m n w, q x → x.arun.motion = some m → q { x with arun := { x.arun with motion := someMotion (m.brake n), why := w } }) :
    KeptAtRest (fun t => q (t.lane j)) := by
  have hlane : ∀ {s : State} {l : Lane} {f : LaneSt → LaneSt}, (q (s.lane l) → q (f (s.lane l))) → q (s.lane j) → q ((s.modLane l f).lane j) :=
    fun {s l f} hf h => by
      by_cases hj : j = l
      · subst hj
        rw [State.modLane_lane]
        exact hf h
      · rw [lane_modLane_other hj]
        exact h
  have hsame : ∀ {s : State} {l : Lane} (f : LaneSt → LaneSt), (∀ x, (f x).working = x.working) → q (s.lane j) →
      q ((s.modLane l f).lane j) := fun f hf h => hlane (fun hx => hq (restPart_same hf) hx) h
  have haxis : ∀ {s : State} {l : Lane} {f : AxisSt → AxisSt}, q (s.lane j) → q ((s.modAxis l f).lane j) := fun {s l f} h =>
    hsame (fun x => { x with axis := f x.axis }) (fun _ => rfl) h
  have harun : ∀ {s : State} {l : Lane} {f : AxisRun → AxisRun}, (∀ a, (f a).motion = a.motion) → q (s.lane j) →
      q ((s.modArun l f).lane j) := fun {s l f} hf h =>
    hsame (fun x => { x with arun := f x.arun }) (fun x => by simp [LaneSt.working, hf]) h
  have hmotion : ∀ {s : State} {l : Lane} {m n w}, (s.lane l).arun.motion = some m → q (s.lane j) →
      q ((s.setMotion l (someMotion (m.brake n)) w).lane j) := fun {s l m n w} hm h => by
    unfold State.setMotion
    exact hlane (fun hx => hbrake _ m n w hx hm) h
  refine ⟨fun hf h => hlane (fun hx => hq hf hx) h, fun h => by simpa using h, fun h => by simpa using h,
    fun h => by rw [State.mark_lane]; exact h, fun h => by simpa using h, fun {s l} h => ?_, fun {s l n} h => ?_⟩
  · unfold State.brakeNow
    split
    · exact h
    · exact hmotion ‹_› h
  · have hstopped : q (((match (s.lane l).arun.motion with
        | none => s
        | some m => if (s.lane l).arun.why = MoveFor.stop then s else s.setMotion l (someMotion (m.brake n)) .stop) : State).lane j) := by
      split
      · exact h
      · split
        · exact h
        · exact hmotion ‹_› h
    unfold State.stopAfter
    exact harun (f := fun a => { a with offset := 0 }) (fun _ => rfl) (haxis hstopped)

theorem keptAtRest_exposing (j : Lane) : KeptAtRest (fun t => (t.lane j).exposing = none) :=
  keptAtRest_lane (q := fun x => x.exposing = none) j (fun hf hx => (hf _).1 hx) (fun _ _ _ _ hx _ => hx)

theorem keptAtRest_reading (j : Lane) : KeptAtRest (fun t => (t.lane j).reading = none) :=
  keptAtRest_lane (q := fun x => x.reading = none) j (fun hf hx => (hf _).2.1 hx) (fun _ _ _ _ hx _ => hx)

theorem keptAtRest_motion (j : Lane) : KeptAtRest (fun t => (t.lane j).arun.motion = none) :=
  keptAtRest_lane (q := fun x => x.arun.motion = none) j (fun hf hx => (hf _).2.2 hx)
    (fun _ _ _ _ hx hm => absurd (hx.symm.trans hm) (by simp))

theorem KeptAtRest.and {P Q : State → Prop} (k : KeptAtRest P) (h : KeptAtRest Q) : KeptAtRest (fun t => P t ∧ Q t) :=
  ⟨fun hf ⟨hp, hq⟩ => ⟨k.lane hf hp, h.lane hf hq⟩, fun ⟨hp, hq⟩ => ⟨k.lux hp, h.lux hq⟩, fun ⟨hp, hq⟩ => ⟨k.log hp, h.log hq⟩,
    fun ⟨hp, hq⟩ => ⟨k.mark hp, h.mark hq⟩, fun ⟨hp, hq⟩ => ⟨k.event hp, h.event hq⟩, fun ⟨hp, hq⟩ => ⟨k.brake hp, h.brake hq⟩,
    fun ⟨hp, hq⟩ => ⟨k.stop hp, h.stop hq⟩⟩

/-- Nothing is in progress on a lane. -/
def LaneSt.AtRest (x : LaneSt) : Prop := (x.exposing = none ∧ x.reading = none) ∧ x.arun.motion = none

theorem keptAtRest (j : Lane) : KeptAtRest (fun t => (t.lane j).AtRest) :=
  ((keptAtRest_exposing j).and (keptAtRest_reading j)).and (keptAtRest_motion j)

/-- What every pass keeps for every lane, and brings about for its own, holds at the end for the lanes that are passed. -/
theorem foldl_each {q : Lane → State → Prop} {f : State → Lane → State} (hkeep : ∀ {s l j}, q j s → q j (f s l))
    (hown : ∀ {s l}, q l (f s l)) (ls : List Lane) {j : Lane} : ∀ {s}, (j ∈ ls ∨ q j s) → q j (ls.foldl f s) := by
  induction ls with
  | nil => exact fun h => h.resolve_left (by simp)
  | cons k ks ih =>
    intro s h
    rw [List.foldl_cons]
    apply ih
    rcases h with h | h
    · rcases List.mem_cons.mp h with rfl | h
      · exact Or.inr hown
      · exact Or.inl h
    · exact Or.inr (hkeep h)

/-! ### trip + 8 ms (R160) -/

/-- A lane's axis halted where it stands. -/
def State.haltAxis (s : State) (l : Lane) : State := (s.freezeAxis l true).modAxis l (fun a => { a with refLost := true })

/-- A lane's part at trip + 8 ms, in no gang. -/
def State.overrunLane (s : State) (l : Lane) : State :=
  let s := (((s.dropLine l 15 false).haltAxis l).record 0x2006 2 (s.laneBits l)).abortFault l 15 0x2006
  if (s.lane l).mode.ending && (s.lane l).lrun.opened then
    s.modLrun l (fun r => { r with ending := some { aborted := true, cause := 15, code := 0x2006 } })
  else s

theorem KeptAtRest.haltAxis {P : State → Prop} (k : KeptAtRest P) (h : P s) : P (s.haltAxis l) := by
  unfold State.haltAxis
  exact k.axis (k.freezeAxis h)

theorem haltAxis_motion (s : State) (l : Lane) : ((s.haltAxis l).lane l).arun.motion = none := by
  simp [State.haltAxis, State.freezeAxis, State.setMotion]

theorem dropLine_lines (s : State) (l : Lane) (n : Nat) (b : Bool) :
    ((s.dropLine l n b).lane l).exposing = none ∧ ((s.dropLine l n b).lane l).reading = none := by
  unfold State.dropLine
  cases hread : (s.lane l).reading with
  | some c =>
    have hdrop := dropFrom_lane (s := s) (l := l) (c := c) (n := n) (b := b)
    rw [hread, filter_own] at hdrop
    exact ⟨hdrop.1, hdrop.2.1⟩
  | none =>
    cases hexp : (s.lane l).exposing with
    | some c =>
      have hdrop := dropFrom_lane (s := s) (l := l) (c := c) (n := n) (b := b)
      rw [hread] at hdrop
      exact ⟨hdrop.1, hdrop.2.1⟩
    | none => exact ⟨hexp, hread⟩

/-- What an overrun lane does keeps, once its line is dropped and its axis halted. -/
theorem KeptAtRest.overrunEnd {P : State → Prop} (k : KeptAtRest P) {u : State} {p : Nat} (h : P u) :
    P (let s := (u.record 0x2006 2 p).abortFault l 15 0x2006
       if (s.lane l).mode.ending && (s.lane l).lrun.opened then
         s.modLrun l (fun r => { r with ending := some { aborted := true, cause := 15, code := 0x2006 } })
       else s) := by
  have habort : P ((u.record 0x2006 2 p).abortFault l 15 0x2006) := k.abortFault (k.record h)
  dsimp only
  split
  · exact k.lrun habort
  · exact habort

theorem KeptAtRest.overrunLane {P : State → Prop} (k : KeptAtRest P) (h : P s) : P (s.overrunLane l) := by
  unfold State.overrunLane
  exact k.overrunEnd (k.haltAxis (k.dropLine h))

theorem overrunLane_rests (s : State) (l : Lane) : ((s.overrunLane l).lane l).AtRest := by
  unfold State.overrunLane
  refine (keptAtRest l).overrunEnd ⟨?_, haltAxis_motion _ l⟩
  exact ((keptAtRest_exposing l).and (keptAtRest_reading l)).haltAxis (dropLine_lines s l 15 false)

/-- The lanes with something in progress. -/
def State.busyLanes (s : State) : List Lane := [Lane.a, Lane.b].filter (fun l =>
  (s.lane l).exposing.isSome || (s.lane l).reading.isSome || (s.lane l).arun.motion.isSome)

theorem busy_or_rests (s : State) (j : Lane) : j ∈ s.busyLanes ∨ (s.lane j).AtRest := by
  by_cases h : j ∈ s.busyLanes
  · exact Or.inl h
  · refine Or.inr ?_
    have hidle : ((s.lane j).exposing.isSome || (s.lane j).reading.isSome || (s.lane j).arun.motion.isSome) = false := by
      rw [State.busyLanes, List.mem_filter] at h
      exact Bool.eq_false_iff.mpr fun hb => h ⟨by cases j <;> simp, hb⟩
    simpa [LaneSt.AtRest, Option.isSome_eq_false_iff, and_assoc] using hidle

/-- The gang's part at trip + 8 ms, one fault of its party (R135). -/
def State.overrunGang (s : State) (l : Lane) (ls : List Lane) : State :=
  ls.foldl (fun s k => (s.giveExposure k).modLane k (fun x => { x with reading := none }))
    (((ls.foldl State.haltAxis s).record 0x2006 2 (s.laneBits l)).gangAbort l 0x2006)

theorem overrunGang_rests {ls : List Lane} {j : Lane} (hbusy : j ∈ ls ∨ (s.lane j).AtRest) :
    ((s.overrunGang l ls).lane j).AtRest := by
  have hmotion : (((ls.foldl State.haltAxis s).record 0x2006 2 (s.laneBits l)).gangAbort l 0x2006 |>.lane j).arun.motion = none := by
    have hhalted : ((ls.foldl State.haltAxis s).lane j).arun.motion = none :=
      foldl_each (q := fun j s => (s.lane j).arun.motion = none) (fun {_ _ j} h => (keptAtRest_motion j).haltAxis h)
        (fun {s l} => haltAxis_motion s l) ls (hbusy.imp id And.right)
    exact (keptAtRest_motion j).gangAbort ((keptAtRest_motion j).record hhalted)
  have hlines : j ∈ ls ∨ ((((ls.foldl State.haltAxis s).record 0x2006 2 (s.laneBits l)).gangAbort l 0x2006).lane j).exposing = none
      ∧ ((((ls.foldl State.haltAxis s).record 0x2006 2 (s.laneBits l)).gangAbort l 0x2006).lane j).reading = none := by
    refine hbusy.imp id fun h => ?_
    have k := (keptAtRest_exposing j).and (keptAtRest_reading j)
    exact k.gangAbort (k.record (foldl_keeps (P := fun t => (t.lane j).exposing = none ∧ (t.lane j).reading = none)
      (fun h => k.haltAxis h) ls h.1))
  unfold State.overrunGang
  refine ⟨foldl_each (q := fun j s => (s.lane j).exposing = none ∧ (s.lane j).reading = none) (fun {s l j} h => ?_)
    (fun {s l} => ?_) ls hlines, ?_⟩
  · have k := (keptAtRest_exposing j).and (keptAtRest_reading j)
    exact k.dropReading (k.giveExposure h)
  · simp [State.giveExposure]
  · exact foldl_keeps (P := fun t => (t.lane j).arun.motion = none) (fun h =>
      (keptAtRest_motion j).dropReading ((keptAtRest_motion j).giveExposure h)) ls hmotion

theorem holdOverrun_eq (hhold : s.clk.hold = true) (href : s.clk.onRef = false) (hsafe : s.sys.safe = false) : s.holdOverrun =
    if !s.sys.gang then s.busyLanes.foldl State.overrunLane s
    else match s.busyLanes with
      | [] => s
      | l :: _ => s.overrunGang l s.busyLanes := by
  unfold State.holdOverrun
  rw [if_neg (by simp [hhold, href, hsafe])]
  rfl

theorem holdOverrun_rests (hhold : s.clk.hold = true) (href : s.clk.onRef = false) (hsafe : s.sys.safe = false) (j : Lane) :
    (s.holdOverrun.lane j).AtRest := by
  rw [holdOverrun_eq hhold href hsafe]
  split
  · exact foldl_each (q := fun j s => (s.lane j).AtRest) (fun {_ _ j} h => (keptAtRest j).overrunLane h)
      (fun {s l} => overrunLane_rests s l) s.busyLanes (busy_or_rests s j)
  · split
    · rename_i hnone
      exact (busy_or_rests s j).resolve_left (by simp [hnone])
    · exact overrunGang_rests (busy_or_rests s j)

theorem keptAtRest_clk (c : ClkSt) : KeptAtRest (fun t => t.clk = c) where
  lane _ h := by simpa using h
  lux h := by simpa using h
  log h := by simpa using h
  mark h := h
  event h := by simpa using h
  brake {s l} h := (kept_clk s).brakeNow rfl |>.trans h
  stop {s l n} h := (kept_clk s).stopAfter rfl |>.trans h

theorem holdOverrun_clk (hhold : s.clk.hold = true) (href : s.clk.onRef = false) (hsafe : s.sys.safe = false) :
    s.holdOverrun.clk = s.clk := by
  have k := keptAtRest_clk s.clk
  rw [holdOverrun_eq hhold href hsafe]
  split
  · exact foldl_keeps (P := fun t => t.clk = s.clk) (fun h => k.overrunLane h) _ rfl
  · split
    · rfl
    · exact foldl_keeps (P := fun t => t.clk = s.clk) (fun h => k.dropReading (k.giveExposure h)) _
        (k.gangAbort (k.record (foldl_keeps (P := fun t => t.clk = s.clk) (fun h => k.haltAxis h) _ rfl)))

theorem parkOutputs_rests (h : (s.lane l).AtRest) : (s.parkOutputs.lane l).AtRest := by
  rw [parkOutputs_lane]
  exact h

theorem holdOverrun_ends (hhold : s.clk.hold = true) (href : s.clk.onRef = false) (hsafe : s.sys.safe = false)
    (hlost : s.clk.refLost = false) : ∃ t, exec .holdOverrun s = .next t ∧ t.clk.onRef = true
      ∧ ∀ l, (t.lane l).exposing = none ∧ (t.lane l).reading = none ∧ (t.lane l).arun.motion = none := by
  have hclk : s.clearOut.holdOverrun.clk = s.clk := holdOverrun_clk (s := s.clearOut) hhold href hsafe
  have hrests := holdOverrun_rests (s := s.clearOut) hhold href hsafe
  have heffect : exec .holdOverrun s = .next (s.after s.clearOut.holdOverrun.holdSwitch) := by
    rw [exec_holdOverrun, execHoldOverrun, perform_after, if_pos (by simp [hhold, href])]
  rw [holdSwitch_ref (by rw [hclk]; exact hhold) (by rw [hclk]; exact href) (by rw [hclk]; exact hlost)] at heffect
  generalize s.clearOut.holdOverrun = u at hclk hrests heffect
  refine ⟨_, heffect, by rw [after_clk]; rfl, fun l => ?_⟩
  have hl : (((u.modClk (fun c => { c with onRef := true, attempts := 0 })).parkOutputs).lane l).AtRest :=
    parkOutputs_rests (by rw [State.modClk_lane]; exact hrests l)
  obtain ⟨⟨hexp, hread⟩, hmotion⟩ := hl
  rw [after_lane_exposing, after_lane_reading, after_lane_arun]
  exact ⟨hexp, hread, hmotion⟩

/-! ### The loss of the reference (R165) -/

theorem holdQuiet_iff : s.holdQuiet = true ↔ ∀ l, (s.lane l).AtRest := by
  constructor
  · intro h l
    simp only [State.holdQuiet, List.all_cons, List.all_nil, Bool.and_eq_true, Option.isNone_iff_eq_none] at h
    cases l with
    | a => exact h.1
    | b => exact h.2.1
  · intro h
    obtain ⟨⟨ha, hb⟩, hc⟩ := h .a
    obtain ⟨⟨ha', hb'⟩, hc'⟩ := h .b
    simp [State.holdQuiet, show s.laneA.exposing = none from ha, show s.laneA.reading = none from hb,
      show s.laneA.arun.motion = none from hc, show s.laneB.exposing = none from ha', show s.laneB.reading = none from hb',
      show s.laneB.arun.motion = none from hc']

theorem clockTrip_quiet (d : Int) (ref : Bool) (h : s.holdQuiet = true) : (s.clockTrip d ref).holdQuiet = true := by
  rw [holdQuiet_iff] at h ⊢
  intro l
  have k := keptAtRest l
  rw [clockTrip_eq, tripEnd_lane]
  exact k.tripLane (k.tripLane (by simpa [State.tripNoted] using h l))

/-- The reference lost: the holdover without one, begun now or under way. -/
def State.refGone (s : State) : State :=
  if s.clk.hold then s.modClk (fun c => { c with refLost := true })
  else (s.clockTrip (Config.lostDrift s.free).toInt true).takeFree

/-- A holdover without a reference, in RUN and not in SAFE. -/
structure State.RefGone (m : TmrSt) (s : State) : Prop where
  hold  : s.clk.hold = true
  lost  : s.clk.refLost = true
  onRef : s.clk.onRef = false
  tmr   : s.tmr = m
  phase : s.power.phase = .run
  safe  : s.sys.safe = false

theorem clockTrip_safe (d : Int) (ref : Bool) : (s.clockTrip d ref).sys.safe = s.sys.safe := by
  have k := kept_safe s.sys.safe
  rw [clockTrip_eq]
  unfold State.tripEnd State.doomConv
  rw [State.modHk_sys]
  exact k.lux (k.discard (k.tripLane (k.tripLane (by simp [State.tripNoted]))))

theorem refGone_keeps (hphase : s.power.phase = .run) (hsafe : s.sys.safe = false) (href : s.clk.onRef = false) :
    s.refGone.RefGone s.tmr := by
  unfold State.refGone
  cases hhold : s.clk.hold
  · have halters := clockTrip_alters s (Config.lostDrift s.free).toInt true
    have hclk : (s.clockTrip (Config.lostDrift s.free).toInt true).clk = s.clk.tripped (Config.lostDrift s.free).toInt true s.tmr.tsc :=
      halters .clk (by simp [sundry])
    have htmr : (s.clockTrip (Config.lostDrift s.free).toInt true).tmr = s.tmr := halters .tmr (by simp [sundry])
    have hpower : (s.clockTrip (Config.lostDrift s.free).toInt true).power = s.power := halters .power (by simp [sundry])
    have hsys := clockTrip_safe (s := s) (Config.lostDrift s.free).toInt true
    rw [if_neg (by decide)]
    generalize s.clockTrip (Config.lostDrift s.free).toInt true = u at *
    exact ⟨by simp [hclk, ClkSt.tripped], by simp [hclk, ClkSt.tripped], by simp [hclk, ClkSt.tripped, href], by simp [htmr],
      by simp [hpower, hphase], by simp [hsys, hsafe]⟩
  · exact ⟨by simp [hhold], by simp, by simp [href], by simp, by simp [hphase], by simp [hsafe]⟩

theorem takeFree_holdQuiet (t : State) : t.takeFree.holdQuiet = t.holdQuiet := rfl

theorem refGone_quiet (h : s.holdQuiet = true) : s.refGone.holdQuiet = true := by
  unfold State.refGone
  split
  · exact h
  · rw [takeFree_holdQuiet]
    exact clockTrip_quiet _ true h

/-- The span that begins where an LF tick is awaited. -/
def TmrSt.waiting (m : TmrSt) (cause : Nat) : TmrSt :=
  { m with counting := false, lfPend := true, lfCause := cause, curSpan := 0, curEntry := m.tsc, frac := 0
           gapSpan := m.gapSpan || !m.lfOk }

theorem enterSafe_tmr {cause : Nat} (hphase : s.power.phase ≠ .sleepEntry) : (s.enterSafe cause).tmr = s.tmr := by
  have hnoted : (s.enterSafe cause).tmr = (s.endEntry.quenched cause).safed.tmr := enterSafe_alters s cause .tmr (by simp)
  have hquenched : (s.quenched cause).tmr = s.tmr := quenched_alters s cause .tmr (by simp [stopParts, sundry])
  have hsafed : ∀ u : State, u.safed.tmr = u.tmr := fun u => by
    unfold State.safed
    dsimp only
    split <;> simp
  rw [hnoted, hsafed, endEntry_fixed hphase, hquenched]

theorem refLoss_eq (hphase : s.power.phase = .run) (href : s.clk.onRef = false) (hlost : s.clk.refLost = false) :
    s.refLoss = if (s.refGone.lfWait 3).holdQuiet then (s.refGone.lfWait 3).engineSafe 0x2003 else s.refGone.lfWait 3 := by
  unfold State.refLoss
  rw [if_neg (by simp [hphase, href, hlost])]
  rfl

theorem refLoss_effect (hphase : s.power.phase = .run) (hsafe : s.sys.safe = false) (href : s.clk.onRef = false)
    (hlost : s.clk.refLost = false) (hlf : s.tmr.lf = false) (hpend : s.tmr.lfPend = false) : ∃ t, exec .refLoss s = .next t
      ∧ t.clk.hold = true ∧ t.clk.refLost = true ∧ t.clk.onRef = false ∧ t.tmr.counting = false ∧ t.tmr.lfPend = true
      ∧ t.tmr.tsc = s.tmr.tsc ∧ (s.holdQuiet = true → t.sys.safe = true ∧ t.sys.ready = false) := by
  have heffect : exec .refLoss s = .next (s.after s.clearOut.refLoss) := by
    rw [exec_refLoss, execRefLoss, perform_after]
  have hgone := refGone_keeps (s := s.clearOut) hphase hsafe href
  have hquiet : s.holdQuiet = true → s.clearOut.refGone.holdQuiet = true := fun h => refGone_quiet (s := s.clearOut) h
  rw [refLoss_eq (s := s.clearOut) hphase href hlost] at heffect
  generalize s.clearOut.refGone = u at hgone hquiet heffect
  have htmr : u.tmr = s.tmr := hgone.tmr
  have hwait : u.lfWait 3 = u.modTmr (fun m => m.waiting 3) := by
    unfold State.lfWait
    rw [if_neg (by simp [htmr, hlf, hpend])]
    rfl
  rw [hwait] at heffect
  have hspan : (u.modTmr (fun m => m.waiting 3)).tmr.counting = false ∧ (u.modTmr (fun m => m.waiting 3)).tmr.lfPend = true
      ∧ (u.modTmr (fun m => m.waiting 3)).tmr.tsc = s.tmr.tsc := by
    rw [State.modTmr_tmr, htmr]
    exact ⟨rfl, rfl, rfl⟩
  have hclk : (u.modTmr (fun m => m.waiting 3)).clk = u.clk := State.modTmr_clk ..
  have hrun : (u.modTmr (fun m => m.waiting 3)).power.phase ≠ .sleepEntry := by simp [hgone.phase]
  have hsafe' : (u.modTmr (fun m => m.waiting 3)).sys.safe = false := by simp [hgone.safe]
  have hrest : s.holdQuiet = true → (u.modTmr (fun m => m.waiting 3)).holdQuiet = true := hquiet
  generalize u.modTmr (fun m => m.waiting 3) = v at hspan hclk hrun hsafe' hrest heffect
  refine ⟨_, heffect, ?_⟩
  simp only [after_clk, after_tmr, after_sys_safe, after_sys_ready]
  by_cases hv : v.holdQuiet = true
  · have hin := engineSafe_inSafe (s := v) (code := 0x2003) (d := []) hsafe'
    have htsc : (v.engineSafe 0x2003).tmr = v.tmr := by
      unfold State.engineSafe
      rw [if_neg (by simp [hsafe'])]
      exact (enterSafe_tmr (by simpa using hrun)).trans (State.record_tmr ..)
    rw [if_pos hv, htsc, hin.clk, hin.safe, hin.ready, hclk]
    exact ⟨hgone.hold, hgone.lost, hgone.onRef, hspan.1, hspan.2.1, hspan.2.2, fun _ => ⟨rfl, rfl⟩⟩
  · rw [if_neg hv, hclk]
    exact ⟨hgone.hold, hgone.lost, hgone.onRef, hspan.1, hspan.2.1, hspan.2.2, fun h => absurd (hrest h) hv⟩

/-- Settles O28: what ends at trip + 8 ms, and the trip that the loss of the reference is. -/
theorem holdOverrunAndReferenceLoss : Obligations.HoldOverrunAndReferenceLoss := by
  unfold Obligations.HoldOverrunAndReferenceLoss
  exact ⟨fun s => holdOverrun_ends, fun s => refLoss_effect⟩

end Sys2Proof.Machine
end


section
/-!
PROOFS. The acquisition runs of a calibration: their sums, their candidate and its first commit step (R258 to R266).
-/

namespace Sys2Proof.Machine

variable {s t : State} {l : Lane}

/-! ### A window's words after a write into it -/

section window

variable {w o n : Nat} {ws : List Nat}

theorem winWrite_sameMarch (ws : List Nat) : (s.winWrite w o ws).marching = s.marching := by
  unfold State.winWrite
  dsimp only
  split <;> rfl

theorem winAddr_within {i : Nat} (h : o + i < (s.shadow.windows.getD w {}).len) :
    s.winAddr w (o + i) = (s.shadow.windows.getD w {}).base + (o + i) := by
  simp only [State.winAddr, Nat.mod_eq_of_lt h]
  split <;> omega

theorem winWrite_winAddr (a : Nat) : (s.winWrite w o ws).winAddr w a = s.winAddr w a := by
  simp only [State.winAddr, winWrite_shadow]

/-- What a window's write put there reads back, cut to words. -/
theorem winRead_winWrite (hwf : Mem.wf memBlank s.bank = true) (hmarch : s.marching = false) (hpos : 0 < (s.shadow.windows.getD w {}).len)
    (hfits : o + ws.length ≤ (s.shadow.windows.getD w {}).len) :
    (s.winWrite w o ws).winRead w o ws.length = ws.map (· % 65536) := by
  rw [winRead_eq (State.winWrite_wf w o ws hwf) (by rw [winWrite_shadow]; exact hpos) (by rw [winWrite_sameMarch]; exact hmarch)]
  refine List.ext_getElem (by simp) (fun i hi hi' => ?_)
  have hin : i < ws.length := by simpa using hi
  simp only [List.getElem_map, List.getElem_range, winWrite_winAddr]
  rw [winWrite_last hpos hin (by omega)]
  simp [List.getD_eq_getElem?_getD, hin]

/-- The words of a window beside what is written read as before. -/
theorem winRead_winWrite_apart {o' : Nat} (hwf : Mem.wf memBlank s.bank = true) (hmarch : s.marching = false)
    (hpos : 0 < (s.shadow.windows.getD w {}).len) (hfits : o + ws.length ≤ (s.shadow.windows.getD w {}).len)
    (hfits' : o' + n ≤ (s.shadow.windows.getD w {}).len) (hapart : o + ws.length ≤ o' ∨ o' + n ≤ o) :
    (s.winWrite w o ws).winRead w o' n = s.winRead w o' n := by
  rw [winRead_eq (State.winWrite_wf w o ws hwf) (by rw [winWrite_shadow]; exact hpos) (by rw [winWrite_sameMarch]; exact hmarch),
    winRead_eq hwf hpos hmarch]
  refine List.map_congr_left (fun i hi => ?_)
  have hin : i < n := List.mem_range.mp hi
  rw [winWrite_winAddr]
  refine winWrite_other hpos (fun j hj => ?_)
  rw [winAddr_within (by omega), winAddr_within (by omega)]
  omega

end window

/-! ### The accumulators of the taps (R258, R259) -/

/-- A lane's Till window takes the sums of four taps. -/
structure State.Sums (s : State) (l : Lane) : Prop where
  wf : Mem.wf memBlank s.bank = true
  march : s.marching = false
  open_ : s.fenced l (s.tillSec l).window = false
  len : 131072 ≤ (s.shadow.windows.getD (s.tillSec l).window {}).len

/-- The sums written into the place of one tap. -/
def State.putSums (s : State) (l : Lane) (k : Nat) (sums : List Nat) : State :=
  s.masterWrite l (s.tillSec l).window (32768 * k) (sums.flatMap (leWords 2))

theorem pairs_length (xs : List Nat) : (xs.flatMap (leWords 2)).length = 2 * xs.length := by
  induction xs with
  | nil => rfl
  | cons x xs ih =>
    rw [List.flatMap_cons, List.length_append, ih, List.length_cons]
    simp only [leWords, List.length_cons, List.length_nil]
    omega

theorem pairs_getD (xs : List Nat) (i : Nat) : (xs.flatMap (leWords 2)).getD (2 * i) 0 = xs.getD i 0 % 65536
    ∧ (xs.flatMap (leWords 2)).getD (2 * i + 1) 0 = xs.getD i 0 / 65536 % 65536 := by
  induction xs generalizing i with
  | nil => simp
  | cons x xs ih =>
    cases i with
    | zero => simp [leWords]
    | succ i => simpa [leWords, Nat.mul_add] using ih i

theorem putSums_eq (h : s.Sums l) (k : Nat) (sums : List Nat) :
    s.putSums l k sums = s.winWrite (s.tillSec l).window (32768 * k) (sums.flatMap (leWords 2)) := by
  rw [State.putSums, State.masterWrite, h.open_]
  rfl

theorem putSums_alters (k : Nat) (sums : List Nat) : Alters [.bank] s (s.putSums l k sums) := by
  unfold State.putSums State.masterWrite
  split
  · exact .refl _ _
  · exact (Alters.refl _ _).winWrite (by simp)

theorem winWrite_eq_bank (s : State) (w o : Nat) (ws : List Nat) : ∃ m, s.winWrite w o ws = { s with bank := m } := by
  unfold State.winWrite
  dsimp only
  split
  · exact ⟨s.bank, rfl⟩
  · exact ⟨_, rfl⟩

theorem putSums_tillSec (k : Nat) (sums : List Nat) : (s.putSums l k sums).tillSec l = s.tillSec l := by
  obtain ⟨_, hshadow⟩ := putSums_alters (s := s) (l := l) k sums .ledger (by simp)
  cases l <;> simp only [State.tillSec, State.img, hshadow]

theorem putSums_ready (h : s.Sums l) (k : Nat) (sums : List Nat) : (s.putSums l k sums).Sums l := by
  have hsec := putSums_tillSec (s := s) (l := l) k sums
  have heq := putSums_eq h k sums
  refine ⟨?_, ?_, ?_, ?_⟩
  · rw [heq]
    exact State.winWrite_wf _ _ _ h.wf
  · rw [heq, winWrite_sameMarch]
    exact h.march
  · rw [hsec, heq]
    obtain ⟨m, hm⟩ := winWrite_eq_bank s (s.tillSec l).window (32768 * k) (sums.flatMap (leWords 2))
    rw [hm]
    exact h.open_
  · rw [hsec, heq, winWrite_shadow]
    exact h.len

theorem calSums_length (s : State) (l : Lane) (k n : Nat) : (s.calSums l k n).length = n := by
  simp [State.calSums]

theorem calSums_eq (h : s.Sums l) (k n : Nat) : s.calSums l k n = (List.range n).map (fun i =>
    (s.winRead (s.tillSec l).window (32768 * k) (2 * n)).getD (2 * i) 0
      + 65536 * (s.winRead (s.tillSec l).window (32768 * k) (2 * n)).getD (2 * i + 1) 0) := by
  simp only [State.calSums, State.masterRead, h.open_, Bool.false_eq_true, if_false]

theorem getD_map_mod (ws : List Nat) (i : Nat) : (ws.map (· % 65536)).getD i 0 = ws.getD i 0 % 65536 := by
  simp only [List.getD_eq_getElem?_getD, List.getElem?_map]
  cases ws[i]? <;> rfl

/-- The sums that were put into a tap's place, as 32 bits each. -/
theorem calSums_putSums (h : s.Sums l) {k n : Nat} {sums : List Nat} (hk : k < 4) (hn : n ≤ 16384) (hlen : sums.length = n) :
    (s.putSums l k sums).calSums l k n = sums.map (· % 2 ^ 32) := by
  have hfits : 32768 * k + (sums.flatMap (leWords 2)).length ≤ (s.shadow.windows.getD (s.tillSec l).window {}).len := by
    have := h.len
    rw [pairs_length]
    omega
  have hpos : 0 < (s.shadow.windows.getD (s.tillSec l).window {}).len := Nat.lt_of_lt_of_le (by decide) h.len
  rw [calSums_eq (putSums_ready h k sums), putSums_tillSec, putSums_eq h]
  have hread := winRead_winWrite (w := (s.tillSec l).window) (o := 32768 * k) (ws := sums.flatMap (leWords 2)) h.wf h.march hpos hfits
  rw [pairs_length, hlen] at hread
  rw [hread]
  refine List.ext_getElem (by simp [hlen]) (fun i hi hi' => ?_)
  have hin : i < sums.length := by simpa using hi'
  obtain ⟨hlow, hhigh⟩ := pairs_getD sums i
  have hget : sums.getD i 0 = sums[i] := by simp [List.getD_eq_getElem?_getD, hin]
  rw [List.getElem_map, List.getElem_range, List.getElem_map, getD_map_mod, getD_map_mod, hlow, hhigh, hget]
  omega

/-- Another tap's sums stand. -/
theorem calSums_putSums_other (h : s.Sums l) {k j n : Nat} {sums : List Nat} (hk : k < 4) (hj : j < 4) (hne : j ≠ k)
    (hn : n ≤ 16384) (hlen : sums.length = n) : (s.putSums l k sums).calSums l j n = s.calSums l j n := by
  have hwin := h.len
  have hpos : 0 < (s.shadow.windows.getD (s.tillSec l).window {}).len := Nat.lt_of_lt_of_le (by decide) h.len
  have hplen := pairs_length sums
  rw [calSums_eq (putSums_ready h k sums), calSums_eq h, putSums_tillSec, putSums_eq h,
    winRead_winWrite_apart h.wf h.march hpos (by omega) (by omega) (by omega)]

/-- One line's codes added to one tap's sums. -/
def State.addTap (s : State) (l : Lane) (codes : Nat → List Nat) (k : Nat) : State :=
  s.putSums l k (List.zipWith (· + ·) (s.calSums l k (codes k).length) (codes k))

theorem addTap_ready (h : s.Sums l) (codes : Nat → List Nat) (k : Nat) : (s.addTap l codes k).Sums l := putSums_ready h _ _

theorem addTap_sums (h : s.Sums l) {codes : Nat → List Nat} {k n : Nat} (hk : k < 4) (hn : n ≤ 16384) (hlen : (codes k).length = n) :
    (s.addTap l codes k).calSums l k n = (List.zipWith (· + ·) (s.calSums l k n) (codes k)).map (· % 2 ^ 32) := by
  rw [State.addTap, calSums_putSums h hk hn (by simp [calSums_length, hlen]), hlen]

theorem addTap_other (h : s.Sums l) {codes : Nat → List Nat} {k j n : Nat} (hk : k < 4) (hj : j < 4) (hne : j ≠ k) (hn : n ≤ 16384)
    (hlen : (codes k).length = n) : (s.addTap l codes k).calSums l j n = s.calSums l j n :=
  calSums_putSums_other h hk hj hne hn (by simp [calSums_length, hlen])

theorem addTaps_ready (codes : Nat → List Nat) (ks : List Nat) (h : s.Sums l) : (ks.foldl (State.addTap · l codes) s).Sums l :=
  foldl_keeps (P := fun t => t.Sums l) (fun h => addTap_ready h _ _) ks h

theorem addTaps_other {codes : Nat → List Nat} {n : Nat} (ks : List Nat) (h : s.Sums l) (hks : ∀ k ∈ ks, k < 4) {j : Nat}
    (hj : j < 4) (hout : j ∉ ks) (hn : n ≤ 16384) (hlen : ∀ k, (codes k).length = n) :
    (ks.foldl (State.addTap · l codes) s).calSums l j n = s.calSums l j n := by
  induction ks generalizing s with
  | nil => rfl
  | cons k ks ih =>
    obtain ⟨hne, hrest⟩ := not_or.mp (fun h => hout (List.mem_cons.mpr h))
    rw [List.foldl_cons, ih (addTap_ready h codes k) (fun k' hk' => hks k' (List.mem_cons_of_mem _ hk')) hrest]
    exact addTap_other h (hks k List.mem_cons_self) hj hne hn (hlen k)

/-- Every tap of the list has its codes added once. -/
theorem addTaps_sums {codes : Nat → List Nat} {n : Nat} (ks : List Nat) (h : s.Sums l) (hks : ∀ k ∈ ks, k < 4) (hnodup : ks.Nodup)
    (hn : n ≤ 16384) (hlen : ∀ k, (codes k).length = n) : ∀ k ∈ ks, (ks.foldl (State.addTap · l codes) s).calSums l k n =
      (List.zipWith (· + ·) (s.calSums l k n) (codes k)).map (· % 2 ^ 32) := by
  induction ks generalizing s with
  | nil => simp
  | cons k ks ih =>
    obtain ⟨hout, hrest⟩ := List.nodup_cons.mp hnodup
    have hk : k < 4 := hks k List.mem_cons_self
    have hks' : ∀ k' ∈ ks, k' < 4 := fun k' hk' => hks k' (List.mem_cons_of_mem _ hk')
    intro j hj
    rw [List.foldl_cons]
    obtain rfl | hin := List.mem_cons.mp hj
    · rw [addTaps_other ks (addTap_ready h codes j) hks' hk hout hn hlen, addTap_sums h hk hn (hlen j)]
    · have hne : j ≠ k := fun hjk => hout (hjk ▸ hin)
      rw [ih (addTap_ready h codes k) hks' hrest j hin, addTap_other h hk (hks' j hin) hne hn (hlen k)]

theorem tapActive_length (h : HeadSec) (codes : List (List Nat)) (k : Nat) : (tapActive h codes k).length = h.active := by
  have hfit : ∀ (n : Nat) (xs : List Nat), (fit 0 n xs).length = n := fun n xs => by simp [fit]; omega
  unfold tapActive tapSamples
  dsimp only
  split <;> rw [List.length_drop, hfit] <;> omega

theorem accumulate_eq {p : Program} {codes : List (List Nat)} (h : s.Sums l) :
    s.accumulate l p codes = (maskTaps p.taps).foldl (State.addTap · l (tapActive (s.img l).head codes)) s := by
  have hfence : ∀ m, s.fenceLine l m (s.tillSec l).window = s := fun m => by simp [State.fenceLine, h.open_]
  have hfold : ∀ (ks : List Nat) (u : State), u.tillSec l = s.tillSec l →
      ks.foldl (fun s' k => s'.masterWrite l (s.tillSec l).window (32768 * k)
        ((List.zipWith (· + ·) (s'.calSums l k (tapActive (s.img l).head codes k).length) (tapActive (s.img l).head codes k)).flatMap
          (leWords 2))) u = ks.foldl (State.addTap · l (tapActive (s.img l).head codes)) u := by
    intro ks
    induction ks with
    | nil => intro u _; rfl
    | cons k ks ih =>
      intro u hu
      have hstep : u.addTap l (tapActive (s.img l).head codes) k = u.masterWrite l (s.tillSec l).window (32768 * k)
          ((List.zipWith (· + ·) (u.calSums l k (tapActive (s.img l).head codes k).length) (tapActive (s.img l).head codes k)).flatMap
            (leWords 2)) := by rw [State.addTap, State.putSums, hu]
      rw [List.foldl_cons, List.foldl_cons, ← hstep]
      exact ih _ ((putSums_tillSec (s := u) (l := l) _ _).trans hu)
  unfold State.accumulate
  dsimp only
  rw [hfence, hfence]
  exact hfold _ s rfl

end Sys2Proof.Machine
end


section
/-!
PROOFS. What a line start does in an acquisition run (R221, R258, R259), part after part.
-/

namespace Sys2Proof.Machine

variable {s t : State} {l : Lane}

/-! ### What the boundary leaves alone -/

/-- What an acquisition run keeps in its lane from one line's close to the next: the line in readout, the run's end and the
commit's state. -/
def LaneSt.acq (x : LaneSt) : Option LineCtx × Bool × Nat × Nat × Nat × Nat × Bool × Nat :=
  (x.reading, x.mode.ending, x.cal.state, x.cal.kind, x.cal.set, x.cal.acqKind, x.cal.slotY, x.cal.seq)

/-- `P` is kept by what a line boundary does beside the line's read-out. -/
structure KeptByBoundary (P : State → Prop) : Prop where
  lane  : ∀ {s l f}, (∀ x : LaneSt, (f x).acq = x.acq) → P s → P (State.modLane s l f)
  lux   : ∀ {s f}, P s → P (State.modLux s f)
  log   : ∀ {s f}, P s → P (State.modLog s f)
  event : ∀ {s b}, P s → P (State.event s b)
  mem   : ∀ {s f}, (∀ m : MemSt, (f m).tstat = m.tstat ∧ (f m).tpos = m.tpos) → P s → P (State.modMem s f)
  sys   : ∀ {s f}, (∀ y : SysSt, (f y).gang = y.gang) → P s → P (State.modSys s f)

namespace KeptByBoundary

variable {P : State → Prop} (k : KeptByBoundary P)
include k

theorem luxKept : LuxKept P := fun _ _ h => k.lux h

theorem record {c n p d} (h : P s) : P (s.record c n p d) := by
  have hplace : ∀ {s : State} {r}, P s → P (s.place r).1 := fun {s r} h => k.event (k.log (f := fun _ => (s.log.put r).1) h)
  unfold State.record
  dsimp only
  split
  · exact hplace (k.log (hplace h))
  · exact hplace h

theorem noteL {c d} (h : P s) : P (s.noteL l c d) := k.record h

theorem lineGroups (h : P s) : P (s.lineGroups l) := by
  unfold State.lineGroups
  refine foldl_keeps (P := P) (fun {t n} h => ?_) _ h
  dsimp only
  split
  · unfold State.photoNoref
    split
    · exact k.lux (k.record (k.lux h))
    · exact k.lux h
  · exact k.lux h

theorem latchTemp (h : P s) : P (s.latchTemp l) := by
  unfold State.latchTemp
  extract_lets n t stale cfg cl px s1 s2
  have h1 : P s1 := k.lane (fun _ => rfl) h
  have h2 : P s2 := by
    unfold s2
    split
    · exact k.noteL h1
    · exact h1
  split
  · exact k.noteL h2
  · exact h2

theorem exposeLane {p : Program} (h : P s) : P (s.exposeLane l p) := by
  unfold State.exposeLane
  extract_lets s1 x b fresh c last s2 s3
  have h2 : P s2 := k.lane (fun _ => rfl) (k.latchTemp h)
  have h3 : P s3 := by
    unfold s3
    split
    · exact k.lane (fun _ => rfl) h2
    · exact h2
  split
  · exact k.lane (fun _ => rfl) h3
  · exact h3

theorem expose {p : Program} (h : P s) : P (s.expose l p) := foldl_keeps (P := P) (fun h => k.exposeLane h) _ h

theorem stopAfter {n} (h : P s) : P (s.stopAfter l n) := by
  unfold State.stopAfter
  refine k.lane (fun _ => rfl) (k.lane (fun _ => rfl) ?_)
  split
  · exact h
  · split
    · exact h
    · exact k.lane (fun _ => rfl) (f := fun x => { x with arun := { x.arun with motion := _, why := .stop } }) h

/-- A boundary of an acquisition run on an axis at rest. -/
theorem runLine {p : Program} (hmoves : s.moves l p = false) (hcal : calibrating (progMode p) = true) (h : P s) :
    P (s.runLine l p) := by
  have hdev : ∀ n, s.deviate l p n = (s.modArun l (fun a => { a with cycle := n }), false) := fun n => by
    have hm : (s.modArun l (fun a => { a with cycle := n })).moves l p = false := by
      cases l <;> exact hmoves
    simp only [State.deviate, hm, Bool.not_false, Bool.true_or, if_true]
  have h1 : ∀ n, P (s.modArun l (fun a => { a with cycle := n })) := fun n => k.lane (fun _ => rfl) h
  unfold State.runLine
  simp only [hdev, Bool.false_and, Bool.false_eq_true, if_false, hcal, if_true]
  split
  · exact k.expose (h1 _)
  · split
    · exact k.stopAfter (h1 _)
    · exact h1 _

theorem afterH (h : P s) : P s.afterH := by
  have hlanes : P { s with laneA := s.laneA.afterH, laneB := s.laneB.afterH } :=
    k.lane (s := s.modLane .a LaneSt.afterH) (l := .b) (f := LaneSt.afterH) (fun _ => rfl) (k.lane (fun _ => rfl) h)
  exact k.sys (f := fun y => { y with badCrc := 0, aborts := 0, stale := 0, denied := 0 }) (fun _ => rfl)
    (k.lux (f := fun x => { x with crcErr := 0, head := x.head.map (fun h => { h with temp := 0 }) })
      (k.mem (f := fun m => { m with c0Worst := 0, c0Port := 0, c1Worst := 0, c2Worst := 0, kind := false, march := s.shadow.march,
                                     tfirst := 0, tlast := 511 }) (fun _ => ⟨rfl, rfl⟩) hlanes))

theorem haltSettle (h : P s) : P s.haltSettle := by
  unfold State.haltSettle
  split
  · exact h
  · extract_lets s1
    have h1 : P s1 := foldl_keeps (P := P) (fun {t l} h => by
      split
      · exact k.lane (fun _ => rfl) h
      · exact h) _ h
    split
    · exact k.afterH (k.record (k.sys (fun _ => rfl) h1))
    · exact h1

end KeptByBoundary

theorem keptByBoundary_acq (s : State) (v : Option LineCtx × Bool × Nat × Nat × Nat × Nat × Bool × Nat) :
    KeptByBoundary (fun t => SameFetch s t ∧ (t.lane l).acq = v) where
  lane {s k f} hf h := ⟨h.1.modLane _ _, by cases l <;> cases k <;> first | exact (hf _).trans h.2 | exact h.2⟩
  lux h := ⟨⟨h.1.shadow, h.1.bank, h.1.tpos, h.1.marching, h.1.gang, h.1.twoLanes⟩, by simpa using h.2⟩
  log h := ⟨⟨h.1.shadow, h.1.bank, h.1.tpos, h.1.marching, h.1.gang, h.1.twoLanes⟩, by simpa using h.2⟩
  event {s b} h := by
    refine ⟨⟨?_, ?_, ?_, ?_, ?_, ?_⟩, by simpa using h.2⟩
    · simpa using h.1.shadow
    · simpa using h.1.bank
    · simpa using h.1.tpos
    · simpa [State.marching] using h.1.marching
    · simpa using h.1.gang
    · simpa using h.1.twoLanes
  mem {s f} hf h := by
    obtain ⟨hstat, hpos⟩ := hf s.mem
    exact ⟨⟨h.1.shadow, h.1.bank, hpos.trans h.1.tpos,
      (by simp only [State.marching, State.modMem, hstat]; rfl : (s.modMem f).marching = s.marching).trans h.1.marching, h.1.gang, h.1.twoLanes⟩, by simpa using h.2⟩
  sys {s f} hf h := ⟨⟨h.1.shadow, h.1.bank, h.1.tpos, h.1.marching, (hf s.sys).trans h.1.gang, h.1.twoLanes⟩, by simpa using h.2⟩

/-! ### A line start, part after part -/

/-- A line start before the read-out: the gate opens, a trim and a clock that wait take over, and grants and encoder edges are
counted. -/
def State.lineOpened (s : State) (l : Lane) (x : LineInput) : State :=
  ((((s.modLane l (fun x => { x with shut := false, head := { x.head with running := x.head.drivers } })).applyTrim l).applyClock
    l).noteGrants l x.grants).countEdges l x.edges

/-- The end of a line start. -/
def State.lineClosed (s : State) (l : Lane) (x : LineInput) : State :=
  let s := (s.noteC1 x.c1).modLane l (fun x => { x with unexposed := none })
  let done : Bool := (s.lane l).mode.ending && (s.lane l).exposing.isNone && (s.lane l).reading.isNone
  let s := if done then s.modPix l (fun p => { p with active := false }) else s
  (s.stageFirst (s.partyOf l)).haltSettle

theorem lineStart_eq {x : LineInput} {p : Program} (hmode : (s.lane l).mode.mode ≠ .none) (hprog : (s.lane l).mode.prog = some p)
    (hint : s.clk.interval = false) :
    s.lineStart l x = ((((s.lineOpened l x).lineRead l x).lineGroups l).lineCycle l).lineClosed l x := by
  unfold State.lineStart
  dsimp only
  rw [if_neg (by simp [hmode, hprog, hint])]
  rfl

theorem KeptByBoundary.lineClosed {P : State → Prop} (k : KeptByBoundary P) {x : LineInput} (h : P s) : P (s.lineClosed l x) := by
  unfold State.lineClosed
  extract_lets s1 done s2
  have h1 : P s1 := k.lane (fun _ => rfl) (k.mem (fun _ => ⟨rfl, rfl⟩) h)
  have h2 : P s2 := by
    unfold s2
    split
    · exact k.lane (fun _ => rfl) h1
    · exact h1
  exact k.haltSettle (k.luxKept.stageFirst h2)

theorem noteGrants_eq (s : State) (l : Lane) (gs : List C0Grant) : ∃ f : MemSt → MemSt,
    (∀ m, (f m).tstat = m.tstat ∧ (f m).tpos = m.tpos) ∧ s.noteGrants l gs = s.modMem f := by
  have hone : ∀ (t : State) (g : C0Grant), ∃ f : MemSt → MemSt, (∀ m, (f m).tstat = m.tstat ∧ (f m).tpos = m.tpos) ∧
      (if t.fenced l (t.c0Win l g.master) then t
        else t.noteC0 g.cyc (bankOf (t.winAddr (t.c0Win l g.master) g.off)) (g.master = 1)) = t.modMem f := fun t g => by
    split
    · exact ⟨id, fun _ => ⟨rfl, rfl⟩, rfl⟩
    · exact ⟨_, fun m => by split <;> exact ⟨rfl, rfl⟩, rfl⟩
  unfold State.noteGrants
  induction gs generalizing s with
  | nil => exact ⟨id, fun _ => ⟨rfl, rfl⟩, rfl⟩
  | cons g gs ih =>
    obtain ⟨f, hf, heq⟩ := hone s g
    obtain ⟨f', hf', heq'⟩ := ih (s.modMem f)
    refine ⟨f' ∘ f, fun m => ⟨(hf' _).1.trans (hf m).1, (hf' _).2.trans (hf m).2⟩, ?_⟩
    rw [List.foldl_cons, heq]
    exact heq'

theorem modHead_modHead (s : State) (l : Lane) (f g : HeadSt → HeadSt) :
    (s.modHead l f).modHead l g = s.modHead l (fun h => g (f h)) := by cases l <;> rfl

theorem applyTrim_eq (s : State) (l : Lane) : ∃ f, s.applyTrim l = s.modHead l f := by
  unfold State.applyTrim
  split
  · exact ⟨_, rfl⟩
  · exact ⟨id, by cases l <;> rfl⟩

theorem applyClock_eq (s : State) (l : Lane) : ∃ f, s.applyClock l = s.modHead l f := by
  unfold State.applyClock State.clockHead
  split
  · split
    · exact ⟨_, modHead_modHead ..⟩
    · exact ⟨_, modHead_modHead ..⟩
  · exact ⟨id, by cases l <;> rfl⟩

/-- The head's gate opens; a trim and a clock that wait take over. -/
def State.gateOpened (s : State) (l : Lane) : State :=
  ((s.modLane l (fun x => { x with shut := false, head := { x.head with running := x.head.drivers } })).applyTrim l).applyClock l

theorem lineOpened_eq (s : State) (l : Lane) (x : LineInput) : ∃ (f : MemSt → MemSt) (a : AxisSt → AxisSt),
    (∀ m, (f m).tstat = m.tstat ∧ (f m).tpos = m.tpos) ∧ s.lineOpened l x = ((s.gateOpened l).modMem f).modAxis l a := by
  obtain ⟨f, hf, hgrants⟩ := noteGrants_eq (s.gateOpened l) l x.grants
  exact ⟨f, _, hf, (congrArg (State.countEdges · l x.edges) hgrants).trans (countEdges_eq ..)⟩

theorem gateOpened_eq (s : State) (l : Lane) : ∃ g : HeadSt → HeadSt,
    s.gateOpened l = s.modLane l (fun y => { y with shut := false, head := g y.head }) := by
  obtain ⟨g1, htrim⟩ := applyTrim_eq (s.modLane l (fun x => { x with shut := false, head := { x.head with running := x.head.drivers } })) l
  obtain ⟨g2, hclock⟩ := applyClock_eq ((s.modLane l (fun x => { x with
    shut := false, head := { x.head with running := x.head.drivers } })).modHead l g1) l
  refine ⟨fun h => g2 (g1 { h with running := h.drivers }), ?_⟩
  rw [State.gateOpened, htrim, hclock]
  cases l <;> rfl

/-- With no trim and no clock waiting the gate alone opens. -/
theorem gateOpened_of_none (htrim : (s.lane l).head.nextTrim = none) (hclock : (s.lane l).head.reclock = false) :
    s.gateOpened l = s.modLane l (fun x => { x with shut := false, head := { x.head with running := x.head.drivers } }) := by
  simp [State.gateOpened, State.applyTrim, State.applyClock, htrim, hclock]

end Sys2Proof.Machine
end


section
/-!
PROOFS. An acquisition run and its candidate (R258 to R266).
-/

namespace Sys2Proof.Machine

variable {s t : State} {l : Lane}

/-! ### A line of an acquisition run -/

theorem SameFetch.trans {u : State} (h : SameFetch s t) (h' : SameFetch t u) : SameFetch s u :=
  ⟨h'.shadow.trans h.shadow, h'.bank.trans h.bank, h'.tpos.trans h.tpos, h'.marching.trans h.marching, h'.gang.trans h.gang,
    h'.twoLanes.trans h.twoLanes⟩

theorem SameFetch.tillSec (h : SameFetch s t) (l : Lane) : t.tillSec l = s.tillSec l := by
  simp only [State.tillSec, h.img]

theorem SameFetch.calSums (h : SameFetch s t) (l : Lane) (k n : Nat) : t.calSums l k n = s.calSums l k n := by
  simp only [State.calSums, h.tillSec, h.masterRead]

theorem SameFetch.sums (h : SameFetch s t) (hs : s.Sums l) : t.Sums l :=
  ⟨by rw [h.bank]; exact hs.wf, h.marching.trans hs.march, by rw [h.tillSec, h.fenced]; exact hs.open_,
    by rw [h.tillSec, h.shadow]; exact hs.len⟩

theorem SameFetch.moves (h : SameFetch s t) (l : Lane) (p : Program) : t.moves l p = s.moves l p := by
  simp only [State.moves, State.entries, h.profile]

theorem SameFetch.modMem (h : SameFetch s t) {f : MemSt → MemSt} (hf : ∀ m, (f m).tstat = m.tstat ∧ (f m).tpos = m.tpos) :
    SameFetch s (t.modMem f) := by
  obtain ⟨hstat, hpos⟩ := hf t.mem
  have hmarch : (t.modMem f).marching = t.marching := by
    simp only [State.marching, State.modMem, hstat]
    rfl
  exact ⟨h.shadow, h.bank, hpos.trans h.tpos, hmarch.trans h.marching, h.gang, h.twoLanes⟩

theorem sameFetch_after (h : t.twoLanes = s.twoLanes) : SameFetch t (s.after t) :=
  ⟨by simp, by simp, by simp, by simp [State.marching], by simp, by simp [h]⟩

theorem after_acq (s t : State) (l : Lane) : ((s.after t).lane l).acq = (t.lane l).acq := by
  simp [LaneSt.acq]

theorem lineGroups_lane (s : State) (l k : Lane) : (s.lineGroups l).lane k = s.lane k := by
  unfold State.lineGroups
  refine foldl_keeps (P := fun t => t.lane k = s.lane k) (fun {t n} h => ?_) _ rfl
  dsimp only
  split
  · unfold State.photoNoref
    split
    · simpa [State.noteItem] using h
    · simpa using h
  · simpa using h

/-- The new line cycle of a lane of its own that runs. -/
theorem lineCycle_run {p : Program} (hprog : (s.lane l).mode.prog = some p) (hmode : (s.lane l).mode.mode = progMode p)
    (hcal : calibrating (progMode p) = true) (hentering : (s.lane l).mode.entering = false)
    (hending : (s.lane l).mode.ending = false) (hsolo : s.sys.gang = false) : s.lineCycle l = s.runLine l p := by
  have hne : progMode p ≠ .none ∧ progMode p ≠ .idle ∧ progMode p ≠ .smoulder := by
    refine ⟨?_, ?_, ?_⟩ <;> intro h <;> rw [h] at hcal <;> exact absurd hcal (by decide)
  obtain ⟨hnone, hidle, hsmoulder⟩ := hne
  unfold State.lineCycle
  simp only [hprog, hmode, hnone, hidle, hsmoulder, hending, hsolo, hentering, decide_false, Bool.or_self, Bool.false_and,
    Bool.false_eq_true, if_false]

theorem lineCycle_ending (hending : (s.lane l).mode.ending = true) : s.lineCycle l = s := by
  unfold State.lineCycle
  dsimp only
  split
  · rfl
  · rw [if_pos (by simp [hending])]

theorem calibrating_of_mode {p : Program} (hkind : p.mode = 3 ∨ p.mode = 4) : calibrating (progMode p) = true := by
  obtain h | h := hkind <;> simp [progMode, h, calibrating]

theorem progMode_ne_none {p : Program} (hcal : calibrating (progMode p) = true) : progMode p ≠ .none := by
  intro h
  rw [h] at hcal
  exact absurd hcal (by decide)

section lines

variable {x : LineInput} {p : Program} {c : LineCtx}

/-- The read-out of a line of an acquisition run adds its codes to the sums of the program's taps. -/
theorem readLine_sums (hcal : calibrating (progMode p) = true) (hs : s.Sums l) (hactive : (s.img l).head.active ≤ 16384)
    (codes : List (List Nat)) : (∃ m, s.readLine l p c codes =
        State.modLane { s with bank := m } l (fun x => { x with exposing := none, reading := some c }))
      ∧ ∀ k ∈ maskTaps p.taps, (s.readLine l p c codes).calSums l k (s.img l).head.active =
        (List.zipWith (· + ·) (s.calSums l k (s.img l).head.active) (tapActive (s.img l).head codes k)).map (· % 2 ^ 32) := by
  have hread : s.readLine l p c codes = ((maskTaps p.taps).foldl (State.addTap · l (tapActive (s.img l).head codes)) s).modLane l
      (fun x => { x with exposing := none, reading := some c }) := by
    unfold State.readLine
    rw [if_pos hcal, accumulate_eq hs]
  have hfetch : ∀ u : State, SameFetch u (u.modLane l (fun x => { x with exposing := none, reading := some c })) := fun u =>
    SameFetch.modLane ⟨rfl, rfl, rfl, rfl, rfl, rfl⟩ _ _
  have hbank : ∃ m, (maskTaps p.taps).foldl (State.addTap · l (tapActive (s.img l).head codes)) s = { s with bank := m } := by
    refine foldl_keeps (P := fun t => ∃ m, t = { s with bank := m }) (fun {t k} h => ?_) _ ⟨s.bank, rfl⟩
    obtain ⟨m, rfl⟩ := h
    unfold State.addTap State.putSums State.masterWrite
    split
    · exact ⟨m, rfl⟩
    · obtain ⟨m', hm'⟩ := winWrite_eq_bank _ _ _ _
      exact ⟨m', hm'⟩
  refine ⟨hbank.imp fun m hm => hread.trans (by rw [hm]), fun k hk => ?_⟩
  · rw [hread, (hfetch _).calSums]
    exact addTaps_sums _ hs (fun k hk => (List.mem_range.mp (List.mem_filter.mp hk).1))
      (List.nodup_range.filter _) hactive (fun k => tapActive_length _ _ k) k hk

/-- With a line in exposure and none in readout a line start reads the one that was in exposure. -/
theorem lineRead_exposed (hprog : (s.lane l).mode.prog = some p) (hdriving : s.driving l = true)
    (hreadout : (s.lane l).head.readout = none) (hreading : (s.lane l).reading = none) (hexposing : (s.lane l).exposing = some c) :
    s.lineRead l x = (s.beginHead l (s.codes l x)).readLine l p c (s.codes l x) := by
  have hclose : (s.closeHead l).closeLine l = s := by
    simp [State.closeHead, State.closeLine, hreadout, hreading]
  have hexp : ((s.beginHead l (s.codes l x)).lane l).exposing = some c := by simp [State.beginHead, hexposing]
  have hprog' : ((s.beginHead l (s.codes l x)).lane l).mode.prog = some p := by simp [State.beginHead, hprog]
  unfold State.lineRead
  simp only [hclose, hdriving, Bool.not_true, Bool.false_eq_true, if_false, hexp, hprog']

theorem calLine_sums (hmem : s.MemOk) (hmarch : s.marching = false) (hint : s.clk.interval = false) (hsolo : s.sys.gang = false)
    (hprog : (s.lane l).mode.prog = some p) (hkind : p.mode = 3 ∨ p.mode = 4) (hmode : (s.lane l).mode.mode = progMode p)
    (hmoves : s.moves l p = false) (hentering : (s.lane l).mode.entering = false) (hending : (s.lane l).mode.ending = false)
    (htrim : (s.lane l).head.nextTrim = none) (hclock : (s.lane l).head.reclock = false) (hdriving : s.driving l = true)
    (hreadout : (s.lane l).head.readout = none) (hreading : (s.lane l).reading = none) (hexposing : (s.lane l).exposing = some c)
    (hopen : s.fenced l (s.tillSec l).window = false) (hlen : 131072 ≤ (s.shadow.windows.getD (s.tillSec l).window {}).len)
    (hactive : (s.img l).head.active ≤ 16384) : ∃ t, exec (.lineStart l x) s = .next t
      ∧ (t.lane l).reading = some c ∧ ∀ k ∈ maskTaps p.taps, t.calSums l k (s.img l).head.active
        = (List.zipWith (· + ·) (s.calSums l k (s.img l).head.active) (tapActive (s.img l).head (s.codes l x) k)).map
            (· % 2 ^ 32) := by
  have hcal := calibrating_of_mode hkind
  obtain ⟨f, a, hf, hopened⟩ := lineOpened_eq s.clearOut l x
  rw [gateOpened_of_none (by simpa using htrim) (by simpa using hclock)] at hopened
  generalize hu : s.clearOut.lineOpened l x = u at hopened
  have hfetch : SameFetch s u := by
    rw [hopened]
    exact (((sameFetch_clearOut s).modLane _ _).modMem hf).modLane _ _
  have hmodeu : (u.lane l).mode = (s.lane l).mode := by simp [hopened]
  have hread : u.lineRead l x = (u.beginHead l (u.codes l x)).readLine l p c (u.codes l x) := by
    refine lineRead_exposed ?_ ?_ ?_ ?_ ?_
    · simp [hmodeu, hprog]
    · simpa [hopened, State.driving, State.atLimit] using hdriving
    · simp [hopened, hreadout]
    · simp [hopened, hreading]
    · simp [hopened, hexposing]
  have hcodes : u.codes l x = s.codes l x := by
    simp only [State.codes, hfetch.img]
    simp [hopened]
  have hfetchv : SameFetch s (u.beginHead l (s.codes l x)) := by
    unfold State.beginHead
    exact hfetch.modLane _ _
  obtain ⟨⟨m, hread'⟩, hsums⟩ := readLine_sums (s := u.beginHead l (s.codes l x)) (c := c) (p := p) hcal
    (hfetchv.sums ⟨hmem.1, hmarch, hopen, hlen⟩) (by rw [hfetchv.img]; exact hactive) (s.codes l x)
  rw [hcodes] at hread
  rw [← hread] at hread' hsums
  generalize hr : u.lineRead l x = r at hread' hsums
  have hkept := keptByBoundary_acq (l := l) r (r.lane l).acq
  obtain ⟨hfetchq, hacqq⟩ := hkept.lineGroups (l := l) (s := r) ⟨⟨rfl, rfl, rfl, rfl, rfl, rfl⟩, rfl⟩
  have hlane : ((r.lineGroups l).lane l).mode = (s.lane l).mode := by
    rw [lineGroups_lane, hread', State.modLane_lane]
    exact (by simp [State.beginHead] : ((u.beginHead l (s.codes l x)).lane l).mode = (u.lane l).mode).trans hmodeu
  have hrfetch : r.shadow = s.shadow ∧ r.sys.gang = false ∧ r.twoLanes = s.twoLanes := by
    refine ⟨?_, ?_, ?_⟩
    · rw [hread']
      simpa using hfetchv.shadow
    · rw [hread']
      simpa using hfetchv.gang.trans hsolo
    · rw [hread']
      simpa using hfetchv.twoLanes
  obtain ⟨hshadow, hgang, htwo⟩ := hrfetch
  have himg : (r.lineGroups l).moves l p = false := by
    rw [hfetchq.moves]
    refine Eq.trans ?_ hmoves
    simp only [State.moves, State.entries, State.profile]
    cases l <;> simp only [State.img, hshadow]
  have hcycle : (r.lineGroups l).lineCycle l = (r.lineGroups l).runLine l p :=
    lineCycle_run (by rw [hlane]; exact hprog) (by rw [hlane]; exact hmode) hcal (by rw [hlane]; exact hentering)
      (by rw [hlane]; exact hending) (hfetchq.gang.trans hgang)
  obtain ⟨hfetcht, hacqt⟩ := hkept.lineClosed (l := l) (x := x) (hkept.runLine himg hcal ⟨hfetchq, hacqq⟩)
  rw [← hcycle] at hfetcht hacqt
  have heffect : exec (.lineStart l x) s = .next (s.after (((r.lineGroups l).lineCycle l).lineClosed l x)) := by
    rw [exec_lineStart, execLineStart, perform_after, lineStart_eq (p := p) (by simpa [hmode] using progMode_ne_none hcal)
      (by simpa using hprog) (by simpa using hint), hu, hr]
  refine ⟨_, heffect, ?_, fun k hk => ?_⟩
  · have hacq := (after_acq s _ l).trans hacqt
    refine (congrArg Prod.fst hacq).trans ?_
    rw [hread']
    simp [LaneSt.acq]
  · rw [(sameFetch_after (hfetcht.twoLanes.trans htwo)).calSums, hfetcht.calSums]
    refine Eq.trans ?_ ((hsums k (by exact hk)).trans ?_)
    · rw [hfetchv.img]
    · rw [hfetchv.img, hfetchv.calSums]

/-- A lane that is not in a capturing mode has no open pair found. -/
theorem closeHead_eq (hcapture : capturing (s.lane l).mode.work = false) : ∃ f, s.closeHead l = s.modHead l f := by
  unfold State.closeHead
  split
  · exact ⟨id, by cases l <;> rfl⟩
  · rename_i darks clip rails _
    have hzero : ∀ n ∈ (s.lane l).head.railed.mapIdx (fun i n =>
        if (capturing (s.lane l).mode.work && (s.lane l).reading.isSome) && rails.getD i false then n + 1 else 0), n = 0 := by
      simp [List.mem_mapIdx, hcapture]
    have hfind : ((s.lane l).head.railed.mapIdx (fun i n =>
        if (capturing (s.lane l).mode.work && (s.lane l).reading.isSome) && rails.getD i false then n + 1 else 0)).findIdx?
          (· == 64) = none := by
      rw [List.findIdx?_eq_none_iff]
      intro n hn
      rw [hzero n hn]
      rfl
    dsimp only
    rw [hfind]
    exact ⟨_, rfl⟩

/-- What of the lanes the last line's close leaves for the commit. -/
structure State.Ending (s t : State) (l : Lane) : Prop where
  cal : (t.lane l).cal = (s.lane l).cal
  sets : (t.lane l).sets = (s.lane l).sets
  reading : (t.lane l).reading = (s.lane l).reading
  exposing : (t.lane l).exposing = (s.lane l).exposing
  ending : (t.lane l).mode.ending = true
  prog : (t.lane l).mode.prog = (s.lane l).mode.prog
  other : t.lane (otherLane l) = s.lane (otherLane l)

theorem beginEnding_leaves (s : State) (l : Lane) : s.Ending (s.beginEnding l) l := by
  have hlux : LuxKept (s.Ending · l) := fun t f h =>
    ⟨by simpa using h.cal, by simpa using h.sets, by simpa using h.reading, by simpa using h.exposing, by simpa using h.ending,
      by simpa using h.prog, by simpa using h.other⟩
  unfold State.beginEnding
  extract_lets s1 s2 s3 s4
  have h3 : s.Ending s3 l := by
    constructor <;> simp [s3, s2, s1]
  split
  · exact h3
  · refine hlux.plan ?_
    unfold s4
    split
    · exact hlux.discard h3
    · exact h3

theorem readyAcq_commits (hstate : (s.lane l).cal.state = 1) (hkind : (s.lane l).cal.acqKind = 1 ∨ (s.lane l).cal.acqKind = 2)
    (hother : committing (s.lane (otherLane l)).cal = false) : ∃ f : CalSt → CalSt, s.readyAcq l = s.modCal l f
      ∧ f (s.lane l).cal = { (s.lane l).cal with
          kind := (s.lane l).cal.acqKind, set := (s.lane l).cal.acqSet, acqKind := 0, state := 2, count := 0, prog := 0
          slotY := (s.spare l (s.lane l).cal.acqSet).1, seq := (s.spare l (s.lane l).cal.acqSet).2 } := by
  have hidle : committing (s.lane l).cal = false := by simp [committing, hstate]
  have hother' : committing ((s.modCal l (fun c => { c with kind := c.acqKind, set := c.acqSet, acqKind := 0 })).lane
      (otherLane l)).cal = false := by simpa using hother
  have hne : (s.lane l).cal.acqKind ≠ 3 := by omega
  unfold State.readyAcq State.readyCommit State.beginCommit
  simp only [hidle, hother', Bool.false_eq_true, if_false, State.modCal_lane, hne, spare_modCal, modCal_modCal]
  exact ⟨_, rfl, rfl⟩

/-- The close of the last line of an acquisition ends the run and begins its commit. -/
theorem closeLine_last (hprog : (s.lane l).mode.prog = some p) (hcal : calibrating (progMode p) = true)
    (hreading : (s.lane l).reading = some c) (hstate : (s.lane l).cal.state = 1) (hlines : (s.lane l).cal.lines + 1 = p.lines)
    (hkind : (s.lane l).cal.acqKind = 1 ∨ (s.lane l).cal.acqKind = 2)
    (hother : committing (s.lane (otherLane l)).cal = false) : ((s.closeLine l).lane l).acq =
      (none, true, 2, (s.lane l).cal.acqKind, (s.lane l).cal.acqSet, 0, s.spare l (s.lane l).cal.acqSet)
      ∧ ((s.closeLine l).lane l).exposing = (s.lane l).exposing := by
  unfold State.closeLine
  simp only [hreading, hprog, hcal, if_true, State.modLane_lane, State.modPix_lane, hlines]
  generalize hz : State.modCal _ l _ = z
  have hcalz : (z.lane l).cal = { (s.lane l).cal with lines := p.lines } := by simp [← hz]
  have hotherz : z.lane (otherLane l) = s.lane (otherLane l) := by simp [← hz]
  have hsetsz : (z.lane l).sets = (s.lane l).sets := by simp [← hz]
  have hreadz : (z.lane l).reading = none := by simp [← hz]
  have hexpz : (z.lane l).exposing = (s.lane l).exposing := by simp [← hz]
  unfold State.closeAcq
  have hend := beginEnding_leaves (z.modPix l (fun p => { p with active := false })) l
  generalize State.beginEnding _ l = b at hend
  have hcalb : (b.lane l).cal = { (s.lane l).cal with lines := p.lines } := by simpa [hcalz] using hend.cal
  have hspare : ∀ n, b.spare l n = s.spare l n := fun n => by
    have hsets : (b.lane l).sets = (s.lane l).sets := by simpa [hsetsz] using hend.sets
    simp only [State.spare, hsets]
  obtain ⟨f, hready, hf⟩ := readyAcq_commits (s := b) (l := l) (by rw [hcalb]; exact hstate) (by rw [hcalb]; exact hkind)
    (by rw [hend.other]; simpa [hotherz] using hother)
  rw [hready]
  refine ⟨?_, ?_⟩
  · simp only [LaneSt.acq, State.modCal_lane, hf]
    have hread : (b.lane l).reading = none := by simpa [hreadz] using hend.reading
    rw [hread, hend.ending, hcalb, hspare]
  · have hexp : (b.lane l).exposing = (s.lane l).exposing := by simpa [hexpz] using hend.exposing
    simpa using hexp

theorem calLine_last (hint : s.clk.interval = false) (hprog : (s.lane l).mode.prog = some p) (hkind : p.mode = 3 ∨ p.mode = 4)
    (hmode : (s.lane l).mode.mode = progMode p) (hreading : (s.lane l).reading = some c) (hexposing : (s.lane l).exposing = none)
    (hstate : (s.lane l).cal.state = 1) (hlines : (s.lane l).cal.lines + 1 = p.lines)
    (hacq : (s.lane l).cal.acqKind = p.mode - 2) (hother : committing (s.lane (otherLane l)).cal = false) :
    ∃ t, exec (.lineStart l x) s = .next t
      ∧ (t.lane l).mode.ending = true ∧ (t.lane l).reading = none ∧ (t.lane l).cal.state = 2
      ∧ (t.lane l).cal.kind = p.mode - 2 ∧ (t.lane l).cal.set = (s.lane l).cal.acqSet ∧ (t.lane l).cal.acqKind = 0
      ∧ ((t.lane l).cal.slotY, (t.lane l).cal.seq) = s.spare l (s.lane l).cal.acqSet := by
  have hcal := calibrating_of_mode hkind
  obtain ⟨f, a, _, hopened⟩ := lineOpened_eq s.clearOut l x
  obtain ⟨g, hgate⟩ := gateOpened_eq s.clearOut l
  rw [hgate] at hopened
  generalize hu : s.clearOut.lineOpened l x = u at hopened
  have hmodeu : (u.lane l).mode = (s.lane l).mode := by simp [hopened]
  have hcalu : (u.lane l).cal = (s.lane l).cal := by simp [hopened]
  have hreadu : (u.lane l).reading = some c := by simp [hopened, hreading]
  have hexpu : (u.lane l).exposing = none := by simp [hopened, hexposing]
  have hsetsu : (u.lane l).sets = (s.lane l).sets := by simp [hopened]
  have hotheru : (u.lane (otherLane l)).cal = (s.lane (otherLane l)).cal := by simp [hopened]
  have hcapture : capturing (u.lane l).mode.work = false := by
    rw [hmodeu, ModeSt.work, hmode]
    obtain h | h := hkind <;> simp [progMode, h, capturing]
  obtain ⟨f', hhead⟩ := closeHead_eq hcapture
  obtain ⟨hclosed, hexpclosed⟩ := closeLine_last (s := u.closeHead l) (l := l) (p := p) (c := c) (by simp [hhead, hmodeu, hprog])
    hcal (by simp [hhead, hreadu]) (by simp [hhead, hcalu, hstate]) (by simp [hhead, hcalu, hlines])
    (by simp [hhead, hcalu, hacq]; omega) (by simp [hhead, hotheru, hother])
  have hspare : ∀ n, (u.closeHead l).spare l n = s.spare l n := fun n => by simp [State.spare, hhead, hsetsu]
  have hcalv : ((u.closeHead l).lane l).cal = (s.lane l).cal := by simp [hhead, hcalu]
  rw [hcalv, hspare, hacq] at hclosed
  have hnone : (((u.closeHead l).closeLine l).lane l).exposing = none := by
    rw [hexpclosed]
    simp [hhead, hexpu]
  have hread : ((u.lineRead l x).lane l).acq = (none, true, 2, p.mode - 2, (s.lane l).cal.acqSet, 0, s.spare l (s.lane l).cal.acqSet) := by
    unfold State.lineRead
    generalize (u.closeHead l).closeLine l = v at hclosed hnone
    have hbegin : ((v.beginHead l (v.codes l x)).lane l).exposing = none := by simpa [State.beginHead] using hnone
    dsimp only
    split
    · simpa [LaneSt.acq] using hclosed
    · rw [hbegin]
      simpa [LaneSt.acq, State.beginHead] using hclosed
  generalize hr : u.lineRead l x = r at hread
  have hkept := keptByBoundary_acq (l := l) r (r.lane l).acq
  have hgroups := hkept.lineGroups (l := l) (s := r) ⟨⟨rfl, rfl, rfl, rfl, rfl, rfl⟩, rfl⟩
  have hcycle : (r.lineGroups l).lineCycle l = r.lineGroups l := by
    refine lineCycle_ending ?_
    rw [lineGroups_lane]
    exact congrArg (fun v => v.2.1) hread
  have hlast := (hkept.lineClosed (l := l) (x := x) hgroups).2
  have heffect : exec (.lineStart l x) s = .next (s.after ((r.lineGroups l).lineClosed l x)) := by
    rw [exec_lineStart, execLineStart, perform_after, lineStart_eq (p := p) (by simpa [hmode] using progMode_ne_none hcal)
      (by simpa using hprog) (by simpa using hint), hu, hr, hcycle]
  have hfinal := (after_acq s _ l).trans (hlast.trans hread)
  simp only [LaneSt.acq, Prod.mk.injEq] at hfinal
  obtain ⟨hread', hending', hstate', hkind', hset', hacq', hslot⟩ := hfinal
  exact ⟨_, heffect, hending', hread', hstate', hkind', hset', hacq', hslot⟩

end lines

end Sys2Proof.Machine
end


section
/-!
PROOFS. The first commit step of an acquisition run's candidate (R264, R265), and the settlement of O35.
-/

namespace Sys2Proof.Machine

variable {s t : State} {l : Lane}

/-! ### The candidate's payload -/

theorem bytesToWords_lt (bs : List Nat) : ∀ w ∈ bytesToWords bs, w < 65536 := by
  induction bs using bytesToWords.induct with
  | case1 => simp [bytesToWords]
  | case2 b =>
    simp only [bytesToWords, List.mem_singleton, forall_eq]
    omega
  | case3 b c bs ih =>
    simp only [bytesToWords, List.mem_cons, forall_eq_or_imp]
    exact ⟨by omega, ih⟩

theorem flatMap_length {α β : Type} (f : α → List β) (k : Nat) (hf : ∀ x, (f x).length = k) (xs : List α) :
    (xs.flatMap f).length = k * xs.length := by
  induction xs with
  | nil => simp
  | cons x xs ih => rw [List.flatMap_cons, List.length_append, hf, ih, List.length_cons, Nat.mul_succ, Nat.add_comm]

theorem candShading_length (s : State) (l : Lane) : (s.candShading l).length = 131072 := by
  have htap : ∀ k, (if k < (s.img l).head.taps then
      fit 0 32768 ((s.candTap l k (s.img l).head.active).flatMap (fun q => [q.1, q.2]))
      else List.replicate 32768 0).length = 32768 := fun k => by
    split
    · exact fit_length ..
    · exact List.length_replicate
  unfold State.candShading
  dsimp only
  rw [flatMap_length _ 32768 htap, List.length_range]

theorem candidate_lengths (s : State) (l : Lane) : (s.candidate l).coefs.length = 48 ∧ (s.candidate l).refs.length = 8 := by
  unfold State.candidate
  dsimp only
  refine ⟨?_, ?_⟩
  · split <;> simp [coefFill]
  · split <;> simp

theorem candPayload_length (s : State) (l : Lane) (set : Nat) :
    (candPayload l set (s.candidate l) (s.candShading l)).length = payloadLen := by
  obtain ⟨hcoefs, hrefs⟩ := candidate_lengths s l
  simp only [candPayload, List.length_append, slotHeader, fit_length, List.length_replicate, wordsToBytes_length, candShading_length,
    flatMap_length _ 4 (fun x : Int => leBytes_length 4 (unsigned 32 x)), hcoefs, hrefs, payloadLen]

theorem candWords_length (s : State) (l : Lane) (set : Nat) :
    (bytesToWords (candPayload l set (s.candidate l) (s.candShading l))).length = payloadLen / 2 := by
  rw [bytesToWords_length, candPayload_length]
  rfl

/-! ### What the candidate rests on -/

/-- Two states agree on what a lane's candidate is made of. -/
structure SameCand (l : Lane) (s t : State) : Prop where
  fetch : SameFetch s t
  cells : t.flash.cells = s.flash.cells
  sets : (t.lane l).sets = (s.lane l).sets
  head : (t.lane l).head = (s.lane l).head
  cal : ∃ n, (t.lane l).cal = { (s.lane l).cal with newDef := n }

section

variable (h : SameCand l s t)
include h

theorem SameCand.setShading (set tap n : Nat) : t.setShading l set tap n = s.setShading l set tap n := by
  simp only [State.setShading, h.fetch.img, h.fetch.masterRead]

theorem SameCand.calTaps : t.calTaps l = s.calTaps l := by
  obtain ⟨n, hn⟩ := h.cal
  simp only [State.calTaps, hn]

theorem SameCand.carried (tap n : Nat) : t.carried l tap n = s.carried l tap n := by
  obtain ⟨m, hm⟩ := h.cal
  simp only [State.carried, hm, h.cells, h.sets, h.setShading]

theorem SameCand.flatTap (tap n : Nat) : t.flatTap l tap n = s.flatTap l tap n := by
  obtain ⟨m, hm⟩ := h.cal
  simp only [State.flatTap, hm, h.carried, h.fetch.calSums]

theorem SameCand.candTap (tap n : Nat) : t.candTap l tap n = s.candTap l tap n := by
  obtain ⟨m, hm⟩ := h.cal
  simp only [State.candTap, hm, h.carried, h.calTaps, h.flatTap, h.fetch.calSums]

theorem SameCand.candShading : t.candShading l = s.candShading l := by
  simp only [State.candShading, h.fetch.img, h.candTap]

theorem SameCand.laneGroups : t.laneGroups l = s.laneGroups l := by
  have howner : ∀ k, t.hkOwner k = s.hkOwner k := fun k => by
    simp only [State.hkOwner, State.ledgerOwner, h.fetch.shadow, h.fetch.twoLanes]
  simp only [State.laneGroups, h.fetch.shadow, howner]

theorem SameCand.candidate : t.candidate l = s.candidate l := by
  obtain ⟨m, hm⟩ := h.cal
  simp only [State.candidate, State.calType, hm, h.cells, h.sets, h.head, h.fetch.img, h.laneGroups]

theorem SameCand.calReject : t.calReject l = s.calReject l := by
  obtain ⟨m, hm⟩ := h.cal
  simp only [State.calReject, hm, h.fetch.img, h.calTaps, h.flatTap, h.laneGroups]

end

/-! ### Step K1 (R264, R265) -/

theorem sameFetch_noteC2 (s : State) (c2 : Nat) : SameFetch s (s.clearOut.noteC2 c2) :=
  (sameFetch_clearOut s).modMem (fun _ => ⟨rfl, rfl⟩)

theorem sameCand_k1 (s : State) (l : Lane) (c2 n : Nat) :
    SameCand l s ((s.clearOut.noteC2 c2).modCal l (fun c => { c with newDef := n })) where
  fetch := (sameFetch_noteC2 s c2).modLane _ _
  cells := by simp [State.noteC2]
  sets := by simp [State.noteC2]
  head := by simp [State.noteC2]
  cal := ⟨n, by simp [State.noteC2]⟩

/-- With no window fenced, step K1 notes the marked pixels and then puts the candidate into the window or rejects it. -/
theorem calStep_k1 {c2 : Nat} (hstate : (s.lane l).cal.state = 2) (htill : s.fenced l (s.tillSec l).window = false)
    (hpix : s.fenced l (s.img l).pix.window = false) : ∃ n, (s.clearOut.noteC2 c2).calStep l =
      match s.calReject l with
      | some (r, x) => ((((s.clearOut.noteC2 c2).modCal l (fun c => { c with newDef := n })).noteL l 0x9032 [r, x]).endCal l 2)
      | none => ((((s.clearOut.noteC2 c2).modCal l (fun c => { c with newDef := n })).winWrite (s.tillSec l).window candOffset
          (bytesToWords (candPayload l (s.lane l).cal.set (s.candidate l) (s.candShading l)))).modCal l
            (fun c => { c with cand := s.candidate l })).beginK2 l := by
  have hstate' : ((s.clearOut.noteC2 c2).lane l).cal.state = 2 := by simpa [State.noteC2] using hstate
  have hfetch := sameFetch_noteC2 s c2
  have htill' : (s.clearOut.noteC2 c2).fenced l ((s.clearOut.noteC2 c2).tillSec l).window = false := by
    rw [hfetch.tillSec, hfetch.fenced]
    exact htill
  have hpix' : (s.clearOut.noteC2 c2).fenced l ((s.clearOut.noteC2 c2).img l).pix.window = false := by
    rw [hfetch.img, hfetch.fenced]
    exact hpix
  unfold State.calStep
  dsimp only
  rw [hstate']
  simp only
  unfold State.doK1
  simp only [htill', State.fenceNote, hpix', Bool.false_eq_true, if_false]
  generalize hn : min 65535 _ = n
  refine ⟨n, ?_⟩
  have hsame := sameCand_k1 s l c2 n
  have hset : (((s.clearOut.noteC2 c2)).lane l).cal.set = (s.lane l).cal.set := by simp [State.noteC2]
  rw [hsame.calReject, hsame.candidate, hsame.candShading, hsame.fetch.tillSec, State.masterWrite, hsame.fetch.fenced, htill, hset]
  rfl

theorem SameFetch.noteL {c : Nat} {d : List Nat} (h : SameFetch s t) : SameFetch s (t.noteL l c d) :=
  ⟨by simpa using h.shadow, by simpa using h.bank, by simpa using h.tpos, by simpa [State.marching] using h.marching,
    by simpa using h.gang, by simpa using h.twoLanes⟩

/-- The candidate that was put into the window is the commit's, which goes on to K2. -/
def CalSt.put (cd : CalSet) (c : CalSt) : CalSt := { c with cand := cd, state := 3, count := 0 }

theorem beginK2_put (cd : CalSet) : (s.modCal l (fun c => { c with cand := cd })).beginK2 l =
    (s.modCal l (CalSt.put cd)).noteL l 0x9030
      ([(s.lane l).cal.set, b2n (s.lane l).cal.slotY] ++ leWords 2 (s.lane l).cal.seq) := by
  unfold State.beginK2
  simp only [State.modCal_lane, modCal_modCal]
  rfl

/-- A record of the lane in a state that agrees with the settled one on the log, the context and the gang. -/
theorem noteL_plus (hs : s.Settled) (hroom : s.LogRoom) (hlog : t.log = s.log) (hgang : t.sys.gang = s.sys.gang)
    (hrec : ∀ c n p d, t.mkRec c n p d = s.mkRec c n p d) (code : Nat) (d : List Nat) :
    (t.noteL l code d).log.settle = s.log.plus (s.mkRec (code + laneOff l) 0 (s.laneBits l) d) := by
  have hbits : t.laneBits l = s.laneBits l := by simp only [State.laneBits, State.partyBits, hgang]
  rw [State.noteL, State.recordL, hbits]
  exact record_plus hs hroom hlog (hrec _ _ _ _)

/-- A change of one lane's commit shows in no record's context. -/
theorem mkRec_modCal (f : CalSt → CalSt) (c n p : Nat) (d : List Nat) : (s.modCal l f).mkRec c n p d = s.mkRec c n p d :=
  mkRec_congr (by simp) (by simp) (fun k => by cases l <;> cases k <;> simp [State.lane]) (by simp) (by simp) (by simp) (by simp)
    (by simp) _ _ _ _

theorem mkRec_noteC2 (c2 c n p : Nat) (d : List Nat) : (s.clearOut.noteC2 c2).mkRec c n p d = s.mkRec c n p d :=
  mkRec_congr (by simp [State.noteC2]) (by simp [State.noteC2]) (fun k => by simp [State.noteC2]) (by simp [State.noteC2])
    (by simp [State.noteC2]) (by simp [State.noteC2]) (by simp [State.noteC2]) (by simp [State.noteC2]) _ _ _ _

theorem k1_commits {c2 c1 : Nat} (hs : s.Settled) (hmem : s.MemOk) (hroom : s.LogRoom) (hmarch : s.marching = false)
    (hint : s.clk.interval = false) (hrun : s.power.phase = .run) (hstate : (s.lane l).cal.state = 2)
    (hreject : s.calReject l = none) (htill : s.fenced l (s.tillSec l).window = false)
    (hpix : s.fenced l (s.img l).pix.window = false)
    (hlen : candOffset + payloadLen / 2 ≤ (s.shadow.windows.getD (s.tillSec l).window {}).len) :
    ∃ t, exec (.calCommitStepDone ⟨l, c2, c1⟩) s = .next t ∧ (t.lane l).cal.state = 3
      ∧ (t.lane l).cal.cand = s.candidate l
      ∧ t.masterRead l (s.tillSec l).window candOffset (payloadLen / 2)
        = bytesToWords (candPayload l (s.lane l).cal.set (s.candidate l) (s.candShading l))
      ∧ t.log = s.log.plus (s.mkRec (0x9030 + laneOff l) 0 (s.laneBits l)
          ([(s.lane l).cal.set, b2n (s.lane l).cal.slotY] ++ leWords 2 (s.lane l).cal.seq))
      ∧ Frame [.lane l, .log, .mem, .bank] s t := by
  obtain ⟨n, hstep⟩ := calStep_k1 (c2 := c2) hstate htill hpix
  rw [hreject] at hstep
  simp only at hstep
  have hwords := candWords_length s l (s.lane l).cal.set
  have hlt := bytesToWords_lt (candPayload l (s.lane l).cal.set (s.candidate l) (s.candShading l))
  generalize bytesToWords (candPayload l (s.lane l).cal.set (s.candidate l) (s.candShading l)) = ws at hstep hwords hlt
  have hsame := (sameCand_k1 s l c2 n).fetch
  have halters : Alters [.lane l, .log, .mem, .bank] s.clearOut
      ((s.clearOut.noteC2 c2).modCal l (fun c => { c with newDef := n })) :=
    ((Alters.refl _ _).modMem (by simp)).modCal (by simp)
  have hcal : (((s.clearOut.noteC2 c2).modCal l (fun c => { c with newDef := n })).lane l).cal = { (s.lane l).cal with newDef := n } := by
    simp [State.noteC2]
  have hrest : ((s.clearOut.noteC2 c2).modCal l (fun c => { c with newDef := n })).log = s.log
      ∧ ∀ c m p d, ((s.clearOut.noteC2 c2).modCal l (fun c => { c with newDef := n })).mkRec c m p d = s.mkRec c m p d :=
    ⟨by simp [State.noteC2], fun c m p d => (mkRec_modCal ..).trans (mkRec_noteC2 ..)⟩
  generalize (s.clearOut.noteC2 c2).modCal l (fun c => { c with newDef := n }) = z at hstep hsame halters hcal hrest
  have hpos : 0 < (z.shadow.windows.getD (s.tillSec l).window {}).len := by
    rw [hsame.shadow]
    exact Nat.lt_of_lt_of_le (by decide) hlen
  have hread : (z.winWrite (s.tillSec l).window candOffset ws).winRead (s.tillSec l).window candOffset (payloadLen / 2) = ws := by
    rw [← hwords, winRead_winWrite (by rw [hsame.bank]; exact hmem.1) (hsame.marching.trans hmarch) hpos
      (by rw [hwords, hsame.shadow]; exact hlen)]
    exact (List.map_congr_left (fun w hw => Nat.mod_eq_of_lt (hlt w hw))).trans (List.map_id ws)
  have hpower : z.power = s.power := halters .power (by simp)
  obtain ⟨m, hm⟩ := winWrite_eq_bank z (s.tillSec l).window candOffset ws
  rw [hm, beginK2_put] at hstep
  rw [hm] at hread
  have hw : State.fenced { z with bank := m } l (s.tillSec l).window = false ∧ State.twoLanes { z with bank := m } = s.twoLanes
      ∧ State.log { z with bank := m } = s.log ∧ State.power { z with bank := m } = s.power
      ∧ State.sys { z with bank := m } = z.sys ∧ State.lane { z with bank := m } l = z.lane l
      ∧ (∀ c n p d, State.mkRec { z with bank := m } c n p d = s.mkRec c n p d)
      ∧ Alters [.lane l, .log, .mem, .bank] s.clearOut { z with bank := m } :=
    ⟨(hsame.fenced l _).trans htill, hsame.twoLanes, hrest.1, hpower, rfl, by cases l <;> rfl, hrest.2, halters.setBank (by simp)⟩
  obtain ⟨hopen, htwo, hlog, hpw, hsys, hlane, hrec, hput⟩ := hw
  generalize ({ z with bank := m } : State) = w at hstep hread hopen htwo hlog hpw hsys hlane hrec hput
  rw [hlane, hcal] at hstep
  have hexec := calCommitStepDone_eq (l := l) (c2 := c2) (c1 := c1) hint (by simp [committing, hstate]) (by simp [hstate])
    (by rw [hstep]; simpa [hpw] using hrun)
  rw [hstep] at hexec
  have hkeep : ∀ d, SameFetch w (s.after ((w.modCal l (CalSt.put (s.candidate l))).noteL l 0x9030 d)) := fun d => by
    have hnew : SameFetch w ((w.modCal l (CalSt.put (s.candidate l))).noteL l 0x9030 d) :=
      (SameFetch.modLane ⟨rfl, rfl, rfl, rfl, rfl, rfl⟩ l _).noteL
    exact hnew.trans (sameFetch_after (hnew.twoLanes.trans htwo))
  refine ⟨_, hexec, by simp [CalSt.put], by simp [CalSt.put], ?_, ?_, ?_⟩
  · rw [(hkeep _).masterRead, State.masterRead, hopen]
    exact hread
  · rw [after_log]
    exact noteL_plus hs hroom (by simpa using hlog) (by simpa [hsys] using hsame.gang)
      (fun c n p d => (mkRec_modCal ..).trans (hrec c n p d)) _ _
  · exact ((hput.modCal (by simp)).noteL (by simp)).frame hs

/-! ### A rejected candidate (R264) -/

/-- The commit has ended without a candidate, and no run waits for it. -/
def CalSt.rejected (c : CalSt) : CalSt := { c with state := 0, result := 2 }

theorem endCal_rejects (hop : s.flash.op = none) (hkind : (s.lane l).cal.acqKind = 0) (hwait : (s.lane l).cal.acqWait = false)
    (hother : (s.lane (otherLane l)).cal.state ≠ 9) : s.endCal l 2 = (s.modCal l CalSt.rejected).event 9 := by
  have hnone : ((s.modCal l CalSt.rejected).event 9).nextCommitter = (s.modCal l CalSt.rejected).event 9 := by
    cases l
    · exact nextCommitter_of_none (by simp [CalSt.rejected]) (by simpa [otherLane, State.lane] using hother)
    · exact nextCommitter_of_none (by simpa [otherLane, State.lane] using hother) (by simp [CalSt.rejected])
  have hfin : (s.modCal l (fun c =>
      if c.acqWait then { c with state := 9, kind := c.acqKind, set := c.acqSet, acqKind := 0, acqWait := false, result := 2 }
      else if c.acqKind != 0 then { c with state := 1, kind := c.acqKind, set := c.acqSet, result := 2 }
      else { c with state := 0, result := 2 })) = s.modCal l CalSt.rejected := by
    cases l <;> simp_all [State.modCal, State.modLane, CalSt.rejected, State.lane]
  rw [State.endCal, orphan_none (by simp [hop])]
  refine Eq.trans ?_ hnone
  rw [← hfin]
  rfl

theorem k1_rejects {c2 c1 r x : Nat} (hs : s.Settled) (hroom : s.LogRoom) (hint : s.clk.interval = false)
    (hrun : s.power.phase = .run) (hstate : (s.lane l).cal.state = 2) (hreject : s.calReject l = some (r, x))
    (hkind : (s.lane l).cal.acqKind = 0) (hwait : (s.lane l).cal.acqWait = false)
    (hother : (s.lane (otherLane l)).cal.state ≠ 9) (htill : s.fenced l (s.tillSec l).window = false)
    (hpix : s.fenced l (s.img l).pix.window = false) (hop : s.flash.op = none) :
    ∃ t, exec (.calCommitStepDone ⟨l, c2, c1⟩) s = .next t ∧ (t.lane l).cal.state = 0 ∧ (t.lane l).cal.result = 2
      ∧ t.log = s.log.plus (s.mkRec (0x9032 + laneOff l) 0 (s.laneBits l) [r, x])
      ∧ t.bank = s.bank ∧ Frame [.lane l, .log, .mem] s t := by
  obtain ⟨n, hstep⟩ := calStep_k1 (c2 := c2) hstate htill hpix
  rw [hreject] at hstep
  simp only at hstep
  have hz : SameFetch s ((s.clearOut.noteC2 c2).modCal l (fun c => { c with newDef := n }))
      ∧ Alters [.lane l, .log, .mem] s.clearOut ((s.clearOut.noteC2 c2).modCal l (fun c => { c with newDef := n }))
      ∧ ((s.clearOut.noteC2 c2).modCal l (fun c => { c with newDef := n })).log = s.log
      ∧ ((s.clearOut.noteC2 c2).modCal l (fun c => { c with newDef := n })).flash.op = none
      ∧ (((s.clearOut.noteC2 c2).modCal l (fun c => { c with newDef := n })).lane l).cal = { (s.lane l).cal with newDef := n }
      ∧ (((s.clearOut.noteC2 c2).modCal l (fun c => { c with newDef := n })).lane (otherLane l)).cal.state ≠ 9
      ∧ ∀ c m p d, ((s.clearOut.noteC2 c2).modCal l (fun c => { c with newDef := n })).mkRec c m p d = s.mkRec c m p d :=
    ⟨(sameCand_k1 s l c2 n).fetch, ((Alters.refl _ _).modMem (by simp)).modCal (by simp), by simp [State.noteC2],
      by simpa [State.noteC2] using hop, by simp [State.noteC2], by simpa [State.noteC2] using hother,
      fun c m p d => (mkRec_modCal ..).trans (mkRec_noteC2 ..)⟩
  obtain ⟨hsame, halters, hlog, hopz, hcal, hotherz, hrec⟩ := hz
  generalize (s.clearOut.noteC2 c2).modCal l (fun c => { c with newDef := n }) = z at hstep hsame halters hlog hopz hcal hotherz hrec
  rw [endCal_rejects (by simpa using hopz) (by simpa [hcal] using hkind) (by simpa [hcal] using hwait) (by simpa using hotherz)] at hstep
  have hpower : z.power = s.power := halters .power (by simp)
  have hexec := calCommitStepDone_eq (l := l) (c2 := c2) (c1 := c1) hint (by simp [committing, hstate]) (by simp [hstate])
    (by rw [hstep]; simpa [hpower] using hrun)
  rw [hstep] at hexec
  refine ⟨_, hexec, by simp [CalSt.rejected], by simp [CalSt.rejected], ?_, ?_, ?_⟩
  · rw [after_log, State.event_log, State.modCal_log]
    exact noteL_plus hs hroom hlog hsame.gang hrec _ _
  · simpa using hsame.bank
  · exact (((halters.noteL (by simp)).modCal (by simp)).event).frame hs

/-! ### The dark candidate (R260) -/

theorem candTap_dark {k n i : Nat} (hkind : (s.lane l).cal.kind = 1) (hk : k ∈ s.calTaps l) (hi : i < n) :
    (s.candTap l k n).getD i (0, 0) = (((s.calSums l k n).getD i 0 + (s.lane l).cal.total / 2) / (s.lane l).cal.total,
      ((s.carried l k n).getD i (0, 0)).2) := by
  have hbase : (s.carried l k n).length = n := by
    simp only [State.carried, hkind, if_neg (by decide : ¬1 = 3), List.length_map, State.setShading, List.length_range]
  have hsums : i < (s.calSums l k n).length := by rw [calSums_length]; exact hi
  have hin : i < (s.carried l k n).length := by rw [hbase]; exact hi
  unfold State.candTap
  simp only [List.contains_iff_mem.mpr hk, Bool.not_true, Bool.false_eq_true, if_false, hkind, if_true]
  simp [List.getD_eq_getElem?_getD, hsums, hin, calMean]

/-- Settles O35: lines add to the sums, the last one begins the commit, K1 puts the candidate or rejects it, and a dark candidate
is the mean. -/
theorem calibrationRunAcquires : Obligations.CalibrationRunAcquires := by
  unfold Obligations.CalibrationRunAcquires
  refine ⟨?_, ?_, ?_, ?_, ?_⟩
  · intro l x p c s hmem hmarch hint hsolo hprog hkind hmode hmoves hentering hending htrim hclock hdriving hreadout hreading
      hexposing hopen hlen hactive _
    exact calLine_sums hmem hmarch hint hsolo hprog hkind hmode hmoves hentering hending htrim hclock hdriving hreadout hreading
      hexposing hopen hlen hactive
  · intro l x p c s hint _ hprog hkind hmode _ _ _ hreading hexposing hstate hlines hacq hother
    exact calLine_last hint hprog hkind hmode hreading hexposing hstate hlines hacq hother
  · intro l c2 c1 s hs hmem hroom hmarch hint hrun hstate hreject htill hpix hlen
    exact k1_commits hs hmem hroom hmarch hint hrun hstate hreject htill hpix hlen
  · intro l c2 c1 r x s hs hroom hint hrun hstate hreject hkind hwait hother htill hpix hop
    exact k1_rejects hs hroom hint hrun hstate hreject hkind hwait hother htill hpix hop
  · intro l k n i s hkind hk _ hi
    exact candTap_dark hkind hk hi

end Sys2Proof.Machine
end


section
/-!
PROOFS. Step 4 of a full start: the copy of the Ledger that is chosen, and what its checks come to (R43 to R61, R594).
-/

namespace Sys2Proof.Machine

variable {s t : State}

/-- LEDGER's state changed. -/
def State.modLedger (s : State) (f : LedgerStatus → LedgerStatus) : State := { s with ledger := f s.ledger }

/-! ### What is kept up to the choice of the copy -/

/-- Step 4 has not come to its verdict: the start goes on, and the shadow is as it was. -/
structure State.Searching (s : State) (ok : Bool) (t : State) : Prop where
  phase : t.power.phase = s.power.phase
  stage : t.power.stage = s.power.stage
  offLatched : t.power.offLatched = s.power.offLatched
  shadow : t.shadow = s.shadow
  cells : t.flash.cells = s.flash.cells
  two : t.twoLanes = s.twoLanes
  safe : t.sys.safe = s.sys.safe
  flashOk : t.ledger.flashOk = ok

theorem State.Searching.record {ok : Bool} {c n p : Nat} {d : List Nat} (h : s.Searching ok t) : s.Searching ok (t.record c n p d) :=
  ⟨by simpa using h.phase, by simpa using h.stage, by simpa using h.offLatched, by simpa using h.shadow, by simpa using h.cells,
    by simpa using h.two, by simpa using h.safe, by simpa using h.flashOk⟩

theorem State.Searching.note {ok : Bool} {c : Nat} {d : List Nat} (h : s.Searching ok t) : s.Searching ok (t.note c d) := h.record

theorem State.Searching.modLedger {ok : Bool} {f : LedgerStatus → LedgerStatus} (hf : (f t.ledger).flashOk = t.ledger.flashOk)
    (h : s.Searching ok t) : s.Searching ok (t.modLedger f) :=
  ⟨h.phase, h.stage, h.offLatched, h.shadow, h.cells, h.two, h.safe, hf.trans h.flashOk⟩

/-- What step 4 finds of U20 and of the ring, before it looks for a copy. -/
def State.surveyed (s : State) (ok : Bool) : State :=
  let t := ((s.modLedger (fun g => { g with
    flashOk := ok, addr4 := ok && s.flash.dev.addr4, density := if ok then s.flash.dev.density else 0 })).discover.locateRing
      ok).judgeStart ok
  t.note 0x0002 [t.power.startCause]

theorem surveyed_searching (s : State) (ok : Bool) : s.Searching ok (s.surveyed ok) := by
  unfold State.surveyed
  generalize hu : s.modLedger _ = u
  have hu : s.Searching ok u := by
    rw [← hu]
    exact ⟨rfl, rfl, rfl, rfl, rfl, rfl, rfl, rfl⟩
  have hdiscover : s.Searching ok u.discover := by
    unfold State.discover
    dsimp only
    split <;> exact ⟨hu.phase, hu.stage, hu.offLatched, hu.shadow, hu.cells, hu.two, hu.safe, hu.flashOk⟩
  generalize u.discover = v at hdiscover
  have hring : s.Searching ok (v.locateRing ok) := ⟨hdiscover.phase, hdiscover.stage, hdiscover.offLatched, hdiscover.shadow,
    hdiscover.cells, hdiscover.two, hdiscover.safe, hdiscover.flashOk⟩
  generalize v.locateRing ok = w at hring
  refine State.Searching.note ?_
  unfold State.judgeStart
  split
  · exact ⟨hring.phase, hring.stage, hring.offLatched, hring.shadow, hring.cells, hring.two, hring.safe, hring.flashOk⟩
  · exact hring

/-- The oldest sector of a full ring is to be reclaimed. -/
def State.reclaimed (s : State) : State :=
  match ringToReclaim s.flash.cells (ringCurrent s.flash.cells) with
  | some k => s.noteReclaim k
  | none => s

/-- The descriptor in use shown, a missing one recorded. -/
def State.described (s : State) (n : Nat) : State :=
  let s := s.modLedger (fun g => { g with desc := n })
  if n = 2 then s.note 0x7003 else s

/-- The state as the choice of a copy has noted what it found. -/
def State.chosen (s : State) : State :=
  let c := chooseDesc s.reclaimed.flash.cells
  let t := s.reclaimed.described c.1
  (pickCopy t.flash.cells c.2.1 c.2.2).rejected.foldl (fun s q => s.note 0x7004 [q.1, q.2]) t

theorem reclaimed_searching {ok : Bool} (h : s.Searching ok t) : s.Searching ok t.reclaimed := by
  unfold State.reclaimed State.noteReclaim
  split
  · rename_i k _
    split
    · exact h
    · have hn := h.note (c := 0x7040) (d := [k % ringSectors])
      exact ⟨hn.phase, hn.stage, hn.offLatched, hn.shadow, hn.cells, hn.two, hn.safe, hn.flashOk⟩
  · exact h

theorem described_searching {ok : Bool} (h : s.Searching ok t) (n : Nat) : s.Searching ok (t.described n) := by
  have h1 := h.modLedger (f := fun g => { g with desc := n }) rfl
  unfold State.described
  dsimp only
  split
  · exact h1.note
  · exact h1

theorem chosen_searching {ok : Bool} (h : s.Searching ok t) : s.Searching ok t.chosen :=
  foldl_keeps (P := s.Searching ok) (fun h => h.note) _ (described_searching (reclaimed_searching h) _)

/-- The copy that the descriptors and the copies' headers select. -/
def State.pick (s : State) : CopyPick := pickCopy s.flash.cells (chooseDesc s.flash.cells).2.1 (chooseDesc s.flash.cells).2.2

theorem step4_unfit (h : (s.flash.dev.sfdp && s.flash.dev.conforms) = false) : ∃ fs, s.step4 = (s.surveyed false).verdict fs := by
  unfold State.step4
  by_cases hsfdp : s.flash.dev.sfdp = true
  · have hconf : s.flash.dev.conforms = false := by simpa [hsfdp] using h
    simp only [hsfdp, hconf, Bool.not_true, Bool.false_eq_true, if_false, Bool.true_and, Bool.not_false, if_true]
    exact ⟨_, rfl⟩
  · have hno : s.flash.dev.sfdp = false := by simpa using hsfdp
    simp only [hno, Bool.not_false, if_true, Bool.false_and]
    exact ⟨_, rfl⟩

theorem step4_fit (hsfdp : s.flash.dev.sfdp = true) (hconf : s.flash.dev.conforms = true) : s.step4 =
    match s.pick.slot with
    | none => (s.surveyed true).chosen.verdict [(0x7005, [])]
    | some k => (s.surveyed true).chosen.takeCopy k s.pick.fallback := by
  have hreclaimed := reclaimed_searching (surveyed_searching s true)
  have hdescribed := (described_searching hreclaimed (chooseDesc (s.surveyed true).reclaimed.flash.cells).1).cells
  have hpick : s.pick = pickCopy ((s.surveyed true).reclaimed.described (chooseDesc (s.surveyed true).reclaimed.flash.cells).1).flash.cells
      (chooseDesc (s.surveyed true).reclaimed.flash.cells).2.1 (chooseDesc (s.surveyed true).reclaimed.flash.cells).2.2 := by
    rw [State.pick, hdescribed, hreclaimed.cells]
  unfold State.step4
  simp only [hsfdp, hconf, Bool.and_self, Bool.not_true, Bool.false_eq_true, if_false]
  rw [hpick]
  rfl

end Sys2Proof.Machine
end


section
/-!
PROOFS. What step 4's checks come to: SAFE, or the copy as the shadow (R46 to R61).
-/

namespace Sys2Proof.Machine

variable {s t : State}

/-! ### A verdict -/

theorem enterSafe_ledger (s : State) (c : Nat) : (s.enterSafe c).ledger = s.ledger ∧ (s.enterSafe c).shadow = s.shadow := by
  obtain ⟨hentry, hentry'⟩ := endEntry_alters s .ledger (by simp)
  obtain ⟨hquench, hquench'⟩ := quenched_alters s.endEntry c .ledger (by simp [stopParts, sundry])
  obtain ⟨hsafe, hsafe'⟩ := enterSafe_alters s c .ledger (by simp)
  have hsafed : ∀ u : State, u.safed.ledger = u.ledger ∧ u.safed.shadow = u.shadow := fun u => by
    unfold State.safed
    dsimp only
    split <;> exact ⟨rfl, rfl⟩
  exact ⟨hsafe.trans ((hsafed _).1.trans (hquench.trans hentry)), hsafe'.trans ((hsafed _).2.trans (hquench'.trans hentry'))⟩

theorem enterSafe_power (s : State) (c : Nat) (h : s.power.goesOn = false) :
    (s.enterSafe c).power = { s.power with phase := .run, stage := 0, offCancel := false } := by
  have hentry : s.endEntry.power = s.power := endEntry_alters s .power (by simp)
  have hquench : (s.endEntry.quenched c).power = s.endEntry.power := quenched_alters s.endEntry c .power (by simp [stopParts, sundry])
  have hsafe : (s.enterSafe c).power = (s.endEntry.quenched c).safed.power := enterSafe_alters s c .power (by simp)
  rw [hentry] at hquench
  generalize s.endEntry.quenched c = u at hquench hsafe
  rw [hsafe, State.safed]
  simp [hquench, h]

/-- A verdict ends the start in SAFE, the shadow left as it was. -/
structure State.Condemned (s t : State) : Prop where
  safe : ∃ c, t.InSafe c
  ledger : t.ledger = { s.ledger with verdictSafe := true, laneACfg := false, laneBCfg := false }
  shadow : t.shadow = s.shadow
  phase : t.power.phase = .run
  offLatched : t.power.offLatched = s.power.offLatched

theorem verdict_condemns (fs : List Finding) (h : s.power.phase = .bringup) : s.Condemned (s.verdict fs) := by
  unfold State.verdict
  dsimp only
  generalize hu : List.foldl _ _ fs = u
  have hkept : u.ledger = { s.ledger with verdictSafe := true, laneACfg := false, laneBCfg := false } ∧ u.shadow = s.shadow
      ∧ u.power = s.power := by
    rw [← hu]
    refine foldl_keeps (P := fun u => u.ledger = { s.ledger with verdictSafe := true, laneACfg := false, laneBCfg := false }
      ∧ u.shadow = s.shadow ∧ u.power = s.power) (fun {t f} h => ?_) _ ⟨rfl, rfl, rfl⟩
    simpa using h
  obtain ⟨hledger, hshadow, hpower⟩ := hkept
  have hpw := enterSafe_power u ((fs.head?.map Prod.fst).getD 0) (by rw [hpower]; simp [PowerSt.goesOn, h])
  obtain ⟨hl, hsh⟩ := enterSafe_ledger u ((fs.head?.map Prod.fst).getD 0)
  have hin := enterSafe_inSafe u ((fs.head?.map Prod.fst).getD 0)
  generalize u.enterSafe ((fs.head?.map Prod.fst).getD 0) = v at hpw hl hsh hin
  refine ⟨⟨_, ⟨hin.safe, hin.ready, hin.clk, hin.off, hin.sleep⟩⟩, hl.trans hledger, hsh.trans hshadow, ?_, ?_⟩
  · simp [hpw]
  · simp [hpw, hpower]

/-! ### The copy taken over -/

/-- What a copy reads as. -/
def State.copied (s : State) (k : Nat) : Ledger :=
  let h := Mem.flash s.flash.cells (copyBase k) 64
  readLedger s.twoLanes (u32 h 8) (u32 h 12) (copySects s.flash.cells k)

/-- What the checks of a copy come to. -/
def State.judgment (s : State) (k : Nat) : Verdict := judge s.twoLanes (copySects s.flash.cells k) (s.copied k)

/-- LEDGER's state with a copy under its checks. -/
def LedgerStatus.selected (g : LedgerStatus) (k : Nat) (fallback : Bool) (led : Ledger) (ok : List Bool) : LedgerStatus :=
  { g with copy := k, fallback := fallback, seq := led.seq, lenUnits := (led.length + 255) / 256, progOk := ok }

/-- The copy's notes written. -/
def State.copyNoted (s : State) (k : Nat) (fallback : Bool) : State :=
  let led := s.copied k
  let v := s.judgment k
  let s := s.modLedger (fun g => g.selected k fallback led v.progOk)
  let s := v.notes.foldl (fun s f => s.record f.1 0 (led.findingBits f) f.2) s
  if led.bandBad led.fcode then s.note 0x2005 else s

/-- The copy as the shadow, with the lanes that it configures. -/
def State.adopted (s : State) (led : Ledger) : State :=
  { s with
    shadow := led
    ledger := { s.ledger with laneACfg := true, laneBCfg := s.twoLanes && led.laneB.isSome } }

theorem adopted_keeps (s : State) (led : Ledger) : (s.adopted led).power = s.power ∧ (s.adopted led).sys = s.sys
    ∧ (s.adopted led).shadow = led
    ∧ (s.adopted led).ledger = { s.ledger with laneACfg := true, laneBCfg := s.twoLanes && led.laneB.isSome } :=
  ⟨rfl, rfl, rfl, rfl⟩

theorem takeCopy_eq (s : State) (k : Nat) (fallback : Bool) : s.takeCopy k fallback =
    if (s.judgment k).safes.isEmpty then (s.copyNoted k fallback).adopted (s.copied k)
    else (s.copyNoted k fallback).verdict (s.judgment k).safes := rfl

/-- A copy's notes change the log alone, beside what LEDGER shows of the copy. -/
theorem copyNoted_keeps (s : State) (k : Nat) (fallback : Bool) :
    (s.copyNoted k fallback).ledger = s.ledger.selected k fallback (s.copied k) (s.judgment k).progOk
    ∧ (s.copyNoted k fallback).shadow = s.shadow ∧ (s.copyNoted k fallback).power = s.power
    ∧ (s.copyNoted k fallback).sys.safe = s.sys.safe ∧ (s.copyNoted k fallback).twoLanes = s.twoLanes := by
  unfold State.copyNoted
  extract_lets led v s1 s2
  have h2 : s2.ledger = s.ledger.selected k fallback (s.copied k) (s.judgment k).progOk ∧ s2.shadow = s.shadow
      ∧ s2.power = s.power ∧ s2.sys.safe = s.sys.safe ∧ s2.twoLanes = s.twoLanes := by
    refine foldl_keeps (P := fun u : State => u.ledger = s.ledger.selected k fallback (s.copied k) (s.judgment k).progOk
      ∧ u.shadow = s.shadow ∧ u.power = s.power ∧ u.sys.safe = s.sys.safe ∧ u.twoLanes = s.twoLanes) (fun {t f} h => ?_) _
      ⟨rfl, rfl, rfl, rfl, rfl⟩
    simpa using h
  split
  · simpa [State.note] using h2
  · exact h2

/-! ### The end of step 4 -/

theorem bringupStep_condemned {r : StepReport} (hphase : s.power.phase = .bringup) (hstage : s.power.stage = 4)
    (hoff : s.power.offLatched = false) (hrun : s.step4.power.phase = .run) (hoff' : s.step4.power.offLatched = false) :
    s.bringupStep r = s.step4 := by
  unfold State.bringupStep
  simp [hphase, hstage, hoff, State.endStep, hrun, State.latchedOff, hoff']

/-- The end of step 4 with a copy taken over: step 5 begins. -/
def State.stepFive (s : State) : State :=
  ((s.modPower (fun p => { p with stepDone := 4 })).modMem (fun m => { m with tpos := 0, found := [], pauses := 0 })).modPower
    (fun p => { p with stage := 5 })

theorem bringupStep_taken {r : StepReport} (hphase : s.power.phase = .bringup) (hstage : s.power.stage = 4)
    (hoff : s.power.offLatched = false) (hphase' : s.step4.power.phase = .bringup) (hstage' : s.step4.power.stage = 4)
    (hoff' : s.step4.power.offLatched = false) : s.bringupStep r = s.step4.stepFive := by
  unfold State.bringupStep
  simp [hphase, hstage, hoff, State.endStep, hphase', hstage', hoff', nextStep, State.stepFive]

end Sys2Proof.Machine
end


section
/-!
PROOFS. Step 4's outcomes as a command ends it (R43 to R61, R594).
-/

namespace Sys2Proof.Machine

variable {s t : State} {r : StepReport}

/-- A state in which a full start ends step 4 at its next report. -/
structure State.AtStep4 (s : State) : Prop where
  phase : s.power.phase = .bringup
  stage : s.power.stage = 4
  offLatched : s.power.offLatched = false
  interval : s.clk.interval = false

theorem State.AtStep4.clearOut (h : s.AtStep4) : s.clearOut.AtStep4 :=
  ⟨by simpa using h.phase, by simpa using h.stage, by simpa using h.offLatched, by simpa using h.interval⟩

theorem step4_exec (h : s.AtStep4) : exec (.bringupStepComplete r) s = .next (s.after (s.clearOut.bringupStep r)) := by
  rw [exec_bringupStepComplete, execBringupStepComplete, perform_after, if_pos (by simp [h.phase, h.interval])]

/-- A verdict in step 4 as the command shows it. -/
theorem condemned_exec {u : State} (h : s.AtStep4) {ok : Bool} (hu : s.clearOut.Searching ok u) {fs : List Finding} {v : State}
    (hv : v.power = u.power ∧ v.shadow = u.shadow) (hstep : s.clearOut.step4 = v.verdict fs) :
    exec (.bringupStepComplete r) s = .next (s.after (v.verdict fs)) ∧ (s.after (v.verdict fs)).sys.safe = true
      ∧ (s.after (v.verdict fs)).sys.faultN = false
      ∧ (s.after (v.verdict fs)).ledger = { v.ledger with verdictSafe := true, laneACfg := false, laneBCfg := false }
      ∧ (s.after (v.verdict fs)).shadow = s.shadow := by
  have hc := h.clearOut
  obtain ⟨hpower, hshadow⟩ := hv
  have hcond := verdict_condemns (s := v) fs (by rw [hpower, hu.phase]; exact hc.phase)
  have hoff : (v.verdict fs).power.offLatched = false := by
    rw [hcond.offLatched, hpower, hu.offLatched]
    exact hc.offLatched
  have hbring := bringupStep_condemned (r := r) hc.phase hc.stage hc.offLatched (by rw [hstep]; exact hcond.phase)
    (by rw [hstep]; exact hoff)
  obtain ⟨c, hin⟩ := hcond.safe
  refine ⟨by rw [step4_exec h, hbring, hstep], ?_, hin.faultN_low s, ?_, ?_⟩
  · rw [after_sys_safe]
    exact hin.safe
  · rw [after_ledger]
    exact hcond.ledger
  · rw [after_shadow, hcond.shadow, hshadow, hu.shadow, State.clearOut_shadow]

theorem unfit_condemned (h : s.AtStep4) (hbad : (s.flash.dev.sfdp && s.flash.dev.conforms) = false) :
    ∃ t, exec (.bringupStepComplete r) s = .next t ∧ t.sys.safe = true ∧ t.sys.faultN = false
      ∧ t.ledger.verdictSafe = true ∧ t.ledger.flashOk = false ∧ t.shadow = s.shadow := by
  obtain ⟨fs, hstep⟩ := step4_unfit (s := s.clearOut) (by simpa using hbad)
  have hu := surveyed_searching s.clearOut false
  obtain ⟨hexec, hsafe, hfault, hledger, hshadow⟩ := condemned_exec (r := r) h hu ⟨rfl, rfl⟩ hstep
  exact ⟨_, hexec, hsafe, hfault, by rw [hledger], by rw [hledger]; exact hu.flashOk, hshadow⟩

theorem searched (s : State) : s.clearOut.Searching true (s.clearOut.surveyed true).chosen :=
  chosen_searching (surveyed_searching s.clearOut true)

theorem noCopy_condemned (h : s.AtStep4) (hsfdp : s.flash.dev.sfdp = true) (hconf : s.flash.dev.conforms = true)
    (hnone : s.pick.slot = none) :
    ∃ t, exec (.bringupStepComplete r) s = .next t ∧ t.sys.safe = true ∧ t.sys.faultN = false
      ∧ t.ledger.verdictSafe = true ∧ t.ledger.flashOk = true ∧ t.shadow = s.shadow := by
  have hstep := step4_fit (s := s.clearOut) (by simpa using hsfdp) (by simpa using hconf)
  have hpick : s.clearOut.pick = s.pick := by simp [State.pick]
  rw [hpick, hnone] at hstep
  obtain ⟨hexec, hsafe, hfault, hledger, hshadow⟩ := condemned_exec (r := r) h (searched s) ⟨rfl, rfl⟩ hstep
  exact ⟨_, hexec, hsafe, hfault, by rw [hledger], by rw [hledger]; exact (searched s).flashOk, hshadow⟩

/-- The copy selected as the command sees it. -/
theorem searched_copy (s : State) (k : Nat) : (s.clearOut.surveyed true).chosen.copied k = s.copied k
    ∧ (s.clearOut.surveyed true).chosen.judgment k = s.judgment k := by
  have hu := searched s
  have hcopied : (s.clearOut.surveyed true).chosen.copied k = s.copied k := by
    simp only [State.copied, hu.cells, hu.two, State.clearOut_flash, State.clearOut_twoLanes]
  refine ⟨hcopied, ?_⟩
  simp only [State.judgment, hcopied, hu.cells, hu.two, State.clearOut_flash, State.clearOut_twoLanes]

theorem copy_condemned (h : s.AtStep4) (hsfdp : s.flash.dev.sfdp = true) (hconf : s.flash.dev.conforms = true) {k : Nat}
    (hsome : s.pick.slot = some k) (hbad : (s.judgment k).safes ≠ []) :
    ∃ t, exec (.bringupStepComplete r) s = .next t ∧ t.sys.safe = true ∧ t.sys.faultN = false
      ∧ t.ledger.verdictSafe = true ∧ t.ledger.copy = k ∧ t.ledger.laneACfg = false ∧ t.shadow = s.shadow
      ∧ t.ledger.fallback = s.pick.fallback := by
  have hstep := step4_fit (s := s.clearOut) (by simpa using hsfdp) (by simpa using hconf)
  have hpick : s.clearOut.pick = s.pick := by simp [State.pick]
  obtain ⟨hcopied, hjudged⟩ := searched_copy s k
  rw [hpick, hsome] at hstep
  simp only [takeCopy_eq, hjudged] at hstep
  rw [if_neg (by simpa using hbad)] at hstep
  obtain ⟨hledger', hshadow', hpower', _⟩ := copyNoted_keeps (s.clearOut.surveyed true).chosen k s.pick.fallback
  obtain ⟨hexec, hsafe, hfault, hledger, hshadow⟩ := condemned_exec (r := r) h (searched s) ⟨hpower', hshadow'⟩ hstep
  rw [hledger'] at hledger
  exact ⟨_, hexec, hsafe, hfault, by rw [hledger], by rw [hledger]; rfl, by rw [hledger], hshadow, by rw [hledger]; rfl⟩

theorem copy_taken (h : s.AtStep4) (hsfdp : s.flash.dev.sfdp = true) (hconf : s.flash.dev.conforms = true) {k : Nat}
    (hsome : s.pick.slot = some k) (hgood : (s.judgment k).safes = []) :
    ∃ t, exec (.bringupStepComplete r) s = .next t ∧ t.power.stage = 5 ∧ t.power.stepDone = 4
      ∧ t.sys.safe = s.sys.safe ∧ t.ledger.copy = k ∧ t.ledger.seq = (s.copied k).seq ∧ t.ledger.laneACfg = true
      ∧ t.shadow = s.copied k ∧ t.ledger.progOk = (s.judgment k).progOk ∧ t.ledger.fallback = s.pick.fallback := by
  have hstep := step4_fit (s := s.clearOut) (by simpa using hsfdp) (by simpa using hconf)
  have hpick : s.clearOut.pick = s.pick := by simp [State.pick]
  obtain ⟨hcopied, hjudged⟩ := searched_copy s k
  have hu := searched s
  obtain ⟨hledger, _, hpower, hsafe, _⟩ := copyNoted_keeps (s.clearOut.surveyed true).chosen k s.pick.fallback
  rw [hpick, hsome] at hstep
  simp only [takeCopy_eq, hjudged, hcopied] at hstep
  rw [if_pos (by rw [hgood]; rfl)] at hstep
  rw [hcopied, hjudged] at hledger
  have hc := h.clearOut
  obtain ⟨hpower', hsys', hshadow', hledger'⟩ := adopted_keeps ((s.clearOut.surveyed true).chosen.copyNoted k s.pick.fallback) (s.copied k)
  rw [← hstep] at hpower' hsys' hshadow' hledger'
  rw [hledger] at hledger'
  have hpw : s.clearOut.step4.power = (s.clearOut.surveyed true).chosen.power := hpower'.trans hpower
  have hbring := bringupStep_taken (r := r) hc.phase hc.stage hc.offLatched (by rw [hpw, hu.phase]; exact hc.phase)
    (by rw [hpw, hu.stage]; exact hc.stage) (by rw [hpw, hu.offLatched]; exact hc.offLatched)
  have hsafe' : s.clearOut.step4.sys.safe = s.sys.safe := by
    rw [hsys', hsafe, hu.safe]
    simp
  generalize s.clearOut.step4 = u at hbring hsafe' hshadow' hledger'
  refine ⟨_, (step4_exec h).trans (by rw [hbring]), ?_, ?_, ?_, ?_, ?_, ?_, ?_, ?_, ?_⟩
  · simp [State.stepFive]
  · simp [State.stepFive]
  · simpa [State.stepFive] using hsafe'
  · simp [State.stepFive, hledger', LedgerStatus.selected]
  · simp [State.stepFive, hledger', LedgerStatus.selected]
  · simp [State.stepFive, hledger']
  · simpa [State.stepFive] using hshadow'
  · simp [State.stepFive, hledger', LedgerStatus.selected]
  · simp [State.stepFive, hledger', LedgerStatus.selected]

/-- Whatever its checks come to, the copy selected is the one shown. -/
theorem copy_shown (h : s.AtStep4) (hsfdp : s.flash.dev.sfdp = true) (hconf : s.flash.dev.conforms = true) {k : Nat}
    (hsome : s.pick.slot = some k) :
    ∃ t, exec (.bringupStepComplete r) s = .next t ∧ t.ledger.copy = k ∧ t.ledger.fallback = s.pick.fallback := by
  by_cases hgood : (s.judgment k).safes = []
  · obtain ⟨t, hexec, _, _, _, hcopy, _, _, _, _, hfall⟩ := copy_taken (r := r) h hsfdp hconf hsome hgood
    exact ⟨t, hexec, hcopy, hfall⟩
  · obtain ⟨t, hexec, _, _, _, hcopy, _, _, hfall⟩ := copy_condemned (r := r) h hsfdp hconf hsome hgood
    exact ⟨t, hexec, hcopy, hfall⟩

/-! ### Two copies (R49) -/

/-- Of two sequence numbers one at most is later than the other. -/
theorem later_asymm {a b : Nat} (h : later a b = true) : later b a = false := by
  simp only [later, Bool.and_eq_true, decide_eq_true_eq, Bool.and_eq_false_iff, decide_eq_false_iff_not] at *
  omega

/-- Two good headers and no pin: the later copy where nothing stands against it. -/
theorem pickCopy_later {m : Mem} {k : Nat} {fallback : Bool} (hk : k < 2) (h0 : headerOk (Mem.flash m (copyBase 0) 64) = true)
    (h1 : headerOk (Mem.flash m (copyBase 1) 64) = true) (hblank0 : copyBlank m 0 = false) (hblank1 : copyBlank m 1 = false)
    (hlater : later (u32 (Mem.flash m (copyBase k) 64) 8) (u32 (Mem.flash m (copyBase (1 - k)) 64) 8) = true) :
    pickCopy m fallback none = if copyReason m k = 0 then { slot := some k }
      else if fallback then
        if copyReason m (1 - k) = 0 then { slot := some (1 - k), fallback := true, rejected := [(k, copyReason m k)] }
        else { slot := none, rejected := [(k, copyReason m k), (1 - k, copyReason m (1 - k))] }
      else { slot := none, rejected := [(k, copyReason m k)] } := by
  have hfirst : (if later (u32 (Mem.flash m (copyBase 1) 64) 8) (u32 (Mem.flash m (copyBase 0) 64) 8) = true then some 1
      else some 0) = some k := by
    obtain rfl | rfl : k = 0 ∨ k = 1 := by omega
    · rw [if_neg (by simpa using later_asymm hlater)]
    · rw [if_pos hlater]
  have hother : headerOk (Mem.flash m (copyBase (1 - k)) 64) = true ∧ copyBlank m (1 - k) = false := by
    obtain rfl | rfl : k = 0 ∨ k = 1 := by omega
    · exact ⟨h1, hblank1⟩
    · exact ⟨h0, hblank0⟩
  obtain ⟨hother, hblank⟩ := hother
  unfold pickCopy
  simp only [h0, h1, hblank0, hblank1, Bool.not_false, Bool.and_self, if_true, hfirst, hother, hblank, Bool.and_true]
  have hbad : (List.filter (fun k => !copyBlank m k && !(!copyBlank m k && headerOk (Mem.flash m (copyBase k) 64))) [0, 1]).map
      (fun k => (k, 1)) = ([] : List (Nat × Nat)) := by
    simp [List.filter, h0, h1, hblank0, hblank1]
  rw [hbad]

/-! ### The sections where the copy has them (Tables 2.6 to 2.9) -/

theorem u8_drop (b : List Nat) (a o : Nat) : u8 (b.drop a) o = u8 b (a + o) := by
  rw [u8, u8, List.drop_drop]

theorem u32_drop (b : List Nat) (a o : Nat) : u32 (b.drop a) o = u32 b (a + o) := by
  rw [u32, u32, List.drop_drop]

theorem readLedger_window (two : Bool) (q n : Nat) (ss : List Sect) {w : Nat} (hw : w < 16) :
    ((readLedger two q n ss).windows.getD w {}).len = u32 (bodyOf (sectsUsed two ss) 0x3001) (12 * w + 4) := by
  have hwin : (readLedger two q n ss).windows = recs (bodyOf (sectsUsed two ss) 0x3001) 0 12 16 readWindow := rfl
  rw [hwin, recs, List.getD_eq_getElem?_getD, List.getElem?_map, List.getElem?_range hw]
  exact (u32_drop _ _ _).trans (by rw [Nat.zero_add])

theorem readLedger_program (two : Bool) (q n : Nat) (ss : List Sect) {i : Nat} {p : Program}
    (hp : (readLedger two q n ss).programs[i]? = some p) : i < u8 (bodyOf (sectsUsed two ss) 0x7001) 0
      ∧ p.num = u8 (bodyOf (sectsUsed two ss) 0x7001) (4 + 96 * i)
      ∧ p.mode = u8 (bodyOf (sectsUsed two ss) 0x7001) (5 + 96 * i)
      ∧ p.period = u32 (bodyOf (sectsUsed two ss) 0x7001) (24 + 96 * i) := by
  have hprog : (readLedger two q n ss).programs =
      recs (bodyOf (sectsUsed two ss) 0x7001) 4 96 (u8 (bodyOf (sectsUsed two ss) 0x7001) 0) readProgram := rfl
  rw [hprog, recs, List.getElem?_map] at hp
  obtain ⟨j, hj, rfl⟩ := Option.map_eq_some_iff.mp hp
  obtain ⟨hi, rfl⟩ := List.getElem?_eq_some_iff.mp hj
  simp only [List.getElem_range]
  refine ⟨by simpa using hi, ?_, ?_, ?_⟩
  · exact (u8_drop _ _ _).trans (by rw [Nat.add_zero])
  · exact (u8_drop _ _ _).trans (congrArg _ (by omega))
  · exact (u32_drop _ _ _).trans (congrArg _ (by omega))

end Sys2Proof.Machine
end


section
/-!
PROOFS. The calibration sets that step 6 loads (R63, R64, R235, R256).
-/

namespace Sys2Proof.Machine

variable {s t : State} {l : Lane}

/-! ### The slot in force -/

/-- Of two slots' sequences the one in force under an order: slot X where neither is later. -/
def slotBy (lt : Nat → Nat → Bool) (x y : Option Nat) : Option Bool :=
  match x, y with
  | some p, some q => some (lt q p)
  | some _, none => some false
  | none, some _ => some true
  | none, none => none

/-- A sequence stands against the one in the other slot. -/
def standsBy (lt : Nat → Nat → Bool) (b : Bool) (q : Nat) (other : Option Nat) : Bool :=
  other.all (fun p => if b then lt q p else !lt p q)

theorem slotBy_none {lt : Nat → Nat → Bool} {x y : Option Nat} : slotBy lt x y = none ↔ x = none ∧ y = none := by
  cases x <;> cases y <;> simp [slotBy]

theorem slotBy_stands {lt : Nat → Nat → Bool} {f : Bool → Option Nat} {b : Bool} (h : slotBy lt (f false) (f true) = some b) :
    ∃ q, f b = some q ∧ standsBy lt b q (f (!b)) = true := by
  unfold slotBy at h
  split at h
  · rename_i p q hp hq
    obtain rfl := Option.some.inj h
    cases hl : lt q p
    · exact ⟨p, hp, by simp [standsBy, hq, hl]⟩
    · exact ⟨q, hq, by simp [standsBy, hp, hl]⟩
  · rename_i p hp hq
    obtain rfl := Option.some.inj h
    exact ⟨p, hp, by simp [standsBy, hq]⟩
  · rename_i q hp hq
    obtain rfl := Option.some.inj h
    exact ⟨q, hq, by simp [standsBy, hp]⟩
  · exact absurd h (by simp)

theorem slotBy_of_stands {lt : Nat → Nat → Bool} {f : Bool → Option Nat} {b : Bool} {q : Nat} (hf : f b = some q)
    (h : standsBy lt b q (f (!b)) = true) : slotBy lt (f false) (f true) = some b := by
  cases b
  · simp only [Bool.not_false] at h
    cases hy : f true with
    | none => simp [slotBy, hf]
    | some p =>
      rw [hy] at h
      simpa [slotBy, hf, standsBy] using h
  · simp only [Bool.not_true] at h
    cases hx : f false with
    | none => simp [slotBy, hf]
    | some p =>
      rw [hx] at h
      simpa [slotBy, hf, standsBy] using h

/-- The valid slot with the later sequence (R64). -/
def latestSlot (x y : Option Nat) : Option Bool := slotBy later x y

/-- A sequence stands against the one in the other slot, as R64 has it. -/
def seqStands (b : Bool) (q : Nat) (other : Option Nat) : Bool := standsBy later b q other

theorem slotSeq_content {m : Mem} {k q : Nat} {y : Bool} (h : slotSeq m l k y = some q) : q = (slotContent m l k y).seq := by
  unfold slotSeq at h
  dsimp only at h
  split at h
  · exact (Option.some.inj h).symm
  · exact absurd h (by simp)

/-! ### A set loaded -/

/-- What a set of a lane is loaded as, from the cells and for the head (R63, R64, R235, R256). -/
structure SetLoaded (m : Mem) (hd : HeadSec) (l : Lane) (k : Nat) (c : CalSet) : Prop where
  absent : slotSeq m l k false = none → slotSeq m l k true = none → c.present = false
  valid : c.present = true → slotSeq m l k c.slotY = some c.seq ∧ seqStands c.slotY c.seq (slotSeq m l k (!c.slotY)) = true
  present : ∀ (y : Bool) (q : Nat), slotSeq m l k y = some q → seqStands y q (slotSeq m l k (!y)) = true →
    Mem.flash m (slotAddr l k y + 0x100) 2 = [laneNo l, k] → (slotContent m l k y).taps = hd.taps →
    (slotContent m l k y).active = hd.active →
    ((slotContent m l k y).gain = false ∨ longTap (slotContent m l k y) (slotShading m l k y) = none) →
    c.present = true ∧ c.slotY = y ∧ c.seq = q

/-- With no valid slot the set is absent. -/
theorem setLoaded_none {m : Mem} {hd : HeadSec} {k : Nat} {c : CalSet} (h : latestSlot (slotSeq m l k false) (slotSeq m l k true) = none)
    (hc : c.present = false) : SetLoaded m hd l k c := by
  obtain ⟨hx, hy⟩ := slotBy_none.mp h
  refine ⟨fun _ _ => hc, fun hp => absurd hp (by simp [hc]), fun y q hq => ?_⟩
  cases y
  · exact absurd (hx.symm.trans hq) (by simp)
  · exact absurd (hy.symm.trans hq) (by simp)

/-- A set that the checks bar is absent, and those checks fail on its slot. -/
theorem setLoaded_barred {m : Mem} {hd : HeadSec} {k : Nat} {c : CalSet} {b : Bool}
    (h : latestSlot (slotSeq m l k false) (slotSeq m l k true) = some b) (hc : c.present = false)
    (hbar : ¬(Mem.flash m (slotAddr l k b + 0x100) 2 = [laneNo l, k] ∧ (slotContent m l k b).taps = hd.taps
      ∧ (slotContent m l k b).active = hd.active
      ∧ ((slotContent m l k b).gain = false ∨ longTap (slotContent m l k b) (slotShading m l k b) = none))) :
    SetLoaded m hd l k c := by
  refine ⟨fun _ _ => hc, fun hp => absurd hp (by simp [hc]), fun y q hq hstand hplace htaps hactive hrun => ?_⟩
  obtain rfl : b = y := Option.some.inj (h.symm.trans (slotBy_of_stands (f := slotSeq m l k) hq hstand))
  exact absurd ⟨hplace, htaps, hactive, hrun⟩ hbar

/-- A set that nothing bars is that of its slot. -/
theorem setLoaded_slot {m : Mem} {hd : HeadSec} {k : Nat} {c : CalSet} {b : Bool}
    (h : latestSlot (slotSeq m l k false) (slotSeq m l k true) = some b) (hp : c.present = true) (hslot : c.slotY = b)
    (hseq : c.seq = (slotContent m l k b).seq) : SetLoaded m hd l k c := by
  obtain ⟨q, hq, hstand⟩ := slotBy_stands (f := slotSeq m l k) h
  have hcq : c.seq = q := hseq.trans (slotSeq_content hq).symm
  refine ⟨fun hx hy => ?_, fun _ => ?_, fun y q' hq' hstand' _ _ _ _ => ?_⟩
  · exact absurd ((slotBy_none.mpr ⟨hx, hy⟩).symm.trans h) (by simp)
  · rw [hslot, hcq]
    exact ⟨hq, hstand⟩
  · obtain rfl : b = y := Option.some.inj (h.symm.trans (slotBy_of_stands (f := slotSeq m l k) hq' hstand'))
    exact ⟨hp, hslot, hcq.trans (Option.some.inj (hq.symm.trans hq'))⟩

/-- The state a set's load goes on from, once slots that hold a bad commit record are noted. -/
def State.slotsNoted (s : State) (l : Lane) (k : Nat) (badX badY : Bool) : State :=
  let note := fun (s : State) (b : Bool) (i : Nat) => if b then s.noteItem 0x7030 (laneParty l) [laneNo l, k, i] else s
  note (note s badX 0) badY 1

/-- A set put in its place, with its check value. -/
def State.placeSet (s : State) (l : Lane) (k : Nat) (badX badY : Bool) (c : CalSet) : State :=
  let q := if c.present then s.setCheck l k else 0
  s.modLane l (fun z => { z with sets := z.sets.set k { c with badX := badX, badY := badY, check := q } })

theorem slotsNoted_lane (s : State) (l j : Lane) (k : Nat) (x y : Bool) : (s.slotsNoted l k x y).lane j = s.lane j := by
  unfold State.slotsNoted
  dsimp only
  cases x <;> cases y <;> simp [State.noteItem]

theorem winWrite_lane (s : State) (w o : Nat) (ws : List Nat) (j : Lane) : (s.winWrite w o ws).lane j = s.lane j := by
  obtain ⟨m, hm⟩ := winWrite_eq_bank s w o ws
  rw [hm]
  cases j <;> rfl

/-- A set's slot before its checks. -/
def slotSet (m : Mem) (l : Lane) (k : Nat) (b : Bool) : CalSet :=
  { slotContent m l k b with other := (slotSeq m l k false).isSome && (slotSeq m l k true).isSome }

theorem loadSet_eq (s : State) (l : Lane) (k : Nat) : ∃ x y, s.loadSet l k =
    match latestSlot (slotSeq s.flash.cells l k false) (slotSeq s.flash.cells l k true) with
    | none => (s.slotsNoted l k x y).placeSet l k x y {}
    | some b =>
      let c := slotSet s.flash.cells l k b
      let hd := ((s.slotsNoted l k x y).img l).head
      let h := Mem.flash s.flash.cells (slotAddr l k b + 0x100) 2
      let u := (s.slotsNoted l k x y).winWrite ((s.slotsNoted l k x y).img l).pix.window (setOffset k) (slotShading s.flash.cells l k b)
      if u8 h 0 != laneNo l || u8 h 1 != k || c.taps != hd.taps || c.active != hd.active then
        (u.placeSet l k x y { c with present := false }).noteL l 0x9036 [k]
      else if c.gain then
        match longTap c (slotShading s.flash.cells l k b) with
        | some t => (u.placeSet l k x y { c with present := false }).noteL l 0x9020 [k, t]
        | none => u.placeSet l k x y c
      else u.placeSet l k x y c := ⟨_, _, rfl⟩

end Sys2Proof.Machine
end


section
/-!
PROOFS. Step 6 of a full start: the shadow's sections applied, and the calibration sets loaded (R63, R64, R71).
-/

namespace Sys2Proof.Machine

variable {s t : State} {l : Lane}

/-! ### What loading the memory keeps -/

/-- The update changes the calibration sets and commits of a lane alone. -/
def SetPart (f : LaneSt → LaneSt) : Prop := ∀ x, (f x).head = x.head ∧ (f x).axis = x.axis

/-- `P` is kept by loading the banked memory and by the records that R276 calls for. -/
structure KeptByLoad (P : State → Prop) : Prop where
  lane  : ∀ {s l f}, SetPart f → P s → P (State.modLane s l f)
  log   : ∀ {s f}, P s → P (State.modLog s f)
  event : ∀ {s b}, P s → P (State.event s b)
  bank  : ∀ {s : State} {m}, (Mem.wf memBlank s.bank = true → Mem.wf memBlank m = true) → P s → P { s with bank := m }

namespace KeptByLoad

variable {P : State → Prop} (k : KeptByLoad P)
include k

theorem record {c n p d} (h : P s) : P (s.record c n p d) := by
  have hplace : ∀ {s : State} {r}, P s → P (s.place r).1 := fun {s r} h => k.event (k.log (f := fun _ => (s.log.put r).1) h)
  unfold State.record
  dsimp only
  split
  · exact hplace (k.log (hplace h))
  · exact hplace h

theorem winWrite {w o ws} (h : P s) : P (s.winWrite w o ws) := by
  obtain ⟨m, hm⟩ := winWrite_eq_bank s w o ws
  have hwf : Mem.wf memBlank s.bank = true → Mem.wf memBlank m = true := fun hs => by
    simpa only [hm] using State.winWrite_wf w o ws hs
  rw [hm]
  exact k.bank hwf h

theorem slotsNoted {n x y} (h : P s) : P (s.slotsNoted l n x y) := by
  unfold State.slotsNoted
  cases x <;> cases y
  · exact h
  · exact k.record h
  · exact k.record h
  · exact k.record (k.record h)

theorem placeSet {n x y c} (h : P s) : P (s.placeSet l n x y c) := by
  unfold State.placeSet
  refine k.lane ?_ h
  exact fun _ => ⟨rfl, rfl⟩

theorem loadSet {n} (h : P s) : P (s.loadSet l n) := by
  obtain ⟨x, y, heq⟩ := loadSet_eq s l n
  rw [heq]
  split
  · exact k.placeSet (k.slotsNoted h)
  · dsimp only
    split
    · exact k.record (k.placeSet (k.winWrite (k.slotsNoted h)))
    · split
      · split
        · exact k.record (k.placeSet (k.winWrite (k.slotsNoted h)))
        · exact k.placeSet (k.winWrite (k.slotsNoted h))
      · exact k.placeSet (k.winWrite (k.slotsNoted h))

theorem loadLane (h : P s) : P (s.loadLane l) := by
  unfold State.loadLane State.writeTables
  exact foldl_keeps (P := P) (fun h => k.loadSet h) _ (foldl_keeps (P := P) (fun h => k.winWrite h) _ h)

theorem loadMemory (h : P s) : P s.loadMemory := foldl_keeps (P := P) (fun h => k.loadLane h) _ h

theorem resolveCal (h : P s) : P (s.resolveCal l) := by
  unfold State.resolveCal
  dsimp only
  refine foldl_keeps (P := P) (fun {t r} h => k.event (k.lane ?_ (k.record h))) _ h
  exact fun _ => ⟨rfl, rfl⟩

end KeptByLoad

/-! ### The sets of the configured lanes -/

/-- Loading a set puts it in its place, as its slots have it. -/
theorem loadSet_sets (s : State) (l : Lane) {k : Nat} (hk : k < 4) : ∃ c, SetLoaded s.flash.cells (s.img l).head l k c
    ∧ ((s.loadSet l k).lane l).sets = (s.lane l).sets.set k c := by
  obtain ⟨x, y, heq⟩ := loadSet_eq s l k
  have hplace : ∀ (u : State) (c : CalSet), u.lane l = s.lane l →
      ((u.placeSet l k x y c).lane l).sets = (s.lane l).sets.set k { c with
        badX := x, badY := y, check := if c.present then u.setCheck l k else 0 } := fun u c hu => by
    simp [State.placeSet, hu]
  have hlane : (s.slotsNoted l k x y).lane l = s.lane l := slotsNoted_lane ..
  have himg : (s.slotsNoted l k x y).img l = s.img l := by
    have hshadow : (s.slotsNoted l k x y).shadow = s.shadow := by
      unfold State.slotsNoted
      cases x <;> cases y <;> simp [State.noteItem]
    cases l <;> simp only [State.img, hshadow]
  rw [himg] at heq
  generalize s.slotsNoted l k x y = n at heq hlane
  cases hpick : latestSlot (slotSeq s.flash.cells l k false) (slotSeq s.flash.cells l k true) with
  | none =>
    rw [hpick] at heq
    refine ⟨_, ?_, by rw [heq]; exact hplace n {} hlane⟩
    exact setLoaded_none hpick rfl
  | some b =>
    rw [hpick] at heq
    simp only at heq
    have hwrite := (winWrite_lane n (s.img l).pix.window (setOffset k) (slotShading s.flash.cells l k b) l).trans hlane
    generalize n.winWrite (s.img l).pix.window (setOffset k) (slotShading s.flash.cells l k b) = u at heq hwrite
    split at heq
    · rename_i hbad
      refine ⟨_, ?_, by rw [heq, State.noteL_lane]; exact hplace u _ hwrite⟩
      refine setLoaded_barred hpick rfl (fun hgood => ?_)
      obtain ⟨hhead, htaps, hactive, _⟩ := hgood
      have hlaneNo : u8 [laneNo l, k] 0 = laneNo l := by cases l <;> rfl
      have hset : u8 [laneNo l, k] 1 = k := by simp [u8, leNat]; omega
      have htaps' : (slotSet s.flash.cells l k b).taps = (s.img l).head.taps := htaps
      have hactive' : (slotSet s.flash.cells l k b).active = (s.img l).head.active := hactive
      rw [hhead, hlaneNo, hset, htaps', hactive'] at hbad
      simp at hbad
    · split at heq
      · split at heq
        · rename_i hgain _ p hrun
          refine ⟨_, ?_, by rw [heq, State.noteL_lane]; exact hplace u _ hwrite⟩
          refine setLoaded_barred hpick rfl (fun hgood => ?_)
          obtain ⟨_, _, _, hno⟩ := hgood
          have hgain' : (slotContent s.flash.cells l k b).gain = true := hgain
          have hrun' : longTap (slotContent s.flash.cells l k b) (slotShading s.flash.cells l k b) = some p := hrun
          simp [hgain', hrun'] at hno
        · refine ⟨_, ?_, by rw [heq]; exact hplace u _ hwrite⟩
          exact setLoaded_slot hpick rfl rfl rfl
      · refine ⟨_, ?_, by rw [heq]; exact hplace u _ hwrite⟩
        exact setLoaded_slot hpick rfl rfl rfl

/-- What every element of a list brings about, and every other keeps, holds at the end of a fold over it. -/
theorem foldl_brings {α : Type} {P : State → Prop} {Q : α → State → Prop} {f : State → α → State}
    (hP : ∀ {s x}, P s → P (f s x)) (hown : ∀ {s x}, P s → Q x (f s x)) (hkeep : ∀ {s x y}, x ≠ y → P s → Q y s → Q y (f s x))
    (xs : List α) {s : State} (hs : P s) : ∀ y, (y ∈ xs ∨ Q y s) → Q y (xs.foldl f s) := by
  induction xs generalizing s with
  | nil => exact fun y h => h.resolve_left (by simp)
  | cons x xs ih =>
    intro y h
    rw [List.foldl_cons]
    refine ih (hP hs) y ?_
    by_cases hxy : x = y
    · exact Or.inr (hxy ▸ hown hs)
    · refine h.imp (fun hin => ?_) (fun hq => hkeep hxy hs hq)
      exact (List.mem_cons.mp hin).resolve_left (Ne.symm hxy)

/-- What the loads of one lane's sets rest on. -/
structure State.Loading (s : State) (l : Lane) (t : State) : Prop where
  shadow : t.shadow = s.shadow
  cells : t.flash.cells = s.flash.cells
  four : (t.lane l).sets.length = 4

theorem winWrite_loading {w o : Nat} {ws : List Nat} (h : s.Loading l t) : s.Loading l (t.winWrite w o ws) := by
  refine ⟨(winWrite_shadow ws).trans h.shadow, ?_, by rw [winWrite_lane]; exact h.four⟩
  obtain ⟨m, hm⟩ := winWrite_eq_bank t w o ws
  rw [hm]
  exact h.cells

/-- Loading leaves the shadow and the cells, and another lane's sets. -/
theorem keptByLoad_shadow (s : State) : KeptByLoad (fun t => t.shadow = s.shadow ∧ t.flash.cells = s.flash.cells) where
  lane _ h := by simpa using h
  log h := h
  event h := by simpa using h
  bank _ h := h

theorem loadSet_other (s : State) {j : Lane} (hne : j ≠ l) (k : Nat) : (s.loadSet j k).lane l = s.lane l := by
  obtain ⟨x, y, heq⟩ := loadSet_eq s j k
  have hplace : ∀ (u : State) (c : CalSet), u.lane l = s.lane l → (u.placeSet j k x y c).lane l = s.lane l := fun u c hu => by
    rw [State.placeSet, lane_modLane_other (Ne.symm hne)]
    exact hu
  have hlane : (s.slotsNoted j k x y).lane l = s.lane l := slotsNoted_lane ..
  rw [heq]
  generalize s.slotsNoted j k x y = n at hlane
  split
  · exact hplace _ _ hlane
  · dsimp only
    have hwrite := fun b => (winWrite_lane n (n.img j).pix.window (setOffset k) (slotShading s.flash.cells j k b) l).trans hlane
    split
    · rw [State.noteL_lane]
      exact hplace _ _ (hwrite _)
    · split
      · split
        · rw [State.noteL_lane]
          exact hplace _ _ (hwrite _)
        · exact hplace _ _ (hwrite _)
      · exact hplace _ _ (hwrite _)

theorem loadSet_loading {k : Nat} (hk : k < 4) (j : Lane) (h : s.Loading l t) : s.Loading l (t.loadSet j k) := by
  obtain ⟨hshadow, hcells⟩ := (keptByLoad_shadow s).loadSet (l := j) (n := k) ⟨h.shadow, h.cells⟩
  refine ⟨hshadow, hcells, ?_⟩
  by_cases hjl : j = l
  · obtain ⟨c, _, hsets⟩ := loadSet_sets t j hk
    rw [← hjl, hsets, List.length_set, hjl]
    exact h.four
  · rw [loadSet_other t hjl]
    exact h.four

/-- Every set of a lane stands as its slots have it. -/
def State.SetsLoaded (s : State) (l : Lane) (t : State) : Prop :=
  ∀ k, k < 4 → SetLoaded s.flash.cells (s.img l).head l k ((t.lane l).sets.getD k {})

theorem loading_img (h : s.Loading l t) (j : Lane) : t.img j = s.img j := by
  cases j <;> simp only [State.img, h.shadow]

theorem writeTables_loading (j : Lane) (f : ProfileSec → Bool) (h : s.Loading l t) : s.Loading l (t.writeTables j f) :=
  foldl_keeps (P := s.Loading l) (fun h => winWrite_loading h) _ h

theorem loadLane_sets (h : s.Loading l t) : s.SetsLoaded l (t.loadLane l) := by
  intro k hk
  unfold State.loadLane
  have hbrings := foldl_brings (P := fun u => s.Loading l u)
    (Q := fun (j : Fin 4) u => SetLoaded s.flash.cells (s.img l).head l j ((u.lane l).sets.getD j {}))
    (f := fun u j => u.loadSet l j)
    (hP := fun h => loadSet_loading (Fin.is_lt _) l h)
    (hown := fun {u j} h => by
      obtain ⟨c, hc, hsets⟩ := loadSet_sets u l j.is_lt
      rw [h.cells, loading_img h] at hc
      rw [hsets]
      simpa [List.getD_eq_getElem?_getD, h.four] using hc)
    (hkeep := fun {u x y} hne h hq => by
      obtain ⟨c, _, hsets⟩ := loadSet_sets u l x.is_lt
      rw [hsets]
      have hne' : (x : Nat) ≠ y := fun hxy => hne (Fin.ext hxy)
      simpa [List.getD_eq_getElem?_getD, List.getElem?_set, hne'] using hq)
    (List.finRange 4) (writeTables_loading l (fun _ => true) h) ⟨k, hk⟩ (Or.inl (List.mem_finRange _))
  exact hbrings

theorem loadLane_loading (j : Lane) (h : s.Loading l t) : s.Loading l (t.loadLane j) := by
  unfold State.loadLane
  have hfold := foldl_keeps (P := s.Loading l) (f := fun u (k : Fin 4) => u.loadSet j k)
    (fun h => loadSet_loading (Fin.is_lt _) j h) (List.finRange 4) (writeTables_loading j (fun _ => true) h)
  exact hfold

theorem loadLane_other {j : Lane} (hne : j ≠ l) (t : State) : (t.loadLane j).lane l = t.lane l := by
  unfold State.loadLane State.writeTables
  refine foldl_keeps (P := fun u => u.lane l = t.lane l) (fun {u k} h => (loadSet_other u hne k).trans h) _ ?_
  exact foldl_keeps (P := fun u => u.lane l = t.lane l) (fun h => (winWrite_lane ..).trans h) _ rfl

/-- The sets of every configured lane are loaded. -/
theorem loadMemory_sets (h : s.Loading l t) (hcfg : t.configured l = true) : s.SetsLoaded l t.loadMemory := by
  unfold State.loadMemory
  refine foldl_brings (P := s.Loading l) (Q := fun j u => j = l → s.SetsLoaded l u) (hP := fun h => loadLane_loading _ h)
    (hown := fun h hjl => by subst hjl; exact loadLane_sets h) (hkeep := fun {u x y} hne _ hq hyl => ?_) t.cfgLanes h l
    (Or.inl (mem_cfgLanes.mpr hcfg)) rfl
  subst hyl
  intro k hk
  rw [loadLane_other hne]
  exact hq rfl k hk

end Sys2Proof.Machine
end


section
/-!
PROOFS. The end of step 6 as its command shows it, and the settlement of O11 (R43 to R64, R71).
-/

namespace Sys2Proof.Machine

variable {s t : State} {l : Lane} {r : StepReport}

/-! ### The sections applied -/

/-- A timer as its record loads it. -/
structure TimerLoaded (s : State) (n : Nat) (x : Timer) : Prop where
  rld : x.rld = (s.timerRec n).reload
  cmp : x.cmp = (s.timerRec n).compare
  cnt : x.cnt = (s.timerRec n).reload
  held : x.held = true

theorem reloadTimer_ts (s : State) (n : Nat) : ∃ x, TimerLoaded s n x ∧ (s.reloadTimer n).tmr.ts = s.tmr.ts.set n x :=
  ⟨_, ⟨rfl, rfl, rfl, rfl⟩, rfl⟩

theorem timerRec_congr (hshadow : t.shadow = s.shadow) (htwo : t.twoLanes = s.twoLanes) (n : Nat) : t.timerRec n = s.timerRec n := by
  have hunused : ∀ k, t.unused k = s.unused k := fun k => by simp only [State.unused, htwo]
  simp only [State.timerRec, hunused, hshadow]

/-- What the loads of the timers rest on. -/
structure State.Timing (s t : State) : Prop where
  sixteen : t.tmr.ts.length = 16
  shadow : t.shadow = s.shadow
  two : t.twoLanes = s.twoLanes

theorem reloadTimer_timing {n : Nat} (h : s.Timing t) : s.Timing (t.reloadTimer n) := by
  obtain ⟨x, _, hts⟩ := reloadTimer_ts t n
  exact ⟨by rw [hts, List.length_set]; exact h.sixteen, h.shadow, h.two⟩

/-- A timer of the sixteen is loaded. -/
def State.TimerDone (s : State) (n : Nat) (t : State) : Prop := n < 16 → TimerLoaded s n (t.tmr.ts.getD n {})

theorem reloadTimer_done {n : Nat} (h : s.Timing t) : s.TimerDone n (t.reloadTimer n) := by
  intro hn
  obtain ⟨x, hx, hts⟩ := reloadTimer_ts t n
  have hget : (t.reloadTimer n).tmr.ts.getD n {} = x := by
    rw [hts]
    simp [List.getD_eq_getElem?_getD, h.sixteen, hn]
  rw [hget]
  have hrec := timerRec_congr h.shadow h.two n
  exact ⟨hrec ▸ hx.rld, hrec ▸ hx.cmp, hrec ▸ hx.cnt, hx.held⟩

theorem reloadTimer_keeps {x y : Nat} (hne : x ≠ y) (hq : s.TimerDone y t) : s.TimerDone y (t.reloadTimer x) := by
  intro hy
  obtain ⟨z, _, hts⟩ := reloadTimer_ts t x
  have hget : (t.reloadTimer x).tmr.ts.getD y {} = t.tmr.ts.getD y {} := by
    rw [hts]
    simp [List.getD_eq_getElem?_getD, hne]
  rw [hget]
  exact hq hy

theorem reloadTimers_load (hlen : s.tmr.ts.length = 16) {n : Nat} (hn : n < 16) :
    TimerLoaded s n (((List.range 16).foldl State.reloadTimer s).tmr.ts.getD n {}) :=
  foldl_brings (P := s.Timing) (Q := s.TimerDone) (f := State.reloadTimer) (fun h => reloadTimer_timing h) (fun h => reloadTimer_done h)
    (fun hne _ hq => reloadTimer_keeps hne hq) (List.range 16) ⟨hlen, rfl, rfl⟩ n (Or.inl (List.mem_range.mpr hn)) hn

/-- The sections of the lanes, of HK, SYS and MEM applied. -/
def State.sectionsPut (s : State) : State :=
  (((((s.modLane .a (fun x => x.apply s.shadow.laneA)).modLane .b (fun x => x.apply (s.img .b))).modHk (fun h => h.apply s.shadow.hkchan)).modSys
    (fun y => { y with mask := s.shadow.attnMask })).modMem (fun m => { m with march := s.shadow.march })).stageScene0

theorem applySections_eq (s : State) : s.applySections = (s.sectionsPut.loadTimers).applyPower := rfl

/-- What step 6 applies, read from the state. -/
structure State.Applied (s t : State) : Prop where
  power : t.power = s.power
  mask : t.sys.mask = s.shadow.attnMask
  march : t.mem.march = s.shadow.march
  unrep : t.mem.unrep = s.mem.unrep
  aux : t.outOn .aux = (s.shadow.auxOn && decide (4 < s.pwr.on.length))
  lanes : ∀ l, (t.lane l).head.gains = (s.img l).head.chans.map HeadChan.gain
    ∧ (t.lane l).head.offsets = (s.img l).head.chans.map HeadChan.offset
    ∧ (t.lane l).axis.runMa = (s.img l).axis.runMa ∧ (t.lane l).axis.holdMa = (s.img l).axis.holdMa
  hk : t.hk.ch = (s.hk.apply s.shadow.hkchan).ch
  timers : ∀ n, n < 16 → TimerLoaded s n (t.tmr.ts.getD n {})
  ledger : t.ledger = s.ledger
  shadow : t.shadow = s.shadow
  flash : t.flash = s.flash

theorem loadTimers_alters (s : State) : Alters [.tmr] s s.loadTimers := by
  unfold State.loadTimers
  exact (Alters.foldl (fun h => by unfold State.reloadTimer; exact h.modTmr (by simp)) _ (.refl _ _)).mark

theorem sectionsPut_lane (s : State) (l : Lane) : s.sectionsPut.lane l = (s.lane l).apply (s.img l) := by
  unfold State.sectionsPut State.stageScene0
  cases l <;> simp [State.lane, State.img]

theorem outOn_setAux (s : State) (b : Bool) : (s.setOut .aux b).outOn .aux = (b && decide (4 < s.pwr.on.length)) := by
  by_cases h : 4 < s.pwr.on.length <;> simp [State.outOn, State.setOut, outIdx, List.getD_eq_getElem?_getD, h]

theorem applyPower_alters (s : State) : Alters [.pwr] s s.applyPower := by
  unfold State.applyPower State.setOut
  exact ((Alters.refl _ _).modPwr (by simp)).modPwr (by simp)

theorem applyPower_lane (s : State) (l : Lane) : s.applyPower.lane l = s.lane l := applyPower_alters s (.lane l) (by simp)

theorem applySections_lane (s : State) (l : Lane) : s.applySections.lane l = (s.lane l).apply (s.img l) := by
  rw [applySections_eq, applyPower_lane, loadTimers_alters _ (.lane l) (by simp), sectionsPut_lane]

theorem sectionsPut_timing (hlen : s.tmr.ts.length = 16) : s.Timing s.sectionsPut := by
  unfold State.sectionsPut State.stageScene0
  exact ⟨by simpa using hlen, by simp, by simp⟩

theorem applySections_timers (hlen : s.tmr.ts.length = 16) {n : Nat} (hn : n < 16) :
    TimerLoaded s n (s.applySections.tmr.ts.getD n {}) := by
  have htiming := sectionsPut_timing hlen
  have hts : s.applySections.tmr.ts = ((List.range 16).foldl State.reloadTimer s.sectionsPut).tmr.ts := by
    rw [applySections_eq, applyPower_alters _ .tmr (by simp), State.loadTimers, State.mark_tmr]
  rw [hts]
  have hload := reloadTimers_load htiming.sixteen hn
  have hrec := timerRec_congr htiming.shadow htiming.two n
  exact ⟨hrec ▸ hload.rld, hrec ▸ hload.cmp, hrec ▸ hload.cnt, hload.held⟩

theorem sectionsPut_fields (s : State) : s.sectionsPut.power = s.power ∧ s.sectionsPut.sys.mask = s.shadow.attnMask
    ∧ s.sectionsPut.mem = { s.mem with march := s.shadow.march } ∧ s.sectionsPut.pwr = s.pwr
    ∧ s.sectionsPut.hk = s.hk.apply s.shadow.hkchan ∧ s.sectionsPut.ledger = s.ledger ∧ s.sectionsPut.shadow = s.shadow
    ∧ s.sectionsPut.flash = s.flash := by
  unfold State.sectionsPut State.stageScene0
  exact ⟨by simp, by simp, by simp, by simp, by simp, by simp, by simp, by simp⟩

theorem applyPower_aux (s : State) : s.applyPower.outOn .aux = (s.shadow.auxOn && decide (4 < s.pwr.on.length)) := by
  refine Eq.trans ?_ (outOn_setAux s s.shadow.auxOn)
  simp only [State.applyPower, State.outOn, State.modPwr_pwr]

theorem applySections_aux (s : State) : s.applySections.outOn .aux = (s.shadow.auxOn && decide (4 < s.pwr.on.length)) := by
  obtain ⟨_, _, _, hpwr, _, _, hshadow, _⟩ := sectionsPut_fields s
  have hload := loadTimers_alters s.sectionsPut
  obtain ⟨_, hsh⟩ := hload .ledger (by simp)
  have hpw : s.sectionsPut.loadTimers.pwr = s.pwr := (show s.sectionsPut.loadTimers.pwr = s.sectionsPut.pwr from hload .pwr (by simp)).trans hpwr
  have hsh' : s.sectionsPut.loadTimers.shadow = s.shadow := hsh.trans hshadow
  rw [applySections_eq]
  generalize s.sectionsPut.loadTimers = y at hpw hsh'
  rw [← hpw, ← hsh']
  exact applyPower_aux y

theorem applySections_applied (hlen : s.tmr.ts.length = 16) : s.Applied s.applySections := by
  obtain ⟨hpower, hmask, hmem, _, hhk, hledger, hshadow, hflash⟩ := sectionsPut_fields s
  have hall : Alters [.tmr, .pwr] s.sectionsPut s.applySections :=
    ((loadTimers_alters s.sectionsPut).mono (by simp)).trans ((applyPower_alters _).mono (by simp))
  have haux := applySections_aux s
  have htimers := fun n hn => applySections_timers (s := s) hlen (n := n) hn
  have hlane := applySections_lane s
  generalize s.applySections = a at hall haux htimers hlane
  generalize s.sectionsPut = z at hpower hmask hmem hhk hledger hshadow hflash hall
  obtain ⟨hledger', hshadow'⟩ := hall .ledger (by simp)
  have hbare : a.sys.bare = z.sys.bare := hall .sys (by simp)
  have hm : a.mem = { s.mem with march := s.shadow.march } := (show a.mem = z.mem from hall .mem (by simp)).trans hmem
  have hh : a.hk = s.hk.apply s.shadow.hkchan := (show a.hk = z.hk from hall .hk (by simp)).trans hhk
  have hp : a.power = s.power := (show a.power = z.power from hall .power (by simp)).trans hpower
  have hf : a.flash = s.flash := (show a.flash = z.flash from hall .flash (by simp)).trans hflash
  exact ⟨hp, (congrArg SysSt.mask hbare).trans hmask, by rw [hm], by rw [hm], haux, fun l => by rw [hlane]; exact ⟨rfl, rfl, rfl, rfl⟩,
    by rw [hh], htimers, hledger'.trans hledger, hshadow'.trans hshadow, hf⟩

end Sys2Proof.Machine
end


section
/-!
PROOFS. Step 6 as a whole, and the settlement of O11 (R43 to R64, R71).
-/

namespace Sys2Proof.Machine

variable {s t : State} {l : Lane} {r : StepReport}

/-! ### What follows the sections in step 6 -/

theorem commitFcode_alters (s : State) (r : StepReport) : Alters [.clk, .log] s (s.commitFcode r) := by
  unfold State.commitFcode
  dsimp only
  split
  · exact (Alters.refl _ _).modClk (by simp)
  · exact (((Alters.refl _ _).modClk (by simp)).modClk (by simp)).note (by simp)

theorem commitFcode_clk (s : State) (r : StepReport) : (s.commitFcode r).clk.fcode = s.shadow.fcode
    ∧ (s.commitFcode r).clk.nextF = s.shadow.fcode := by
  unfold State.commitFcode
  dsimp only
  split
  · rename_i h
    exact ⟨h, by simp⟩
  · simp [State.note]

theorem setBand_alters (s : State) : Alters [.clk] s s.setBand := (Alters.refl _ _).modClk (by simp)

/-- Loading the memory alters the log, memory and the lanes' sets. -/
theorem keptByLoad_alters (s : State) : KeptByLoad (Alters [.log, .bank, .lane .a, .lane .b] s) where
  lane {s l f} _ h := h.modLane (by cases l <;> simp)
  log h := h.modLog (by simp)
  event h := h.event
  bank _ h := h.setBank (by simp)

theorem keptByLoad_lane (l : Lane) (h : HeadSt) (a : AxisSt) : KeptByLoad (fun t => (t.lane l).head = h ∧ (t.lane l).axis = a) where
  lane {s j f} hf hs := by
    by_cases hjl : l = j
    · subst hjl
      obtain ⟨hhead, haxis⟩ := hf (s.lane l)
      rw [State.modLane_lane]
      exact ⟨hhead.trans hs.1, haxis.trans hs.2⟩
    · rw [lane_modLane_other hjl]
      exact hs
  log hs := by simpa using hs
  event hs := by simpa using hs
  bank {s m} _ hs := by cases l <;> exact hs

/-- What step 6 does after the sections, with no row to judge. -/
theorem step6_eq (s : State) (r : StepReport) (hrows : ((s.applySections.commitFcode r).setBand).loadMemory.mem.unrep = []) :
    ∃ ls : List Lane, s.step6 r = ls.foldl State.resolveCal ((s.applySections.commitFcode r).setBand).loadMemory := by
  refine ⟨((s.applySections.commitFcode r).setBand).loadMemory.cfgLanes, ?_⟩
  unfold State.step6
  dsimp only
  generalize ((s.applySections.commitFcode r).setBand).loadMemory = d at hrows
  have hfold : (d.cfgLanes.foldl State.resolveCal d).mem = d.mem :=
    foldl_keeps (P := Alters [.log, .bank, .lane .a, .lane .b] d) (fun h => (keptByLoad_alters d).resolveCal h) _ (.refl _ _) .mem (by simp)
  rw [State.judgeRows, hfold, hrows]
  rfl

theorem resolveCal_sets (s : State) (l j : Lane) : ((s.resolveCal l).lane j).sets = (s.lane j).sets := by
  unfold State.resolveCal
  dsimp only
  refine foldl_keeps (P := fun t => (t.lane j).sets = (s.lane j).sets) (fun {t r} h => ?_) _ rfl
  rw [← h]
  cases l <;> cases j <;> simp [State.lane]

/-- What stands at the end of step 6. -/
structure State.Stepped (s t : State) : Prop where
  power : t.power = s.power
  mask : t.sys.mask = s.shadow.attnMask
  march : t.mem.march = s.shadow.march
  fcode : t.clk.fcode = s.shadow.fcode
  nextF : t.clk.nextF = s.shadow.fcode
  aux : t.outOn .aux = (s.shadow.auxOn && decide (4 < s.pwr.on.length))
  lanes : ∀ l, (t.lane l).head.gains = (s.img l).head.chans.map HeadChan.gain
    ∧ (t.lane l).head.offsets = (s.img l).head.chans.map HeadChan.offset
    ∧ (t.lane l).axis.runMa = (s.img l).axis.runMa ∧ (t.lane l).axis.holdMa = (s.img l).axis.holdMa
  hk : t.hk.ch = (s.hk.apply s.shadow.hkchan).ch
  timers : ∀ n, n < 16 → TimerLoaded s n (t.tmr.ts.getD n {})
  sets : ∀ l, s.configured l = true → (s.lane l).sets.length = 4 → s.SetsLoaded l t

theorem step6_stepped (hrows : s.mem.unrep = []) (hlen : s.tmr.ts.length = 16) : s.Stepped (s.step6 r) := by
  have ha := applySections_applied hlen
  have hsets : ∀ l, (s.applySections.lane l).sets = (s.lane l).sets := fun l => by rw [applySections_lane]; rfl
  obtain ⟨hfcode, hnextF⟩ := commitFcode_clk s.applySections r
  have hb := commitFcode_alters s.applySections r
  have hc := setBand_alters (s.applySections.commitFcode r)
  have hband : ((s.applySections.commitFcode r).setBand).clk.fcode = s.shadow.fcode
      ∧ ((s.applySections.commitFcode r).setBand).clk.nextF = s.shadow.fcode := by
    rw [ha.shadow] at hfcode hnextF
    exact ⟨hfcode, hnextF⟩
  have hbc : Alters [.clk, .log] s.applySections ((s.applySections.commitFcode r).setBand) := hb.trans (hc.mono (by simp))
  have heq := step6_eq s r
  generalize (s.applySections.commitFcode r).setBand = c at hband hbc heq
  have hcl : ∀ l, c.lane l = s.applySections.lane l := fun l => hbc (.lane l) (by simp)
  have hload := (keptByLoad_alters c).loadMemory (.refl _ c)
  have hmem : c.loadMemory.mem = s.applySections.mem :=
    (show c.loadMemory.mem = c.mem from hload .mem (by simp)).trans (hbc .mem (by simp))
  obtain ⟨ls, hstep⟩ := heq (by rw [hmem, ha.unrep, hrows])
  have hresolve := foldl_keeps (P := Alters [.log, .bank, .lane .a, .lane .b] c.loadMemory) (f := State.resolveCal)
    (fun h => (keptByLoad_alters c.loadMemory).resolveCal h) ls (.refl _ _)
  rw [← hstep] at hresolve
  have hsets' : ∀ l, ((s.step6 r).lane l).sets = (c.loadMemory.lane l).sets := fun l => by
    rw [hstep]
    exact foldl_keeps (P := fun u => (u.lane l).sets = (c.loadMemory.lane l).sets) (fun h => (resolveCal_sets _ _ _).trans h) _ rfl
  have hlane : ∀ l, ((s.step6 r).lane l).head = (c.lane l).head ∧ ((s.step6 r).lane l).axis = (c.lane l).axis := fun l => by
    rw [hstep]
    have k := keptByLoad_lane l (c.lane l).head (c.lane l).axis
    exact foldl_keeps (P := fun u => (u.lane l).head = (c.lane l).head ∧ (u.lane l).axis = (c.lane l).axis)
      (fun h => k.resolveCal h) _ (k.loadMemory ⟨rfl, rfl⟩)
  have hloaded : ∀ l, s.configured l = true → (s.lane l).sets.length = 4 → s.SetsLoaded l c.loadMemory := fun l hcfg hfour => by
    obtain ⟨hledger, hshadow⟩ := hbc .ledger (by simp)
    refine loadMemory_sets ⟨hshadow.trans ha.shadow, ?_, ?_⟩ ?_
    · rw [show c.flash = s.applySections.flash from hbc .flash (by simp), ha.flash]
    · rw [hcl, hsets]
      exact hfour
    · have hl : c.ledger = s.ledger := hledger.trans ha.ledger
      cases l <;> simp only [State.configured, hl] <;> exact hcfg
  have hfinal : Alters [.log, .bank, .lane .a, .lane .b, .clk] s.applySections (s.step6 r) :=
    (hbc.mono (by simp)).trans ((hload.trans hresolve).mono (by simp))
  have hclk : (s.step6 r).clk = c.clk := (hload.trans hresolve) .clk (by simp)
  generalize s.step6 r = v at hstep hsets' hlane hfinal hclk
  generalize s.applySections = a at ha hsets hbc hfinal hcl
  have hbare : v.sys.bare = a.sys.bare := hfinal .sys (by simp)
  have hpwr : v.pwr = a.pwr := hfinal .pwr (by simp)
  have htmr : v.tmr = a.tmr := hfinal .tmr (by simp)
  refine ⟨(show v.power = a.power from hfinal .power (by simp)).trans ha.power, (congrArg SysSt.mask hbare).trans ha.mask, ?_, ?_, ?_,
    ?_, fun l => ?_, ?_, fun n hn => ?_, fun l hcfg hfour k hk => ?_⟩
  · rw [show v.mem = a.mem from hfinal .mem (by simp)]
    exact ha.march
  · rw [hclk]
    exact hband.1
  · rw [hclk]
    exact hband.2
  · rw [State.outOn, hpwr]
    exact ha.aux
  · obtain ⟨hhead, haxis⟩ := hlane l
    rw [hhead, haxis, hcl]
    exact ha.lanes l
  · rw [show v.hk = a.hk from hfinal .hk (by simp)]
    exact ha.hk
  · rw [htmr]
    exact ha.timers n hn
  · rw [hsets']
    exact hloaded l hcfg hfour k hk

theorem bringupStep_six (hphase : s.power.phase = .bringup) (hstage : s.power.stage = 6) (hoff : s.power.offLatched = false)
    (hpower : (s.step6 r).power = s.power) : s.bringupStep r =
      (((s.step6 r).noteC2 r.c2).modPower (fun p => { p with stepDone := 6 })).modPower (fun p => { p with stage := 7 }) := by
  unfold State.bringupStep
  simp [hphase, hstage, hoff, State.endStep, hpower, nextStep, State.noteC2]

/-- Step 6 as its command ends it. -/
theorem step6_exec (hphase : s.power.phase = .bringup) (hstage : s.power.stage = 6) (hoff : s.power.offLatched = false)
    (hint : s.clk.interval = false) (hrows : s.mem.unrep = []) (hlen : s.tmr.ts.length = 16) :
    ∃ t u : State, exec (.bringupStepComplete r) s = .next t ∧ s.Stepped u ∧ t.power.stage = 7 ∧ t.power.stepDone = 6
      ∧ t.sys.mask = u.sys.mask ∧ t.mem.march = u.mem.march ∧ t.clk = u.clk ∧ t.pwr = u.pwr ∧ t.hk = u.hk ∧ t.tmr = u.tmr
      ∧ ∀ l, (t.lane l).head = (u.lane l).head ∧ (t.lane l).axis = (u.lane l).axis ∧ (t.lane l).sets = (u.lane l).sets := by
  have hs := step6_stepped (s := s.clearOut) (r := r) (by simpa using hrows) (by simpa using hlen)
  have hbring := bringupStep_six (s := s.clearOut) (r := r) (by simpa using hphase) (by simpa using hstage) (by simpa using hoff) hs.power
  have heffect : exec (.bringupStepComplete r) s = .next (s.after (s.clearOut.bringupStep r)) := by
    rw [exec_bringupStepComplete, execBringupStepComplete, perform_after, if_pos (by simp [hphase, hint])]
  rw [hbring] at heffect
  generalize s.clearOut.step6 r = u at hs heffect
  have himg : ∀ l, s.clearOut.img l = s.img l := fun l => by cases l <;> simp [State.img]
  refine ⟨_, u, heffect, ⟨?_, ?_, ?_, ?_, ?_, ?_, ?_, ?_, ?_, ?_⟩, ?_, ?_, ?_, ?_, ?_, ?_, ?_, ?_, ?_⟩
  · simpa using hs.power
  · simpa using hs.mask
  · simpa using hs.march
  · simpa using hs.fcode
  · simpa using hs.nextF
  · exact hs.aux
  · intro l
    rw [← himg]
    exact hs.lanes l
  · simpa using hs.hk
  · intro n hn
    have hrec := timerRec_congr (s := s) (t := s.clearOut) (by simp) (by simp) n
    obtain ⟨hrld, hcmp, hcnt, hheld⟩ := hs.timers n hn
    exact ⟨hrec ▸ hrld, hrec ▸ hcmp, hrec ▸ hcnt, hheld⟩
  · intro l hcfg hfour k hk
    have h := hs.sets l (by cases l <;> simpa [State.configured] using hcfg) (by simpa using hfour) k hk
    rw [himg, State.clearOut_flash] at h
    exact h
  · simp [State.noteC2]
  · simp [State.noteC2]
  · simp [State.noteC2]
  · simp [State.noteC2]
  · simp [State.noteC2]
  · simp [State.noteC2]
  · simp [State.noteC2]
  · simp [State.noteC2]
  · intro l
    refine ⟨?_, ?_, ?_⟩ <;> simp [State.noteC2]

/-- A housekeeping channel's window as its record has it. -/
theorem apply_window (h : HkSt) (rs : List HkChanRec) {n : Nat} (hlen : h.ch.length = 24) (hn : n < 24) :
    ((h.apply rs).ch.getD n {}).wlo = (rs.getD n {}).winLow ∧ ((h.apply rs).ch.getD n {}).whi = (rs.getD n {}).winHigh := by
  have hin : n < h.ch.length := by rw [hlen]; exact hn
  simp [HkSt.apply, List.getD_eq_getElem?_getD, hin]

/-- Settles O11: step 4 by the copy that is chosen and what its checks come to, step 6 by what it applies and loads. -/
theorem ledgerCopyBecomesTheShadow : Obligations.LedgerCopyBecomesTheShadow := by
  unfold Obligations.LedgerCopyBecomesTheShadow
  refine ⟨?_, ?_, ?_, ?_, ?_, ?_, ?_⟩
  · intro r s hphase hstage hoff hint hbad
    exact unfit_condemned ⟨hphase, hstage, hoff, hint⟩ hbad
  · intro r s hphase hstage hoff hint hsfdp hconf hnone
    exact noCopy_condemned ⟨hphase, hstage, hoff, hint⟩ hsfdp hconf hnone
  · intro r k h ss s hphase hstage hoff hint hsfdp hconf hsome hh hss hgood
    subst hh hss
    obtain ⟨t, hexec, hnext, hdone, hsafe, hcopy, hseq, hlane, hshadow, hprog, _⟩ :=
      copy_taken (r := r) ⟨hphase, hstage, hoff, hint⟩ hsfdp hconf hsome hgood
    have hled : t.shadow = readLedger s.twoLanes (u32 (Mem.flash s.flash.cells (copyBase k) 64) 8)
        (u32 (Mem.flash s.flash.cells (copyBase k) 64) 12) (copySects s.flash.cells k) := hshadow
    refine ⟨t, hexec, hnext, hdone, hsafe, hcopy, hseq, hlane, hled, ?_, ?_, ?_, ?_, ?_, ?_, ?_, ?_⟩
    · rw [hprog, hled]
      rfl
    · rw [hled]; rfl
    · rw [hled]; rfl
    · rw [hled]; rfl
    · rw [hled]; rfl
    · rw [hled]; rfl
    · intro w hw
      rw [hled]
      exact readLedger_window _ _ _ _ hw
    · intro i p hp
      rw [hled] at hp
      exact readLedger_program _ _ _ _ hp
  · intro r k h ss s hphase hstage hoff hint hsfdp hconf hsome hh hss hbad
    subst hh hss
    obtain ⟨t, hexec, hsafe, hfault, hverdict, hcopy, hlane, hshadow, _⟩ :=
      copy_condemned (r := r) ⟨hphase, hstage, hoff, hint⟩ hsfdp hconf hsome hbad
    exact ⟨t, hexec, hsafe, hfault, hverdict, hcopy, hlane, hshadow⟩
  · intro r k h s hphase hstage hoff hint hsfdp hconf hk hpin hh h0 h1 hblank0 hblank1 hlater hgood
    simp only [hh] at h0 h1 hlater
    have hpick : s.pick = { slot := some k } := by
      rw [State.pick, hpin, pickCopy_later hk h0 h1 hblank0 hblank1 hlater, if_pos hgood]
    obtain ⟨t, hexec, hcopy, hfall⟩ := copy_shown (r := r) ⟨hphase, hstage, hoff, hint⟩ hsfdp hconf (by rw [hpick])
    exact ⟨t, hexec, hcopy, by rw [hfall, hpick]⟩
  · intro r k h s hphase hstage hoff hint hsfdp hconf hk hpin hh h0 h1 hblank0 hblank1 hlater hbad hgood
    simp only [hh] at h0 h1 hlater
    have hpick : s.pick = { slot := some (1 - k), fallback := true, rejected := [(k, copyReason s.flash.cells k)] } := by
      rw [State.pick, hpin, pickCopy_later hk h0 h1 hblank0 hblank1 hlater, if_neg hbad, if_pos rfl, if_pos hgood]
    obtain ⟨t, hexec, hcopy, hfall⟩ := copy_shown (r := r) ⟨hphase, hstage, hoff, hint⟩ hsfdp hconf (by rw [hpick])
    exact ⟨t, hexec, hcopy, by rw [hfall, hpick]⟩
  · intro r s hphase hstage hoff hint hrows hlen hhk
    obtain ⟨t, u, hexec, hu, hnext, hdone, hmask, hmarch, hclk, hpwr, hhk', htmr, hlanes⟩ :=
      step6_exec (r := r) hphase hstage hoff hint hrows hlen
    refine ⟨t, hexec, hnext, hdone, hmask.trans hu.mask, hmarch.trans hu.march, by rw [hclk, hu.fcode], by rw [hclk, hu.nextF], ?_, ?_, ?_,
      ?_, ?_⟩
    · rw [State.outOn, hpwr]
      exact hu.aux
    · intro l
      obtain ⟨hhead, haxis, _⟩ := hlanes l
      rw [hhead, haxis]
      exact hu.lanes l
    · intro n hn
      rw [State.hkChan, hhk', hu.hk]
      exact apply_window s.hk s.shadow.hkchan hhk hn
    · intro n hn
      rw [htmr]
      obtain ⟨hrld, hcmp, hcnt, hheld⟩ := hu.timers n hn
      exact ⟨hrld, hcmp, hcnt, hheld⟩
    · intro l k c hcfg hk hfour hc
      obtain ⟨_, _, hsets⟩ := hlanes l
      rw [hsets] at hc
      have hset := hu.sets l hcfg hfour k hk
      rw [← hc] at hset
      exact ⟨hset.absent, hset.valid, hset.present⟩

end Sys2Proof.Machine
end


section
/-!
SUPPORT. What the two memories and the epochs live through: a property that every update keeps but one that breaks a
memory's canonical form or changes an epoch is kept by the writes into memory, by the Tally, by U20 and by a reset's
or a power-down's stops.
-/

namespace Sys2Proof.Machine

/-- `P` is kept by what keeps both memories and the epochs, and by a write that keeps its memory's canonical form. -/
structure Durable (P : State → Prop) : Prop extends Steady P where
  other : ∀ {s t : State}, P s → t.bank = s.bank → t.flash.cells = s.flash.cells → t.sys.epochs = s.sys.epochs → P t
  bank : ∀ {s : State} {m}, (Mem.wf memBlank s.bank = true → Mem.wf memBlank m = true) → P s → P { s with bank := m }
  cells : ∀ {s : State} {f}, (Mem.wf flashBlank s.flash.cells = true → Mem.wf flashBlank (f s.flash).cells = true) →
    P s → P (s.modFlash f)

/-- What keeps both memories and the epochs needs to be said once. -/
theorem Durable.of_other {P : State → Prop}
    (other : ∀ s t : State, t.bank = s.bank → t.flash.cells = s.flash.cells → t.sys.epochs = s.sys.epochs → P s → P t)
    (bank : ∀ {s : State} {m}, (Mem.wf memBlank s.bank = true → Mem.wf memBlank m = true) → P s → P { s with bank := m })
    (cells : ∀ {s : State} {f}, (Mem.wf flashBlank s.flash.cells = true → Mem.wf flashBlank (f s.flash).cells = true) →
      P s → P (s.modFlash f)) : Durable P where
  lane := other _ _ (by simp) (by simp) (by simp)
  lux := other _ _ rfl rfl rfl
  log := other _ _ rfl rfl rfl
  mark := other _ _ rfl rfl rfl
  event := other _ _ (by simp) (by simp) (by unfold State.event; split <;> rfl)
  gang := other _ _ rfl rfl rfl
  out := other _ _ rfl rfl rfl
  power := other _ _ rfl rfl rfl
  clk := other _ _ rfl rfl rfl
  pwr := other _ _ rfl rfl rfl
  hist := other _ _ rfl rfl rfl
  mem := other _ _ rfl rfl rfl
  tmr := other _ _ rfl rfl rfl
  hk := other _ _ rfl rfl rfl
  sys hf := other _ _ rfl rfl (hf _)
  flash hf := other _ _ rfl (hf _).1 rfl
  ledger := other _ _ rfl rfl rfl
  shadow := other _ _ rfl rfl rfl
  pins := other _ _ rfl rfl rfl
  other h h1 h2 h3 := other _ _ h1 h2 h3 h
  bank := bank
  cells := cells

theorem memOk_durable : Durable State.MemOk := by
  refine Durable.of_other (fun s t hbank hcells _ hs => ?_) (fun hm hs => ⟨hm hs.1, hs.2⟩) (fun hf hs => ⟨hs.1, hf hs.2⟩)
  show Mem.wf memBlank t.bank = true ∧ Mem.wf flashBlank t.flash.cells = true
  rw [hbank, hcells]
  exact hs

theorem epochs_durable (v : List Nat) : Durable (fun s => s.sys.epochs = v) :=
  Durable.of_other (fun _ _ _ _ hepochs hs => hepochs.trans hs) (fun _ hs => hs) (fun _ hs => hs)

/-- Both ways of a condition keep a property. -/
theorem keeps_ite {P : State → Prop} {c : Prop} [Decidable c] {a b : State} (ha : P a) (hb : P b) :
    P (if c then a else b) := by
  split
  · exact ha
  · exact hb

namespace Durable

variable {P : State → Prop} (k : Durable P) {s : State} {l : Lane}
include k

/-! ### Memory -/

theorem takeFree (h : P s) : P s.takeFree := k.other h rfl rfl rfl

theorem keptByLoad : KeptByLoad P where
  lane _ h := k.lane h
  log h := k.log h
  event h := k.event h
  bank hm h := k.bank hm h

theorem winWrite {w o ws} (h : P s) : P (s.winWrite w o ws) := k.keptByLoad.winWrite h

theorem masterWrite {w o ws} (h : P s) : P (s.masterWrite l w o ws) := keeps_ite h (k.winWrite h)

theorem decayed {ds} (h : P s) : P (s.decayed ds) := foldl_keeps (fun h => k.bank (Mem.setWords_wf _ _) h) _ h

theorem scramble {a n} (h : P s) : P (s.scramble a n) :=
  k.takeFree (k.cells (f := fun f => { f with cells := (s.scramble a n).flash.cells }) (State.scramble_wf a n) h)

theorem noteFence {m w} (h : P s) : P (s.noteFence l m w) := k.mem h

theorem fenceNote {m w} (h : P s) : P (s.fenceNote l m w) := keeps_ite (k.record (k.noteFence h)) h

theorem fenceHit {m w} (h : P s) : P (s.fenceHit l m w) := k.abortFault (k.record (k.noteFence h))

theorem fenceLine {m w} (h : P s) : P (s.fenceLine l m w) :=
  keeps_ite (keeps_ite (k.noteFence h) (k.fenceHit h)) h

theorem noteC0 {a b w} (h : P s) : P (s.noteC0 a b w) := k.mem h
theorem noteC1 {n} (h : P s) : P (s.noteC1 n) := k.mem h
theorem noteC2 {n} (h : P s) : P (s.noteC2 n) := k.mem h

theorem noteGrants {gs} (h : P s) : P (s.noteGrants l gs) := foldl_keeps (fun h => keeps_ite h (k.noteC0 h)) _ h

/-! ### Calibration sets -/

theorem withdraw {n} (h : P s) : P (s.withdraw l n) := k.noteItem (k.lane h)

theorem checkSets {f} (h : P s) : P (s.checkSets l f) := foldl_keeps (fun h => keeps_ite (k.withdraw h) h) _ h

theorem putSet {n c} (h : P s) : P (s.putSet l n c) := by
  unfold State.putSet
  exact k.lane (k.masterWrite (k.fenceNote (k.fenceNote h)))

theorem replaceSet (h : P s) : P (s.replaceSet l) :=
  keeps_ite h (k.cal (k.lane (foldl_keeps (fun h => k.putSet h) _ h)))

theorem replaceUntimed (h : P s) : P (s.replaceUntimed l) :=
  keeps_ite (k.replaceSet h) (k.takeFree (k.noteC1 (k.replaceSet h)))

/-! ### Stops -/

theorem stopLane {c d r f} (h : P s) : P (s.stopLane l c d r f) := by
  unfold State.stopLane
  extract_lets s1 s2 s3
  have h2 : P s2 := k.endMove (keeps_ite (k.voidCal h) h)
  have h3 : P s3 := keeps_ite (k.stopScan (k.flushNoted (k.recallLine h2))) (keeps_ite (k.flushNoted h2) (k.clearTill h2))
  exact k.replaceUntimed (k.toMode (k.mode (k.pix (k.lrun (k.lane (k.freezeAxis h3))))))

theorem stopBoth {c r f} (h : P s) : P (s.stopBoth c r f) := k.gang (k.stopLane (k.stopLane h))

theorem stopRuns {e} (h : P s) : P (s.stopRuns e) :=
  k.toKept.stopRuns (fun h => k.sys (fun _ => rfl) h) (fun h => k.sys (fun _ => rfl) h) h

theorem clearHalt (h : P s) : P s.clearHalt := by
  unfold State.clearHalt
  exact k.mode (k.mode (k.sys (fun _ => rfl) h))

/-! ### Outputs -/

theorem setOut {o b} (h : P s) : P (s.setOut o b) := k.pwr h

theorem setWiring {w} (h : P s) : P (s.setWiring l w) := by
  cases l
  · exact k.other h rfl rfl rfl
  · exact k.other h rfl rfl rfl

theorem setWire {i b} (h : P s) : P (s.setWire l i b) := k.setWiring h

/-! ### The ring, and operations at U20 -/

theorem sendOut (h : P s) : P (s.sendOut l) := keeps_ite (k.sayEnd (k.drainQueue _ (k.tellEpoch h))) h

theorem retryIssue (h : P s) : P s.retryIssue := k.other h rfl rfl rfl

theorem noteReclaim {n} (h : P s) : P (s.noteReclaim n) := keeps_ite h (k.other (k.note h) rfl rfl rfl)

theorem cutFlash (h : P s) : P s.cutFlash := by
  unfold State.cutFlash
  split
  · exact h
  · exact k.flash (fun _ => ⟨rfl, rfl⟩) (k.scramble h)

theorem flashGood {op} (h : P s) : P (s.flashGood op) :=
  k.afterGood (k.cells (f := fun f => { f with cells := op.apply f.cells, op := none }) (FlashOp.apply_wf op) h)

theorem noteWrite {op r} (h : P s) : P (s.noteWrite op r) := k.note h

theorem flashBad {op r b} (h : P s) : P (s.flashBad op r b) :=
  have hcells := k.scramble h
  keeps_ite (k.flashGiveUp hcells) (keeps_ite (k.issue (k.noteWrite hcells)) (k.flashGiveUp (k.noteWrite hcells)))

/-! ### The Tally (R292 to R300) -/

theorem judgeRow {q} (h : P s) : P (s.judgeRow q) := by
  unfold State.judgeRow
  split
  · exact k.note h
  · exact k.record h
  · exact foldl_keeps (fun h => k.trip (k.record h)) _ (k.mem h)

theorem judgeRows (h : P s) : P s.judgeRows := foldl_keeps (fun h => k.judgeRow h) _ h

theorem rejudgeLane (h : P s) : P (s.rejudgeLane l) := foldl_keeps (fun h => k.trip (k.record h)) _ h

theorem badSpare {q} (h : P s) : P (s.badSpare q) := k.mem h

theorem steer {b rs q} (h : P s) : P (s.steer b rs q) := by
  unfold State.steer
  extract_lets old s1 fails tried s2
  have h2 : P s2 := foldl_keeps (fun h => k.badSpare h) _ (foldl_keeps (fun h => k.badSpare h) _ h)
  split
  · exact k.note (k.mem h2)
  · exact k.mem h2

theorem bankEmpty (h : P s) : P { s with bank := [] } := k.bank (fun _ => rfl) h

theorem marchEnd {reads retests} (h : P s) : P (s.marchEnd reads retests) :=
  k.bankEmpty (foldl_keeps (fun h => k.steer h) _ (foldl_keeps (fun h => k.badSpare h) _ (k.mem h)))

theorem marchRow {reads} (h : P s) : P (s.marchRow reads) := keeps_ite h (k.mem h)

theorem pauseEnd (h : P s) : P s.pauseEnd := by
  unfold State.pauseEnd
  split
  · exact h
  · exact k.mem h

theorem writeTables {f} (h : P s) : P (s.writeTables l f) := foldl_keeps (fun h => k.winWrite h) _ h

theorem loadMemory (h : P s) : P s.loadMemory := k.keptByLoad.loadMemory h
theorem resolveCal (h : P s) : P (s.resolveCal l) := k.keptByLoad.resolveCal h

theorem nextRow (n : Nat) : ∀ {s : State} {r}, P s → P (State.nextRow n s r) := by
  induction n with
  | zero => exact fun h => k.mem h
  | succ n ih => exact fun h => keeps_ite (ih (k.mem h)) (k.mem h)

theorem rowFrom {r} (h : P s) : P (s.rowFrom r) := keeps_ite (k.mem h) (k.nextRow _ h)
theorem tallyPreserve (h : P s) : P s.tallyPreserve := k.rowFrom (k.mem h)
theorem tallyDestroy (h : P s) : P s.tallyDestroy := k.mem h
theorem tallyStart {b} (h : P s) : P (s.tallyStart b) := keeps_ite (k.tallyPreserve h) (k.tallyDestroy h)

theorem afterRepair {r} (h : P s) : P (s.afterRepair r) := foldl_keeps (fun h => k.checkSets (k.writeTables h)) _ h

theorem tallyRow {reads retests decay} (h : P s) : P (s.tallyRow reads retests decay) := by
  unfold State.tallyRow
  extract_lets r banks s1 s2 s3 s4
  have h3 : P s3 := k.decayed (foldl_keeps (fun h => k.steer h) _ (k.mem h))
  exact k.rowFrom (keeps_ite (k.afterRepair h3) h3)

theorem endService (h : P s) : P s.endService := keeps_ite (k.other h rfl rfl rfl) h

theorem tallyPreserveEnd (h : P s) : P s.tallyPreserveEnd :=
  k.endService (k.judgeRows (keeps_ite (k.mem h) (k.note (k.mem h))))

theorem tallyCut (h : P s) : P s.tallyCut := by
  unfold State.tallyCut
  split
  · exact h
  · exact keeps_ite (k.bankEmpty (k.mem (k.note h))) (k.mem (k.note h))

theorem tallyReset (h : P s) : P s.tallyReset := keeps_ite (k.mem (k.tallyCut h)) (k.tallyCut h)

theorem destroyEnd {reads retests} (h : P s) : P (s.destroyEnd reads retests) := k.mem (k.marchEnd h)
theorem reloadEnd (h : P s) : P s.reloadEnd := k.endService (k.judgeRows (k.mem (k.loadMemory h)))

/-! ### Commits (R265 to R276) -/

theorem readyCommit (h : P s) : P (s.readyCommit l) := keeps_ite (k.cal h) (k.beginCommit h)

theorem activate (h : P s) : P (s.activate l) := by
  unfold State.activate
  extract_lets c m new long s1 s2
  have h2 : P s2 := k.cal (k.lane h)
  clear_value long
  cases long
  · exact k.replaceSet h2
  · exact k.noteL h2

theorem doK1 (h : P s) : P (s.doK1 l) := by
  unfold State.doK1
  extract_lets s1 s2 c n marks s3
  have h3 : P s3 := k.cal (k.fenceNote (keeps_ite (k.fenceHit h) h))
  split
  · exact k.endCal (k.noteL h3)
  · exact k.beginK2 (k.cal (k.masterWrite h3))

theorem calStep (h : P s) : P (s.calStep l) := by
  unfold State.calStep
  extract_lets c a
  split
  · exact k.doK1 h
  · exact keeps_ite (k.calOp (k.cal h)) h
  · exact keeps_ite (k.calOp (k.cal h)) h
  · exact keeps_ite h (keeps_ite (k.failCal h) (k.cal h))
  · exact keeps_ite (k.failCal h) (keeps_ite (k.failCal h) (k.calOp (k.cal h)))
  · exact keeps_ite h (keeps_ite (k.failCal h) (k.noteL (k.cal (k.activate h))))
  · exact keeps_ite (k.endCal h) h
  · exact h

theorem abandonCal (h : P s) : P (s.abandonCal l) := k.failOne (k.failOne (keeps_ite (k.endCal h) h))
theorem abandonCoef (h : P s) : P (s.abandonCoef l) := keeps_ite h (keeps_ite (k.endCal h) (k.failOne h))

theorem readyAcq (h : P s) : P (s.readyAcq l) := keeps_ite (k.cal h) (k.readyCommit (k.cal h))
theorem closeAcq (h : P s) : P (s.closeAcq l) := k.readyAcq (k.beginEnding (k.pix h))

end Durable

end Sys2Proof.Machine
end


section
/-!
SUPPORT. What light, the timers and the housekeeping converters keep: both memories' canonical form and the epochs.
-/

namespace Sys2Proof.Machine

/-- Both ways of a condition keep a property, where a state comes with a value. -/
theorem keeps_ite_fst {P : State → Prop} {α : Type} {c : Prop} [Decidable c] {a b : State × α} (ha : P a.1)
    (hb : P b.1) :
    P (if c then a else b).1 := by
  split
  · exact ha
  · exact hb

namespace Durable

variable {P : State → Prop} (k : Durable P) {s : State} {l : Lane}
include k

/-! ### Light -/

theorem sendOff {a} (h : P s) : P (s.sendOff a) := k.modLightHead (k.busSend h)

theorem framesOwed (h : P s) : P s.framesOwed :=
  foldl_keeps (fun h => keeps_ite (k.sendOff h) h) _ (foldl_keeps (fun h => k.busSend h) _ (k.lux h))

theorem sendCommit {p} (h : P s) : P (s.sendCommit p) := by
  unfold State.sendCommit
  extract_lets i
  split
  · exact h
  · refine keeps_ite h ?_
    rename_i c _
    have hstage : P (if c.staged.isSome then (s, c) else s.stage c).1 := keeps_ite_fst h (k.stage h)
    exact k.lux (k.busSend hstage)

theorem derateTo {own d d' b b'} (h : P s) : P (s.derateTo own d d' b b') :=
  have hnote := keeps_ite (k.noteItem h) h
  keeps_ite h (keeps_ite hnote (k.plan hnote))

theorem latchHead {a} (h : P s) : P (s.latchHead a) := k.lux (k.modLightHead (k.sendOff h))

theorem emberCh {n t} (h : P s) : P (s.emberCh n t).1 := by
  unfold State.emberCh
  have hmod : ∀ {f}, P (s.modCh n f) := k.modCh h
  have hfree : ∀ {f d d' b b' own} {c : Prop} [Decidable c],
      P ((if c then (s.modCh n f).noteItem 0x6002 own else s.modCh n f).derateTo own d d' b b') :=
    k.derateTo (keeps_ite (k.noteItem hmod) hmod)
  exact keeps_ite_fst h (keeps_ite (k.record hfree) hfree)

theorem emberHead {a t} (h : P s) : P (s.emberHead a t).1 := by
  unfold State.emberHead
  split
  · exact h
  · extract_lets own x latch d cut s1 s2 s3 s4 run
    have h1 : P s1 := k.modLightHead h
    have h2 : P s2 := keeps_ite (k.latchHead h1) h1
    have h3 : P s3 := keeps_ite (k.noteItem h2) h2
    exact keeps_ite (k.record (k.derateTo h3)) (k.derateTo h3)

theorem abortNotes {d} (h : P s) : P (s.abortNotes l d) := keeps_ite (k.noteL (k.noteL h)) (k.noteL h)

theorem cutLines (h : P s) : P (s.cutLines l) := by
  unfold State.cutLines
  extract_lets s1
  have h1 : P s1 := k.unexposeIf (k.holdGate h)
  split
  · refine keeps_ite h1 ?_
    exact keeps_ite (k.sendFrame (k.dropReading h1)) (k.dropReading h1)
  · exact h1

theorem cutGang (h : P s) : P s.cutGang := by
  unfold State.cutGang
  extract_lets cut s1
  have h1 : P s1 := foldl_keeps (fun h => k.unexposeIf (k.holdGate h)) _ h
  exact keeps_ite h1 (foldl_keeps (fun h => k.pix (k.lane h)) _ (k.dropFlight h1))

theorem emberEnd {n} (h : P s) : P (s.emberEnd n) := by
  unfold State.emberEnd
  extract_lets l isOver s1
  have h1 : P s1 := keeps_ite h (k.abortNotes h)
  exact keeps_ite h (keeps_ite (k.voidCal (k.abortNotes h)) (keeps_ite h
    (keeps_ite (keeps_ite (k.cutGang h1) (k.endRun (k.cutGang (k.recordL h1)))) (k.endRun (k.cutLines h1)))))

theorem emberChan {n t} (h : P s) : P (s.emberChan n t) := keeps_ite (k.emberEnd (k.emberCh h)) (k.emberCh h)
theorem emberFault {n} (h : P s) : P (s.emberFault n) := foldl_keeps (fun h => k.emberChan h) _ h

theorem photoNoref {n} (h : P s) : P (s.photoNoref n) := keeps_ite (k.modGrp (k.noteItem h)) h

theorem photoStepAt {n v t} (h : P s) : P (s.photoStepAt n v t) := by
  unfold State.photoStepAt
  extract_lets r g p waiting
  refine keeps_ite h ?_
  split
  extract_lets s1 s2
  have h2 : P s2 := keeps_ite (k.noteItem (k.modGrp h)) (k.modGrp h)
  exact keeps_ite h2 (k.plan h2)

theorem photoMeanAt {n v t} (h : P s) : P (s.photoMeanAt n v t) := keeps_ite (k.cal h) h

/-! ### Timers -/

theorem setTimer {n t} (h : P s) : P (s.setTimer n t) := keeps_ite (k.tmr h) (k.tmr h)
theorem updTimer {n f} (h : P s) : P (s.updTimer n f) := keeps_ite (k.event (k.setTimer h)) (k.setTimer h)
theorem reloadTimer {n} (h : P s) : P (s.reloadTimer n) := k.other h rfl rfl rfl
theorem sleepTimer {n} (h : P s) : P (s.sleepTimer n) := k.other h rfl rfl rfl
theorem groupStart {ns p} (h : P s) : P (s.groupStart ns p) := foldl_keeps (fun h => k.updTimer h) _ h
theorem releaseTimers {ns} (h : P s) : P (s.releaseTimers ns) := k.tmr h
theorem startTimers {ns p} (h : P s) : P (s.startTimers ns p) := k.mark (k.groupStart (k.releaseTimers h))
theorem lfWatch (h : P s) : P s.lfWatch := foldl_keeps (fun h => keeps_ite (k.updTimer h) h) _ h
theorem carryPre (h : P s) : P s.carryPre := k.other h rfl rfl rfl
theorem lfHandover {c} (h : P s) : P (s.lfHandover c) := by
  have h1 : P (if c = 1 then s.carryPre else s) := keeps_ite (k.carryPre h) h
  exact k.other h1 rfl rfl rfl


theorem lfHandback (h : P s) : P s.lfHandback := by
  unfold State.lfHandback
  extract_lets gap sleep failed s1 s2
  have h2 : P s2 := keeps_ite (k.mark (k.note (k.tmr h))) (k.tmr h)
  exact keeps_ite (k.note h2) h2

theorem lfBad {d} (h : P s) : P (s.lfBad d) := k.note (keeps_ite (k.mark (k.tmr h)) h)
theorem lfWait {c} (h : P s) : P (s.lfWait c) := keeps_ite (k.tmr h) (k.tmr h)
theorem crystalStable (h : P s) : P s.crystalStable := keeps_ite (k.lfHandback h) (keeps_ite (k.tmr h) (k.tmr h))
theorem endEntry (h : P s) : P s.endEntry :=
  keeps_ite h (keeps_ite (k.crystalStable h) (keeps_ite (k.lfBad (k.tmr h)) (k.tmr h)))
theorem refTick (h : P s) : P s.refTick := keeps_ite (k.tmr h) h
theorem loadTimers (h : P s) : P s.loadTimers := k.mark (foldl_keeps (fun h => k.reloadTimer h) _ h)

/-! ### Housekeeping -/

theorem modConv {b f} (h : P s) : P (s.modConv b f) := k.hk h
theorem modHkChan {n f} (h : P s) : P (s.modHkChan n f) := k.hk h
theorem noteBoard {n v} (h : P s) : P (s.noteBoard n v) := keeps_ite (k.hk h) h

theorem hkFault {n c d xs} (h : P s) : P (s.hkFault n c d xs) := by
  unfold State.hkFault
  extract_lets x was s1 s2
  have h2 : P s2 := keeps_ite (k.modHkChan h) (k.noteItem (k.modHkChan h))
  exact keeps_ite h (keeps_ite (k.emberFault h2) h2)

theorem hkClear {n} (h : P s) : P (s.hkClear n) := k.noteItem (k.modHkChan h)

theorem hkFinding {n c d b i xs} (h : P s) : P (s.hkFinding n c d b i xs) :=
  keeps_ite (keeps_ite (k.hkFault (k.modHkChan h)) (k.modHkChan h))
    (keeps_ite (keeps_ite (k.hkClear h) (k.modHkChan h)) h)

theorem checkOpen {n v} (h : P s) : P (s.checkOpen n v) := k.hkFinding (k.modHkChan h)

theorem checkImp {n v z} (h : P s) : P (s.checkImp n v z) := by
  unfold State.checkImp
  refine keeps_ite h (keeps_ite (k.modHkChan h) ?_)
  split
  · exact k.modHkChan h
  · exact k.hkFinding (k.modHkChan (k.modHkChan h))

theorem checkPair {n a b} (h : P s) : P (s.checkPair n a b) := k.hkFinding (k.modHkChan h)

theorem loadRes {b n v x} (h : P s) : P (s.loadRes b n v x) :=
  keeps_ite h (k.event (keeps_ite (k.noteItem (k.modConv h)) (k.modConv h)))

theorem compare {n v} (h : P s) : P (s.compare n v) := by
  have hleave : ∀ {f xs}, P (((s.modHkChan n f).noteItem 0x5020 (s.hkOwner n) xs).event 7) :=
    k.event (k.noteItem (k.modHkChan h))
  exact keeps_ite (keeps_ite hleave (keeps_ite hleave h)) (keeps_ite (k.modHkChan h) h)

theorem consume {b n v t x} (h : P s) : P (s.consume b n v t x) := by
  unfold State.consume
  split
  · exact k.loadRes h
  · exact foldl_keeps (fun h => k.emberChan h) _ h
  · exact foldl_keeps (fun h => k.photoStepAt (k.photoMeanAt h)) _ h
  · exact h

theorem distribute {b n v raw t x} (h : P s) : P (s.distribute b n v raw t x) :=
  keeps_ite (keeps_ite (k.loadRes (k.modHkChan h)) (keeps_ite (foldl_keeps (fun h => k.photoNoref h) _ h) h))
    (k.consume (k.compare (k.modHkChan h)))

theorem convert {b n raw z} (h : P s) : P (s.convert b n raw z) := by
  unfold State.convert
  extract_lets s1 v s2 other t
  have h2 : P s2 := k.noteBoard (k.checkImp (k.checkOpen h))
  split
  · refine keeps_ite (k.distribute h2) (keeps_ite (k.modHkChan h2) ?_)
    split
    · exact h2
    · exact k.distribute (k.checkPair (k.modHkChan h2))
  · exact k.distribute h2
  · exact k.distribute h2

theorem stopConv {b} (h : P s) : P (s.stopConv b) := k.modConv h
theorem startConv {b p} (h : P s) : P (s.startConv b p) :=
  keeps_ite (k.stopConv h) (keeps_ite (k.hk (k.modConv h)) (k.modConv h))
theorem startCheck {b} (h : P s) : P (s.startCheck b) := k.modConv (k.stopConv h)
theorem joinConv {b} (h : P s) : P (s.joinConv b) :=
  k.startConv (foldl_keeps (fun h => k.hkClear h) _ (keeps_ite (k.note (k.modConv h)) h))
theorem lagStart (h : P s) : P s.lagStart := keeps_ite (k.joinConv (k.modConv (k.hk h))) h
theorem runSlot {b} (h : P s) : P (s.runSlot b) :=
  keeps_ite (k.lagStart (k.stopConv h)) (keeps_ite (k.stopConv h) (k.startConv h))

theorem nextPass {b} (h : P s) : P (s.nextPass b) := by
  unfold State.nextPass
  split
  · exact k.startConv h
  · exact k.modConv (k.stopConv h)

theorem nextSlot {b} (h : P s) : P (s.nextSlot b) :=
  have h1 := k.modConv h
  keeps_ite (k.stopConv h1) (keeps_ite (k.startCheck (keeps_ite (k.modConv h1) h1)) (k.runSlot h1))

theorem countDiscard (h : P s) : P s.countDiscard := k.hk h
theorem dropHalf {b} (h : P s) : P (s.dropHalf b) := k.modHkChan h
theorem twinHalt (h : P s) : P s.twinHalt := k.hk (k.modConv (k.stopConv (k.stopConv (k.dropHalf (k.dropHalf h)))))

theorem convEnd {b n z} (h : P s) : P (s.convEnd b n z) := by
  unfold State.convEnd
  extract_lets c s1
  have h1 : P s1 := k.modConv h
  refine keeps_ite h ?_
  split
  · exact keeps_ite (k.startConv (k.countDiscard h1)) (k.nextPass (k.power (k.modConv (k.convert h1))))
  · have hdrop : P (s1.countDiscard.dropHalf b) := k.dropHalf (k.countDiscard h1)
    exact keeps_ite (keeps_ite (k.twinHalt hdrop) (k.nextSlot hdrop)) (k.nextSlot (k.modConv (k.convert h1)))

theorem unlock {b} (h : P s) : P (s.unlock b) := keeps_ite h (k.note (k.hk (k.modConv h)))

theorem discardConv {b} (h : P s) : P (s.discardConv b) := by
  unfold State.discardConv
  extract_lets due s1 s2 s3
  have h2 : P s2 := k.modConv (k.countDiscard (k.dropHalf h))
  have h3 : P s3 := keeps_ite (k.note h2) h2
  exact keeps_ite (k.unlock h3) h3

theorem periodConv {b p q} (h : P s) : P (s.periodConv b p q) :=
  have h1 := k.modConv h
  keeps_ite (k.unlock h1) (keeps_ite (keeps_ite (k.note (k.modConv h1)) h1) (keeps_ite (k.discardConv h1) h1))

theorem closePeriod {n} (h : P s) : P (s.closePeriod n) := by
  unfold State.closePeriod
  extract_lets prev s1 t cut t1
  have ht : P t := k.periodConv (k.periodConv (k.hk h))
  have ht1 : P t1 := keeps_ite (k.startConv ht) ht
  exact keeps_ite (keeps_ite (k.twinHalt ht) ht) (keeps_ite (k.startConv ht1) ht1)

theorem crossStart {b} (h : P s) : P (s.crossStart b) := keeps_ite h (keeps_ite h (keeps_ite h (k.joinConv h)))

theorem hkCrossing {n} (h : P s) : P (s.hkCrossing n) := by
  refine k.crossStart (k.crossStart ?_)
  split
  · exact k.hk h
  · exact keeps_ite (k.closePeriod h) (k.nextPass (k.nextPass (k.closePeriod h)))
  · exact k.closePeriod h

theorem convFail {b z} (h : P s) : P (s.convFail b z) := by
  have hoff : P ((s.stopConv b).modConv b (fun c => { c with failed := true, checking := false, passes := 0 })) :=
    k.modConv (k.stopConv h)
  exact foldl_keeps (fun h => k.hkFault h) _ (k.note (keeps_ite (k.hk hoff) hoff))

theorem selfCheck {b z r} (h : P s) : P (s.selfCheck b z r) := by
  unfold State.selfCheck
  extract_lets c s1 s2 s3
  have h1 : P s1 := k.modConv h
  have h2 : P s2 := k.countDiscard h1
  have h3 : P s3 := k.modConv h1
  exact keeps_ite h (keeps_ite (keeps_ite h2 (k.startCheck h2)) (keeps_ite (keeps_ite (k.modConv h1) (k.convFail h1))
    (keeps_ite (k.modConv h1) (keeps_ite h3 (k.runSlot h3)))))

theorem step7Chan {n x y} (h : P s) : P (s.step7Chan n x y) :=
  have h1 := k.modHkChan (k.noteBoard h)
  keeps_ite h (keeps_ite (k.checkPair h1) h1)

theorem hkStep7 {r} (h : P s) : P (s.hkStep7 r) := by
  unfold State.hkStep7
  extract_lets s1 s2 s3 s4 s5
  have h1 : P s1 := k.hk h
  have h2 : P s2 := keeps_ite (k.unlock (k.unlock h1)) h1
  have h3 : P s3 := keeps_ite h2 (k.convFail h2)
  have h4 : P s4 := keeps_ite h3 (k.convFail h3)
  exact foldl_keeps (fun h => k.step7Chan h) _ (k.modConv (k.modConv h4))

theorem doomConv (h : P s) : P s.doomConv := k.other h rfl rfl rfl

end Durable

end Sys2Proof.Machine
end


section
/-!
SUPPORT. What starts, stops, sleep, power-downs and resets keep: both memories' canonical form and, where nothing goes
unpowered, the epochs.
-/

namespace Sys2Proof.Machine

/-- `P` is durable, says nothing beyond the two memories, and is kept where the banked memory comes to list nothing. -/
structure Lasting (P : State → Prop) : Prop extends Durable P where
  alike : ∀ {s t : State}, P s → t.bank = s.bank → t.flash.cells = s.flash.cells → P t
  unpowered : ∀ {s t : State}, P s → t.bank = [] → t.flash.cells = s.flash.cells → P t

theorem memOk_lasting : Lasting State.MemOk where
  toDurable := memOk_durable
  alike {s t} hs hbank hcells := by
    show Mem.wf memBlank t.bank = true ∧ Mem.wf flashBlank t.flash.cells = true
    rw [hbank, hcells]
    exact hs
  unpowered {s t} hs hbank hcells := by
    show Mem.wf memBlank t.bank = true ∧ Mem.wf flashBlank t.flash.cells = true
    rw [hbank, hcells]
    exact ⟨rfl, hs.2⟩

namespace Durable

variable {P : State → Prop} (k : Durable P) {s : State} {l : Lane}
include k

/-! ### SAFE, and bring-up steps 4 and 6 -/

theorem enterSafe {c} (h : P s) : P (s.enterSafe c) := by
  unfold State.enterSafe
  extract_lets b s1 s2 s3 s4 down s5 s6
  have h4 : P s4 := k.sys (fun _ => rfl) (k.clk (k.lightsOff (k.portsOff (k.clearHalt (k.stopBoth (k.endEntry h))))))
  have h5 : P s5 := keeps_ite h4 (k.power h4)
  exact k.record (keeps_ite (k.record h5) h5)

theorem engineSafe {c d} (h : P s) : P (s.engineSafe c d) := keeps_ite (k.record h) (k.enterSafe (k.record h))

theorem locateRing {b} (h : P s) : P (s.locateRing b) := by
  unfold State.locateRing
  exact k.ledger (k.log h)

theorem verdict {fs} (h : P s) : P (s.verdict fs) := by
  unfold State.verdict
  exact k.power (k.enterSafe (foldl_keeps (fun h => k.record h) _ (k.ledger h)))

theorem judgeStart {b} (h : P s) : P (s.judgeStart b) := keeps_ite (k.power h) h

theorem takeCopy {n b} (h : P s) : P (s.takeCopy n b) := by
  unfold State.takeCopy
  extract_lets m all hd led v src s1 s2 s3 src2
  have h2 : P s2 := foldl_keeps (fun h => k.record h) _ (k.ledger h)
  have h3 : P s3 := keeps_ite (k.note h2) h2
  exact keeps_ite (k.other h3 rfl rfl rfl) (k.verdict h3)

theorem discover (h : P s) : P s.discover := keeps_ite (k.other h rfl rfl rfl) (k.other h rfl rfl rfl)

theorem step4 (h : P s) : P s.step4 := by
  unfold State.step4
  extract_lets d ok src s1 s2 s3 s4 s5 src2
  have h4 : P s4 := k.note (k.judgeStart (k.locateRing (k.discover (k.ledger h))))
  have h5 : P s5 := by
    unfold s5
    split
    · exact k.noteReclaim h4
    · exact h4
  refine keeps_ite (k.verdict h4) (keeps_ite (k.verdict h4) ?_)
  clear_value s5
  split
  extract_lets s6 s7 pk s8
  have h6 : P s6 := k.ledger h5
  have h8 : P s8 := foldl_keeps (fun h => k.note h) _ (keeps_ite (k.note h6) h6)
  split
  · exact k.verdict h8
  · exact k.takeCopy h8

theorem stageScene0 (h : P s) : P s.stageScene0 := k.other h rfl rfl rfl
theorem setBand (h : P s) : P s.setBand := k.other h rfl rfl rfl
theorem judgeBand (h : P s) : P s.judgeBand := keeps_ite (k.note (k.setBand h)) (k.setBand h)
theorem commitFcode {r} (h : P s) : P (s.commitFcode r) := keeps_ite (k.clk h) (k.note (k.clk (k.clk h)))
theorem applyPower (h : P s) : P s.applyPower := by
  unfold State.applyPower
  exact k.pwr (k.setOut h)


theorem applySections (h : P s) : P s.applySections := by
  unfold State.applySections
  exact k.applyPower (k.loadTimers (k.stageScene0 (k.mem (k.sys (fun _ => rfl) (k.hk (k.lane (k.lane h)))))))

theorem step6 {r} (h : P s) : P (s.step6 r) :=
  k.judgeRows (foldl_keeps (fun h => k.resolveCal h) _ (k.loadMemory (k.setBand (k.commitFcode (k.applySections h)))))

/-! ### Bring-up steps 7 to 12 -/

theorem selfTest {cs} (h : P s) : P (s.selfTest l cs) := foldl_keeps (fun h => k.laneTrip h) _ (k.head h)

theorem supplyLane (h : P s) : P (s.supplyLane l) :=
  have hmag := keeps_ite h (k.setOut h)
  keeps_ite hmag (k.setOut hmag)

theorem holdAxis (h : P s) : P (s.holdAxis l) := keeps_ite h (k.energise h)
theorem powerLane (h : P s) : P (s.powerLane l) := k.holdAxis (k.supplyLane h)
theorem driversOn (h : P s) : P (s.driversOn l) := by
  unfold State.driversOn
  exact k.head h


theorem clockHead (h : P s) : P (s.clockHead l) := by
  unfold State.clockHead
  split
  · exact k.head h
  · exact k.head h

theorem placeIdle (h : P s) : P (s.placeIdle l) := k.clockHead (k.toMode (k.mode h))
theorem placeLanes {ns} (h : P s) : P (s.placeLanes ns) := by
  unfold State.placeLanes
  exact k.tmr (k.startTimers (foldl_keeps (fun h => k.placeIdle h) _ h))


theorem goReady {ns} (h : P s) : P (s.goReady ns) := by
  unfold State.goReady
  exact k.linkWake (k.linkWake (k.sys (fun _ => rfl) (k.placeLanes (k.power h))))

theorem beginStep10 (h : P s) : P s.beginStep10 := foldl_keeps (fun h => k.powerLane h) _ h
theorem beginStep11 (h : P s) : P s.beginStep11 := k.identHeads (foldl_keeps (fun h => k.driversOn h) _ h)
theorem step9 {n} (h : P s) : P (s.step9 n) := keeps_ite (k.note (k.pwr h)) (k.pwr h)
theorem abandonStart {n} (h : P s) : P (s.abandonStart n) := by
  unfold State.abandonStart
  exact k.power (k.setOut (k.lightsOff (k.portsOff (k.note h))))

theorem latchedOff {n} (h : P s) : P (s.latchedOff n) := keeps_ite (k.abandonStart h) h

/-! ### Resets (R101 to R104, R555, R556) -/

theorem markAll (h : P s) : P s.markAll := foldl_keeps (fun h => k.mark h) _ h

theorem afterE {c} (h : P s) : P (s.afterE c) := k.other h rfl rfl rfl

theorem engineReset {c n} (h : P s) : P (s.engineReset c n) :=
  k.markAll (k.afterE (k.lightsOff (k.portsOff (k.clearHalt (k.stopBoth (k.tallyReset (k.abandonCal (k.abandonCal
    (k.endEntry (k.note h))))))))))

theorem fatal {c d} (h : P s) : P (s.fatal c d) := by
  have hrec : P (s.record c 4 s.safeBits d) := k.record h
  have hloop : P ((s.record c 4 s.safeBits d).record 0x0031 4 (s.record c 4 s.safeBits d).safeBits) := k.record hrec
  exact keeps_ite (k.power (keeps_ite hloop (k.enterSafe hloop))) (k.engineReset (k.power hrec))

theorem leavePartner (h : P s) : P (s.leavePartner l) := by
  unfold State.leavePartner
  extract_lets j due s1 s2 s3 s4
  have h1 : P s1 := k.sys (fun _ => rfl) (k.discardLane h)
  have h3 : P s3 := by
    unfold s3
    split
    · exact k.abandonLine (k.noteL h1)
    · exact k.noteL h1
  exact keeps_ite (k.stopRun (k.lane (k.giveExposure h3))) (keeps_ite (k.plan h1) h1)

theorem laneReset (h : P s) : P (s.laneReset l) :=
  have hrec := k.record h
  keeps_ite h (k.mode (k.discard (k.abandonCoef (k.headOff (k.stopLane (keeps_ite (k.leavePartner hrec) hrec))))))

theorem reloadLane (h : P s) : P (s.reloadLane l) := by
  unfold State.reloadLane
  exact foldl_keeps (fun h => k.mark h) _ (foldl_keeps (fun h => k.modGrp h) _ (k.mark
    (foldl_keeps (fun h => k.reloadTimer h) _ (k.lane (k.sendOut (k.link h))))))

theorem recheckLane (h : P s) : P (s.recheckLane l) := foldl_keeps (fun h => k.modCh h) _ (k.pwr (k.setWiring h))

theorem offCancelled (h : P s) : P s.offCancelled :=
  keeps_ite (k.linkWake (k.linkWake (k.sys (fun _ => rfl) (k.power h)))) h

theorem resetEnd (h : P s) : P (s.resetEnd l) :=
  have hidle := k.placeIdle (k.mode h)
  k.offCancelled (k.startTimers (k.mode (k.replaceSet (keeps_ite (k.tripNow hidle) hidle))))

theorem resetHeld (h : P s) : P (s.resetHeld l) := k.toMode (k.mode h)

theorem laneResetStep {r} (h : P s) : P (s.laneResetStep l r) := by
  have hnext : ∀ {s : State} {n}, P s → P (s.modMode l (fun y => { y with reset := n })) := fun h => k.mode h
  unfold State.laneResetStep
  dsimp only
  split
  · exact h
  · exact hnext h
  · exact hnext (k.commitNow (k.discard h))
  · exact hnext (k.headOff (k.axis h))
  · exact hnext (k.reloadLane h)
  · exact hnext (k.recheckLane (k.noteC2 (k.checkSets (k.decayed (k.clearTill h)))))
  · exact hnext (k.powerLane (k.rejudgeLane (k.selfTest h)))
  · exact hnext (k.identHeads (k.driversOn h))
  · exact hnext (k.commitNow h)
  · exact keeps_ite (k.resetHeld h) (k.resetEnd h)

/-! ### Sleep and wake (R83 to R93) -/

theorem requestSleep (h : P s) : P s.requestSleep :=
  keeps_ite (k.note (k.power h)) (k.power (k.sys (fun _ => rfl) (k.toMode (k.toMode (k.endMove (k.endMove h))))))

theorem afterS {n} (h : P s) : P (s.afterS n) := k.other h rfl rfl rfl
theorem beginWake (h : P s) : P s.beginWake := k.power h

theorem enterSleep {n} (h : P s) : P (s.enterSleep n) :=
  have hs := k.afterS h
  keeps_ite (k.power hs) (keeps_ite (k.beginWake hs) hs)

theorem sleepStage {n} (h : P s) : P (s.sleepStage n) := by
  have hnext : ∀ {s : State}, P s → P (s.modPower (fun p => { p with stage := p.stage + 1 })) := fun h => k.power h
  unfold State.sleepStage
  split
  · exact hnext (k.zeroAll h)
  · exact hnext (k.portsOff h)
  · exact hnext (k.mark (foldl_keeps (fun h => k.sleepTimer h) _ (foldl_keeps (fun h => k.tmr h) _
      (k.clearTill (k.clearTill h)))))
  · exact hnext h
  · exact hnext (k.clk (k.lfHandover h))
  · exact k.enterSleep h

theorem wakeLocked (h : P s) : P s.wakeLocked := by
  unfold State.wakeLocked
  exact k.hk (foldl_keeps (fun h => k.axis (k.holdAxis h)) _ (k.setBand (k.clk h)))

/-! ### Power-downs (R94 to R97, R182 to R188) -/

theorem beginOff {n} (h : P s) : P (s.beginOff n) := by
  unfold State.beginOff
  exact k.stopRuns (k.power (k.sys (fun _ => rfl) (k.clearHalt h)))

theorem offInSafe {p n} (h : P s) : P (s.offInSafe p n) := by
  unfold State.offInSafe
  split
  · exact k.latchedOff h
  · exact k.latchedOff h
  · exact keeps_ite (k.beginOff h) h

theorem cutDrain {d e} (h : P s) : P (s.cutDrain l d e) :=
  keeps_ite (k.lrun (k.stopScan (k.flushNoted (k.recallLine h)))) (keeps_ite (k.flushNoted h) h)

theorem phaseD4 (h : P s) : P s.phaseD4 :=
  k.unpowerAxis (k.unpowerAxis (k.zeroAll (k.gang (foldl_keeps (fun h => k.toMode (k.mode h)) _ h))))

theorem suppliesOff (h : P s) : P s.suppliesOff := k.pwr (k.setOut (k.portsOff h))

theorem cancelOff (h : P s) : P s.cancelOff := k.offCancelled (k.power h)

theorem endErase (h : P s) : P s.endErase := by
  unfold State.endErase
  split
  · exact keeps_ite (k.note (k.cutFlash h)) h
  · exact h

theorem beginPfw (h : P s) : P s.beginPfw := by
  unfold State.beginPfw
  extract_lets bus s1 s2 s3 s4 s5 s6 s7 e
  have h5 : P s5 := k.power (k.pwr (k.sys (fun _ => rfl) (k.clearHalt (k.endMove (k.endMove (k.endEntry (k.note h)))))))
  have h7 : P s7 := k.tallyCut (k.guardCal (k.endErase (k.lightsOff (keeps_ite (k.busSend (k.busSend h5)) h5))))
  refine foldl_keeps (fun {s l} h => ?_) _ h7
  have hgive := k.lane (l := l) (f := fun x => { x with capture := false }) (k.giveExposure (l := l) (keeps_ite (c := s.acquiring l)
    (k.voidCal (l := l) (c := 1) h) h))
  exact k.axis (k.freezeAxis (k.lux (keeps_ite (k.beginEnding (k.lrun hgive)) (keeps_ite (k.lrun hgive) hgive))))

theorem lateLine (h : P s) : P (s.lateLine l) := by
  unfold State.lateLine
  split
  · exact keeps_ite h (k.dropReading h)
  · exact h

/-! ### Debug halt (R543 to R546) -/

theorem afterH (h : P s) : P s.afterH := k.other h rfl rfl rfl

theorem haltSettle (h : P s) : P s.haltSettle := by
  unfold State.haltSettle
  extract_lets s1
  have h1 : P s1 := foldl_keeps (fun h => keeps_ite (k.mode h) h) _ h
  exact keeps_ite h (keeps_ite (k.afterH (k.note (k.sys (fun _ => rfl) h1))) h1)

theorem haltLane (h : P s) : P (s.haltLane l) := keeps_ite (k.mode (k.seamDue h)) (k.seamDue h)

theorem haltRequest (h : P s) : P s.haltRequest :=
  keeps_ite h (k.haltSettle (foldl_keeps (fun h => k.haltLane h) _ (k.sys (fun _ => rfl) h)))

theorem haltRelease (h : P s) : P s.haltRelease := by
  unfold State.haltRelease
  extract_lets s1 s2
  have h2 : P s2 := foldl_keeps (fun h => k.lane h) _ (k.note (k.clearHalt h))
  exact keeps_ite h (keeps_ite (k.rowFrom h2) h2)

end Durable

namespace Lasting

variable {P : State → Prop} (k : Lasting P) {s : State}
include k

/-! ### What leaves the engine unpowered (Table 3.9) -/

theorem blank (h : P s) : P s.blank := k.unpowered h rfl rfl
theorem startOne (h : P s) : P s.startOne := k.unpowered h rfl rfl
theorem toOff (h : P s) : P s.toOff := keeps_ite (k.startOne (k.cutFlash h)) (k.blank (k.cutFlash h))
theorem toResetLow (h : P s) : P s.toResetLow := k.unpowered (k.cutFlash (k.lfWait h)) rfl rfl
theorem shadowLost (h : P s) : P s.shadowLost := k.unpowered (k.cutFlash (k.note h)) rfl rfl

theorem step6E {r} (h : P s) : P (s.step6E r) := by
  unfold State.step6E
  refine keeps_ite (k.shadowLost h) ?_
  extract_lets s1 s2 s3 s4 s5
  have h3 : P s3 := k.applySections (foldl_keeps (fun h => k.checkSets h) _ (k.decayed h))
  have h5 : P s5 := k.judgeRows (keeps_ite (k.mem (k.loadMemory h3)) h3)
  exact keeps_ite h5 (k.enterSafe h5)

theorem endStep {n r full} (h : P s) : P (s.endStep n r full) := by
  unfold State.endStep
  split
  · exact k.power (k.crystalStable h)
  · exact k.clk h
  · exact k.step4 h
  · exact k.mem (k.marchEnd h)
  · exact keeps_ite (k.step6 h) (k.step6E h)
  · exact k.hkStep7 h
  · have htest : P (s.cfgLanes.foldl (fun s l => s.selfTest l r.selfTest) s) := foldl_keeps (fun h => k.selfTest h) _ h
    exact keeps_ite htest (k.beginStep10 htest)
  · exact k.beginStep10 (k.step9 h)
  · exact k.beginStep11 h
  · exact k.sceneZeroAll h
  · exact h

theorem bringupStep {r} (h : P s) : P (s.bringupStep r) := by
  unfold State.bringupStep
  extract_lets n full ph s1 s2 s3 s4
  have h1 : P s1 := k.endStep h
  have h2 : P s2 := keeps_ite (k.noteC2 h1) h1
  have h3 : P s3 := k.power h2
  have h4 : P s4 := keeps_ite (k.mem h3) h3
  exact keeps_ite (k.abandonStart h) (keeps_ite h (keeps_ite (k.latchedOff (k.power h)) (keeps_ite (k.latchedOff h2)
    (keeps_ite (k.abandonStart h3) (keeps_ite (k.goReady (keeps_ite (k.power h3) h3)) (k.power h4))))))

theorem wakeStage {r} (h : P s) : P (s.wakeStage r) := by
  have hnext : ∀ {s : State}, P s → P (s.modPower (fun p => { p with stage := p.stage + 1 })) := fun h => k.power h
  unfold State.wakeStage
  split
  · exact hnext (foldl_keeps (fun h => k.supplyLane h) _ h)
  · exact hnext (k.clk (k.crystalStable h))
  · exact k.power (hnext (k.wakeLocked h))
  · exact hnext h
  · exact keeps_ite (hnext (foldl_keeps (fun h => k.checkSets h) _ (k.noteC2 (k.decayed h)))) (k.shadowLost h)
  · exact hnext (foldl_keeps (fun h => k.driversOn h) _ h)
  · exact hnext (foldl_keeps (fun h => k.redrive h) _ h)
  · exact hnext (k.sceneZeroAll h)
  · exact h

theorem offPhase (h : P s) : P s.offPhase := by
  have hnext : ∀ {s : State}, P s → P (s.modPower (fun p => { p with stage := p.stage + 1 })) := fun h => k.power h
  unfold State.offPhase
  split
  · exact hnext h
  · exact k.offDone (hnext (k.cutDrain (k.cutDrain h)))
  · exact hnext (k.phaseD4 h)
  · exact hnext (k.suppliesOff h)
  · exact k.toOff h

theorem pfwStage (h : P s) : P s.pfwStage := by
  have hnext : ∀ {s : State}, P s → P (s.modPower (fun p => { p with stage := p.stage + 1 })) := fun h => k.power h
  unfold State.pfwStage
  split
  · exact hnext (k.lateLine (k.lateLine h))
  · exact hnext (k.cutDrain (k.cutDrain h))
  · exact hnext h
  · exact hnext (k.setOut (k.outputsOff h))
  · exact k.toOff h

end Lasting

end Sys2Proof.Machine
end


section
/-!
SUPPORT. What the clock, mains and the ports keep: both memories' canonical form and the epochs.
-/

namespace Sys2Proof.Machine

namespace Durable

variable {P : State → Prop} (k : Durable P) {s : State} {l : Lane}
include k

/-! ### The clock (R138 to R166) -/

theorem parkOutputs (h : P s) : P s.parkOutputs := by
  unfold State.parkOutputs
  exact k.head (k.head h)

theorem beginClkCommit (h : P s) : P s.beginClkCommit := k.parkOutputs (k.doomConv (k.clk h))

theorem unexposeAt (h : P s) : P (s.unexposeAt l) := k.unexposeIf h

theorem tripLane (h : P s) : P (s.tripLane l) := by
  unfold State.tripLane
  exact keeps_ite (k.voidCal (k.unexposeAt h)) (keeps_ite (keeps_ite h (k.brakeNow h)) (keeps_ite
    (keeps_ite h (k.reSmoulder h)) (keeps_ite (k.lane (k.unexposeAt h)) (k.seamDue (k.lane (k.unexposeAt h))))))

theorem clockTrip {d b} (h : P s) : P (s.clockTrip d b) := by
  unfold State.clockTrip
  exact k.doomConv (k.lux (k.discard (k.tripLane (k.tripLane (k.record (k.clk h))))))

theorem refLostSafe (h : P s) : P s.refLostSafe := k.engineSafe h

theorem holdSwitch (h : P s) : P s.holdSwitch :=
  keeps_ite h (keeps_ite (keeps_ite h (k.refLostSafe h)) (k.parkOutputs (k.clk h)))

theorem dropFrom {c n b} (h : P s) : P (s.dropFrom l c n b) := by
  unfold State.dropFrom
  exact k.pix (k.rewind (k.lane (k.giveExposure (k.abandonLine h))))

theorem dropLine {n b} (h : P s) : P (s.dropLine l n b) := by
  unfold State.dropLine
  split
  · exact h
  · exact k.dropFrom h

theorem lineLimit (h : P s) : P (s.lineLimit l) := by
  unfold State.lineLimit
  split
  · refine keeps_ite (k.dropFrom h) ?_
    cases (s.lane l).exposing
    · exact h
    · exact k.dropFrom h
  · exact k.dropFrom h
  · exact h

theorem holdOverrun (h : P s) : P s.holdOverrun := by
  unfold State.holdOverrun
  extract_lets ls halt go
  have hhalt : ∀ {s l}, P s → P (halt s l) := fun h => k.axis (k.freezeAxis h)
  have hgo : ∀ {s l}, P s → P (go s l) := fun {s l} h => by
    have habort := k.abortFault (l := l) (a := 15) (c := 0x2006) (k.record (c := 0x2006) (n := 2) (p := s.laneBits l) (d := [])
      (hhalt (l := l) (k.dropLine (l := l) (n := 15) (b := false) h)))
    exact keeps_ite (k.lrun habort) habort
  refine keeps_ite h (keeps_ite (foldl_keeps hgo _ h) ?_)
  clear_value ls
  split
  · exact h
  · exact foldl_keeps (fun h => k.lane (k.giveExposure h)) _ (k.gangAbort (k.record (foldl_keeps hhalt _ h)))

theorem lockGood {n} (h : P s) : P (s.lockGood n) :=
  keeps_ite h (keeps_ite (foldl_keeps (fun h => k.note h) _ (k.clk h)) (k.clk h))

theorem lockBad (h : P s) : P s.lockBad :=
  keeps_ite h (keeps_ite (k.clk h) (k.offInSafe (k.engineSafe (k.clk (k.clk h)))))

theorem restartEntry (h : P s) : P (s.restartEntry l) := by
  unfold State.restartEntry
  extract_lets y
  split
  · exact h
  · exact h
  · exact h
  · exact keeps_ite (k.mode h) (k.plan (k.mode h))
  · exact h

theorem holdEnd {d} (h : P s) : P (s.holdEnd d) := k.restartEntry (k.restartEntry (k.hk (k.clk h)))

theorem commitEnd (h : P s) : P s.commitEnd := by
  unfold State.commitEnd
  exact k.judgeBand (k.note (k.clk (k.carryPre h)))

theorem linkLost {c} (h : P s) : P (s.linkLost l c) := by
  unfold State.linkLost
  extract_lets s1 s2 s3
  have h3 : P s3 := k.lrun (k.link (k.lane (k.linkTrain (k.recordL h))))
  exact keeps_ite h (keeps_ite (k.failSeam h3) h3)

theorem ptrMismatch {d} (h : P s) : P (s.ptrMismatch l d) := by
  unfold State.ptrMismatch
  extract_lets isOpen code s1 s2
  have h2 : P s2 := k.till (k.recordL h)
  exact keeps_ite (k.voidCal (k.clearTill h2)) (keeps_ite (k.flushTill (k.gangAbort h2))
    (keeps_ite (k.flushEnd h2) (k.clearTill h2)))

theorem lossesDue (h : P s) : P (s.lossesDue l) := by
  unfold State.lossesDue
  extract_lets r s1 s2
  have h2 : P s2 := keeps_ite (k.lrun h) (k.ptrMismatch (k.lrun h))
  exact keeps_ite (k.linkLost h2) h2

theorem afterInterval (h : P s) : P s.afterInterval := by
  unfold State.afterInterval
  exact k.haltSettle (k.pump (k.pump (k.flashNext (k.retryIssue (k.lossesDue (k.lossesDue
    (foldl_keeps (fun h => k.stageFirst h) _ (k.framesOwed h))))))))

theorem anchor {n p d} (h : P s) : P (s.anchor n p d) := by
  unfold State.anchor
  extract_lets first s1 s2 s3 s4 s5
  have h1 : P s1 := k.clk h
  have h2 : P s2 := k.clk h1
  have h3 : P s3 := keeps_ite (k.holdEnd h2) h2
  have h4 : P s4 := keeps_ite (k.commitEnd h3) h3
  exact keeps_ite h (keeps_ite h1 (k.afterInterval (k.doomConv (k.lane (k.lane h4)))))

theorem refLoss (h : P s) : P s.refLoss := by
  unfold State.refLoss
  extract_lets s1 s2
  have h2 : P s2 := k.lfWait (keeps_ite (k.clk h) (k.takeFree (k.clockTrip h)))
  exact keeps_ite h (keeps_ite (k.refLostSafe h2) h2)

/-! ### Mains (R172 to R181) -/

theorem judgePe {a b} (h : P s) : P (s.judgePe a b) := by
  unfold State.judgePe
  extract_lets s1 good first s2 put
  have h1 : P s1 := k.pwr h
  have h2 : P s2 := k.hist h1
  have hput : ∀ {s b}, P s → P (put s b) := fun h => k.note (k.hist (k.pwr h))
  exact keeps_ite (k.pwr h1) (keeps_ite (hput h2) (keeps_ite (hput h2) (keeps_ite (k.pwr h2) h2)))

theorem judgeMains {v n} (h : P s) : P (s.judgeMains v n) := by
  unfold State.judgeMains
  extract_lets low out s1 s2
  have h1 : P s1 := k.hist h
  have h2 : P s2 := keeps_ite (k.note (k.pwr h1)) (keeps_ite (k.pwr h1) h1)
  exact keeps_ite (k.note (k.pwr h2)) (keeps_ite (k.pwr h2) h2)

theorem takeDraws {m} (h : P s) : P (s.takeDraws m) := by
  unfold State.takeDraws
  exact k.pwr (k.lux (k.hist h))

theorem laneOver (h : P s) : P (s.laneOver l) :=
  keeps_ite (k.parkHead (k.trip (k.mode (k.record h)))) (k.trip (k.record h))

theorem mgtOver (h : P s) : P s.mgtOver := k.plan (k.redrive (k.pwr (k.setOut (k.noteItem h))))

theorem judgeBudgets (h : P s) : P s.judgeBudgets.1 := by
  have hparties : ∀ {a b c : Bool} {f}, P (
      if c then (if b then (if a then (s.modHist f).laneOver .a else s.modHist f).laneOver .b
        else (if a then (s.modHist f).laneOver .a else s.modHist f)).mgtOver
      else (if b then (if a then (s.modHist f).laneOver .a else s.modHist f).laneOver .b
        else (if a then (s.modHist f).laneOver .a else s.modHist f))) := fun {a b c f} => by
    have ha : P (if a then (s.modHist f).laneOver .a else s.modHist f) := keeps_ite (k.laneOver (k.hist h)) (k.hist h)
    have hb := keeps_ite (c := b = true) (k.laneOver (l := .b) ha) ha
    exact keeps_ite (k.mgtOver hb) hb
  exact hparties

theorem overload (h : P s) : P s.overload :=
  keeps_ite (k.gangAbort (k.record h)) (foldl_keeps (fun h => k.endRun h) _ (k.record h))

theorem judgeLoad {b} (h : P s) : P (s.judgeLoad b) := by
  unfold State.judgeLoad
  extract_lets left hot s1 was s2 s3
  have h1 : P s1 := k.pwr (k.hist h)
  have h2 : P s2 := k.hist h1
  have h3 : P s3 := keeps_ite (k.hist (k.overload h2)) h2
  refine keeps_ite h1 ?_
  clear_value s3
  split
  · exact h3
  · exact keeps_ite (k.hist h3) h3
  · exact keeps_ite (k.hist h3) (keeps_ite (k.offInSafe (k.engineSafe (k.hist h3))) (k.hist h3))

theorem mgtPeriod (h : P s) : P s.mgtPeriod := by
  unfold State.mgtPeriod
  exact foldl_keeps (fun h => keeps_ite (k.photoNoref h) h) _ (k.lux h)

theorem mainsPeriod {m} (h : P s) : P (s.mainsPeriod m) := by
  unfold State.mainsPeriod
  split
  · exact h
  · exact h
  · exact h
  · exact h
  · extract_lets start s1 s2 s3 s4
    have h2 : P s2 := k.takeDraws (keeps_ite h (k.hkCrossing h))
    have h4 : P s4 := k.judgeMains (keeps_ite (k.mgtPeriod h2) h2)
    exact keeps_ite (k.judgeLoad h4) (k.judgeLoad (k.judgeBudgets (k.judgePe h4)))

theorem busFell (h : P s) : P s.busFell := by
  have hlow : P ((s.modPwr (fun p => { p with busOk := false, busLow := true })).engineSafe 0x1012) := k.engineSafe (k.pwr h)
  unfold State.busFell
  refine keeps_ite h ?_
  split
  · exact hlow
  · exact hlow
  · exact keeps_ite (k.offInSafe hlow) h
  · exact keeps_ite (k.offInSafe hlow) h
  · exact keeps_ite (k.offInSafe hlow) h
  · exact keeps_ite (k.offInSafe hlow) h
  · exact h

/-! ### Port faults (Table 6.4), and a head's identity -/

theorem lanePortFault {f} (h : P s) : P (s.lanePortFault l f) := by
  unfold State.lanePortFault
  refine keeps_ite h ?_
  have hwire : P (s.setWire l (wireBit f) true) := k.setWire h
  cases f
  case headSupply => exact k.laneTrip hwire
  case videoOpen => exact k.laneTrip hwire
  case clockShort => exact k.laneTrip hwire
  case idMismatch => exact k.laneTrip hwire
  case magSupply => exact k.laneTrip (k.linkDown (k.setOut hwire))
  case strandOpen => exact k.noteL hwire
  case strandSwap => exact k.noteL hwire
  case phaseShort => exact k.unpowerAxis (k.laneTrip hwire)
  case windingOpen => exact k.unpowerAxis (k.laneTrip hwire)
  case coilSwap => exact k.unpowerAxis (k.laneTrip hwire)
  case encSwap => exact k.encFault hwire
  case encOpen => exact k.encFault hwire

theorem lightPortFault {n c d} (h : P s) : P (s.lightPortFault n c d) :=
  have hoff := k.modCh (k.pwr h)
  keeps_ite h (keeps_ite (k.trip (k.record hoff)) (k.noteItem hoff))

theorem busShorted (h : P s) : P s.busShorted := by
  unfold State.busShorted
  extract_lets owns ls s1 s2
  have h2 : P s2 := k.record (k.pwr h)
  exact keeps_ite h (keeps_ite h2 (keeps_ite (k.gangAbort h2) (foldl_keeps (fun h => k.endRun h) _ h2)))

theorem auxShorted (h : P s) : P s.auxShorted := keeps_ite h (k.noteItem (k.setOut (k.pwr h)))

theorem portFault {f} (h : P s) : P (s.portFault f) := by
  unfold State.portFault
  refine keeps_ite h ?_
  split
  · exact k.lanePortFault h
  · exact k.lightPortFault h
  · exact k.lightPortFault h
  · exact k.lightPortFault h
  · exact keeps_ite h (k.note (k.pwr h))
  · exact k.busShorted h
  · exact k.auxShorted h

theorem foldback {o} (h : P s) : P (s.foldback o) := by
  unfold State.foldback
  refine keeps_ite h ?_
  cases o
  case headA => exact k.portFault (k.headOff h)
  case headB => exact k.portFault (k.headOff h)
  case magA => exact k.portFault (k.setOut h)
  case magB => exact k.portFault (k.setOut h)
  case aux => exact k.portFault (k.setOut h)

theorem judgeIdent {b} (h : P s) : P (s.judgeIdent l b) := by
  unfold State.judgeIdent
  extract_lets x c fs trips st s1 s2
  have h2 : P s2 := foldl_keeps (fun h => k.noteL h) _ (k.head h)
  clear_value trips
  split
  · exact h2
  · exact k.laneTrip (k.setWire h2)

theorem judgeDigest {b} (h : P s) : P (s.judgeDigest l b) := keeps_ite h (k.laneTrip (k.head (k.setWire h)))

theorem judgeTherm {r} (h : P s) : P (s.judgeTherm l r) := by
  unfold State.judgeTherm
  exact keeps_ite (k.head h) (k.laneTrip (k.head h))

theorem identRead {b o} (h : P s) : P (s.identRead l b o) := by
  unfold State.identRead
  extract_lets full wake s1
  have h1 : P s1 := keeps_ite (k.head h) h
  exact keeps_ite h (keeps_ite (k.judgeTherm (k.judgeIdent h1)) (keeps_ite (k.judgeTherm (k.judgeDigest h1)) h1))

end Durable

end Sys2Proof.Machine
end


section
/-!
SUPPORT. What the line cycle and the carriage keep: both memories' canonical form and the epochs.
-/

namespace Sys2Proof.Machine

namespace Durable

variable {P : State → Prop} (k : Durable P) {s : State} {l : Lane}
include k

/-! ### Readout (R221 to R244, R308) -/

theorem closeHead (h : P s) : P (s.closeHead l) := by
  unfold State.closeHead
  split
  · exact h
  · rename_i darks clip rails _
    extract_lets on ns s1
    have h1 : P s1 := k.head h
    clear_value s1 ns
    split
    · exact k.portFault h1
    · exact h1

theorem closeSlot {c} (h : P s) : P (s.closeSlot l c) := by
  unfold State.closeSlot
  dsimp only
  split
  · exact h
  · exact k.pix (k.till (k.masterWrite h))

theorem closeLine (h : P s) : P (s.closeLine l) := by
  unfold State.closeLine
  split
  · extract_lets s1 s2 n s3 s4
    have h2 : P s2 := k.lane (k.pix h)
    have h3 : P s3 := k.cal h2
    have h4 : P s4 := k.lane h2
    exact keeps_ite (keeps_ite (k.closeAcq h3) h3) (keeps_ite (k.lane h2) (keeps_ite h4 (k.closeSlot h4)))
  · exact h

theorem beginHead {cs} (h : P s) : P (s.beginHead l cs) := by
  unfold State.beginHead
  exact k.head h

theorem fillSlot {p c ws} (h : P s) : P (s.fillSlot l p c ws) := by
  unfold State.fillSlot
  exact k.masterWrite (k.masterWrite (k.fenceLine (foldl_keeps (fun h => k.lane h) _ (k.lane (k.tillPeak (k.setWptr (k.till h)))))))

theorem accumulate {p cs} (h : P s) : P (s.accumulate l p cs) := by
  unfold State.accumulate
  exact foldl_keeps (fun h => k.masterWrite h) _ (k.fenceLine (k.fenceLine h))

theorem stitchOut {ts} (h : P s) : P (s.stitchOut ts) := k.masterWrite (k.fenceLine h)

theorem readLine {p c cs} (h : P s) : P (s.readLine l p c cs) := by
  unfold State.readLine
  refine keeps_ite (k.lane (k.accumulate h)) ?_
  dsimp only
  have hline : ∀ {f}, P ((s.fenceLine l 2 (s.img l).pix.window).modLane l f) := k.lane (k.fenceLine h)
  exact keeps_ite (k.stitchOut hline) (keeps_ite (k.fillSlot (k.fenceLine hline)) (keeps_ite (k.fillSlot hline)
    (keeps_ite (k.pix hline) (k.fillSlot (k.pix hline)))))

theorem lineRead {x} (h : P s) : P (s.lineRead l x) := by
  unfold State.lineRead
  extract_lets s1 codes s2
  have h1 : P s1 := k.closeLine (k.closeHead h)
  have h2 : P s2 := k.beginHead h1
  refine keeps_ite (k.lane h1) ?_
  split
  · exact k.readLine h2
  · exact h2

theorem countEdges {es} (h : P s) : P (s.countEdges l es) := keeps_ite h (foldl_keeps (fun h => k.axis h) _ h)

theorem deviate {p n} (h : P s) : P (s.deviate l p n).1 := by
  have hcycle : ∀ {f}, P (s.modArun l f) := k.arun h
  have hwarn : ∀ {f g u} {c : Prop} [Decidable c],
      P (if c then ((((s.modArun l f).modAxis l g).modLane l u).noteL l 0xB013).modArun l (fun a => { a with warnRec := true })
        else ((s.modArun l f).modAxis l g).modLane l u) :=
    keeps_ite (k.arun (k.noteL (k.lane (k.axis hcycle)))) (k.lane (k.axis hcycle))
  unfold State.deviate
  refine keeps_ite_fst ?_ (keeps_ite_fst ?_ hwarn)
  · dsimp only
    exact hcycle
  · dsimp only
    exact k.lane hcycle

/-! ### A new line cycle -/

theorem latchTemp (h : P s) : P (s.latchTemp l) := by
  unfold State.latchTemp
  extract_lets n t stale cfg cl px s1 s2
  have h2 : P s2 := keeps_ite (k.noteL (k.pix h)) (k.pix h)
  exact keeps_ite (k.noteL h2) h2

theorem exposeLane {p} (h : P s) : P (s.exposeLane l p) := by
  unfold State.exposeLane
  extract_lets s1 x b fresh c last s2 s3
  have h2 : P s2 := k.lane (k.latchTemp h)
  have h3 : P s3 := keeps_ite (k.axis h2) h2
  exact keeps_ite (k.cal h3) h3

theorem expose {p} (h : P s) : P (s.expose l p) := foldl_keeps (fun h => k.exposeLane h) _ h

theorem endAtBoundary (h : P s) : P (s.endAtBoundary l) :=
  have hend := foldl_keeps (fun h => k.beginEnding h) _ h
  keeps_ite (k.stopAtBoundary hend) (k.endCarriage hend)

theorem faultAtBoundary {c d} (h : P s) : P (s.faultAtBoundary l c d) := by
  unfold State.faultAtBoundary
  have h1 := k.recordL (l := l) (c := c) (n := 2) (d := d) h
  exact keeps_ite (k.gangAbort h1) (keeps_ite (k.voidCal h1) (k.endAtBoundary (foldl_keeps (fun h => k.lrun h) _ h1)))

theorem phaseB {p} (h : P s) : P (s.phaseB p l) := by
  unfold State.phaseB
  exact foldl_keeps (fun h => k.modGrp h) _ (k.fenceLine (k.pix (k.head h)))

theorem clearAcc (h : P s) : P (s.clearAcc l) := k.masterWrite (k.fenceLine h)

theorem lineZero {p} (h : P s) : P (s.lineZero l p) := by
  unfold State.lineZero
  extract_lets ls mv s1 s2 s3
  have h2 : P s2 := keeps_ite (k.arun (k.clk h)) (k.clk h)
  have h3 : P s3 := foldl_keeps (fun h => k.pix h) _ h2
  split
  · exact foldl_keeps (fun h => k.smoulder h) _ h3
  · rename_i s4 s5 s6 _ _
    have h5 : P s5 := foldl_keeps (fun h => k.mode h) _ (keeps_ite (k.axis h3) h3)
    have h6 : P s6 := keeps_ite (k.cal (k.clearAcc h5)) h5
    have hdev := k.deviate (l := l) (p := p) (n := 0) h6
    exact keeps_ite (k.faultAtBoundary hdev) (keeps_ite hdev (k.expose hdev))

theorem entryLine {p} (h : P s) : P (s.entryLine l p) := by
  unfold State.entryLine
  refine keeps_ite h ?_
  extract_lets ls go
  have hgo : ∀ {s n}, P s → P (go s n) := fun h => foldl_keeps (fun h => k.mode h) _ h
  split
  · exact k.plan (hgo (foldl_keeps (fun h => k.phaseB h) _ h))
  · exact k.plan (hgo (foldl_keeps (fun h => k.phaseB h) _ h))
  · exact keeps_ite (hgo h) (keeps_ite (k.lineZero h) (keeps_ite (hgo h) h))
  · exact keeps_ite (k.lineZero h) h
  · exact h

theorem resume {p} (h : P s) : P (s.resume l p) := by
  unfold State.resume
  extract_lets ls mv a step s1 r s2 s3 s4 s5
  have h2 : P s2 := k.arun (keeps_ite (k.arun (k.axis h)) h)
  have h3 : P s3 := foldl_keeps (fun h => k.mode (k.toMode (k.lane (k.till (k.head (k.axis h)))))) _ h2
  have h5 : P s5 := k.clk (keeps_ite (k.axis (k.arun h3)) h3)
  have hdev := k.deviate (l := l) (p := p) (n := (s5.lane l).lineIndex p) h5
  exact keeps_ite (k.faultAtBoundary hdev) (k.expose hdev)

theorem callRetry (h : P s) : P (s.callRetry l) := keeps_ite (k.arun (k.axis (k.noteL h))) (k.abortFault (k.recordL h))
theorem seamRetry (h : P s) : P (s.seamRetry l) := k.stopSeam (k.arun h)

theorem smoulderLine {p} (h : P s) : P (s.smoulderLine l p) :=
  keeps_ite (k.endRun h) (keeps_ite (keeps_ite (k.resume h) h) (keeps_ite h (keeps_ite (k.seamRetry h)
    (keeps_ite (k.resume h) (k.stopSeam h)))))

theorem runLine {p} (h : P s) : P (s.runLine l p) := by
  unfold State.runLine
  extract_lets x
  have hdev := k.deviate (l := l) (p := p) (n := x.arun.cycle + 1) h
  refine keeps_ite (k.faultAtBoundary hdev) (keeps_ite (keeps_ite (k.expose hdev) (keeps_ite (k.stopAtBoundary hdev) hdev))
    (keeps_ite (k.endAtBoundary hdev) ?_))
  split
  · exact foldl_keeps (fun h => k.smoulder h) _ hdev
  · exact keeps_ite (k.expose hdev) hdev

theorem lineCycle (h : P s) : P (s.lineCycle l) := by
  unfold State.lineCycle
  extract_lets y
  split
  · exact h
  · exact keeps_ite h (keeps_ite (k.smoulderLine h) (keeps_ite (k.entryLine h) (k.runLine h)))

theorem lineGroups (h : P s) : P (s.lineGroups l) :=
  foldl_keeps (fun h => keeps_ite (k.photoNoref (k.modGrp h)) (k.modGrp h)) _ h

theorem applyTrim (h : P s) : P (s.applyTrim l) := by
  unfold State.applyTrim
  split
  · exact k.head h
  · exact h

theorem applyClock (h : P s) : P (s.applyClock l) := keeps_ite (k.head (k.clockHead h)) h

theorem lineStart {x} (h : P s) : P (s.lineStart l x) := by
  unfold State.lineStart
  extract_lets y s1 s2 s3 s4 s5 done s6
  have h3 : P s3 := k.countEdges (k.noteGrants (k.applyClock (k.applyTrim (k.lane h))))
  have h5 : P s5 := k.lane (k.noteC1 (k.lineCycle (k.lineGroups (k.lineRead h3))))
  exact keeps_ite h (k.haltSettle (k.stageFirst (keeps_ite (k.pix h5) h5)))

/-! ### The capture decision (R219) -/

theorem countStop (h : P s) : P (s.countStop l) := keeps_ite h (k.till h)

theorem dropNext {n} (h : P s) : P (s.dropNext l n) := by
  unfold State.dropNext
  exact k.lane (k.till h)

theorem captureDecision (h : P s) : P (s.captureDecision l) := by
  have htake : ∀ {s : State} {ls : List Lane} {f}, P s → P (ls.foldl (fun s k => s.modLane k f) s) :=
    fun h => foldl_keeps (fun h => k.lane h) _ h
  have hstop : ∀ {ls : List Lane}, P (ls.foldl State.countStop s) := foldl_keeps (fun h => k.countStop h) _ h
  unfold State.captureDecision
  extract_lets x
  split
  · exact h
  · extract_lets mv
    exact keeps_ite h (keeps_ite h (keeps_ite (foldl_keeps (fun h => k.lrun h) _ h) (keeps_ite
      (keeps_ite (k.seamDue hstop) (keeps_ite hstop (keeps_ite (htake hstop) (htake hstop))))
      (keeps_ite h (keeps_ite (keeps_ite (htake (k.till h)) (k.dropNext h)) (keeps_ite (htake h)
        (keeps_ite (k.dropNext (k.countStop h)) (htake h))))))))

/-! ### The carriage (R383 to R403) -/

theorem checkpoint {p n} (h : P s) : P (s.checkpoint l p n) := keeps_ite (k.arun (k.axis h)) (k.axis (k.axis h))

theorem stepCheck {m e} (h : P s) : P (s.stepCheck l m e) := by
  unfold State.stepCheck
  extract_lets x
  split
  · exact keeps_ite (keeps_ite (k.callRetry (k.checkpoint h)) (k.checkpoint h)) h
  · exact h

theorem atRest (h : P s) : P (s.atRest l) := by
  unfold State.atRest
  exact k.axis (k.setMotion h)

theorem stepIssue {es n} (h : P s) : P (s.stepIssue l es n) := by
  unfold State.stepIssue
  split
  · exact h
  · extract_lets m s1 s2 s3 s4 s5
    have h3 : P s3 := k.axis (k.countEdges (k.setMotion (k.noteC1 h)))
    have h4 : P s4 := by
      unfold s4
      split
      · exact k.arun h3
      · exact h3
    have h5 : P s5 := k.stepCheck h4
    exact keeps_ite h (keeps_ite h5 (k.haltSettle (k.atRest h5)))

theorem profileFence {n} (h : P s) : P (s.profileFence l n) := by
  unfold State.profileFence
  split
  · exact k.fenceLine h
  · exact h

theorem approachStart {p} (h : P s) : P (s.approachStart l p) :=
  keeps_ite h (keeps_ite (k.profileFence (k.axis (k.approach h))) (keeps_ite (k.profileFence (k.approach (k.arun h))) h))

/-! ### The LF oscillator (R508 to R517) -/

theorem timerWake {n} (h : P s) : P (s.timerWake n) := by
  unfold State.timerWake
  dsimp only
  split
  · exact k.beginWake (k.power h)
  · exact k.power (k.power h)
  · exact keeps_ite (k.power h) h
  · exact h

theorem lfTimers (h : P s) : P s.lfTimers := by
  unfold State.lfTimers
  refine keeps_ite h ?_
  dsimp only
  split
  · exact k.timerWake (k.lfWatch h)
  · exact k.lfWatch h

theorem lfStep (h : P s) : P s.lfStep := by
  unfold State.lfStep
  extract_lets s1 s2
  have h1 : P s1 := k.tmr h
  have h2 : P s2 := keeps_ite (k.lfHandover h1) (keeps_ite (k.tmr (k.lfTimers h1)) h1)
  exact keeps_ite (k.lfHandback h2) h2

theorem incMeasured {n} (h : P s) : P (s.incMeasured n) := by
  unfold State.incMeasured
  extract_lets old new s1 s2 isBad again s3
  have h1 : P s1 := k.tmr h
  have h3 : P s3 := k.tmr (keeps_ite (k.note h1) h1)
  exact keeps_ite (keeps_ite h3 (k.mark (k.tmr h3))) (keeps_ite h3 (k.lfBad h3))

theorem lfFails (h : P s) : P s.lfFails := by
  unfold State.lfFails
  extract_lets span sleep again s1 s2
  have h1 : P s1 := k.tmr h
  have h2 : P s2 := keeps_ite h1 (k.lfBad h1)
  exact keeps_ite (k.lfHandback h2) h2

end Durable

end Sys2Proof.Machine
end


section
/-!
SUPPORT. What link, light heads and the host's writes keep: both memories' canonical form and the epochs.
-/

namespace Sys2Proof.Machine

namespace Durable

variable {P : State → Prop} (k : Durable P) {s : State} {l : Lane}
include k

/-! ### Draining (R309 to R312) -/

theorem seeWritten {n} (h : P s) : P (s.seeWritten l n) := k.till h
theorem queueTx {is} (h : P s) : P (s.queueTx l is) := k.lrun h

theorem fetchWords {q n} (h : P s) : P (s.fetchWords l q n) := by
  unfold State.fetchWords
  extract_lets win rd s1 s2 f s3
  have h1 : P s1 := k.fenceLine h
  have h2 : P s2 := keeps_ite h1 (k.advRptr (k.queueTx h1))
  exact keeps_ite (k.till (k.advRptr (k.queueTx h2))) (k.till h2)

theorem drainStart {n gs} (h : P s) : P (s.drainStart l n gs) := by
  have h1 := k.seeWritten (l := l) (n := n) h
  unfold State.drainStart
  generalize s.seeWritten l n = z at h1
  dsimp only
  split
  · exact h1
  · exact keeps_ite h1 (k.pump (k.fetchWords (k.advRptr (k.queueTx (k.fenceLine (k.noteGrants h1))))))

theorem burstFetch {n gs} (h : P s) : P (s.burstFetch l n gs) := by
  have h1 := k.seeWritten (l := l) (n := n) h
  unfold State.burstFetch
  generalize s.seeWritten l n = z at h1
  dsimp only
  split
  · exact h1
  · exact keeps_ite h1 (k.pump (k.fetchWords (k.noteGrants h1)))

theorem tailFetch {n gs} (h : P s) : P (s.tailFetch l n gs) := by
  have h1 := k.seeWritten (l := l) (n := n) h
  unfold State.tailFetch
  generalize s.seeWritten l n = z at h1
  dsimp only
  split
  · exact h1
  · exact keeps_ite h1 (k.pump (k.fetchWords (k.noteGrants (k.till h1))))

theorem sendData (h : P s) : P (s.sendData l) := by
  have h1 := k.pump (l := l) h
  unfold State.sendData
  generalize s.pump l = z at h1
  dsimp only
  split
  · exact keeps_ite h1 (k.pump (k.wire (k.link (k.lrun h1))))
  · exact h1

/-! ### The end of a run -/

theorem scanEnd (h : P s) : P (s.scanEnd l) := by
  unfold State.scanEnd
  extract_lets x
  split
  · exact h
  · exact keeps_ite h (k.lrun (k.wire (k.pump h)))

theorem enterIdle (h : P s) : P (s.enterIdle l) := by
  unfold State.enterIdle
  extract_lets due s1 s2 s3 s4 s5 s6 s7
  have h6 : P s6 := k.head (k.clearTill (k.toMode (k.till (k.pix (k.lane (k.lrun (k.mode h)))))))
  exact k.replaceSet (keeps_ite (k.tripNow h6) h6)

theorem runEnd (h : P s) : P (s.runEnd l) := by
  unfold State.runEnd
  extract_lets ls s1
  have h1 : P s1 := foldl_keeps (fun h => k.enterIdle h) _ h
  exact keeps_ite h (k.offCancelled (k.haltSettle (k.sys (fun _ => rfl) h1)))

theorem endDrainLimit (h : P s) : P (s.endDrainLimit l) :=
  have hflush := k.flushNoted h
  keeps_ite h (keeps_ite hflush (k.lrun hflush))

/-! ### Training (R336 to R339) -/

theorem detectPoll {f0 f1 fk} (h : P s) : P (s.detectPoll l f0 f1 fk) := by
  unfold State.detectPoll
  extract_lets s1 x
  have h1 : P s1 := k.linkWake h
  exact keeps_ite h1 (keeps_ite (k.linkTrain (k.setWire (k.setWire h1))) (keeps_ite (k.lanePortFault (k.setWire h1))
    (keeps_ite (k.lanePortFault (k.setWire h1)) h1)))

theorem trainWait {st} (h : P s) : P (s.trainWait l st) := k.lrun (k.link h)
theorem seeTs2 {o} (h : P s) : P (s.seeTs2 l o) := keeps_ite (k.link h) h

theorem linkUp (h : P s) : P (s.linkUp l) :=
  have hup := k.lrun (k.link h)
  keeps_ite (k.startResync hup) hup

theorem trainSet {o} (h : P s) : P (s.trainSet l o) := by
  unfold State.trainSet
  exact keeps_ite (k.lrun h) (k.lrun (k.link (k.lrun h)))

theorem configSet {o} (h : P s) : P (s.configSet l o) := by
  unfold State.configSet
  extract_lets r key n s1 s2
  have h1 : P s1 := k.lrun h
  exact keeps_ite h1 (keeps_ite (k.linkUp h1) (k.lrun (k.trainWait (keeps_ite h1 (k.noteL h1)))))

theorem orderedSet {o} (h : P s) : P (s.orderedSet l o) := by
  unfold State.orderedSet
  refine keeps_ite h ?_
  split
  · exact k.trainSet (k.seeTs2 h)
  · exact keeps_ite (k.configSet (k.seeTs2 h)) (k.lrun (k.linkTrain h))
  · exact keeps_ite h (k.linkLost h)
  · exact h

theorem trainTimeout (h : P s) : P (s.trainTimeout l) := keeps_ite (k.trainWait (k.noteL h)) h
theorem retryTimer (h : P s) : P (s.retryTimer l) := keeps_ite (k.lrun (k.link h)) h

/-! ### The return strand (R356 to R376) -/

theorem frameDiscarded (h : P s) : P (s.frameDiscarded l) := by
  unfold State.frameDiscarded
  extract_lets s1 s2
  have h2 : P s2 := k.lrun (k.link h)
  exact keeps_ite h (keeps_ite (k.linkLost h2) h2)

theorem takeCredit {n} (h : P s) : P (s.takeCredit l n) :=
  keeps_ite h (keeps_ite (k.frameDiscarded h) (k.lrun (k.link h)))

theorem linkFault {c n} (h : P s) : P (s.linkFault l c n) :=
  have hrec := k.recordL h
  keeps_ite (k.gangAbort hrec) (k.flushEnd hrec)

theorem endResync (h : P s) : P (s.endResync l) := k.mark (k.link h)

theorem resyncFail (h : P s) : P (s.resyncFail l) := by
  unfold State.resyncFail
  extract_lets r s1 s2
  have h1 : P s1 := k.endResync h
  have h2 : P s2 := k.linkFault (k.recallLine h1)
  exact keeps_ite (k.linkFault h1) (keeps_ite (k.flushTill h2) h2)

theorem withdrawFrom {n c} (h : P s) : P (s.withdrawFrom l n c) := by
  unfold State.withdrawFrom
  extract_lets z
  have hopen : P z := by
    unfold z
    split
    · exact keeps_ite (k.abandonLine h) h
    · exact h
  clear_value z
  split
  · exact k.abandonLine hopen
  · exact hopen

theorem resumeFrom {n} (h : P s) : P (s.resumeFrom l n) := by
  unfold State.resumeFrom
  extract_lets num s1
  have h1 : P s1 := foldl_keeps (fun {s j} h => by
    have hgive := k.pix (l := j) (f := fun p => { p with accum := [] }) (k.rewind (l := j) (n := num) (m := 0) (k.lane (l := j)
      (f := fun x => { (x.giveUp num) with
        reading := none, group := none, resumed := true, owedSeams := x.owedSeams.map (reSeam num (x.lastBefore num)) })
      (k.giveExposure (l := j) h)))
    exact keeps_ite (k.arun hgive) hgive) _ h
  exact keeps_ite (k.abandonSeam h1) (k.seamDue h1)

theorem resumeAt {n c} (h : P s) : P (s.resumeAt l n c) := by
  unfold State.resumeAt
  extract_lets s1 s2 j s3 s4
  have h2 : P s2 := k.withdrawFrom (k.frameFirst h)
  have h4 : P s4 := keeps_ite (k.sendFrame (k.withdrawFrom h2)) h2
  exact keeps_ite h4 (k.resumeFrom h4)

theorem afterLoss (h : P s) : P (s.afterLoss l) := by
  unfold State.afterLoss
  dsimp only
  refine keeps_ite (k.pump h) ?_
  split
  · exact k.pump (k.resumeAt (k.lrun h))
  · exact k.pump (k.lrun h)

theorem showStatus {m} (h : P s) : P (s.showStatus l m) := by
  unfold State.showStatus
  exact keeps_ite (k.noteL (k.lrun (k.link h))) (k.lrun (k.link h))

theorem kGroups {gs} (h : P s) : P (s.kGroups l gs) := by
  unfold State.kGroups
  split
  · exact h
  · exact h
  · have hlost : ∀ {f g}, P ((s.modLink l f).modLrun l g) := k.lrun (k.link h)
    exact keeps_ite (k.lrun (k.link h)) (keeps_ite (k.lrun hlost) (keeps_ite (k.lrun hlost) (k.linkLost hlost)))

theorem magStatus {m} (h : P s) : P (s.magStatus l m) := by
  unfold State.magStatus
  extract_lets s1 x e bad ended s2 s3
  have h1 : P s1 := k.showStatus h
  have h2 : P s2 := k.lrun h1
  exact keeps_ite h (keeps_ite h1 (keeps_ite (k.pump (keeps_ite (k.linkFault h1) (k.linkFault h1)))
    (keeps_ite (keeps_ite (keeps_ite (k.resyncFail h1) (k.afterLoss (k.endResync h1))) h1)
      (keeps_ite (k.pump (k.lrun h1)) (keeps_ite h2 (k.seamDue (k.startResync (k.recordL h2))))))))

theorem resyncLimit (h : P s) : P (s.resyncLimit l) := keeps_ite (k.resyncFail h) h

theorem linkAborts (h : P s) : P (s.linkAborts l) := by
  unfold State.linkAborts
  exact keeps_ite h (k.lrun (k.clearTill (k.linkFault h)))

/-! ### Light heads (R427 to R442) -/

theorem beginSettle (h : P s) : P (s.beginSettle l) := keeps_ite (k.mode h) h

theorem ackHead {a p} (h : P s) : P (s.ackHead a p) := by
  unfold State.ackHead
  extract_lets s1 s2
  have h2 : P s2 := k.modReb (k.modLightHead h)
  exact keeps_ite (k.stageFirst h2) h2

theorem mismatchSeam (h : P s) : P (s.mismatchSeam l) := by
  unfold State.mismatchSeam
  extract_lets x
  split
  · exact keeps_ite (k.seamDue h) h
  · exact keeps_ite (k.seamDue h) h
  · exact keeps_ite (k.seamDue h) h
  · exact keeps_ite (k.seamDue h) h
  · exact keeps_ite (k.seamDue h) h

theorem mismatchFault {a p} (h : P s) : P (s.mismatchFault a p) := by
  unfold State.mismatchFault
  extract_lets r s1
  have h1 : P s1 := k.modReb h
  refine keeps_ite h ?_
  clear_value s1
  split
  · exact keeps_ite (k.seamDue (k.record h1)) (k.record h1)
  · exact k.noteItem h1

theorem mismatchHead {a p} (h : P s) : P (s.mismatchHead a p) := by
  unfold State.mismatchHead
  extract_lets s1 s2 s3
  have h2 : P s2 := k.modReb (k.modLightHead h)
  refine k.mismatchFault ?_
  unfold s3
  clear_value s2
  split
  · exact k.mismatchSeam h2
  · exact h2

theorem judgeReply {a x} (h : P s) : P (s.judgeReply a x) := by
  unfold State.judgeReply
  extract_lets y p r isOpen acked
  have hacked : P acked := k.ackHead (k.modLightHead h)
  exact keeps_ite hacked (keeps_ite h (keeps_ite hacked (k.mismatchHead h)))

theorem headTemp {a t} (h : P s) : P (s.headTemp a t) := by
  have hember := k.emberHead (a := a) (t := t) h
  unfold State.headTemp
  exact keeps_ite (k.emberEnd (keeps_ite (k.ackHead hember) hember)) (keeps_ite (k.ackHead hember) hember)

theorem identFails {a} (h : P s) : P (s.identFails a) := k.noteItem (k.modLightHead h)

theorem missHead {a} (h : P s) : P (s.missHead a) := by
  unfold State.missHead
  extract_lets x s1 s2
  have h1 : P s1 := k.modLightHead h
  have h2 : P s2 := keeps_ite (k.noteItem (k.modLightHead h1)) h1
  refine keeps_ite (k.identFails h) ?_
  clear_value s2
  split
  · exact keeps_ite (k.ackHead h2) (k.mismatchHead h2)
  · exact h2

theorem discardReply {a} (h : P s) : P (s.discardReply a) := k.missHead (k.lux h)

theorem unstage {p} (h : P s) : P (s.unstage p) := by
  unfold State.unstage
  exact k.lux (foldl_keeps (fun h => k.dropFor h) _ h)

theorem rebroadcast {p} (h : P s) : P (s.rebroadcast p) := by
  unfold State.rebroadcast
  exact keeps_ite h (k.stageFirst (foldl_keeps (fun h => keeps_ite h (k.modLightHead (k.busSend h))) _ (k.lux
    (k.modReb (k.busSend (foldl_keeps (fun h => k.modLightHead (k.busSend h)) _ (k.unstage h)))))))

/-! ### The host's writes -/

theorem powerWrite {w} (h : P s) : P (s.powerWrite w) := by
  have hlane : ∀ {s : State} {l} {b : Bool}, P s → P (if b && s.resettable then s.laneReset l else s) := fun h =>
    keeps_ite (k.laneReset h) h
  have hlanes : P (if bit w 4 && (if bit w 3 && s.resettable then s.laneReset .a else s).resettable
      then (if bit w 3 && s.resettable then s.laneReset .a else s).laneReset .b
      else (if bit w 3 && s.resettable then s.laneReset .a else s)) := hlane (hlane h)
  exact keeps_ite (keeps_ite (k.engineReset h) h) (keeps_ite (keeps_ite (k.beginOff hlanes) hlanes)
    (keeps_ite (k.requestSleep hlanes) hlanes))

theorem serviceWrite {b} (h : P s) : P (s.serviceWrite b) := by
  unfold State.serviceWrite
  exact keeps_ite (k.sys (fun _ => rfl) h) (keeps_ite (k.sys (fun _ => rfl) h) (k.sys (fun _ => rfl) h))

theorem attnWrite {w} (h : P s) : P (s.attnWrite w) := k.other h rfl rfl rfl

theorem sysWrite {r} (h : P s) : P (s.sysWrite r) := by
  unfold State.sysWrite
  extract_lets s1 s2 ack sel s3 s4 s5
  have h1 : P s1 := by
    unfold s1
    split
    · exact k.attnWrite h
    · exact h
  have h3 : P s3 := k.log (k.sys (fun _ => rfl) h1)
  have h4 : P s4 := by
    unfold s4
    clear_value s3
    split
    · exact k.powerWrite h3
    · exact h3
  have h5 : P s5 := by
    unfold s5
    clear_value s4
    split
    · exact k.serviceWrite h4
    · exact h4
  clear_value s5
  split
  · exact keeps_ite (k.haltRequest h5) (k.haltRelease h5)
  · exact h5

theorem clkWrite {r} (h : P s) : P (s.clkWrite r) := keeps_ite (k.beginClkCommit (k.clk h)) (k.clk h)

theorem apertureWrite {ws} (h : P s) : P (s.apertureWrite ws) := k.winWrite h
theorem apertureAdvance {n} (h : P s) : P (s.apertureAdvance n) := k.other h rfl rfl rfl

theorem memWrite {r} (h : P s) : P (s.memWrite r) := by
  unfold State.memWrite
  refine keeps_ite (k.apertureAdvance (k.apertureWrite h)) ?_
  dsimp only
  split
  · exact k.mem h
  · exact keeps_ite (k.tallyStart (k.mem (k.mem h))) (k.mem (k.mem h))

theorem timerEnable {n b} (h : P s) : P (s.timerEnable n b) := by
  unfold State.timerEnable
  exact keeps_ite h (k.mark (k.tmr h))

theorem timerLoad {n v} (h : P s) : P (s.timerLoad n v) := keeps_ite h (k.updTimer h)

theorem timerWrite {r n} (h : P s) : P (s.timerWrite r n) := by
  unfold State.timerWrite
  extract_lets old put s1 s2
  have h1 : P s1 := k.tmr h
  have h2 : P s2 := by
    unfold s2
    clear_value s1
    split
    · exact k.tmr h1
    · exact h1
  clear_value s2
  split
  · exact keeps_ite (k.timerLoad (k.timerEnable h2)) (k.timerEnable h2)
  · exact h2

theorem mgtGroupStart (h : P s) : P s.mgtGroupStart := k.mark (k.groupStart h)

theorem tmrWrite {r} (h : P s) : P (s.tmrWrite r) := by
  unfold State.tmrWrite
  extract_lets ns s1 s2
  have h1 : P s1 := foldl_keeps (fun h => k.timerWrite h) _ h
  have h2 : P s2 := by
    unfold s2
    clear_value s1
    split
    · exact k.tmr h1
    · exact h1
  exact keeps_ite (k.mgtGroupStart h2) h2

theorem overrunClear {b w} (h : P s) : P (s.overrunClear b w) := keeps_ite (k.modConv h) h
theorem hkChanWrite {r n} (h : P s) : P (s.hkChanWrite r n) := k.modHkChan h
theorem hkWrite {r} (h : P s) : P (s.hkWrite r) := foldl_keeps (fun h => k.hkChanWrite h) _ (k.overrunClear (k.overrunClear h))
theorem rearmMgt (h : P s) : P s.rearmMgt := k.lux h

theorem luxWrite {r} (h : P s) : P (s.luxWrite r) := by
  unfold State.luxWrite
  extract_lets s1 s2
  have h2 : P s2 := keeps_ite (k.plan (k.lux h)) (k.lux h)
  exact keeps_ite (k.rearmMgt h2) h2

theorem refuse {n r b} (h : P s) : P (s.refuse l n r b) := by
  unfold State.refuse
  exact k.mode (k.event (k.noteL h))

theorem acceptLane {p} (h : P s) : P (s.acceptLane p l) := by
  unfold State.acceptLane
  have hmode := k.toMode (l := l) (m := progMode p) (k.lane (l := l) (f := fun x => x.begin p) (k.clearTill (l := l) h))
  exact keeps_ite (k.cal hmode) (k.sendFrame (k.link hmode))

theorem joinGang (h : P s) : P s.joinGang := by
  unfold State.joinGang
  exact k.lux (k.gang h)

theorem acceptRun {p} (h : P s) : P (s.acceptRun l p) := foldl_keeps (fun h => k.acceptLane h) _ (keeps_ite (k.joinGang h) h)

theorem request {n b c} (h : P s) : P (s.request l n b c) := by
  unfold State.request
  split
  · exact k.acceptRun h
  · exact k.refuse h

theorem abort {n} (h : P s) : P (s.abort l n) :=
  keeps_ite (k.voidCal (k.noteL h)) (keeps_ite (k.endRun (k.abortNotes h)) h)

theorem reqWrite {w} (h : P s) : P (s.reqWrite l w) :=
  have habort := keeps_ite (k.abort h) h
  keeps_ite habort (keeps_ite (k.refuse habort) (k.request habort))

theorem headTrim {r} (h : P s) : P (s.headTrim l r) := keeps_ite h (k.head h)

theorem headWrite {r} (h : P s) : P (s.headWrite l r) := by
  unfold State.headWrite
  dsimp only
  split
  · exact k.reqWrite (k.headTrim h)
  · exact k.headTrim h

theorem coefCommit (h : P s) : P (s.coefCommit l) := k.beginCommit (k.cal h)
theorem pixWrite {r} (h : P s) : P (s.pixWrite l r) := keeps_ite (k.coefCommit (k.cal h)) (k.cal h)

theorem hostFlush (h : P s) : P (s.hostFlush l) := keeps_ite (k.till (k.noteL (k.flushEnd h))) (k.flushNoted h)

theorem tillWrite {r} (h : P s) : P (s.tillWrite l r) :=
  have hflush := keeps_ite (k.hostFlush h) h
  keeps_ite (k.linkLost hflush) hflush

theorem startMove (h : P s) : P (s.startMove l) := by
  unfold State.startMove
  extract_lets a es d m
  clear_value m
  split
  · extract_lets z
    have hz : P z := k.setMotion h
    clear_value z
    cases z.profile l a.moveProf
    · exact hz
    · exact k.fenceNote hz
  · exact h

theorem stopMove (h : P s) : P (s.stopMove l) := by
  unfold State.stopMove
  split
  · exact keeps_ite (k.setMotion h) h
  · exact h

theorem axisWrite {r} (h : P s) : P (s.axisWrite l r) := by
  unfold State.axisWrite
  extract_lets s1 s2
  have h2 : P s2 := keeps_ite (k.startMove (k.axis h)) (k.axis h)
  exact keeps_ite (k.stopMove h2) h2

/-- What a write does to its unit. -/
theorem applyWrite {r} (h : P s) : P (s.applyWrite r) := by
  have hunit : P (match r.unit with
      | 0 => s.sysWrite r
      | 2 => s.clkWrite r
      | 3 => s.memWrite r
      | 4 => s.tmrWrite r
      | 5 => s.hkWrite r
      | 6 => s.luxWrite r
      | 8 | 12 => s.headWrite (unitLane r.unit) r
      | 9 | 13 => s.pixWrite (unitLane r.unit) r
      | 10 | 14 => s.tillWrite (unitLane r.unit) r
      | 11 | 15 => s.axisWrite (unitLane r.unit) r
      | _ => s) := by
    split
    · exact k.sysWrite h
    · exact k.clkWrite h
    · exact k.memWrite h
    · exact k.tmrWrite h
    · exact k.hkWrite h
    · exact k.luxWrite h
    · exact k.headWrite h
    · exact k.headWrite h
    · exact k.pixWrite h
    · exact k.pixWrite h
    · exact k.tillWrite h
    · exact k.tillWrite h
    · exact k.axisWrite h
    · exact k.axisWrite h
    · exact h
  exact keeps_ite hunit (k.mark hunit)

end Durable

end Sys2Proof.Machine
end


section
/-!
O58: a write answered OK advances its unit's epoch by one step (R531).
-/

namespace Sys2Proof.Machine

/-- A marked unit's epoch goes one step on, unless a full start holds the epochs. -/
theorem after_epochs_marked {s s1 : State} {u : Nat} (hu : u < 16) (hmark : s1.sys.marks.contains u = true)
    (hheld : epochsHeld s s1 = false) : (s.after s1).sys.epochs.getD u 0 = nextEpoch (s1.sys.epochs.getD u 0) := by
  have hsettled : (s.after s1).sys.epochs = (settleEpochs s.clearOut (settleRead s.clearOut (s1.modLog LogSt.settle))).sys.epochs :=
    settle_sys_of_epochs SysSt.epochs (fun _ _ _ => rfl) (by simp) s.clearOut s1
  have hread : ∀ x : State, (settleRead s.clearOut x).sys.marks = x.sys.marks ∧ (settleRead s.clearOut x).sys.epochs = x.sys.epochs
      ∧ (settleRead s.clearOut x).power = x.power := fun x => by
    unfold settleRead
    split
    · exact ⟨rfl, rfl, rfl⟩
    · split
      · exact ⟨rfl, rfl, rfl⟩
      · exact ⟨rfl, rfl, rfl⟩
  obtain ⟨hmarks, hepochs, hpower⟩ := hread (s1.modLog LogSt.settle)
  generalize settleRead s.clearOut (s1.modLog LogSt.settle) = x at hsettled hmarks hepochs hpower
  have hstirred : s.clearOut.stirred x u = true := by
    have hx : epochsHeld s.clearOut x = false := by
      rw [← hheld]
      unfold epochsHeld
      rw [hpower]
      rfl
    unfold State.stirred
    rw [hx, hmarks]
    simp only [Bool.not_false, Bool.true_and, Bool.or_eq_true]
    exact Or.inl hmark
  rw [hsettled]
  simp [settleEpochs, List.getD_eq_getElem?_getD, hu, hstirred, hepochs]

/-- The unit of a frame is one of the sixteen. -/
theorem arrival_unit {ws : List Nat} {r : Req} (h : arrival ws = .good r) : r.unit < 16 := by
  have hr : r = parseReq ws := by
    unfold arrival at h
    dsimp only at h
    split at h
    · exact absurd h (by simp)
    · split at h
      · exact (Arrival.good.inj h).symm
      · exact absurd h (by simp)
  subst hr
  show bits (ws.getD 0 0) 14 11 < 16
  exact Nat.mod_lt _ (by decide)

/-- What a write with a counting word leaves of the port: its unit is marked, and no epoch has changed. -/
theorem applyWrite_epochs {s : State} {r : Req} (hcount : r.items.all (fun q => quietWord r.unit q.1) = false) :
    (s.applyWrite r).sys.marks.contains r.unit = true ∧ (s.applyWrite r).sys.epochs = s.sys.epochs := by
  refine ⟨?_, (epochs_durable s.sys.epochs).applyWrite rfl⟩
  unfold State.applyWrite
  dsimp only
  rw [hcount, if_neg (by decide)]
  simp [State.mark]

/-- Settles O58: the write keeps the epochs and ends with the mark of its unit, which the settling turns into one step. -/
theorem writeAdvancesItsEpochOnce : Obligations.WriteAdvancesItsEpochOnce := by
  unfold Obligations.WriteAdvancesItsEpochOnce
  intro r s t hs harrival haccepts hwrite hcount hexec hheld
  obtain ⟨hmark, hepochs⟩ := applyWrite_epochs (s := s.mgtOpen.clearOut) hcount
  have hsys : ∀ sh lat, (s.mgtOpen.clearOut.frameEffect r 0 sh lat).sys = (s.mgtOpen.clearOut.applyWrite r).sys := fun sh lat => by
    unfold State.frameEffect
    simp only [hwrite, if_true]
    split <;> rfl
  rw [exec_mgtWrite] at hexec
  unfold execMgtWrite at hexec
  rw [mgtFrame_good harrival, mgtRequest_ok haccepts, performMgt_after] at hexec
  obtain rfl := Host.Outcome.next.inj hexec
  generalize hz : s.mgtOpen.clearOut.frameEffect r 0 _ 0 = z at hheld ⊢
  have hzsys : z.sys = (s.mgtOpen.clearOut.applyWrite r).sys := hz ▸ hsys _ 0
  have hheld' : epochsHeld s.mgtOpen z = false := by
    rw [← hheld]
    unfold epochsHeld
    rw [State.modSys_power, after_power]
    rfl
  rw [State.modSys_sys]
  have hstep := after_epochs_marked (s := s.mgtOpen) (arrival_unit harrival) (hzsys ▸ hmark) hheld'
  rw [hzsys, hepochs] at hstep
  exact hstep

end Sys2Proof.Machine
end


section
/-!
O5: every command keeps both memories in their canonical form.
-/

namespace Sys2Proof.Machine

/-- The outcome is a state with the property. -/
def Ends (P : State → Prop) (o : Host.Outcome State Fault Refusal) : Prop := ∃ t, o = .next t ∧ P t

namespace Lasting

variable {P : State → Prop} (k : Lasting P) {s : State} {l : Lane}
include k

/-! ### The form of every meaning -/

theorem clearOut (h : P s) : P s.clearOut := k.alike h (by simp) (by simp)

theorem after {s0 : State} (h : P s) : P (s0.after s) := k.alike h (by simp) (by simp)

theorem perform {f : State → State} (hf : ∀ {z}, P z → P (f z)) (h : P s) : Ends P (perform s f) :=
  ⟨_, rfl, k.after (hf (k.clearOut h))⟩

theorem performMgt {n resp} {f : State → State} (hf : ∀ {z}, P z → P (f z)) (h : P s) : Ends P (performMgt s n f resp) :=
  ⟨_, rfl, k.sys (fun _ => rfl) (k.after (s0 := s.mgtOpen) (hf (k.clearOut (k.alike (t := s.mgtOpen) h rfl rfl))))⟩

/-! ### The management port -/

theorem consumeWord {u o} (h : P s) : P (s.consumeWord u o) := by
  unfold State.consumeWord
  dsimp only
  split
  · exact k.sys (fun _ => rfl) h
  · exact k.sys (fun _ => rfl) h
  · exact k.mem h
  · exact k.mem h
  · exact k.mem h
  · exact k.modConv h
  · exact k.modConv h
  · exact k.lux h
  · exact k.till h
  · exact k.till h
  · exact k.link h
  · exact k.link h
  · exact h

theorem advanceSel {r} (h : P s) : P (s.advanceSel r) := by
  unfold State.advanceSel
  split
  · exact k.log h
  · exact h

theorem applyRead {r n} (h : P s) : P (s.applyRead r n) := by
  unfold State.applyRead
  have hwords : ∀ {os : List Nat}, P (os.foldl (fun s o => s.consumeWord r.unit o) s) := foldl_keeps (fun h => k.consumeWord h) _ h
  refine keeps_ite ?_ (keeps_ite (k.advanceSel hwords) hwords)
  extract_lets z
  have hz : P z := by
    unfold z
    split
    · exact keeps_ite (k.sys (fun _ => rfl) h) h
    · exact h
  exact k.apertureAdvance hz

theorem frameEffect {r c n lat} (h : P s) : P (s.frameEffect r c n lat) := by
  unfold State.frameEffect
  split
  · have hframe : P (if r.write then s.applyWrite r else s.applyRead r n) := keeps_ite (k.applyWrite h) (k.applyRead h)
    exact keeps_ite (k.mem hframe) hframe
  · exact k.sys (fun _ => rfl) h
  · exact k.sys (fun _ => rfl) h
  · exact h

theorem mgtRequest {r n lat} (h : P s) : Ends P (s.mgtRequest r n lat) := by
  unfold State.mgtRequest
  dsimp only
  split
  · exact k.performMgt (fun h => k.frameEffect h) h
  · exact k.performMgt (f := id) (fun h => h) h

theorem mgtCut {n} (h : P s) : Ends P (s.mgtCut n) := by
  unfold State.mgtCut
  exact k.performMgt (fun h => keeps_ite (k.sys (fun _ => rfl) h) h) h

theorem mgtFrame {ws n lat} (h : P s) : Ends P (s.mgtFrame ws n lat) := by
  unfold State.mgtFrame
  split
  · exact k.mgtCut h
  · unfold State.mgtBad
    exact k.performMgt (fun h => keeps_ite (k.sys (fun _ => rfl) h) h) h
  · exact k.mgtRequest h

/-! ### Power -/

theorem execMainsApplied (h : P s) : Ends P (execMainsApplied s) :=
  k.perform (fun h => keeps_ite (k.startOne (k.power h)) h) h

theorem execMainsReturn (h : P s) : Ends P (execMainsReturn s) := k.perform (fun h => by
  split
  · exact k.power h
  · exact h
  · exact k.power h) h

theorem execUncontrolledSupplyLoss (h : P s) : Ends P (execUncontrolledSupplyLoss s) :=
  k.perform (fun h => k.power (k.blank (k.cutFlash h))) h

theorem execBringupStepComplete {r} (h : P s) : Ends P (execBringupStepComplete r s) :=
  k.perform (fun h => keeps_ite (k.bringupStep h) h) h

theorem execEngineReset {r} (h : P s) : Ends P (execEngineReset r s) :=
  k.perform (fun h => keeps_ite (k.bringupStep h) h) h

theorem execXtalFail (h : P s) : Ends P (execXtalFail s) := k.perform (fun h => keeps_ite (k.power (k.record h)) h) h

theorem execResetNFall (h : P s) : Ends P (execResetNFall s) := k.perform (fun h => keeps_ite (k.power h) h) h

theorem execResetNConfirm (h : P s) : Ends P (execResetNConfirm s) :=
  k.perform (fun h => keeps_ite (k.power h) (keeps_ite (k.power h) (k.toResetLow h))) h

theorem execResetNRelease (h : P s) : Ends P (execResetNRelease s) :=
  k.perform (fun h => keeps_ite (k.power h) (keeps_ite (k.power h) (k.power h))) h

theorem execWakeEdge (h : P s) : Ends P (execWakeEdge s) := k.perform (fun h => by
  dsimp only
  split
  · exact keeps_ite (k.startOne h) h
  · exact keeps_ite (k.beginWake (k.power h)) h
  · exact keeps_ite (k.power (k.power h)) h
  · exact keeps_ite (k.power h) h
  · exact keeps_ite (k.cancelOff h) (k.power h)
  · exact k.power h
  · exact h) h

theorem execOffReqEdge (h : P s) : Ends P (execOffReqEdge s) := k.perform (fun h => by
  split
  · exact k.power (k.beginOff h)
  · exact k.power h
  · exact k.power h
  · exact k.power h
  · exact k.power h
  · exact k.power h
  · exact h) h

theorem execSleepReqEdge (h : P s) : Ends P (execSleepReqEdge s) := k.perform (fun h => keeps_ite h (by
  split
  · exact k.requestSleep h
  · exact k.requestSleep h
  · exact keeps_ite h (k.requestSleep h)
  · exact h)) h

theorem execSleepEntryStepDone {n} (h : P s) : Ends P (execSleepEntryStepDone n s) :=
  k.perform (fun h => keeps_ite (k.sleepStage h) h) h

theorem execWakeSequenceStepDone {r} (h : P s) : Ends P (execWakeSequenceStepDone r s) :=
  k.perform (fun h => keeps_ite (k.wakeStage h) h) h

theorem execWakeReady {n b} (h : P s) : Ends P (execWakeReady n b s) := k.perform (fun h =>
  have hlate := keeps_ite (k.note (k.power h)) (k.power h)
  keeps_ite h (keeps_ite (k.beginOff (k.placeLanes (k.markAll hlate))) (k.goReady (k.markAll hlate)))) h

theorem execPowerDownPhaseEnd (h : P s) : Ends P (execPowerDownPhaseEnd s) :=
  k.perform (fun h => keeps_ite h (k.offPhase h)) h

theorem execPfw (h : P s) : Ends P (execPfw s) := k.perform (fun h => by
  dsimp only
  split
  · exact k.power h
  · exact k.power h
  · exact keeps_ite (k.power h) (k.beginPfw h)
  · exact k.beginPfw h) h

theorem execPfwStageDeadline (h : P s) : Ends P (execPfwStageDeadline s) :=
  k.perform (fun h => keeps_ite (k.pfwStage h) h) h

theorem execLaneResetStepDone {r} (h : P s) : Ends P (execLaneResetStepDone l r s) :=
  k.perform (fun h => keeps_ite (k.haltSettle (keeps_ite (k.laneResetStep h) (k.noteC1 (k.laneResetStep h)))) h) h

theorem execSeqWatchdog {n} (h : P s) : Ends P (execSeqWatchdog n s) :=
  k.perform (fun h => keeps_ite h (keeps_ite (k.record h) (k.fatal h))) h

/-! ### U20, commits and the Tally -/

theorem execRingProgramStart (h : P s) : Ends P (execRingProgramStart s) := k.perform (fun h => k.ringStep h) h

theorem execFlashOpDone {b} (h : P s) : Ends P (execFlashOpDone b s) := k.perform (fun h => by
  split
  · exact h
  · exact keeps_ite h (keeps_ite (k.flashGood h) (k.flashBad h))) h

theorem execFlashOpTimeout {b} (h : P s) : Ends P (execFlashOpTimeout b s) := k.perform (fun h => by
  split
  · exact h
  · exact keeps_ite h (k.flashBad h)) h

theorem execLogDropped (h : P s) : Ends P (execLogDropped s) := k.perform (fun h => keeps_ite (k.reportDrops h) h) h

theorem execCalCommitStepDone {e} (h : P s) : Ends P (execCalCommitStepDone e s) := k.perform (fun h =>
  have hstep := k.calStep (keeps_ite (k.noteC2 h) h)
  keeps_ite h (k.offDone (keeps_ite (k.noteC1 hstep) hstep))) h

theorem execTallyRowDone {reads retests decay n} (h : P s) : Ends P (execTallyRowDone reads retests decay n s) :=
  k.perform (fun h => keeps_ite h (keeps_ite (k.marchRow (k.noteC2 h))
    (keeps_ite (k.haltSettle (k.tallyRow (k.noteC2 h))) h))) h

theorem execTallyRetentionPauseEnd (h : P s) : Ends P (execTallyRetentionPauseEnd s) :=
  k.perform (fun h => keeps_ite h (k.pauseEnd h)) h

theorem execTallyRunEnd {m n} (h : P s) : Ends P (execTallyRunEnd m n s) := k.perform (fun h => keeps_ite h (by
  split
  · exact h
  · exact keeps_ite h (k.destroyEnd (k.noteC2 h))
  · exact k.reloadEnd (k.noteC2 h)
  · exact keeps_ite (k.haltSettle (k.tallyPreserveEnd h)) h)) h

/-! ### The carriage -/

theorem execStepIssue {a b} (h : P s) : Ends P (execStepIssue l a b s) := k.perform (fun h => k.stepIssue h) h

theorem execRunCurrentTimeout (h : P s) : Ends P (execRunCurrentTimeout l s) :=
  k.perform (fun h => keeps_ite (k.axis h) h) h

theorem execEncoderIndex {es} (h : P s) : Ends P (execEncoderIndex l es s) :=
  k.perform (fun h => keeps_ite (k.axis (k.countEdges h)) h) h

theorem execSeamBackoffStart (h : P s) : Ends P (execSeamBackoffStart l s) := k.perform (fun h => by
  split
  · exact keeps_ite (k.profileFence (k.backoff h)) h
  · exact h) h

theorem execSeamDwellEnd (h : P s) : Ends P (execSeamDwellEnd l s) := k.perform (fun h => by
  split
  · exact keeps_ite (k.discard (k.axis (k.arun h))) h
  · exact h) h

theorem execApproachStart (h : P s) : Ends P (execApproachStart l s) := k.perform (fun h => by
  split
  · exact k.approachStart h
  · exact h) h

/-! ### The clock, timers and housekeeping -/

theorem execPllLock {a} (h : P s) : Ends P (execPllLock a s) := k.perform (fun h => k.lockGood h) h
theorem execPllLockTimeout (h : P s) : Ends P (execPllLockTimeout s) := k.perform (fun h => k.lockBad h) h
theorem execAnchorEdge {a b c} (h : P s) : Ends P (execAnchorEdge a b c s) := k.perform (fun h => k.anchor h) h
theorem execSpreadPatternChange (h : P s) : Ends P (execSpreadPatternChange s) := k.perform (fun h => k.clk h) h
theorem execRefLoss (h : P s) : Ends P (execRefLoss s) := k.perform (fun h => k.refLoss h) h
theorem execHkConversionEnd {a b c} (h : P s) : Ends P (execHkConversionEnd a b c s) :=
  k.perform (fun h => k.convEnd h) h
theorem execHkSelfcheckEnd {a b c} (h : P s) : Ends P (execHkSelfcheckEnd a b c s) :=
  k.perform (fun h => k.selfCheck h) h
theorem execLfTick (h : P s) : Ends P (execLfTick s) := k.perform (fun h => k.lfStep h) h

theorem execHoldoverTrip {d} (h : P s) : Ends P (execHoldoverTrip d s) :=
  k.perform (fun h => keeps_ite (k.clockTrip h) h) h

theorem execHoldoverLineLimit (h : P s) : Ends P (execHoldoverLineLimit l s) :=
  k.perform (fun h => keeps_ite (k.lineLimit h) h) h

theorem execHoldoverSwitch (h : P s) : Ends P (execHoldoverSwitch s) :=
  k.perform (fun h => keeps_ite (k.holdSwitch h) h) h

theorem execHoldOverrun (h : P s) : Ends P (execHoldOverrun s) :=
  k.perform (fun h => keeps_ite (k.holdSwitch (k.holdOverrun h)) h) h

theorem execHkSelfcheckRetry {b} (h : P s) : Ends P (execHkSelfcheckRetry b s) :=
  k.perform (fun h => keeps_ite (k.startCheck h) h) h

theorem execTimerTick {n} (h : P s) : Ends P (execTimerTick n s) := k.perform (fun h => keeps_ite (k.updTimer h) h) h

theorem execIncMeasureEnd {n} (h : P s) : Ends P (execIncMeasureEnd n s) :=
  k.perform (fun h => keeps_ite (k.incMeasured h) h) h

theorem execLfTimeout (h : P s) : Ends P (execLfTimeout s) := k.perform (fun h => keeps_ite h (k.lfFails h)) h

theorem execLightBusCheck {b} (h : P s) : Ends P (execLightBusCheck b s) :=
  k.perform (fun h => keeps_ite (k.portFault h) (keeps_ite (k.pwr h) h)) h

/-! ### Runs -/

theorem execLineStart {a} (h : P s) : Ends P (execLineStart l a s) := k.perform (fun h => k.lineStart h) h

theorem setAbort {b} (h : P s) : P (s.setAbort l b) := by
  cases l
  · exact k.alike h rfl rfl
  · exact k.alike h rfl rfl

theorem execScanReqPin {n a b} (h : P s) : Ends P (execScanReqPin l n a b s) := k.perform (fun h =>
  keeps_ite h (keeps_ite (k.request (k.setAbort h)) (keeps_ite (k.power (k.setAbort h)) (k.setAbort h)))) h

theorem execAbortPin {p} (h : P s) : Ends P (execAbortPin p s) :=
  k.perform (fun h => keeps_ite h (keeps_ite (k.abort (k.setAbort h)) (k.setAbort h))) h

theorem execCaptureDecision (h : P s) : Ends P (execCaptureDecision l s) :=
  k.perform (fun h => keeps_ite h (k.captureDecision h)) h

theorem execRunEndIdleEntry {e} (h : P s) : Ends P (execRunEndIdleEntry e s) := k.perform (fun h =>
  have hend := keeps_ite (k.runEnd h) (keeps_ite (k.haltSettle (k.resetEnd h)) h)
  keeps_ite h (keeps_ite (k.noteC1 hend) hend)) h

/-! ### Light -/

theorem execLightCommitSend {a} (h : P s) : Ends P (execLightCommitSend a s) := k.perform (fun h => k.sendCommit h) h
theorem execLightRebroadcast {a} (h : P s) : Ends P (execLightRebroadcast a s) :=
  k.perform (fun h => k.rebroadcast h) h

theorem execLightCommitPoint {p} (h : P s) : Ends P (execLightCommitPoint p s) := k.perform (fun {z} h => by
  have hpoint := k.commitPoint (p := p) h
  split
  · rename_i s1 c heq
    have h1 : P s1 := by rw [heq] at hpoint; exact hpoint
    exact keeps_ite (foldl_keeps (fun h => k.beginSettle h) _ h1) h1
  · rename_i s1 heq
    rw [heq] at hpoint
    exact hpoint) h

theorem execLightStatusReply {a body crc} (h : P s) : Ends P (execLightStatusReply a body crc s) :=
  k.perform (fun h =>
  keeps_ite h (keeps_ite (k.discardReply h) (keeps_ite (k.missHead h) (k.headTemp (k.judgeReply (k.modLightHead h)))))) h

theorem execLightIdentReply {a front payload crc} (h : P s) : Ends P (execLightIdentReply a front payload crc s) :=
  k.perform (fun h => keeps_ite h (keeps_ite (k.discardReply h) (keeps_ite (k.missHead h)
    (keeps_ite (k.modLightHead h) (k.identFails h))))) h

theorem execLightReplyMissed {a} (h : P s) : Ends P (execLightReplyMissed a s) :=
  k.perform (fun h => keeps_ite (k.missHead h) h) h

theorem execLightPoll {a} (h : P s) : Ends P (execLightPoll a s) := k.perform (fun h => keeps_ite (k.busSend h) h) h

theorem execHeadSilentTimeout {a} (h : P s) : Ends P (execHeadSilentTimeout a s) :=
  k.perform (fun h => keeps_ite (k.emberEnd (k.record h)) h) h

/-! ### Till and link -/

theorem execTillLineDrainStart {a} (h : P s) : Ends P (execTillLineDrainStart l a s) :=
  k.perform (fun h => k.drainStart h) h
theorem execTillBurstFetch {a b c} (h : P s) : Ends P (execTillBurstFetch l a b c s) :=
  k.perform (fun h => k.burstFetch h) h
theorem execTillTailTimeout {a} (h : P s) : Ends P (execTillTailTimeout l a s) := k.perform (fun h => k.tailFetch h) h
theorem execLinkDetectPoll {a b c} (h : P s) : Ends P (execLinkDetectPoll l a b c s) :=
  k.perform (fun h => k.detectPoll h) h
theorem execOrderedSetReceived {a} (h : P s) : Ends P (execOrderedSetReceived l a s) :=
  k.perform (fun h => k.orderedSet h) h
theorem execLinkTrainingTimeout (h : P s) : Ends P (execLinkTrainingTimeout l s) :=
  k.perform (fun h => k.trainTimeout h) h
theorem execLinkRetryTimer (h : P s) : Ends P (execLinkRetryTimer l s) := k.perform (fun h => k.retryTimer h) h
theorem execCredit {a b} (h : P s) : Ends P (execCredit l a b s) := k.perform (fun h => k.takeCredit h) h
theorem execMagazineStatus {a} (h : P s) : Ends P (execMagazineStatus l a s) := k.perform (fun h => k.magStatus h) h
theorem execKSyncLoss {a} (h : P s) : Ends P (execKSyncLoss l a s) := k.perform (fun h => k.kGroups h) h
theorem execReturnFrameDiscarded (h : P s) : Ends P (execReturnFrameDiscarded l s) :=
  k.perform (fun h => k.frameDiscarded h) h
theorem execDataFrameSend (h : P s) : Ends P (execDataFrameSend l s) := k.perform (fun h => k.sendData h) h
theorem execScanEnd (h : P s) : Ends P (execScanEnd l s) := k.perform (fun h => k.scanEnd h) h

theorem execTillEndDrainLimit (h : P s) : Ends P (execTillEndDrainLimit l s) :=
  k.perform (fun h => keeps_ite h (k.endDrainLimit h)) h

theorem execTillPtrMismatch {a b} (h : P s) : Ends P (execTillPtrMismatch l a b s) :=
  k.perform (fun h => keeps_ite h (keeps_ite (k.lrun h) (k.ptrMismatch h))) h

theorem execResyncTimeout (h : P s) : Ends P (execResyncTimeout l s) :=
  k.perform (fun h => keeps_ite h (k.resyncLimit h)) h
theorem execCreditTimeout (h : P s) : Ends P (execCreditTimeout l s) :=
  k.perform (fun h => keeps_ite h (k.linkLost h)) h
theorem execStatusTimeout (h : P s) : Ends P (execStatusTimeout l s) :=
  k.perform (fun h => keeps_ite h (k.linkLost h)) h
theorem execLinkAbort (h : P s) : Ends P (execLinkAbort l s) := k.perform (fun h => keeps_ite (k.linkAborts h) h) h

theorem execEngineStatusHeartbeat (h : P s) : Ends P (execEngineStatusHeartbeat l s) :=
  k.perform (fun h => keeps_ite (k.pump (k.sendStatus h)) h) h

/-! ### Mains and ports -/

theorem execMainsPeriodEnd {a} (h : P s) : Ends P (execMainsPeriodEnd a s) := k.perform (fun h => k.mainsPeriod h) h
theorem execOutputFoldbackTimeout {a} (h : P s) : Ends P (execOutputFoldbackTimeout a s) :=
  k.perform (fun h => k.foldback h) h
theorem execBusLow (h : P s) : Ends P (execBusLow s) := k.perform (fun h => k.busFell h) h
theorem execPortFaultDetected {a} (h : P s) : Ends P (execPortFaultDetected a s) :=
  k.perform (fun h => k.portFault h) h
theorem execIdentReadDone {a b} (h : P s) : Ends P (execIdentReadDone l a b s) := k.perform (fun h => k.identRead h) h

/-! ### Every command -/

theorem exec (c : Instr) (h : P s) : Ends P (exec c s) := by
  cases c with
  | mgtRead | mgtWrite | memDataAccess =>
    simp only [Machine.exec]
    exact k.mgtFrame h
  | mgtFrameAbort =>
    simp only [Machine.exec]
    exact k.mgtCut h
  | clearOnRead | hkResultRead | flogSelectedRead | flogAck | sysPowerSleep | sysPowerOff | sysPowerEreset
  | sysPowerLreset | sysModeService | sysHaltReq | haltRelease | headReqGo | headReqAbort | clkCtrlCommit
  | pixCalcmdGo | tallyDestructiveGo | tallyPreservingGo | tillCtrlFlush | linkCtrlRetrain | axisMoveGo | axisMoveStop
  | luxMctrlGo | luxMctrlRearm | tmrCmpWrite | tmrCtrlLoad | tmrCtrlEn | tmrGstartGo =>
    simp only [Machine.exec]
    exact k.mgtRequest h
  | mainsApplied => exact k.execMainsApplied h
  | bringupStepComplete => exact k.execBringupStepComplete h
  | xtalFail => exact k.execXtalFail h
  | resetNFall => exact k.execResetNFall h
  | resetNConfirm => exact k.execResetNConfirm h
  | resetNRelease => exact k.execResetNRelease h
  | wakeEdge => exact k.execWakeEdge h
  | offReqEdge => exact k.execOffReqEdge h
  | sleepReqEdge => exact k.execSleepReqEdge h
  | sleepEntryStepDone => exact k.execSleepEntryStepDone h
  | wakeSequenceStepDone => exact k.execWakeSequenceStepDone h
  | wakeReady => exact k.execWakeReady h
  | powerDownPhaseEnd => exact k.execPowerDownPhaseEnd h
  | engineReset => exact k.execEngineReset h
  | laneResetStepDone => exact k.execLaneResetStepDone h
  | seqWatchdog => exact k.execSeqWatchdog h
  | mainsReturn => exact k.execMainsReturn h
  | uncontrolledSupplyLoss => exact k.execUncontrolledSupplyLoss h
  | pfw => exact k.execPfw h
  | pfwStageDeadline => exact k.execPfwStageDeadline h
  | scanReqPin => exact k.execScanReqPin h
  | abortPin => exact k.execAbortPin h
  | lineStart => exact k.execLineStart h
  | captureDecision => exact k.execCaptureDecision h
  | runEndIdleEntry => exact k.execRunEndIdleEntry h
  | pllLock => exact k.execPllLock h
  | pllLockTimeout => exact k.execPllLockTimeout h
  | anchorEdge => exact k.execAnchorEdge h
  | spreadPatternChange => exact k.execSpreadPatternChange h
  | holdoverTrip => exact k.execHoldoverTrip h
  | holdoverLineLimit => exact k.execHoldoverLineLimit h
  | holdoverSwitch => exact k.execHoldoverSwitch h
  | holdOverrun => exact k.execHoldOverrun h
  | refLoss => exact k.execRefLoss h
  | mainsPeriodEnd => exact k.execMainsPeriodEnd h
  | outputFoldbackTimeout => exact k.execOutputFoldbackTimeout h
  | busLow => exact k.execBusLow h
  | portFaultDetected => exact k.execPortFaultDetected h
  | lightBusCheck => exact k.execLightBusCheck h
  | identReadDone => exact k.execIdentReadDone h
  | flashOpDone => exact k.execFlashOpDone h
  | flashOpTimeout => exact k.execFlashOpTimeout h
  | calCommitStepDone => exact k.execCalCommitStepDone h
  | tallyRowDone => exact k.execTallyRowDone h
  | tallyRetentionPauseEnd => exact k.execTallyRetentionPauseEnd h
  | tallyRunEnd => exact k.execTallyRunEnd h
  | tillLineDrainStart => exact k.execTillLineDrainStart h
  | tillBurstFetch => exact k.execTillBurstFetch h
  | tillTailTimeout => exact k.execTillTailTimeout h
  | tillEndDrainLimit => exact k.execTillEndDrainLimit h
  | tillPtrMismatch => exact k.execTillPtrMismatch h
  | linkDetectPoll => exact k.execLinkDetectPoll h
  | orderedSetReceived => exact k.execOrderedSetReceived h
  | linkTrainingTimeout => exact k.execLinkTrainingTimeout h
  | linkRetryTimer => exact k.execLinkRetryTimer h
  | credit _ _ n => exact k.execCredit (b := n) h
  | magazineStatus => exact k.execMagazineStatus h
  | resyncTimeout => exact k.execResyncTimeout h
  | kSyncLoss => exact k.execKSyncLoss h
  | creditTimeout => exact k.execCreditTimeout h
  | statusTimeout => exact k.execStatusTimeout h
  | returnFrameDiscarded => exact k.execReturnFrameDiscarded h
  | linkAbort => exact k.execLinkAbort h
  | engineStatusHeartbeat => exact k.execEngineStatusHeartbeat h
  | dataFrameSend => exact k.execDataFrameSend h
  | scanEnd => exact k.execScanEnd h
  | stepIssue => exact k.execStepIssue h
  | runCurrentTimeout => exact k.execRunCurrentTimeout h
  | encoderIndex => exact k.execEncoderIndex h
  | seamBackoffStart => exact k.execSeamBackoffStart h
  | seamDwellEnd => exact k.execSeamDwellEnd h
  | approachStart => exact k.execApproachStart h
  | lightCommitSend => exact k.execLightCommitSend h
  | lightCommitPoint => exact k.execLightCommitPoint h
  | lightStatusReply => exact k.execLightStatusReply h
  | lightIdentReply => exact k.execLightIdentReply h
  | lightReplyMissed => exact k.execLightReplyMissed h
  | lightPoll => exact k.execLightPoll h
  | lightRebroadcast => exact k.execLightRebroadcast h
  | headSilentTimeout => exact k.execHeadSilentTimeout h
  | hkConversionEnd => exact k.execHkConversionEnd h
  | hkSelfcheckEnd => exact k.execHkSelfcheckEnd h
  | hkSelfcheckRetry => exact k.execHkSelfcheckRetry h
  | timerTick => exact k.execTimerTick h
  | lfTick => exact k.execLfTick h
  | incMeasureEnd => exact k.execIncMeasureEnd h
  | lfTimeout => exact k.execLfTimeout h
  | ringProgramStart => exact k.execRingProgramStart h
  | logDropped => exact k.execLogDropped h

theorem idle (h : P s) : Ends P (idle s) := by
  unfold Machine.idle
  split
  · exact k.perform (fun h => k.lagStart (k.refTick h)) h
  · exact ⟨_, rfl, k.refTick h⟩

theorem step (h : P s) : Ends P (step s) := by
  unfold Machine.step
  split
  · exact k.idle h
  · exact k.exec _ (k.alike h rfl rfl)

end Lasting

/-- Settles O5: the writes into each memory keep its canonical form, and every command is made of them and of updates
elsewhere. -/
theorem stepKeepsMemoriesCanonical : Obligations.StepKeepsMemoriesCanonical := by
  unfold Obligations.StepKeepsMemoriesCanonical
  intro s t hs hstep
  obtain ⟨t', hend, hok⟩ := memOk_lasting.step hs
  cases hend.symm.trans hstep
  exact hok

end Sys2Proof.Machine
end
